-- ==== Sys2Proof/Word.lean ====
section
/-!
DEFINITION. The words of the WDX-6400: bytes, 32-bit register words, and the plainest arithmetic over them.
Register contents are bit vectors; counts, sizes and indexes are natural numbers; exact arithmetic before rounding is in Int (R7, R8).
-/
namespace Sys2Proof

/-- A byte. -/
abbrev Byte := BitVec 8

/-- A 32-bit register word. -/
abbrev Word := BitVec 32

/-- The signed value of a w-bit two's complement pattern (R7, R8). -/
def toSigned (w n : Nat) : Int :=
  if 2 * (n % 2 ^ w) < 2 ^ w then (n % 2 ^ w : Nat) else (n % 2 ^ w : Nat) - (2 ^ w : Nat)

/-- The w-bit two's complement pattern of an integer. -/
def ofSigned (w : Nat) (i : Int) : Nat := (i % (2 ^ w : Nat)).toNat

/-- Saturation of an integer to w-bit two's complement. -/
def satSigned (w : Nat) (i : Int) : Int :=
  if i > (2 ^ (w - 1) : Nat) - 1 then (2 ^ (w - 1) : Nat) - 1
  else if i < -(2 ^ (w - 1) : Nat) then -(2 ^ (w - 1) : Nat) else i

/-- Division rounded to the nearest integer, halves away from zero. -/
def divRoundAway (a : Int) (b : Nat) : Int :=
  if b = 0 then 0
  else if a ≥ 0 then (2 * a + b) / (2 * b) else -((2 * (-a) + b) / (2 * b))

/-- Ceiling division of natural numbers. -/
def ceilDiv (a b : Nat) : Nat := if b = 0 then 0 else (a + b - 1) / b

/-- Integer square root by bitwise search: the greatest r with r * r ≤ n, r below 2^k. -/
def isqrtBits (n : Nat) : Nat → Nat → Nat
  | 0, r => r
  | k + 1, r => if (r + 2 ^ k) * (r + 2 ^ k) ≤ n then isqrtBits n k (r + 2 ^ k) else isqrtBits n k r

/-- Floor of the square root of n < 2^128. -/
def isqrt (n : Nat) : Nat := isqrtBits n 64 0

/-- Bit i of a number. -/
def bitOf (n i : Nat) : Bool := n / 2 ^ i % 2 = 1

/-- Bits [lsb + wid - 1 : lsb] of a number. -/
def bitsOf (n lsb wid : Nat) : Nat := n / 2 ^ lsb % 2 ^ wid

/-- A number with bits [lsb + wid - 1 : lsb] replaced by v. -/
def setBits (n lsb wid v : Nat) : Nat :=
  n / 2 ^ (lsb + wid) * 2 ^ (lsb + wid) + v % 2 ^ wid * 2 ^ lsb + n % 2 ^ lsb

/-- The little-endian bytes of a number. -/
def leBytes : Nat → Nat → List Byte
  | 0, _ => []
  | k + 1, n => BitVec.ofNat 8 n :: leBytes k (n / 256)

/-- The big-endian bytes of a number. -/
def beBytes (k n : Nat) : List Byte := (leBytes k n).reverse

/-- The number a little-endian byte list stands for. -/
def leNat : List Byte → Nat
  | [] => 0
  | b :: bs => b.toNat + 256 * leNat bs

/-- The number a big-endian byte list stands for. -/
def beNat (bs : List Byte) : Nat := leNat bs.reverse

/-- Count bytes of a list from an offset; missing bytes read 0. -/
def sliceB (bs : List Byte) (off n : Nat) : List Byte := ((bs.drop off).take n) ++ List.replicate (n - ((bs.drop off).take n).length) 0#8

/-- A list with element i replaced. -/
def setAt {α : Type} : List α → Nat → α → List α
  | [], _, _ => []
  | _ :: xs, 0, v => v :: xs
  | x :: xs, i + 1, v => x :: setAt xs i v

end Sys2Proof
end

