-- ==== Sys2Proof/Syntax.lean ====
section
/-!
DEFINITION. The commands of the block: one constructor of `Instr` per row of spec/opcode_table.json, in the table's order.
The operands of a command are what arrives from outside with it: the value written, the instance, a frame's bytes, what a
sensor or a phase detector measured. What the device decides from them is the meaning's (Machine/Dispatch.lean).
-/
namespace Sys2Proof

/-- What Reed's monitors measured of one reference over its gate (R52). Frequencies are in 0.001 ppb. -/
structure RefSample where
  /-- Pin references: an edge of the configured polarity arrived within four nominal periods. -/
  edge   : Bool
  /-- Mean fractional frequency offset against the DPLL output. -/
  vsDpll : Int
  /-- Mean fractional frequency offset against XREF. -/
  vsXref : Int
  /-- Peak-to-peak phase in ns. -/
  php    : Nat
  /-- The input rate in mHz (word clock and frame pulse). -/
  rate   : Nat
deriving DecidableEq, Repr

/-- A PTP message as the protocol engine takes it from a port (R33, R34, R51). `best`: it comes from the master that the best
master clock algorithm places first on the port. `offset`: reference time minus timekeeper that the engine works out from
the event timestamps and the delay mechanism, in 2^-16 ns; a one-step Sync gives it itself, a two-step Sync in its follow-up. `ago`: time
since the timestamp point of a request passed, in 2^-16 ns (R106). -/
inductive PtpMsg where
  | announce (best timescale : Bool) (utcOffset : Int) (grandmaster : Nat)
  | sync (best oneStep : Bool) (offset : Int)
  | followUp (best : Bool) (offset : Int)
  | delayReq (id ago : Nat)
  | pdelayReq (id ago : Nat)
  | other
deriving DecidableEq, Repr

/-- A frame as it comes to a port's receive MAC (R95, R96, R107). With `more` it has not ended: `bytes` are those that have come so far, and
the fields of its end mean nothing yet. `cclk`: CCLK from the latest strobe to the FCS result. `ago`: time since its timestamp point passed,
in 2^-16 ns. `idle`: bit m, the transmitter of port m is idle at the cut-through decision (R111). `dry`: bit m, port m, which follows it in a
transit queue, has needed a word that had not come (R178). `cut`: it ended early because the link was lost (R113). `full`: the queue of
Spindle it goes to is at quota (R98). `blocks`, `fixed`, `unfixed`, `prbs`: errored blocks, RS-FEC codewords corrected and not, and PRBS bit
errors since the frame before (R94, R114). -/
structure RxFrame where
  /-- Destination address to the last byte before the FCS. -/
  bytes   : List (BitVec 8)
  fcsOk   : Bool := true
  codeErr : Bool := false
  cut     : Bool := false
  cclk    : Nat := 0
  ago     : Nat := 0
  idle    : Nat := 0
  more    : Bool := false
  dry     : Nat := 0
  full    : Bool := false
  blocks  : Nat := 0
  fixed   : Nat := 0
  unfixed : Nat := 0
  prbs    : Nat := 0
deriving DecidableEq, Repr

/-- What the check code of a word read says (R188): clean, corrected, uncorrectable, or that the link word of its cell is uncorrectable. -/
inductive Ecc where
  | clean
  | corrected
  | bad
  | link
deriving DecidableEq, Repr

/-- A word of an item that reads with an error (R188): counted from the item's length slot, or with `link` the link word of the cell that
holds that word; corrected, or with `bad` uncorrectable. -/
structure WordErr where
  word : Nat
  link : Bool
  bad  : Bool
deriving DecidableEq, Repr

/-- A moment at which a port's transmitter is free (R154). `cclk`: CCLK since the latest strobe. `lead`: time until the frame's timestamp
point leaves, in 2^-16 ns. `queues`: the Spindle and host queues whose frames go to the port. `part`: none where the frame ends before the
next command, else how many of its bytes have left when that comes. `errs`: words of its item that read with an error. -/
structure TxSlot where
  cclk   : Nat
  lead   : Nat
  queues : List Nat
  part   : Option Nat := none
  errs   : List WordErr := []
deriving DecidableEq, Repr

/-- A transaction of a bus master (R375 to R380): master ID, transaction ID, internal address, width of a beat in bytes, beats,
and the data of a write, the beat at the lowest address in the lowest bits. -/
structure BusAcc where
  master : Nat
  id     : Nat
  write  : Bool
  addr   : Nat
  width  : Nat
  beats  : Nat
  data   : Nat
deriving DecidableEq, Repr


/-- What the filter engine meets in its memories when it runs a chain (R245): no uncorrectable word, one in a coefficient word, or
one in the chain's state. -/
inductive ChainEcc where
  | clean
  | coef (word : Nat)
  | chainState
deriving DecidableEq, Repr


/-- A frame on a TDM port (R266, R267), from one active FS edge to the next: the times of its rising and its falling FS edge in 2^-16 ns of TAI,
its length in BCLK periods, and the level of DIN at the rising and at the falling BCLK edge of each period. -/
structure TdmFrame where
  rise : Nat
  fall : Nat
  bits : Nat
  din  : List (Bool × Bool)
deriving DecidableEq, Repr

/-- A frame on a local link after its Mark (R273, R274): each block's control-header bit (none for a header that is neither) and
its payload bytes as on the line, and the time of its last bit in 2^-16 ns of TAI. -/
structure LlFrame where
  blocks : List (Option Bool × List (BitVec 8))
  time   : Nat
deriving DecidableEq, Repr


/-- A lease message (R292). -/
structure LeaseMsg where
  kind    : Nat
  unit    : Nat
  partner : Nat
  seq     : Nat
  grantMs : Nat
  flags   : Nat
deriving DecidableEq, Repr

/-- The content of a Ctrl frame (R300): digest-history requests and answers, with (stream, digest) pairs (R160); epoch
acknowledgements and requests (R306, R308); arbitration (R309, R310); a cue for the partner, in the 32-byte form of R41. -/
inductive SvCtrl where
  | digestAsk (pick : Nat)
  | digestAnswer (pick : Nat) (digests : Option (List (Nat × Nat)))
  | epochAck (epoch : Nat)
  | epochRequest
  | lease (m : LeaseMsg)
  | cue (bytes : List (BitVec 8))
  /-- Required presentation offsets, by stream (R339). -/
  | plan (required : List (Nat × Nat))
deriving DecidableEq, Repr

/-- A Beacon (R316), with the DeviceId of the manager that sent it, and whether the roster behind it holds this unit Present. -/
structure Beacon where
  domain  : Nat
  unit    : Nat
  partner : Nat
  term    : Nat
  seq     : Nat
  version : Nat
  pick    : Nat
  rate    : Nat
  device  : Nat
  holdsMe : Bool
deriving DecidableEq, Repr

/-- A JoinRequest (R316), with what the manager knows of the unit for R318: the rate code it runs at while its Run is 1, and whether
its role lock forbids the role. -/
structure JoinReq where
  device    : Nat
  nonce     : List (BitVec 8)
  requested : Nat
  role      : Nat
  pair      : Nat
  partner   : Nat
  running   : Option Nat
  locked    : Bool
deriving DecidableEq, Repr

/-- A roster record (R331): state 1 Present, 2 Absent, 3 Left; `flags` PairId, Paired, Holding, Fault. -/
structure RosterRec where
  unit    : Nat
  state   : Nat
  role    : Nat
  device  : Nat
  partner : Nat
  flags   : Nat
deriving DecidableEq, Repr

/-- A domain message (R316); `deltaAsk` is the request of R319 for the deltas after a version. -/
inductive DomMsg where
  | beacon (b : Beacon)
  | joinRequest (r : JoinReq)
  | joinChallenge (nonceM nonceW proof : List (BitVec 8))
  | joinResponse (nonceM proof : List (BitVec 8))
  | joinAccept (unit term version : Nat)
  | joinDeny (reason : Nat)
  | heartbeat (unit seq flags pick : Nat)
  | leave (unit : Nat)
  | rosterDelta (version : Nat) (recs : List RosterRec)
  | rosterSync (version : Nat) (recs : List RosterRec)
  | deltaAsk (unit version : Nat)
deriving DecidableEq, Repr

/-- Where a domain message goes (R316): DomainGroup, the unit named, the joining unit with a DeviceId, or the manager. -/
inductive DomTo where
  | group
  | unit (n : Nat)
  | device (id : Nat)
  | manager
deriving DecidableEq, Repr

/-- How a cue reaches Treadle (R41): a staging window, the Spindle firmware, or a WRITE_AT message from a port, address and UDP port. -/
inductive CuePath where
  | window (k : Nat)
  | firmware
  | writeAt (port ip udp : Nat)
deriving DecidableEq, Repr

/-- The strap balls at reset release (R410, R289): BOOT[1:0] and PAIR_ID. -/
structure Straps where
  boot : Nat
  pair : Nat
deriving DecidableEq, Repr

/-- Who sent a request of the control protocol, and where its reply and its NOTIFY go (R354, R364, R368): a port, address, UDP port and
sender number, or the mailbox of a host interface (0 PCIe, 1 SPI, 2 one that has been reset since the request). -/
inductive Requester where
  | net (port ip udp unit : Nat)
  | mbox (m : Nat)
deriving DecidableEq, Repr


/-- A reference whose gate time or wait-to-restore time has run, and its phase against the output, in 2^-16 ns. -/
structure RefPhase where
  k     : Nat
  phase : Int
deriving DecidableEq, Repr

/-- A lost link: whether its signal is still there, and whether a high bit-error rate lost it. -/
structure LinkLoss where
  signal : Bool
  hiBer  : Bool
deriving DecidableEq, Repr

/-- The end of a queue's owner scan: the link words that it read with an error, by cell, and whether each is uncorrectable. -/
structure ScanEnd where
  q    : Nat
  errs : List (Nat × Bool)
deriving DecidableEq, Repr

/-- The commands, one per row of the table. -/
inductive Instr where
  /-- PICK_STROBE (R15): A rollover of the media pick divider raises the pick strobe that begins a pick. -/
  | pickStrobe (bits : List (Nat × Nat)) (bad : List Nat) (host : List (Nat × Nat))
  /-- FILTER_CHAIN_START (R20): The filter engine runs a chain once all of its input destinations have been written. -/
  | filterChainStart (j : Nat) (ecc : ChainEcc)
  /-- FADE_END (R254): At the end of a bank fade the outgoing bank becomes free, a held Base applies and a pending swap may start. -/
  | fadeEnd (j : Nat)
  /-- REALIGN_PERIOD_END (R30): After RealignPicks picks the shadows replace their live instances. -/
  | realignPeriodEnd
  /-- CLOSING_CROSSFADE_END (R255): The closing cross-fades of a Realign period end and the shadows become the live instances. -/
  | closingCrossfadeEnd (j : Nat)
  /-- DELAY_FADE_END (R216): A delay fade ends and any held Delay change is applied. -/
  | delayFadeEnd (d : Nat)
  /-- CUE_ARMED (R44): A cue whose object writes are all staged becomes armed. -/
  | cueArmed (pick : Nat) (order : Nat)
  /-- CUE_PUSH (R453): A cue push from a staging window, WRITE_AT or firmware is checked and accepted or refused. -/
  | cuePush (path : CuePath) (words : List (BitVec 32))
  /-- CUE_CANCEL (R49): A cancel removes the pending cue with the given key. -/
  | cueCancel (path : CuePath) (pick : Nat) (order : Nat)
  /-- DONE_INFO_POP (R45): A read of DONE_INFO pops the oldest completion record. -/
  | doneInfoPop
  /-- TIME_CTRL_WRITE (R38): A write of TIME_CTRL starts or stops the pick counter or sets the rate. -/
  | timeCtrlWrite (v : Nat)
  /-- PICK_COUNTER_START (R38): The pick counter starts at the first boundary after Run and TodValid are both 1. -/
  | pickCounterStart
  /-- PICK_COUNTER_RESUME (R46): After a cross-family retune the pick counter resumes at the first whole second after lock. -/
  | pickCounterResume
  /-- TIME_SET (R35): TIME_SET_CMD.Set loads the set time into the timekeeper while TodValid is 0. -/
  | timeSet
  /-- TIME_CAPTURE (R50): TIME_CAPTURE copies time and pick count into the snapshot registers. -/
  | timeCapture
  /-- PICK_LO_READ (R9): A read of PICK_LO that includes byte 3 latches PICK_HI. -/
  | pickLoRead
  /-- PTP_MESSAGE_RX (R33): The PTP engine processes a received PTP message. -/
  | ptpMessageRx (port : Nat) (msg : PtpMsg)
  /-- PTP_MESSAGE_TX (R33): The PTP engine sends its periodic messages at the profile's intervals. -/
  | ptpMessageTx (port : Nat) (kind : Nat)
  /-- REED_TICK (R53): Every 10 ms Reed updates its monitors, advances reference states and runs selection. -/
  | reedTick (samples : List RefSample) (freq : Int) (phase : Int)
  /-- REF_GATE_EXPIRE (R54): A reference whose checks passed for the gate time becomes Qualified. -/
  | refGateExpire (e : RefPhase)
  /-- REF_WTR_EXPIRE (R54): A reference in WaitToRestore becomes Qualified when its wait-to-restore time ends. -/
  | refWtrExpire (e : RefPhase)
  /-- REF_EDGE_TIMEOUT (R51): A pin reference with no edge for four nominal periods becomes absent. -/
  | refEdgeTimeout (k : Nat)
  /-- PTP_ANNOUNCE_TIMEOUT (R51): A PTP reference becomes absent after announceReceiptTimeout or three Sync intervals. -/
  | ptpAnnounceTimeout (k : Nat)
  /-- REF_ENABLE_WRITE (R54): A write of REFk_CFG.Enable moves the reference to Off or Absent. -/
  | refEnableWrite (k : Nat) (v : Nat)
  /-- RD_CTRL_WRITE (R57): A write of RD_CTRL sets the DPLL mode, forced reference and options. -/
  | rdCtrlWrite (v : Nat)
  /-- DPLL_ACQUIRE_LOCK (R57): A phase error inside the lock window for two gate times moves Acquire to Locked. -/
  | dpllAcquireLock (err : Int)
  /-- DPLL_LOCK_LOSS (R57): A phase error above four lock windows for one gate time moves Locked to Acquire. -/
  | dpllLockLoss (err : Int)
  /-- SWITCH_COMMIT (R59): At the end of the measure time the build-out is loaded and the loop moves to the target. -/
  | switchCommit (phase : Int)
  /-- HOLD_HISTORY_SAMPLE (R64): Each second in Locked, Reed stores the output frequency and temperature in its history. -/
  | holdHistorySample (use : List Nat)
  /-- HOLDOVER_SECOND (R65): At the end of each second in Holdover the holdover-spec estimate is advanced. -/
  | holdoverSecond
  /-- PSTEP_GO (R63): PSTEP_CMD.Go submits the host phase step or slew. -/
  | pstepGo (v : Nat)
  /-- PHASE_STEP_APPLY (R63): A pending phase step or slew takes effect at its pick boundary. -/
  | phaseStepApply
  /-- FPO_INPUT_PULSE (R67): At each input pulse in Aligned mode Reed measures and corrects the FPO grid error. -/
  | fpoInputPulse (j : Nat) (err : Int)
  /-- FPO_STEP_APPLY (R67): A large FPO error is removed by a step at the next FPO pulse. -/
  | fpoStepApply (j : Nat)
  /-- SYNTH_UNLOCK (R74): A synthesizer whose phase error leaves its window becomes unlocked and relocks. -/
  | synthUnlock (m : Nat)
  /-- SYNTH_LOCKED (R74): A synthesizer within ±15 ps for 1,024 input cycles becomes Locked. -/
  | synthLocked (m : Nat)
  /-- SYNTH_OUTPUT_RESTART (R75): Held outputs restart at their start edge 64 input cycles after Locked. -/
  | synthOutputRestart (m : Nat)
  /-- SYNTH_STOPPED (R74): A synthesizer whose NCD edges stay absent for 1 ms becomes Stopped. -/
  | synthStopped (m : Nat)
  /-- SYNTH_NCD_RETURN (R75): NCD edges returning to a Stopped synthesizer start a relock. -/
  | synthNcdReturn (m : Nat)
  /-- SYN_CTRL_WRITE (R75): A write of SYN_CTRL enables or disables a synthesizer. -/
  | synCtrlWrite (v : Nat)
  /-- RAMP_START (R78): RAMP_CTRL.Start checks and starts a ramp profile. -/
  | rampStart (m : Nat)
  /-- RAMP_ABORT (R78): RAMP_CTRL.Abort stops a running profile at its current offset. -/
  | rampAbort (m : Nat) (ms : Nat)
  /-- RAMP_ZERO (R78): RAMP_CTRL.Zero starts a profile back to offset 0. -/
  | rampZero (m : Nat)
  /-- RAMP_SEGMENT_END (R78): A ramp segment's duration runs out and the next segment or the end of the profile follows. -/
  | rampSegmentEnd (m : Nat)
  /-- GLIDE_END (R79): The retune glide reaches the ratio, the plan changes family and the offset returns to 0. -/
  | glideEnd
  /-- CKO_CFG_WRITE (R82): A write of CKOi_CFG requests an output enable or disable or changes its configuration. -/
  | ckoCfgWrite (i : Nat) (v : Nat)
  /-- CKO_ENABLE_APPLY (R82): An output enable or disable takes effect at the next pick boundary. -/
  | ckoEnableApply
  /-- CKO_PHASE_WRITE (R83): A write of CKOi_PHASE.Target sets the phase or starts a walk. -/
  | ckoPhaseWrite (i : Nat) (v : Nat)
  /-- CKO_WALK_STEP (R83): Every WalkDiv + 1 output cycles the phase moves one fine code towards Target. -/
  | ckoWalkStep (i : Nat)
  /-- CKO_SECOND_REALIGN (R82): An Align output started before Run is re-aligned at the first whole second. -/
  | ckoSecondRealign
  /-- PCS_CTRL_WRITE (R91): A write of PCS_CTRL enables a port or sets its line mode. -/
  | pcsCtrlWrite (n : Nat) (v : Nat)
  /-- PCS_RESTART (R93): PCS_CMD.Restart restarts negotiation and training. -/
  | pcsRestart (n : Nat)
  /-- PCS_ADAPT (R336): PCS_CMD.Adapt re-runs receive adaptation. -/
  | pcsAdapt (n : Nat)
  /-- MAC_CTRL_WRITE (R93): A write of MAC_CTRL requests a port state transition and sets receive options. -/
  | macCtrlWrite (n : Nat) (v : Nat)
  /-- PORT_SIGNAL_DETECT (R93): A signal detected on an enabled port moves it from Down to Training. -/
  | portSignalDetect (n : Nat)
  /-- PORT_LINK_UP (R93): LinkUp moves the port from Training to Startup. -/
  | portLinkUp (n : Nat)
  /-- PORT_LINK_LOSS (R93): Loss of LinkUp moves the port to Training or Down and counts LinkDown. -/
  | portLinkLoss (n : Nat) (loss : LinkLoss) (cut : Option RxFrame)
  /-- RX_FRAME (R98): A received frame is checked, filtered and classified by the MAC. -/
  | rxFrame (n : Nat) (rx : RxFrame)
  /-- CT_FRAME_START (R111): A waiting cut-through frame starts on its egress port. -/
  | ctFrameStart (n : Nat)
  /-- PAUSE_TIMER_EXPIRE (R103): A priority's pause timer runs out and its frames may start. -/
  | pauseTimerExpire (n : Nat) (p : Nat)
  /-- PAUSE_WATCHDOG (R104): A pause lasting WdLimit in Service ends and the priority is marked Spent. -/
  | pauseWatchdog (n : Nat) (p : Nat)
  /-- PAUSE_SPENT_TIMEOUT (R104): Spent clears when WdLimit passes with no pause request. -/
  | pauseSpentTimeout (n : Nat) (p : Nat)
  /-- PFC_REFRESH (R101): A PFC frame is repeated every RefreshQuanta while the queue stays above LowCells. -/
  | pfcRefresh (n : Nat)
  /-- TX_FRAME_START (R154): A free transmitter starts the next frame in priority order. -/
  | txFrameStart (n : Nat) (tx : TxSlot)
  /-- TS_POP_TAG (R108): A read of TS_POP_TAG pops the oldest transmit timestamp. -/
  | tsPopTag (n : Nat)
  /-- LOST_TAG_POP (R108): A read of LOST_TAG pops the oldest lost tag. -/
  | lostTagPop (n : Nat)
  /-- COUNTER_HARVEST (R116): A HARVEST read returns a counter and subtracts 2^31 when bit 31 is set. -/
  | counterHarvest (n : Nat) (i : Nat)
  /-- WAKE_FRAME_MATCH (R118): In Doze a frame matching a magic packet or pattern requests wake. -/
  | wakeFrameMatch (frame : List (BitVec 8)) (good : Bool) (pin : Bool) (st : Straps)
  /-- STREAM_LOST (R136): LossPicks indices with no in-time sample move a stream to Lost. -/
  | streamLost (i : Nat)
  /-- PDV_WINDOW_END (R138): At the end of each PdvWindow Warp copies its measurements to the status registers. -/
  | pdvWindowEnd
  /-- SE_READ (R139): SE_CMD.Read loads the windows of the selected stream entry. -/
  | seRead
  /-- SE_WRITE (R139): SE_CMD.Write checks and stores the configuration window into the entry. -/
  | seWrite
  /-- SE_CLEAR_CNT (R143): SE_CMD.ClearCnt zeroes the entry's counters. -/
  | seClearCnt
  /-- MM_INFO_POP (R133): A read of MM_INFO pops the oldest mismatch record. -/
  | mmInfoPop
  /-- DIGEST_MISSING (R160): A partner digest absent after 64 picks counts DigestMissing. -/
  | digestMissing (pick : Nat)
  /-- ST_READ (R156): ST_CMD.Read loads the windows of the selected transmit entry. -/
  | stRead
  /-- ST_WRITE (R156): ST_CMD.Write checks and stores the configuration window into the entry. -/
  | stWrite
  /-- ST_CLEAR_CNT (R165): ST_CMD.ClearCnt zeroes the entry's counters. -/
  | stClearCnt
  /-- PM_INFO_POP (R161): A read of PM_INFO pops the oldest pair mismatch record. -/
  | pmInfoPop
  /-- SAP_ANNOUNCE (R163): Every SapInterval the firmware sends a SAP message for each announced stream. -/
  | sapAnnounce (i : Nat)
  /-- POOL_INIT_DONE (R170): Pool initialisation completes and InitDone becomes 1. -/
  | poolInitDone
  /-- Q_READ (R174): Q_CMD.Read loads the windows of the selected queue. -/
  | qRead
  /-- Q_WRITE (R185): Q_CMD.Write checks and stores the queue descriptor. -/
  | qWrite
  /-- Q_FLUSH (R187): Q_CMD.Flush empties a queue and starts its reclaim. -/
  | qFlush
  /-- Q_CLEAR_CNT (R195): Q_CMD.ClearCnt zeroes the queue's counters. -/
  | qClearCnt
  /-- RECLAIM_DONE (R174): All flushed cells are returned and the queue leaves Reclaim. -/
  | reclaimDone (e : ScanEnd)
  /-- QP_SEL_WRITE (R456): A write of QPk_SEL binds the queue port, or is ignored while an item is open. -/
  | qpSelWrite (k : Nat) (v : Nat)
  /-- QP_PUSH_START (R190): Op Start reserves an item's length slot. -/
  | qpPushStart (k : Nat)
  /-- QP_PUSH_DATA (R190): A write of QPk_PUSH appends one data word to the open item. -/
  | qpPushData (k : Nat) (v : Nat)
  /-- QP_PUSH_END (R190): Op End commits the open item. -/
  | qpPushEnd (k : Nat) (last : Nat)
  /-- QP_PUSH_ABORT (R190): Op Abort aborts the open item. -/
  | qpPushAbort (k : Nat)
  /-- QP_POP (R191): A read of QPk_POP_LO pops one word and latches its tag. -/
  | qpPop (k : Nat) (ecc : Ecc)
  /-- POOL_TARGET_ACCESS (R192): A bus access to the POOL target is checked and performed. -/
  | poolTargetAccess (a : BusAcc) (ecc : Ecc)
  /-- XT_OPEN (R210): XT_CMD.Open opens a crosspoint transaction. -/
  | xtOpen (id : Nat)
  /-- XE_PUSH (R210): A write of XE_PUSH appends the edit record to an open transaction. -/
  | xePush (id : Nat)
  /-- XT_SEAL (R211): XT_CMD.Seal checks a transaction whole and seals it. -/
  | xtSeal (id : Nat)
  /-- XT_ABANDON (R210): XT_CMD.Abandon frees a transaction. -/
  | xtAbandon (id : Nat)
  /-- XT_COMMIT_NOW (R210): XT_CMD.CommitNow cues a sealed transaction for the first strobe. -/
  | xtCommitNow (id : Nat)
  /-- XP_EDITS_APPLIED (R212): Heddle finishes applying a transaction's edits to its working copy and the XpCommit cue is armed. -/
  | xpEditsApplied (id : Nat)
  /-- XP_TRANSACTION_WRITE (R210): A write of XpTransaction opens, fills and seals a transaction in one step. -/
  | xpTransactionWrite (data : List (BitVec 8))
  /-- XP_TABLE_WRITE (R213): A write of XpTable replaces the whole table and every patch at the next strobe. -/
  | xpTableWrite (data : List (BitVec 8))
  /-- DS_READ (R214): DS_CMD.Read loads the windows of the selected destination. -/
  | dsRead
  /-- DS_WRITE (R217): DS_CMD.Write checks and stores the destination configuration. -/
  | dsWrite
  /-- HD_REPACK (R217): HD_CMD.Repack moves every delay ring to be contiguous. -/
  | hdRepack
  /-- GRP_GO (R208): GRP_CMD.Go starts a group gain ramp. -/
  | grpGo
  /-- XQ_LOOKUP (R205): XQ_CMD.Lookup latches the gain and state of a crosspoint key. -/
  | xqLookup
  /-- DEC_SYNC_NOW (R235): DEC_CMD.SyncNow requests a sync at the next strobe. -/
  | decSyncNow
  /-- DSM_SYNC_EDGE (R235): An edge on DSM_SYNC requests a sync for the next pick. -/
  | dsmSyncEdge (falling : Bool)
  /-- DEC_CLEAR_POINT (R234): At boundary B(s + 2) the decimator chains start from cleared state. -/
  | decClearPoint
  /-- DEC_SETTLED (R234): After SettleLen plus IntDelay picks an input becomes Settled. -/
  | decSettled (k : Nat)
  /-- DEC_CLOCK_FAULT (R224): A group's modulator clock ceasing to be valid moves it to ClockFault. -/
  | decClockFault (k : Nat)
  /-- DEC_CLOCK_VALID (R224): A group's clock becoming valid moves it to WaitSync. -/
  | decClockValid (k : Nat)
  /-- DEC_GRP_WRITE (R224): A write of DEC_GRPk enables or disables a decimator group. -/
  | decGrpWrite (k : Nat) (v : Nat)
  /-- FC_READ (R250): FC_CMD.Read loads the windows of the selected chain. -/
  | fcRead
  /-- FC_WRITE (R250): FC_CMD.Write checks and stores the chain configuration. -/
  | fcWrite
  /-- FC_SWAP (R252): FC_CMD.Swap requests a bank swap of the selected chain. -/
  | fcSwap (fade : Nat)
  /-- FADE_CFG_WRITE (R250): A write of FADE_CFG.MaxFades is checked against the budget. -/
  | fadeCfgWrite (v : Nat)
  /-- FILT_CTRL_WRITE (R457): A write of FILT_CTRL.Enable starts or stops the filter engine. -/
  | filtCtrlWrite (v : Nat)
  /-- COEF_WRITE (R244): A bus write to the coefficient memory is performed or refused if locked. -/
  | coefWrite (a : BusAcc)
  /-- COEF_IMAGE_WRITE (R244): A CoefImage object write writes free words and refuses changed locked words. -/
  | coefImageWrite (data : List (BitVec 8))
  /-- DT_READ (R256): DT_CMD.Read latches the selected detector's status window. -/
  | dtRead
  /-- DT_WRITE (R256): DT_CMD.Write checks and stores the detector configuration. -/
  | dtWrite
  /-- DT_CLEAR_MAX (R257): DT_CMD.ClearMax sets PeakMax to the current peak. -/
  | dtClearMax
  /-- OV_INFO_POP (R260): A read of OV_INFO pops the oldest over record. -/
  | ovInfoPop
  /-- TDM_ENABLE (R268): Writing a TDM port's Enable checks its configuration and starts it. -/
  | tdmEnable (k : Nat) (v : Nat)
  /-- TDM_FMT_WRITE (R268): A write of TDM_FMT is taken only while the port is disabled. -/
  | tdmFmtWrite (k : Nat) (v : Nat)
  /-- TDM_FRAME_RX (R270): A TDM frame is taken and its slots written, advancing the port state. -/
  | tdmFrameRx (k : Nat) (f : TdmFrame)
  /-- TDM_CLOCK_LOSS (R270): No BCLK edge for 1 µs returns a slave port to Waiting. -/
  | tdmClockLoss (k : Nat)
  /-- TDM_DRIVE_ON (R271): Lease permission turns the TDM drivers on at the next frame start. -/
  | tdmDriveOn (k : Nat)
  /-- LL_FRAME_TX (R277): A local link sends its frame 608 CCLK after each strobe. -/
  | llFrameTx (k : Nat)
  /-- LL_FRAME_RX (R278): A received link frame is checked, placed by its index and its control cell taken. -/
  | llFrameRx (k : Nat) (f : LlFrame)
  /-- LL_LINK_DOWN (R279): Sixteen picks without a good frame move the link to Hunt. -/
  | llLinkDown (k : Nat)
  /-- LL_PARTNER_SEEN_TIMEOUT (R281): No Hello for 256 picks clears PartnerSeen. -/
  | llPartnerSeenTimeout (k : Nat)
  /-- CC_TX_SEND (R280): CC_TX_CMD.Send queues the mailbox cell for the next frame. -/
  | ccTxSend (k : Nat)
  /-- CC_RX_POP (R280): A read of CC_RX_INFO pops the oldest received control cell. -/
  | ccRxPop (k : Nat)
  /-- LEASE_CAPTURE (R291): LEASE_CMD.Capture records the XREF time of a lease request. -/
  | leaseCapture
  /-- LEASE_GRANT (R291): LEASE_CMD.Grant sets the lease timer from the last capture. -/
  | leaseGrant (ms : Nat)
  /-- RESERVE_CAPTURE (R291): LEASE_CMD.ReserveCapture records the time of a reserve request. -/
  | reserveCapture
  /-- RESERVE_GRANT (R291): LEASE_CMD.ReserveGrant sets the reserve timer. -/
  | reserveGrant (ms : Nat)
  /-- LEASE_RELEASE (R291): LEASE_CMD.Release clears LeaseValid at once. -/
  | leaseRelease
  /-- RELEASE_RESERVE (R291): LEASE_CMD.ReleaseReserve clears ReserveValid. -/
  | releaseReserve
  /-- PULSE_ACK (R295): LEASE_CMD.PulseAck records a manager acknowledgement and clears Fenced. -/
  | pulseAck
  /-- SET_ROSTER_ABSENT (R296): LEASE_CMD.SetRosterAbsent sets RosterAbsent. -/
  | setRosterAbsent
  /-- CLEAR_ROSTER_ABSENT (R296): LEASE_CMD.ClearRosterAbsent clears RosterAbsent. -/
  | clearRosterAbsent
  /-- LEASE_EXPIRE (R291): The lease timer runs out and LeaseValid clears. -/
  | leaseExpire
  /-- RESERVE_EXPIRE (R291): The reserve timer runs out and ReserveValid clears. -/
  | reserveExpire
  /-- LEASE_IN_CHANGE (R289): A filtered change of LEASE_IN re-evaluates PartnerAsserted, Collision and DriveOk. -/
  | leaseInChange (level : Bool)
  /-- DRIVEOK_ARM (R289): Conditions held for 1 µs set DriveOk. -/
  | driveokArm
  /-- FENCE_TIMEOUT (R295): No PulseAck for 2 × PulseUs with Selvedge down sets Fenced. -/
  | fenceTimeout
  /-- PULSE_TX (R295): Every PulseUs a holding or reserve unit sends a Pulse to the manager. -/
  | pulseTx
  /-- LEASE_RENEW_TX (R294): Every RenewMs a unit with a lease or reserve sends a Request. -/
  | leaseRenewTx (reserve : Bool)
  /-- ABSENCE_REPORT_TX (R296): The firmware sends an AbsenceReport when the partner appears gone, and repeats it. -/
  | absenceReportTx
  /-- LEASE_REQUEST (R293): The manager answers a lease Request. -/
  | leaseRequest (m : LeaseMsg)
  /-- LEASE_GRANT_MSG (R291): A unit receives a Grant message from the manager. -/
  | leaseGrantMsg (m : LeaseMsg)
  /-- LEASE_RELEASE_MSG (R293): The manager receives a Release message. -/
  | leaseReleaseMsg (m : LeaseMsg)
  /-- RESERVE_REQUEST (R293): The manager answers a ReserveRequest. -/
  | reserveRequest (m : LeaseMsg)
  /-- RESERVE_GRANT_MSG (R291): A unit receives a ReserveGrant message. -/
  | reserveGrantMsg (m : LeaseMsg)
  /-- PULSE (R297): The manager receives a Pulse and answers PulseAck. -/
  | pulse (m : LeaseMsg)
  /-- PULSE_ACK_MSG (R295): A unit receives a PulseAck message. -/
  | pulseAckMsg (m : LeaseMsg)
  /-- ABSENCE_REPORT (R297): The manager receives an AbsenceReport and holds it. -/
  | absenceReport (m : LeaseMsg)
  /-- ABSENT_CONFIRM_DUE (R297): With no Pulse for 3 × PulseUs the manager marks the partner absent and sends AbsentConfirm. -/
  | absentConfirmDue (unit : Nat)
  /-- ABSENT_CONFIRM (R296): A unit receives AbsentConfirm. -/
  | absentConfirm (m : LeaseMsg)
  /-- DENY (R297): A unit receives a Deny to its AbsenceReport. -/
  | deny (m : LeaseMsg)
  /-- FALLBACK_REQUEST (R310): A holder without grant for three RenewMs asks its partner for a grant over Selvedge. -/
  | fallbackRequest
  /-- SILENT_TAKEOVER (R309): With the link down the standby grants itself a lease after DurationMs + GuardMs. -/
  | silentTakeover
  /-- SELVEDGE_DOWN (R299): Loss of signal, lock or valid blocks moves Selvedge to Training. -/
  | selvedgeDown
  /-- SELVEDGE_BEAT_TX (R301): A Beat is sent for each pick, or every 10 µs when no picks run. -/
  | selvedgeBeatTx
  /-- SELVEDGE_BEAT_RX (R301): A received Beat updates partner status and compares pick counts. -/
  | selvedgeBeatRx (bytes : List (BitVec 8))
  /-- TIME_FRAME_TX (R302): A Time frame is sent at each 10 µs multiple of TAI. -/
  | timeFrameTx
  /-- TIME_FRAME_RX (R302): A received Time frame gives the one-way delay and the REF9 phase sample. -/
  | timeFrameRx (bytes : List (BitVec 8)) (arrival : Nat)
  /-- SELVEDGE_CTRL_RX (R300): A received Ctrl frame delivers a firmware message from the partner. -/
  | selvedgeCtrlRx (m : SvCtrl) (ok : Bool)
  /-- EPOCH_BUILD (R305): Every PeriodMs the epoch sender builds and sends an epoch. -/
  | epochBuild
  /-- COPY_FRAME_RX (R305): A received Copy frame adds records to the partial epoch. -/
  | copyFrameRx (bytes : List (BitVec 8))
  /-- COMMIT_FRAME_RX (R306): A received Commit frame checks the epoch for application. -/
  | commitFrameRx (bytes : List (BitVec 8))
  /-- EPOCH_APPLY (R306): A checked epoch is applied at one strobe and acknowledged. -/
  | epochApply
  /-- EPOCH_TIMEOUT (R307): A partial epoch not committed within TimeoutMs is discarded. -/
  | epochTimeout
  /-- EPOCH_SEND_FULL (R308): EPOCH_CMD.SendFull makes the sender send a full epoch. -/
  | epochSendFull
  /-- EPOCH_REQUEST_FULL (R308): EPOCH_CMD.RequestFull asks the partner for a full epoch. -/
  | epochRequestFull
  /-- LLDP_TX (R313): Every LldpInterval, or on a TLV change, the firmware sends an LLDP data unit. -/
  | lldpTx (n : Nat)
  /-- LLDP_RX (R314): A received LLDP data unit updates the port's neighbour. -/
  | lldpRx (n : Nat) (frame : List (BitVec 8))
  /-- LLDP_TTL_EXPIRE (R314): A neighbour whose Time To Live runs out is removed. -/
  | lldpTtlExpire (n : Nat)
  /-- BEACON_TX (R316): The manager sends a Beacon every 50 ms. -/
  | beaconTx
  /-- BEACON_RX (R322): A unit takes a received Beacon and answers with a Heartbeat. -/
  | beaconRx (b : Beacon) (nonce : List (BitVec 8))
  /-- JOIN_REQUEST (R318): The manager receives a JoinRequest and sends a challenge. -/
  | joinRequest (r : JoinReq) (nonce : List (BitVec 8))
  /-- JOIN_CHALLENGE (R317): A joining unit checks a JoinChallenge and answers. -/
  | joinChallenge (nonceM : List (BitVec 8)) (nonceW : List (BitVec 8)) (proof : List (BitVec 8))
  /-- JOIN_RESPONSE (R317): The manager checks a JoinResponse and accepts or denies. -/
  | joinResponse (nonceM : List (BitVec 8)) (proof : List (BitVec 8))
  /-- JOIN_ACCEPT (R318): A joining unit receives JoinAccept and writes its unit number. -/
  | joinAccept (unit : Nat) (term : Nat) (version : Nat)
  /-- JOIN_DENY (R318): A joining unit receives JoinDeny and returns to Seeking. -/
  | joinDeny (reason : Nat)
  /-- HEARTBEAT (R319): The manager receives a member's Heartbeat. -/
  | heartbeat (unit : Nat) (seq : Nat) (flags : Nat) (pick : Nat)
  /-- LEAVE (R319): The manager receives Leave and marks the unit Left. -/
  | leave (unit : Nat)
  /-- ROSTER_DELTA (R319): A member receives a RosterDelta. -/
  | rosterDelta (version : Nat) (recs : List RosterRec)
  /-- ROSTER_SYNC_TX (R321): Every second the manager sends the whole roster to the backup. -/
  | rosterSyncTx
  /-- ROSTER_SYNC (R321): The backup receives a RosterSync. -/
  | rosterSync (version : Nat) (recs : List RosterRec)
  /-- JOIN_TIMEOUT (R315): No reply to a join within 500 ms returns the unit to Seeking. -/
  | joinTimeout
  /-- JOIN_RETRY (R315): One second after a failed join the unit tries again. -/
  | joinRetry (nonce : List (BitVec 8))
  /-- CHALLENGE_TIMEOUT (R317): A challenge unanswered within 100 ms is closed by the manager. -/
  | challengeTimeout (device : Nat)
  /-- BEACON_LOSS (R315): No valid beacon for 150 ms moves a member to Orphan. -/
  | beaconLoss
  /-- MANAGER_START (R315): A seeking manager with no beacon for 150 ms starts beaconing. -/
  | managerStart
  /-- BACKUP_TAKEOVER (R321): A backup with no beacon of the term for 150 ms takes over as manager. -/
  | backupTakeover
  /-- MANAGER_HOLDOFF_END (R293): The manager's start-up window of DurationMs + GuardMs ends and leases may be granted. -/
  | managerHoldoffEnd
  /-- UNIT_ABSENT (R319): No Heartbeat for 250 ms marks a unit Absent. -/
  | unitAbsent (unit : Nat)
  /-- PATTERN_LOAD (R325): A write of PatternLoad checks and applies a pattern image. -/
  | patternLoad (n : Nat)
  /-- PATTERN_SAVE (R326): A write of PatternSave writes the base values to a pattern slot. -/
  | patternSave (n : Nat)
  /-- PATTERN_IMAGE_WRITE (R324): A PatternImage write stores an image after checking it as a load. -/
  | patternImageWrite (n : Nat) (data : List (BitVec 8))
  /-- OVERLAY_DEF_WRITE (R327): An OverlayDef write checks and stores an overlay definition. -/
  | overlayDefWrite (k : Nat) (data : List (BitVec 8))
  /-- OVERLAY_DEFERRED_APPLY (R329): The overlay's objects without flag S transfer together at a strobe after the commit. -/
  | overlayDeferredApply
  /-- TEMP_SAMPLE (R332): Every 1 ms the temperature sensors are sampled. -/
  | tempSample (readings : List Int)
  /-- AVS_WINDOW (R335): At the end of each 1 ms slack window the AVS code may rise. -/
  | avsWindow (slack : List Int)
  /-- AVS_LOWER (R335): Sixty seconds of slack at or above SlackHigh lower the AVS code. -/
  | avsLower
  /-- TP_CTRL_WRITE (R335): A write of TP_CTRL enables Temple and its AVS and eye functions. -/
  | tpCtrlWrite (v : Nat)
  /-- EYE_MEASURE (R336): Every EYE_PERIOD Temple measures the lanes' eyes and may start an adaptation. -/
  | eyeMeasure (eyes : List (Nat × Nat × Nat))
  /-- ADAPT_DONE (R336): A lane reports completion of its adaptation. -/
  | adaptDone (lane : Nat)
  /-- ECC_HOUR (R332): Each hour Temple takes the difference of the corrected ECC counts. -/
  | eccHour
  /-- DAY_END (R341): At the end of each TAI day Temple fits ageing and appends a ledger record. -/
  | dayEnd
  /-- LEDGER_RETRY (R341): A failed ledger write is retried once an hour. -/
  | ledgerRetry
  /-- PLAN_PASS (R337): Every PlanPeriod Temple computes required presentation offsets. -/
  | planPass
  /-- LCP_RX (R358): A received LCP message is checked for format, class, target, tag and freshness. -/
  | lcpRx (port : Nat) (ip : Nat) (udp : Nat) (msg : List (BitVec 8))
  /-- READ (R362): A READ request is served and its items returned. -/
  | read (who : Requester) (msg : List (BitVec 8))
  /-- WRITE (R363): A WRITE request is checked and its values applied at one strobe. -/
  | write (who : Requester) (msg : List (BitVec 8))
  /-- WRITE_AT (R364): A WRITE_AT request pushes its cues. -/
  | writeAt (who : Requester) (msg : List (BitVec 8))
  /-- SUBSCRIBE (R365): A SUBSCRIBE request creates, renews or cancels subscriptions. -/
  | subscribe (who : Requester) (msg : List (BitVec 8))
  /-- SUBSCRIPTION_EVAL (R366): Every 10 ms the device sends a NOTIFY for due subscriptions. -/
  | subscriptionEval
  /-- SUBSCRIPTION_LAPSE (R365): A subscription lapses SubLife after its last SUBSCRIBE. -/
  | subscriptionLapse
  /-- BULK_OPEN_READ (R367): BULK OpenRead copies an object into staging. -/
  | bulkOpenRead (who : Requester) (msg : List (BitVec 8))
  /-- BULK_OPEN_WRITE (R367): BULK OpenWrite opens a write session. -/
  | bulkOpenWrite (who : Requester) (msg : List (BitVec 8))
  /-- BULK_DATA (R367): BULK Data adds or returns a chunk and writes the value when complete. -/
  | bulkData (who : Requester) (msg : List (BitVec 8))
  /-- BULK_ABORT (R367): BULK Abort ends a session. -/
  | bulkAbort (who : Requester) (msg : List (BitVec 8))
  /-- BULK_TIMEOUT (R367): A bulk session idle for 2 s is discarded. -/
  | bulkTimeout
  /-- MBX_DOORBELL (R368): A write of MBX_DOORBELL submits the mailbox request. -/
  | mbxDoorbell (m : Nat) (v : Nat)
  /-- REGISTER_WRITE (R386): A write to a register with no row of its own updates its fields. -/
  | registerWrite (a : BusAcc) (ecc : Ecc)
  /-- SLOW_WRITE_APPLY (R381): A posted slow-block write is applied and Busy clears. -/
  | slowWriteApply (b : Nat) (vpp : Bool) (ms : Nat)
  /-- CMD_MULTI_BIT (R450): A window command write with several command bits set is refused whole. -/
  | cmdMultiBit (a : Nat) (v : Nat)
  /-- BUS_PROMOTE (R377): A transaction waiting more than 64 CCLK at a target is promoted. -/
  | busPromote
  /-- MASTER_RESET (R378): A bus master resets and its outstanding transactions are drained. -/
  | masterReset (m : Nat) (dropped : Nat)
  /-- WIN_LOCK_ACQUIRE (R387): A read of WIN_LOCKk takes the lock if it is free. -/
  | winLockAcquire (m : Nat) (k : Nat)
  /-- WIN_LOCK_RELEASE (R387): A write of 0 by the owner releases WIN_LOCKk. -/
  | winLockRelease (m : Nat) (k : Nat)
  /-- EVT_ACK_WRITE (R383): A write of EVT_ACKe sets the acknowledged count of an event. -/
  | evtAckWrite (e : Nat) (v : Nat)
  /-- EVT_ACKALL_WRITE (R383): A write of EVT_ACKALLw acknowledges events at their current counts. -/
  | evtAckallWrite (w : Nat) (v : Nat)
  /-- MSIX_UNMASK (R385): Unmasking an MSI-X vector whose level is 1 sends its message. -/
  | msixUnmask (v : Option Nat)
  /-- ERROR_RECORD_ACCEPT (R390): ERR accepts one waiting error report per cycle into its FIFO. -/
  | errorRecordAccept
  /-- ERR_POP (R390): A read of ERR_POP pops the oldest error record. -/
  | errPop
  /-- ERR_FIRST_ACK (R390): A write of ERR_FIRST_ACK with the held Seq releases ERR_FIRST. -/
  | errFirstAck (v : Nat)
  /-- SYS_CYCLES_READ (R9): A read of SYS_CYCLES_LO latches SYS_CYCLES_HI. -/
  | sysCyclesRead
  /-- SPI_WRITE (R392): SPI command 0x02 writes register space. -/
  | spiWrite (addr : Nat) (bytes : List (BitVec 8))
  /-- SPI_READ (R393): SPI command 0x03 reads register space word by word. -/
  | spiRead (addr : Nat) (words : Nat) (ecc : Ecc)
  /-- SPI_WRITE_WIN (R392): SPI command 0x12 writes through SPI_WIN. -/
  | spiWriteWin (addr : Nat) (bytes : List (BitVec 8))
  /-- SPI_READ_WIN (R392): SPI command 0x13 reads through SPI_WIN. -/
  | spiReadWin (addr : Nat) (words : Nat) (ecc : Ecc)
  /-- SPI_QUAD_WRITE (R392): SPI command 0x82 writes register space on four lanes. -/
  | spiQuadWrite (addr : Nat) (bytes : List (BitVec 8))
  /-- SPI_QUAD_READ (R392): SPI command 0x83 reads register space on four lanes. -/
  | spiQuadRead (addr : Nat) (words : Nat) (ecc : Ecc)
  /-- SPI_QUAD_WRITE_WIN (R392): SPI command 0x92 writes through SPI_WIN on four lanes. -/
  | spiQuadWriteWin (addr : Nat) (bytes : List (BitVec 8))
  /-- SPI_QUAD_READ_WIN (R392): SPI command 0x93 reads through SPI_WIN on four lanes. -/
  | spiQuadReadWin (addr : Nat) (words : Nat) (ecc : Ecc)
  /-- SPI_STATUS (R392): SPI command 0x05 returns the status byte. -/
  | spiStatus
  /-- SPI_BAD_CMD (R392): An unknown SPI command byte makes the frame ignored and recorded. -/
  | spiBadCmd (b : Nat)
  /-- SPI_CS_RISE (R394): CS_N rising ends a frame and completes or discards its last word. -/
  | spiCsRise (cut : Bool)
  /-- PCIE_LINK_RESET (R391): A PCIe link down, hot reset or function-level reset resets the endpoint's master, MSI-X table and mailbox. -/
  | pcieLinkReset (down : Bool) (dropped : Nat)
  /-- POWER_ON_RESET (R405): POR_N low or VDD_AON undervoltage resets the whole device. -/
  | powerOnReset (st : Straps)
  /-- PIN_RESET (R404): RST_N low, brown-out or thermal release resets all but PD0. -/
  | pinReset (st : Straps)
  /-- WARM_RESET (R404): PWR_CMD Kind 1 starts a warm reset. -/
  | warmReset
  /-- POOL_PRESERVING_RESET (R404): PWR_CMD Kind 2 starts a pool-preserving reset. -/
  | poolPreservingReset
  /-- SPINDLE_RESET (R404): PWR_CMD Kind 3 resets the Spindle cores only. -/
  | spindleReset
  /-- BROWN_OUT (R402): VDDC or VDDM below 0.84 V for 1 µs causes a brown-out reset. -/
  | brownOut (st : Straps)
  /-- SUPPLY_UNDERVOLTAGE (R402): A rail below its monitor threshold sets its bit and counts SupplyFault. -/
  | supplyUndervoltage (low : Nat)
  /-- THERMAL_SHUTDOWN (R408): A sensor at or above TSD for 1 ms holds all but PD0 in reset. -/
  | thermalShutdown
  /-- THERMAL_RELEASE (R408): All sensors at TSD − 15 °C or below end shutdown with a pin reset. -/
  | thermalRelease (st : Straps)
  /-- WATCHDOG_KICK (R409): A write of 0x5A5A to AON_WDOG_KICK restarts the watchdog count. -/
  | watchdogKick (v : Nat)
  /-- WATCHDOG_CFG_WRITE (R409): A write of a nonzero TimeoutMs starts the watchdog count. -/
  | watchdogCfgWrite (v : Nat)
  /-- WATCHDOG_WARN (R409): Half the timeout without a kick raises WatchdogWarn. -/
  | watchdogWarn
  /-- WATCHDOG_EXPIRE (R409): The full timeout without a kick causes a warm reset. -/
  | watchdogExpire
  /-- PWR_CTRL_WRITE (R403): A write of PWR_CTRL turns switchable power domains off or on. -/
  | pwrCtrlWrite (v : Nat)
  /-- PD_POWER_UP_DONE (R403): A powered-on domain becomes ready and PWR_STATUS shows it on. -/
  | pdPowerUpDone (d : Nat)
  /-- FUSE_SHADOW_LOADED (R407): The fuse shadow load completes and ShadowValid becomes 1. -/
  | fuseShadowLoaded
  /-- BOOT_ROM_START (R413): The boot ROM starts and boots in the latched mode. -/
  | bootRomStart
  /-- BOOT_GO (R413): AON_BOOT_CMD.Go makes the ROM check and launch a loaded image. -/
  | bootGo
  /-- RECOVERY_IDENTIFY (R414): A Recovery Identify request returns the device identity. -/
  | recoveryIdentify (ip : Nat) (udp : Nat) (msg : List (BitVec 8))
  /-- RECOVERY_LOAD (R414): A Recovery Load request writes data into the load area. -/
  | recoveryLoad (ip : Nat) (udp : Nat) (msg : List (BitVec 8))
  /-- RECOVERY_LAUNCH (R414): A Recovery Launch request checks and starts the loaded image. -/
  | recoveryLaunch (ip : Nat) (udp : Nat) (msg : List (BitVec 8))
  /-- FIRMWARE_START (R415): Launched firmware enables clocks and ports, loads the boot pattern and starts timing. -/
  | firmwareStart (ports : Nat)
  /-- DOZE_ENTER (R417): AON_DOZE_CMD.Enter arms wake and powers the device down to Doze. -/
  | dozeEnter
  /-- WAKE_PIN (R418): WAKE_N held low for 1 µs in Doze requests wake. -/
  | wakePin (st : Straps)
  /-- FUSE_PROGRAM (R422): FUSE_CMD.Program starts programming an OTP word. -/
  | fuseProgram (vpp : Bool)
  /-- FUSE_PROGRAM_DONE (R422): Programming ends, the word is verified and the result written. -/
  | fuseProgramDone (failed : Nat)
  /-- FUSE_ADVANCE (R421): FUSE_CMD.Advance programs the next lifecycle bit. -/
  | fuseAdvance (vpp : Bool)
  /-- XREF_LOSS (R448): XREF stopping for 2 µs clears the lease and holds a pin reset. -/
  | xrefLoss
  /-- XREF_RETURN (R448): XREF returning releases the held pin reset. -/
  | xrefReturn (st : Straps)
  /-- PORT_SIGNAL_LOSS (R93): A port in Training whose signal is lost returns to Down. -/
  | portSignalLoss (n : Nat)
  /-- LEASE_GUARD_END (R297): Once an absent or departed holder's last grant has ended and GuardMs has passed, the manager grants the partner a Lease. -/
  | leaseGuardEnd (unit : Nat)
  /-- ROSTER_DELTA_REQUEST (R319): The manager receives a member's request for RosterDeltas it has missed and sends them. -/
  | rosterDeltaRequest (unit : Nat) (version : Nat)
  /-- KEPT_REPLY_EXPIRE (R360): A kept LCP reply is discarded 1 s after it was made, so a later retry is served as a new request. -/
  | keptReplyExpire
  /-- PCIE_LINK_UP (R391): The PCIe link trains and PCIE_STATUS.LinkUp becomes 1. -/
  | pcieLinkUp (speed : Nat) (width : Nat) (msix : Bool) (mask : Bool) (d3 : Bool)
  /-- REPACK_DONE (R217): The ring repack completes, every ring is contiguous with a fresh Z and HD_STATUS.Repacking clears. -/
  | repackDone
  /-- FLASH_OPERATION_END (R359): A pattern load or save, or a ledger write, finishes its flash access, the result is reported and waiting requests are served. -/
  | flashOperationEnd (ok : Bool)
deriving DecidableEq, Repr

end Sys2Proof
end

