-- ==== Sys2Proof/Decode.lean ====
section
/-!
DEFINITION. The commands that words spell. Commands reach the device as register accesses, frames, messages and events, and
spec/opcode_table.json gives no row any bits, so no word spells a command (notes/assumptions/5.md).
-/
namespace Sys2Proof

/-- The command that an nbits-bit word spells by the table's bits. -/
def decodeTableWord (_nbits _w : Nat) : Option Instr := none

end Sys2Proof
end

