-- ==== Sys2Proof/Config.lean ====
section
/-!
DEFINITION. The values the spec leaves open: constants without a body, so that no proof can lean on a value of theirs.
-/
namespace Sys2Proof

/-- The free values, numbered in the order the machine uses them; a value narrower than 32 bits takes the low bits
(notes/assumptions/3.md). -/
opaque Config.freeWord : Nat → BitVec 32

/-- The coefficients in the decimator ROM by table (0 Tight, 1 Linear) and tap: the spec says they are to be used as read and does
not print them (R229, notes/assumptions/26.md). -/
opaque Config.decRom : Nat → Nat → BitVec 32

/-- Alaner's OUI, which the spec names and does not print (R313, R331, notes/assumptions/27.md). -/
opaque Config.oui : BitVec 32

/-- The boot ROM's version (R371, R414, notes/assumptions/27.md). -/
opaque Config.romVersion : BitVec 32

/-- The boot ROM's contents, by word (R372, notes/assumptions/27.md). -/
opaque Config.romWord : Nat → BitVec 32

end Sys2Proof
end

