-- ==== Sys2Proof/Machine/Regs.lean ====
section
/-!
DEFINITION. The registers of every block, as the register tables of the spec list them (R373, R374, R9, R10, R11):
where each register lies in register space, its fields with their bits, access codes and reset values.
Names are the manual's own; an instance letter of a register family (MACn, REFk, CKOi) is an argument, outermost first.
Reset values marked "Strap", "Fuse" or "R335" in the manual, and the family registers whose reset the manual gives by a
rule (R55, R61), hold the values that notes/assumptions name.
-/
namespace Sys2Proof.Machine

/-- A field of a register: the register's offset in register space, its lowest bit and its width. -/
structure Fld where
  reg : Nat
  lsb : Nat
  wid : Nat
deriving DecidableEq, Repr

/-- The access codes of R9. -/
inductive Acc where
  | rw | ro | wo | rse
deriving DecidableEq, Repr

/-- One field in a register's row: bits, access code and reset value.
`rst` lists the reset values by the innermost instance number; a list of one value holds for every instance. -/
structure FieldRow where
  lsb : Nat
  wid : Nat
  acc : Acc
  rst : List Nat
deriving DecidableEq, Repr

/-- One register, or one family of registers: its first offset, the stride and count of each instance number
(outermost first) and its fields. Bits of no field are Reserved (R10). -/
structure RegRow where
  base   : Nat
  dims   : List (Nat × Nat)
  fields : List FieldRow
deriving DecidableEq, Repr

namespace R

/-- TIME.TIME_CTRL (02_media_timeline.md). -/
def TIME_CTRL : Nat := 0x68000
def TIME_CTRL_Run : Fld := ⟨TIME_CTRL, 0, 1⟩
def TIME_CTRL_Rate : Fld := ⟨TIME_CTRL, 1, 3⟩
/-- TIME.TIME_STATUS (02_media_timeline.md). -/
def TIME_STATUS : Nat := 0x68004
def TIME_STATUS_TodValid : Fld := ⟨TIME_STATUS, 0, 1⟩
def TIME_STATUS_RateSwitching : Fld := ⟨TIME_STATUS, 1, 1⟩
def TIME_STATUS_JumpPending : Fld := ⟨TIME_STATUS, 2, 1⟩
def TIME_STATUS_RatePending : Fld := ⟨TIME_STATUS, 3, 1⟩
def TIME_STATUS_RateNow : Fld := ⟨TIME_STATUS, 4, 3⟩
/-- TIME.TIME_CAPTURE (02_media_timeline.md). -/
def TIME_CAPTURE : Nat := 0x68008
def TIME_CAPTURE_Capture : Fld := ⟨TIME_CAPTURE, 0, 1⟩
/-- TIME.SNAP_NS (02_media_timeline.md). -/
def SNAP_NS : Nat := 0x68010
def SNAP_NS_Ns : Fld := ⟨SNAP_NS, 0, 30⟩
/-- TIME.SNAP_FRAC (02_media_timeline.md). -/
def SNAP_FRAC : Nat := 0x68014
def SNAP_FRAC_Frac : Fld := ⟨SNAP_FRAC, 0, 16⟩
/-- TIME.SNAP_SEC_LO (02_media_timeline.md). -/
def SNAP_SEC_LO : Nat := 0x68018
def SNAP_SEC_LO_Sec : Fld := ⟨SNAP_SEC_LO, 0, 32⟩
/-- TIME.SNAP_SEC_HI (02_media_timeline.md). -/
def SNAP_SEC_HI : Nat := 0x6801c
def SNAP_SEC_HI_Sec : Fld := ⟨SNAP_SEC_HI, 0, 16⟩
/-- TIME.SNAP_PICK_LO (02_media_timeline.md). -/
def SNAP_PICK_LO : Nat := 0x68020
def SNAP_PICK_LO_Pick : Fld := ⟨SNAP_PICK_LO, 0, 32⟩
/-- TIME.SNAP_PICK_HI (02_media_timeline.md). -/
def SNAP_PICK_HI : Nat := 0x68024
def SNAP_PICK_HI_Pick : Fld := ⟨SNAP_PICK_HI, 0, 32⟩
/-- TIME.PICK_LO (02_media_timeline.md). -/
def PICK_LO : Nat := 0x68028
def PICK_LO_Pick : Fld := ⟨PICK_LO, 0, 32⟩
/-- TIME.PICK_HI (02_media_timeline.md). -/
def PICK_HI : Nat := 0x6802c
def PICK_HI_Pick : Fld := ⟨PICK_HI, 0, 32⟩
/-- TIME.SET_SEC_LO (02_media_timeline.md). -/
def SET_SEC_LO : Nat := 0x68030
def SET_SEC_LO_Sec : Fld := ⟨SET_SEC_LO, 0, 32⟩
/-- TIME.SET_SEC_HI (02_media_timeline.md). -/
def SET_SEC_HI : Nat := 0x68034
def SET_SEC_HI_Sec : Fld := ⟨SET_SEC_HI, 0, 16⟩
/-- TIME.SET_NS (02_media_timeline.md). -/
def SET_NS : Nat := 0x68038
def SET_NS_Ns : Fld := ⟨SET_NS, 0, 30⟩
/-- TIME.TIME_SET_CMD (02_media_timeline.md). -/
def TIME_SET_CMD : Nat := 0x6803c
def TIME_SET_CMD_Set : Fld := ⟨TIME_SET_CMD, 0, 1⟩
/-- TIME.TIME_STEP_LIMIT (02_media_timeline.md). -/
def TIME_STEP_LIMIT : Nat := 0x68040
def TIME_STEP_LIMIT_LimitNs : Fld := ⟨TIME_STEP_LIMIT, 0, 32⟩
/-- TIME.TIME_JUMP_OFFSET_LO (02_media_timeline.md). -/
def TIME_JUMP_OFFSET_LO : Nat := 0x68048
def TIME_JUMP_OFFSET_LO_Offset : Fld := ⟨TIME_JUMP_OFFSET_LO, 0, 32⟩
/-- TIME.TIME_JUMP_OFFSET_HI (02_media_timeline.md). -/
def TIME_JUMP_OFFSET_HI : Nat := 0x6804c
def TIME_JUMP_OFFSET_HI_Offset : Fld := ⟨TIME_JUMP_OFFSET_HI, 0, 32⟩
/-- TIME.CNT_JUMP (02_media_timeline.md). -/
def CNT_JUMP : Nat := 0x68050
def CNT_JUMP_Count : Fld := ⟨CNT_JUMP, 0, 32⟩
/-- TIME.CNT_REBASE (02_media_timeline.md). -/
def CNT_REBASE : Nat := 0x68054
def CNT_REBASE_Count : Fld := ⟨CNT_REBASE, 0, 32⟩
/-- TIME.CNT_RATECHANGE (02_media_timeline.md). -/
def CNT_RATECHANGE : Nat := 0x68058
def CNT_RATECHANGE_Count : Fld := ⟨CNT_RATECHANGE, 0, 32⟩
/-- TREADLE.TRD_CTRL (02_media_timeline.md). -/
def TRD_CTRL : Nat := 0x6c000
def TRD_CTRL_Enable : Fld := ⟨TRD_CTRL, 0, 1⟩
/-- TREADLE.LATE_LIMIT (02_media_timeline.md). -/
def LATE_LIMIT : Nat := 0x6c004
def LATE_LIMIT_Limit : Fld := ⟨LATE_LIMIT, 0, 16⟩
/-- TREADLE.STAGE_LEAD (02_media_timeline.md). -/
def STAGE_LEAD : Nat := 0x6c008
def STAGE_LEAD_Lead : Fld := ⟨STAGE_LEAD, 0, 13⟩
/-- TREADLE.TRD_STATUS (02_media_timeline.md). -/
def TRD_STATUS : Nat := 0x6c00c
def TRD_STATUS_Pending : Fld := ⟨TRD_STATUS, 0, 9⟩
def TRD_STATUS_Full : Fld := ⟨TRD_STATUS, 9, 1⟩
def TRD_STATUS_Staging : Fld := ⟨TRD_STATUS, 10, 1⟩
/-- TREADLE.CNT_DONE (02_media_timeline.md). -/
def CNT_DONE : Nat := 0x6c010
def CNT_DONE_Count : Fld := ⟨CNT_DONE, 0, 32⟩
/-- TREADLE.CNT_LATE (02_media_timeline.md). -/
def CNT_LATE : Nat := 0x6c014
def CNT_LATE_Count : Fld := ⟨CNT_LATE, 0, 32⟩
/-- TREADLE.CNT_STALE (02_media_timeline.md). -/
def CNT_STALE : Nat := 0x6c018
def CNT_STALE_Count : Fld := ⟨CNT_STALE, 0, 32⟩
/-- TREADLE.CNT_REFUSED (02_media_timeline.md). -/
def CNT_REFUSED : Nat := 0x6c01c
def CNT_REFUSED_Count : Fld := ⟨CNT_REFUSED, 0, 32⟩
/-- TREADLE.CNT_CANCEL (02_media_timeline.md). -/
def CNT_CANCEL : Nat := 0x6c020
def CNT_CANCEL_Count : Fld := ⟨CNT_CANCEL, 0, 32⟩
/-- TREADLE.CNT_HOSTCONFLICT (02_media_timeline.md). -/
def CNT_HOSTCONFLICT : Nat := 0x6c024
def CNT_HOSTCONFLICT_Count : Fld := ⟨CNT_HOSTCONFLICT, 0, 32⟩
/-- TREADLE.CNT_MARK (02_media_timeline.md). -/
def CNT_MARK : Nat := 0x6c028
def CNT_MARK_Count : Fld := ⟨CNT_MARK, 0, 32⟩
/-- TREADLE.CNT_DONE_LOST (02_media_timeline.md). -/
def CNT_DONE_LOST : Nat := 0x6c02c
def CNT_DONE_LOST_Count : Fld := ⟨CNT_DONE_LOST, 0, 32⟩
/-- TREADLE.NEXT_PICK_LO (02_media_timeline.md). -/
def NEXT_PICK_LO : Nat := 0x6c030
def NEXT_PICK_LO_Pick : Fld := ⟨NEXT_PICK_LO, 0, 32⟩
/-- TREADLE.NEXT_PICK_HI (02_media_timeline.md). -/
def NEXT_PICK_HI : Nat := 0x6c034
def NEXT_PICK_HI_Pick : Fld := ⟨NEXT_PICK_HI, 0, 32⟩
/-- TREADLE.DONE_INFO (02_media_timeline.md). -/
def DONE_INFO : Nat := 0x6c040
def DONE_INFO_Action : Fld := ⟨DONE_INFO, 0, 8⟩
def DONE_INFO_Status : Fld := ⟨DONE_INFO, 8, 8⟩
def DONE_INFO_Order : Fld := ⟨DONE_INFO, 16, 16⟩
/-- TREADLE.DONE_PICK_LO (02_media_timeline.md). -/
def DONE_PICK_LO : Nat := 0x6c044
def DONE_PICK_LO_Pick : Fld := ⟨DONE_PICK_LO, 0, 32⟩
/-- TREADLE.DONE_PICK_HI (02_media_timeline.md). -/
def DONE_PICK_HI : Nat := 0x6c048
def DONE_PICK_HI_Pick : Fld := ⟨DONE_PICK_HI, 0, 32⟩
/-- TREADLE.DONE_EXEC (02_media_timeline.md). -/
def DONE_EXEC : Nat := 0x6c04c
def DONE_EXEC_ExecLo : Fld := ⟨DONE_EXEC, 0, 32⟩
/-- TREADLE.Wk_PICK_LO (02_media_timeline.md). -/
def W_PICK_LO (n : Nat) : Nat := 0x6c100 + n * 0x40
def W_PICK_LO_Pick (n : Nat) : Fld := ⟨W_PICK_LO n, 0, 32⟩
/-- TREADLE.Wk_PICK_HI (02_media_timeline.md). -/
def W_PICK_HI (n : Nat) : Nat := 0x6c104 + n * 0x40
def W_PICK_HI_Pick (n : Nat) : Fld := ⟨W_PICK_HI n, 0, 32⟩
/-- TREADLE.Wk_HEAD (02_media_timeline.md). -/
def W_HEAD (n : Nat) : Nat := 0x6c108 + n * 0x40
def W_HEAD_Action (n : Nat) : Fld := ⟨W_HEAD n, 0, 8⟩
def W_HEAD_Flags (n : Nat) : Fld := ⟨W_HEAD n, 8, 8⟩
def W_HEAD_Order (n : Nat) : Fld := ⟨W_HEAD n, 16, 16⟩
/-- TREADLE.Wk_ISSUER (02_media_timeline.md). -/
def W_ISSUER (n : Nat) : Nat := 0x6c10c + n * 0x40
def W_ISSUER_Issuer (n : Nat) : Fld := ⟨W_ISSUER n, 0, 16⟩
/-- TREADLE.Wk_ARG0–Wk_ARG3 (02_media_timeline.md). -/
def W_ARG (n k : Nat) : Nat := 0x6c110 + n * 0x40 + k * 0x4
def W_ARG_Arg (n k : Nat) : Fld := ⟨W_ARG n k, 0, 32⟩
/-- TREADLE.Wk_CMD (02_media_timeline.md). -/
def W_CMD (n : Nat) : Nat := 0x6c120 + n * 0x40
def W_CMD_Push (n : Nat) : Fld := ⟨W_CMD n, 0, 1⟩
def W_CMD_Cancel (n : Nat) : Fld := ⟨W_CMD n, 1, 1⟩
/-- TREADLE.Wk_RESULT (02_media_timeline.md). -/
def W_RESULT (n : Nat) : Nat := 0x6c124 + n * 0x40
def W_RESULT_Code (n : Nat) : Fld := ⟨W_RESULT n, 0, 8⟩
def W_RESULT_Seq (n : Nat) : Fld := ⟨W_RESULT n, 16, 16⟩
/-- REED.RD_CTRL (03_reed_references.md). -/
def RD_CTRL : Nat := 0x60000
def RD_CTRL_Mode : Fld := ⟨RD_CTRL, 0, 2⟩
def RD_CTRL_ForcedRef : Fld := ⟨RD_CTRL, 2, 4⟩
def RD_CTRL_Revertive : Fld := ⟨RD_CTRL, 6, 1⟩
def RD_CTRL_HoldEarlyExit : Fld := ⟨RD_CTRL, 7, 1⟩
/-- REED.RD_STATUS (03_reed_references.md). -/
def RD_STATUS : Nat := 0x60004
def RD_STATUS_Busy : Fld := ⟨RD_STATUS, 0, 1⟩
def RD_STATUS_State : Fld := ⟨RD_STATUS, 1, 3⟩
def RD_STATUS_Selected : Fld := ⟨RD_STATUS, 4, 4⟩
def RD_STATUS_Target : Fld := ⟨RD_STATUS, 8, 4⟩
def RD_STATUS_Disagree : Fld := ⟨RD_STATUS, 12, 1⟩
def RD_STATUS_HistValid : Fld := ⟨RD_STATUS, 13, 1⟩
/-- REED.AGREE_WIN (03_reed_references.md). -/
def AGREE_WIN : Nat := 0x60008
def AGREE_WIN_Win : Fld := ⟨AGREE_WIN, 0, 16⟩
/-- REED.FREQ_RANGE (03_reed_references.md). -/
def FREQ_RANGE : Nat := 0x6000c
def FREQ_RANGE_Ppm : Fld := ⟨FREQ_RANGE, 0, 8⟩
/-- REED.FREQ_SLEW (03_reed_references.md). -/
def FREQ_SLEW : Nat := 0x60010
def FREQ_SLEW_Slew : Fld := ⟨FREQ_SLEW, 0, 16⟩
/-- REED.SLEW_RATE (03_reed_references.md). -/
def SLEW_RATE : Nat := 0x60014
def SLEW_RATE_Rate : Fld := ⟨SLEW_RATE, 0, 16⟩
/-- REED.STEP_MAX (03_reed_references.md). -/
def STEP_MAX : Nat := 0x60018
def STEP_MAX_Ns : Fld := ⟨STEP_MAX, 0, 8⟩
/-- REED.DPLL_FREQ_SET (03_reed_references.md). -/
def DPLL_FREQ_SET : Nat := 0x6001c
def DPLL_FREQ_SET_Freq : Fld := ⟨DPLL_FREQ_SET, 0, 32⟩
/-- REED.HOLD_CFG (03_reed_references.md). -/
def HOLD_CFG : Nat := 0x60020
def HOLD_CFG_HoldAvg : Fld := ⟨HOLD_CFG, 0, 12⟩
def HOLD_CFG_HoldGuard : Fld := ⟨HOLD_CFG, 12, 6⟩
def HOLD_CFG_AgeCorrect : Fld := ⟨HOLD_CFG, 18, 1⟩
/-- REED.HOLD_LIMIT (03_reed_references.md). -/
def HOLD_LIMIT : Nat := 0x60024
def HOLD_LIMIT_Ns : Fld := ⟨HOLD_LIMIT, 0, 32⟩
/-- REED.HOLD_EST (03_reed_references.md). -/
def HOLD_EST : Nat := 0x60028
def HOLD_EST_Ns : Fld := ⟨HOLD_EST, 0, 32⟩
/-- REED.HOLD_FREQ (03_reed_references.md). -/
def HOLD_FREQ : Nat := 0x6002c
def HOLD_FREQ_Freq : Fld := ⟨HOLD_FREQ, 0, 32⟩
/-- REED.HOLD_FU (03_reed_references.md). -/
def HOLD_FU : Nat := 0x60030
def HOLD_FU_Fu : Fld := ⟨HOLD_FU, 0, 32⟩
/-- REED.HOLD_STATUS (03_reed_references.md). -/
def HOLD_STATUS : Nat := 0x60034
def HOLD_STATUS_OutOfSpec : Fld := ⟨HOLD_STATUS, 0, 1⟩
def HOLD_STATUS_Seconds : Fld := ⟨HOLD_STATUS, 1, 31⟩
/-- REED.DPLL_FREQ (03_reed_references.md). -/
def DPLL_FREQ : Nat := 0x60038
def DPLL_FREQ_Freq : Fld := ⟨DPLL_FREQ, 0, 32⟩
/-- REED.PHASE_ADJ (03_reed_references.md). -/
def PHASE_ADJ : Nat := 0x6003c
def PHASE_ADJ_Adj : Fld := ⟨PHASE_ADJ, 0, 32⟩
/-- REED.LOOP_CFGt (03_reed_references.md). -/
def LOOP_CFG (n : Nat) : Nat := 0x60040 + n * 0x4
def LOOP_CFG_BwMilliHz (n : Nat) : Fld := ⟨LOOP_CFG n, 0, 24⟩
def LOOP_CFG_Damping (n : Nat) : Fld := ⟨LOOP_CFG n, 24, 3⟩
/-- REED.BUILDOUT_LO (03_reed_references.md). -/
def BUILDOUT_LO : Nat := 0x60060
def BUILDOUT_LO_Bo : Fld := ⟨BUILDOUT_LO, 0, 32⟩
/-- REED.BUILDOUT_HI (03_reed_references.md). -/
def BUILDOUT_HI : Nat := 0x60064
def BUILDOUT_HI_Bo : Fld := ⟨BUILDOUT_HI, 0, 32⟩
/-- REED.PSTEP_LO (03_reed_references.md). -/
def PSTEP_LO : Nat := 0x60068
def PSTEP_LO_Step : Fld := ⟨PSTEP_LO, 0, 32⟩
/-- REED.PSTEP_HI (03_reed_references.md). -/
def PSTEP_HI : Nat := 0x6006c
def PSTEP_HI_Step : Fld := ⟨PSTEP_HI, 0, 32⟩
/-- REED.PSTEP_CMD (03_reed_references.md). -/
def PSTEP_CMD : Nat := 0x60070
def PSTEP_CMD_Go : Fld := ⟨PSTEP_CMD, 0, 1⟩
def PSTEP_CMD_Mode : Fld := ⟨PSTEP_CMD, 1, 1⟩
/-- REED.PSTEP_STATUS (03_reed_references.md). -/
def PSTEP_STATUS : Nat := 0x60074
def PSTEP_STATUS_Slewing : Fld := ⟨PSTEP_STATUS, 0, 1⟩
def PSTEP_STATUS_Result : Fld := ⟨PSTEP_STATUS, 8, 2⟩
/-- REED.CNT_SWITCH (03_reed_references.md). -/
def CNT_SWITCH : Nat := 0x60080
def CNT_SWITCH_Count : Fld := ⟨CNT_SWITCH, 0, 32⟩
/-- REED.CNT_HOLDOVER (03_reed_references.md). -/
def CNT_HOLDOVER : Nat := 0x60084
def CNT_HOLDOVER_Count : Fld := ⟨CNT_HOLDOVER, 0, 32⟩
/-- REED.CNT_DISAGREE (03_reed_references.md). -/
def CNT_DISAGREE : Nat := 0x60088
def CNT_DISAGREE_Count : Fld := ⟨CNT_DISAGREE, 0, 32⟩
/-- REED.CNT_HOLD_OOS (03_reed_references.md). -/
def CNT_HOLD_OOS : Nat := 0x6008c
def CNT_HOLD_OOS_Count : Fld := ⟨CNT_HOLD_OOS, 0, 32⟩
/-- REED.CNT_PHASE_CLIP (03_reed_references.md). -/
def CNT_PHASE_CLIP : Nat := 0x60090
def CNT_PHASE_CLIP_Count : Fld := ⟨CNT_PHASE_CLIP, 0, 32⟩
/-- REED.REFk_CFG (03_reed_references.md). -/
def REF_CFG (n : Nat) : Nat := 0x60100 + n * 0x40
def REF_CFG_Enable (n : Nat) : Fld := ⟨REF_CFG n, 0, 1⟩
def REF_CFG_Rank (n : Nat) : Fld := ⟨REF_CFG n, 1, 4⟩
def REF_CFG_Type (n : Nat) : Fld := ⟨REF_CFG n, 5, 3⟩
def REF_CFG_Edge (n : Nat) : Fld := ⟨REF_CFG n, 8, 1⟩
def REF_CFG_BoDecay (n : Nat) : Fld := ⟨REF_CFG n, 9, 1⟩
/-- REED.REFk_FWIN (03_reed_references.md). -/
def REF_FWIN (n : Nat) : Nat := 0x60104 + n * 0x40
def REF_FWIN_Ppb (n : Nat) : Fld := ⟨REF_FWIN n, 0, 24⟩
/-- REED.REFk_PWIN (03_reed_references.md). -/
def REF_PWIN (n : Nat) : Nat := 0x60108 + n * 0x40
def REF_PWIN_Ns (n : Nat) : Fld := ⟨REF_PWIN n, 0, 32⟩
/-- REED.REFk_WTR (03_reed_references.md). -/
def REF_WTR (n : Nat) : Nat := 0x6010c + n * 0x40
def REF_WTR_Sec (n : Nat) : Fld := ⟨REF_WTR n, 0, 12⟩
/-- REED.REFk_RATE (03_reed_references.md). -/
def REF_RATE (n : Nat) : Nat := 0x60110 + n * 0x40
def REF_RATE_RateNum (n : Nat) : Fld := ⟨REF_RATE n, 0, 18⟩
def REF_RATE_RateDen (n : Nat) : Fld := ⟨REF_RATE n, 18, 10⟩
/-- REED.REFk_STATUS (03_reed_references.md). -/
def REF_STATUS (n : Nat) : Nat := 0x60114 + n * 0x40
def REF_STATUS_State (n : Nat) : Fld := ⟨REF_STATUS n, 0, 3⟩
def REF_STATUS_EverQual (n : Nat) : Fld := ⟨REF_STATUS n, 3, 1⟩
def REF_STATUS_Reason (n : Nat) : Fld := ⟨REF_STATUS n, 4, 4⟩
def REF_STATUS_Timer (n : Nat) : Fld := ⟨REF_STATUS n, 8, 20⟩
/-- REED.REFk_FREQ (03_reed_references.md). -/
def REF_FREQ (n : Nat) : Nat := 0x60118 + n * 0x40
def REF_FREQ_Freq (n : Nat) : Fld := ⟨REF_FREQ n, 0, 32⟩
/-- REED.REFk_PHPP (03_reed_references.md). -/
def REF_PHPP (n : Nat) : Nat := 0x6011c + n * 0x40
def REF_PHPP_Ns (n : Nat) : Fld := ⟨REF_PHPP n, 0, 32⟩
/-- REED.CNT_REFk_FAIL (03_reed_references.md). -/
def CNT_REF_FAIL (n : Nat) : Nat := 0x60120 + n * 0x40
def CNT_REF_FAIL_Count (n : Nat) : Fld := ⟨CNT_REF_FAIL n, 0, 32⟩
/-- REED.FPOj_CFG (03_reed_references.md). -/
def FPO_CFG (n : Nat) : Nat := 0x60400 + n * 0x20
def FPO_CFG_Mode (n : Nat) : Fld := ⟨FPO_CFG n, 0, 2⟩
def FPO_CFG_Source (n : Nat) : Fld := ⟨FPO_CFG n, 2, 1⟩
def FPO_CFG_Polarity (n : Nat) : Fld := ⟨FPO_CFG n, 3, 1⟩
def FPO_CFG_StepAllowed (n : Nat) : Fld := ⟨FPO_CFG n, 4, 1⟩
/-- REED.FPOj_RATE (03_reed_references.md). -/
def FPO_RATE (n : Nat) : Nat := 0x60404 + n * 0x20
def FPO_RATE_RateNum (n : Nat) : Fld := ⟨FPO_RATE n, 0, 18⟩
def FPO_RATE_RateDen (n : Nat) : Fld := ⟨FPO_RATE n, 18, 10⟩
/-- REED.FPOj_OFFSET (03_reed_references.md). -/
def FPO_OFFSET (n : Nat) : Nat := 0x60408 + n * 0x20
def FPO_OFFSET_Offset (n : Nat) : Fld := ⟨FPO_OFFSET n, 0, 32⟩
/-- REED.FPOj_WIDTH (03_reed_references.md). -/
def FPO_WIDTH (n : Nat) : Nat := 0x6040c + n * 0x20
def FPO_WIDTH_Width (n : Nat) : Fld := ⟨FPO_WIDTH n, 0, 28⟩
/-- REED.FPOj_ALIGN (03_reed_references.md). -/
def FPO_ALIGN (n : Nat) : Nat := 0x60410 + n * 0x20
def FPO_ALIGN_AlignSlew (n : Nat) : Fld := ⟨FPO_ALIGN n, 0, 16⟩
def FPO_ALIGN_AlignTol (n : Nat) : Fld := ⟨FPO_ALIGN n, 16, 16⟩
/-- REED.FPOj_STATUS (03_reed_references.md). -/
def FPO_STATUS (n : Nat) : Nat := 0x60414 + n * 0x20
def FPO_STATUS_Aligned (n : Nat) : Fld := ⟨FPO_STATUS n, 0, 1⟩
def FPO_STATUS_Flywheel (n : Nat) : Fld := ⟨FPO_STATUS n, 1, 1⟩
def FPO_STATUS_Realigning (n : Nat) : Fld := ⟨FPO_STATUS n, 2, 1⟩
/-- REED.FPOj_ERR (03_reed_references.md). -/
def FPO_ERR (n : Nat) : Nat := 0x60418 + n * 0x20
def FPO_ERR_Err (n : Nat) : Fld := ⟨FPO_ERR n, 0, 32⟩
/-- REED.CNT_FPOj_REALIGN (03_reed_references.md). -/
def CNT_FPO_REALIGN (n : Nat) : Nat := 0x6041c + n * 0x20
def CNT_FPO_REALIGN_Count (n : Nat) : Fld := ⟨CNT_FPO_REALIGN n, 0, 32⟩
/-- SYNTH.SYN_CTRL (04_synthesis_clock_outputs.md). -/
def SYN_CTRL : Nat := 0x64000
def SYN_CTRL_Mcs0En : Fld := ⟨SYN_CTRL, 0, 1⟩
def SYN_CTRL_Mcs1En : Fld := ⟨SYN_CTRL, 1, 1⟩
/-- SYNTH.SYN_STATUS (04_synthesis_clock_outputs.md). -/
def SYN_STATUS : Nat := 0x64004
def SYN_STATUS_Busy : Fld := ⟨SYN_STATUS, 0, 1⟩
/-- SYNTH.LOCKA_CFG (04_synthesis_clock_outputs.md). -/
def LOCKA_CFG : Nat := 0x64010
def LOCKA_CFG_Mask : Fld := ⟨LOCKA_CFG, 0, 2⟩
/-- SYNTH.DSMCLK_SEL (04_synthesis_clock_outputs.md). -/
def DSMCLK_SEL : Nat := 0x64014
def DSMCLK_SEL_Srck : Fld := ⟨DSMCLK_SEL, 0, 16⟩
/-- SYNTH.MCSs_CFG (04_synthesis_clock_outputs.md). -/
def MCS_CFG (n : Nat) : Nat := 0x64100 + n * 0x80
def MCS_CFG_HoldOutputs (n : Nat) : Fld := ⟨MCS_CFG n, 0, 1⟩
def MCS_CFG_Method (n : Nat) : Fld := ⟨MCS_CFG n, 1, 1⟩
def MCS_CFG_Track (n : Nat) : Fld := ⟨MCS_CFG n, 2, 1⟩
def MCS_CFG_Clamp (n : Nat) : Fld := ⟨MCS_CFG n, 3, 13⟩
/-- SYNTH.MCSs_FREQ (04_synthesis_clock_outputs.md). -/
def MCS_FREQ (n : Nat) : Nat := 0x64104 + n * 0x80
def MCS_FREQ_Hz (n : Nat) : Fld := ⟨MCS_FREQ n, 0, 28⟩
def MCS_FREQ_Pulldown (n : Nat) : Fld := ⟨MCS_FREQ n, 28, 1⟩
/-- SYNTH.MCSs_RETUNE (04_synthesis_clock_outputs.md). -/
def MCS_RETUNE (n : Nat) : Nat := 0x64108 + n * 0x80
def MCS_RETUNE_RetuneSlope (n : Nat) : Fld := ⟨MCS_RETUNE n, 0, 17⟩
/-- SYNTH.MCSs_STATUS (04_synthesis_clock_outputs.md). -/
def MCS_STATUS (n : Nat) : Nat := 0x6410c + n * 0x80
def MCS_STATUS_State (n : Nat) : Fld := ⟨MCS_STATUS n, 0, 2⟩
def MCS_STATUS_Held (n : Nat) : Fld := ⟨MCS_STATUS n, 2, 1⟩
def MCS_STATUS_Family (n : Nat) : Fld := ⟨MCS_STATUS n, 3, 1⟩
def MCS_STATUS_MulM (n : Nat) : Fld := ⟨MCS_STATUS n, 4, 2⟩
/-- SYNTH.MCSs_CNT_UNLOCK (04_synthesis_clock_outputs.md). -/
def MCS_CNT_UNLOCK (n : Nat) : Nat := 0x64110 + n * 0x80
def MCS_CNT_UNLOCK_Count (n : Nat) : Fld := ⟨MCS_CNT_UNLOCK n, 0, 32⟩
/-- SYNTH.RAMP_CTRL (04_synthesis_clock_outputs.md). -/
def RAMP_CTRL (n : Nat) : Nat := 0x64120 + n * 0x80
def RAMP_CTRL_Start (n : Nat) : Fld := ⟨RAMP_CTRL n, 0, 1⟩
def RAMP_CTRL_Abort (n : Nat) : Fld := ⟨RAMP_CTRL n, 1, 1⟩
def RAMP_CTRL_Zero (n : Nat) : Fld := ⟨RAMP_CTRL n, 2, 1⟩
def RAMP_CTRL_ZeroSlope (n : Nat) : Fld := ⟨RAMP_CTRL n, 8, 24⟩
/-- SYNTH.RAMP_STATUS (04_synthesis_clock_outputs.md). -/
def RAMP_STATUS (n : Nat) : Nat := 0x64124 + n * 0x80
def RAMP_STATUS_Segment (n : Nat) : Fld := ⟨RAMP_STATUS n, 0, 3⟩
def RAMP_STATUS_Running (n : Nat) : Fld := ⟨RAMP_STATUS n, 3, 1⟩
def RAMP_STATUS_Result (n : Nat) : Fld := ⟨RAMP_STATUS n, 4, 2⟩
/-- SYNTH.RAMP_OFFSET (04_synthesis_clock_outputs.md). -/
def RAMP_OFFSET (n : Nat) : Nat := 0x64128 + n * 0x80
def RAMP_OFFSET_Ppb (n : Nat) : Fld := ⟨RAMP_OFFSET n, 0, 32⟩
/-- SYNTH.RAMP_SEGk_SLOPE (04_synthesis_clock_outputs.md). -/
def RAMP_SEG_SLOPE (n k : Nat) : Nat := 0x64140 + n * 0x80 + k * 0x8
def RAMP_SEG_SLOPE_Slope (n k : Nat) : Fld := ⟨RAMP_SEG_SLOPE n k, 0, 24⟩
/-- SYNTH.RAMP_SEGk_DUR (04_synthesis_clock_outputs.md). -/
def RAMP_SEG_DUR (n k : Nat) : Nat := 0x64144 + n * 0x80 + k * 0x8
def RAMP_SEG_DUR_Ms (n k : Nat) : Fld := ⟨RAMP_SEG_DUR n k, 0, 16⟩
/-- SYNTH.CKOi_CFG (04_synthesis_clock_outputs.md). -/
def CKO_CFG (n : Nat) : Nat := 0x64400 + n * 0x10
def CKO_CFG_Enable (n : Nat) : Fld := ⟨CKO_CFG n, 0, 1⟩
def CKO_CFG_Source (n : Nat) : Fld := ⟨CKO_CFG n, 1, 1⟩
def CKO_CFG_Align (n : Nat) : Fld := ⟨CKO_CFG n, 2, 1⟩
def CKO_CFG_Lvds (n : Nat) : Fld := ⟨CKO_CFG n, 3, 1⟩
def CKO_CFG_Invert (n : Nat) : Fld := ⟨CKO_CFG n, 4, 1⟩
/-- SYNTH.CKOi_DIV (04_synthesis_clock_outputs.md). -/
def CKO_DIV (n : Nat) : Nat := 0x64404 + n * 0x10
def CKO_DIV_Div (n : Nat) : Fld := ⟨CKO_DIV n, 0, 16⟩
/-- SYNTH.CKOi_PHASE (04_synthesis_clock_outputs.md). -/
def CKO_PHASE (n : Nat) : Nat := 0x64408 + n * 0x10
def CKO_PHASE_Target (n : Nat) : Fld := ⟨CKO_PHASE n, 0, 16⟩
def CKO_PHASE_WalkDiv (n : Nat) : Fld := ⟨CKO_PHASE n, 16, 8⟩
/-- SYNTH.CKOi_STATUS (04_synthesis_clock_outputs.md). -/
def CKO_STATUS (n : Nat) : Nat := 0x6440c + n * 0x10
def CKO_STATUS_Phase (n : Nat) : Fld := ⟨CKO_STATUS n, 0, 16⟩
def CKO_STATUS_Running (n : Nat) : Fld := ⟨CKO_STATUS n, 16, 1⟩
def CKO_STATUS_Walking (n : Nat) : Fld := ⟨CKO_STATUS n, 17, 1⟩
/-- MAC.MAC_CTRL (05_network_ports.md). -/
def MAC_CTRL (n : Nat) : Nat := 0x10000 + n * 0x1000
def MAC_CTRL_RxEnable (n : Nat) : Fld := ⟨MAC_CTRL n, 0, 1⟩
def MAC_CTRL_TxEnable (n : Nat) : Fld := ⟨MAC_CTRL n, 1, 1⟩
def MAC_CTRL_StateReq (n : Nat) : Fld := ⟨MAC_CTRL n, 2, 2⟩
def MAC_CTRL_Promiscuous (n : Nat) : Fld := ⟨MAC_CTRL n, 4, 1⟩
def MAC_CTRL_PassAllGroups (n : Nat) : Fld := ⟨MAC_CTRL n, 5, 1⟩
def MAC_CTRL_AcceptBroadcast (n : Nat) : Fld := ⟨MAC_CTRL n, 6, 1⟩
def MAC_CTRL_PtpEnable (n : Nat) : Fld := ⟨MAC_CTRL n, 7, 1⟩
def MAC_CTRL_LldpEnable (n : Nat) : Fld := ⟨MAC_CTRL n, 8, 1⟩
def MAC_CTRL_DefaultPri (n : Nat) : Fld := ⟨MAC_CTRL n, 9, 3⟩
/-- MAC.MAC_STATUS (05_network_ports.md). -/
def MAC_STATUS (n : Nat) : Nat := 0x10004 + n * 0x1000
def MAC_STATUS_State (n : Nat) : Fld := ⟨MAC_STATUS n, 0, 3⟩
def MAC_STATUS_CntSaturated (n : Nat) : Fld := ⟨MAC_STATUS n, 3, 1⟩
def MAC_STATUS_Paused (n : Nat) : Fld := ⟨MAC_STATUS n, 4, 8⟩
def MAC_STATUS_Spent (n : Nat) : Fld := ⟨MAC_STATUS n, 12, 8⟩
def MAC_STATUS_PfcOut (n : Nat) : Fld := ⟨MAC_STATUS n, 20, 8⟩
/-- MAC.MAX_FRAME (05_network_ports.md). -/
def MAX_FRAME (n : Nat) : Nat := 0x10008 + n * 0x1000
def MAX_FRAME_Bytes (n : Nat) : Fld := ⟨MAX_FRAME n, 0, 14⟩
/-- MAC.STA_ADDRk_LO (05_network_ports.md). -/
def STA_ADDR_LO (n k : Nat) : Nat := 0x10010 + n * 0x1000 + k * 0x8
def STA_ADDR_LO_Addr (n k : Nat) : Fld := ⟨STA_ADDR_LO n k, 0, 32⟩
/-- MAC.STA_ADDRk_HI (05_network_ports.md). -/
def STA_ADDR_HI (n k : Nat) : Nat := 0x10014 + n * 0x1000 + k * 0x8
def STA_ADDR_HI_Addr (n k : Nat) : Fld := ⟨STA_ADDR_HI n k, 0, 16⟩
def STA_ADDR_HI_Valid (n k : Nat) : Fld := ⟨STA_ADDR_HI n k, 31, 1⟩
/-- MAC.PAUSE_CFG (05_network_ports.md). -/
def PAUSE_CFG (n : Nat) : Nat := 0x10030 + n * 0x1000
def PAUSE_CFG_WdLimit (n : Nat) : Fld := ⟨PAUSE_CFG n, 0, 16⟩
def PAUSE_CFG_TxPfcEnable (n : Nat) : Fld := ⟨PAUSE_CFG n, 16, 1⟩
def PAUSE_CFG_AcceptGlobalPause (n : Nat) : Fld := ⟨PAUSE_CFG n, 17, 1⟩
/-- MAC.PFC_QUANTA (05_network_ports.md). -/
def PFC_QUANTA (n : Nat) : Nat := 0x10034 + n * 0x1000
def PFC_QUANTA_Quanta (n : Nat) : Fld := ⟨PFC_QUANTA n, 0, 16⟩
def PFC_QUANTA_RefreshQuanta (n : Nat) : Fld := ⟨PFC_QUANTA n, 16, 16⟩
/-- MAC.PRI_CFGp (05_network_ports.md). -/
def PRI_CFG (n k : Nat) : Nat := 0x10040 + n * 0x1000 + k * 0x8
def PRI_CFG_RxQueue (n k : Nat) : Fld := ⟨PRI_CFG n k, 0, 12⟩
def PRI_CFG_UseQueue (n k : Nat) : Fld := ⟨PRI_CFG n k, 12, 1⟩
def PRI_CFG_Class (n k : Nat) : Fld := ⟨PRI_CFG n k, 13, 2⟩
/-- MAC.PFC_WMp (05_network_ports.md). -/
def PFC_WM (n k : Nat) : Nat := 0x10044 + n * 0x1000 + k * 0x8
def PFC_WM_HighCells (n k : Nat) : Fld := ⟨PFC_WM n k, 0, 16⟩
def PFC_WM_LowCells (n k : Nat) : Fld := ⟨PFC_WM n k, 16, 16⟩
/-- MAC.RX_TS_ADJ (05_network_ports.md). -/
def RX_TS_ADJ (n : Nat) : Nat := 0x10080 + n * 0x1000
def RX_TS_ADJ_Adj (n : Nat) : Fld := ⟨RX_TS_ADJ n, 0, 32⟩
/-- MAC.TX_TS_ADJ (05_network_ports.md). -/
def TX_TS_ADJ (n : Nat) : Nat := 0x10084 + n * 0x1000
def TX_TS_ADJ_Adj (n : Nat) : Fld := ⟨TX_TS_ADJ n, 0, 32⟩
/-- MAC.TS_STATUS (05_network_ports.md). -/
def TS_STATUS (n : Nat) : Nat := 0x10088 + n * 0x1000
def TS_STATUS_Used (n : Nat) : Fld := ⟨TS_STATUS n, 0, 7⟩
def TS_STATUS_LostTags (n : Nat) : Fld := ⟨TS_STATUS n, 8, 3⟩
/-- MAC.TS_POP_TAG (05_network_ports.md). -/
def TS_POP_TAG (n : Nat) : Nat := 0x1008c + n * 0x1000
def TS_POP_TAG_Tag (n : Nat) : Fld := ⟨TS_POP_TAG n, 0, 16⟩
def TS_POP_TAG_Valid (n : Nat) : Fld := ⟨TS_POP_TAG n, 16, 1⟩
def TS_POP_TAG_Ptp (n : Nat) : Fld := ⟨TS_POP_TAG n, 17, 1⟩
/-- MAC.TS_SEC_LO (05_network_ports.md). -/
def TS_SEC_LO (n : Nat) : Nat := 0x10090 + n * 0x1000
def TS_SEC_LO_Sec (n : Nat) : Fld := ⟨TS_SEC_LO n, 0, 32⟩
/-- MAC.TS_SEC_HI (05_network_ports.md). -/
def TS_SEC_HI (n : Nat) : Nat := 0x10094 + n * 0x1000
def TS_SEC_HI_Sec (n : Nat) : Fld := ⟨TS_SEC_HI n, 0, 16⟩
/-- MAC.TS_NS (05_network_ports.md). -/
def TS_NS (n : Nat) : Nat := 0x10098 + n * 0x1000
def TS_NS_Ns (n : Nat) : Fld := ⟨TS_NS n, 0, 30⟩
/-- MAC.TS_FRAC (05_network_ports.md). -/
def TS_FRAC (n : Nat) : Nat := 0x1009c + n * 0x1000
def TS_FRAC_Frac (n : Nat) : Fld := ⟨TS_FRAC n, 0, 16⟩
/-- MAC.LOST_TAG (05_network_ports.md). -/
def LOST_TAG (n : Nat) : Nat := 0x100a0 + n * 0x1000
def LOST_TAG_Tag (n : Nat) : Fld := ⟨LOST_TAG n, 0, 16⟩
def LOST_TAG_Valid (n : Nat) : Fld := ⟨LOST_TAG n, 16, 1⟩
/-- MAC.CT_RULEk_DA_LO (05_network_ports.md). -/
def CT_RULE_DA_LO (n k : Nat) : Nat := 0x10100 + n * 0x1000 + k * 0x10
def CT_RULE_DA_LO_Addr (n k : Nat) : Fld := ⟨CT_RULE_DA_LO n k, 0, 32⟩
/-- MAC.CT_RULEk_DA_HI (05_network_ports.md). -/
def CT_RULE_DA_HI (n k : Nat) : Nat := 0x10104 + n * 0x1000 + k * 0x10
def CT_RULE_DA_HI_Addr (n k : Nat) : Fld := ⟨CT_RULE_DA_HI n k, 0, 16⟩
def CT_RULE_DA_HI_Vid (n k : Nat) : Fld := ⟨CT_RULE_DA_HI n k, 16, 12⟩
def CT_RULE_DA_HI_VidMatch (n k : Nat) : Fld := ⟨CT_RULE_DA_HI n k, 28, 1⟩
def CT_RULE_DA_HI_Valid (n k : Nat) : Fld := ⟨CT_RULE_DA_HI n k, 31, 1⟩
/-- MAC.CT_RULEk_ACT (05_network_ports.md). -/
def CT_RULE_ACT (n k : Nat) : Nat := 0x10108 + n * 0x1000 + k * 0x10
def CT_RULE_ACT_EgressMask (n k : Nat) : Fld := ⟨CT_RULE_ACT n k, 0, 4⟩
def CT_RULE_ACT_ThresholdBytes (n k : Nat) : Fld := ⟨CT_RULE_ACT n k, 4, 12⟩
def CT_RULE_ACT_Queue (n k : Nat) : Fld := ⟨CT_RULE_ACT n k, 16, 12⟩
/-- MAC.CNT_HIGH0 (05_network_ports.md). -/
def CNT_HIGH0 (n : Nat) : Nat := 0x10300 + n * 0x1000
def CNT_HIGH0_High (n : Nat) : Fld := ⟨CNT_HIGH0 n, 0, 32⟩
/-- MAC.CNT_HIGH1 (05_network_ports.md). -/
def CNT_HIGH1 (n : Nat) : Nat := 0x10304 + n * 0x1000
def CNT_HIGH1_High (n : Nat) : Fld := ⟨CNT_HIGH1 n, 0, 20⟩
/-- MAC.LINK_DOWN (05_network_ports.md). -/
def LINK_DOWN (n : Nat) : Nat := 0x10308 + n * 0x1000
def LINK_DOWN_Count (n : Nat) : Fld := ⟨LINK_DOWN n, 0, 32⟩
/-- MAC.CNT_HALF (05_network_ports.md). -/
def CNT_HALF (n : Nat) : Nat := 0x1030c + n * 0x1000
def CNT_HALF_Count (n : Nat) : Fld := ⟨CNT_HALF n, 0, 32⟩
/-- MAC.Counter i (05_network_ports.md). -/
def PORT_CNT (n k : Nat) : Nat := 0x10400 + n * 0x1000 + k * 0x4
def PORT_CNT_Count (n k : Nat) : Fld := ⟨PORT_CNT n k, 0, 32⟩
/-- MAC.Counter i HARVEST (05_network_ports.md). -/
def PORT_HARVEST (n k : Nat) : Nat := 0x10600 + n * 0x1000 + k * 0x4
def PORT_HARVEST_Count (n k : Nat) : Fld := ⟨PORT_HARVEST n k, 0, 32⟩
/-- MAC.GRPg_LO (05_network_ports.md). -/
def MGRP_LO (n k : Nat) : Nat := 0x10800 + n * 0x1000 + k * 0x8
def MGRP_LO_Addr (n k : Nat) : Fld := ⟨MGRP_LO n k, 0, 32⟩
/-- MAC.GRPg_HI (05_network_ports.md). -/
def MGRP_HI (n k : Nat) : Nat := 0x10804 + n * 0x1000 + k * 0x8
def MGRP_HI_Addr (n k : Nat) : Fld := ⟨MGRP_HI n k, 0, 16⟩
def MGRP_HI_Valid (n k : Nat) : Fld := ⟨MGRP_HI n k, 31, 1⟩
/-- PCS.PCS_CTRL (05_network_ports.md). -/
def PCS_CTRL (n : Nat) : Nat := 0x18000 + n * 0x1000
def PCS_CTRL_Enable (n : Nat) : Fld := ⟨PCS_CTRL n, 0, 1⟩
def PCS_CTRL_Mode (n : Nat) : Fld := ⟨PCS_CTRL n, 1, 2⟩
def PCS_CTRL_RsFec (n : Nat) : Fld := ⟨PCS_CTRL n, 3, 1⟩
def PCS_CTRL_AnEnable (n : Nat) : Fld := ⟨PCS_CTRL n, 4, 1⟩
def PCS_CTRL_Training (n : Nat) : Fld := ⟨PCS_CTRL n, 5, 1⟩
def PCS_CTRL_Loopback (n : Nat) : Fld := ⟨PCS_CTRL n, 6, 2⟩
def PCS_CTRL_PrbsGen (n : Nat) : Fld := ⟨PCS_CTRL n, 8, 1⟩
def PCS_CTRL_PrbsCheck (n : Nat) : Fld := ⟨PCS_CTRL n, 9, 1⟩
def PCS_CTRL_PrbsSel (n : Nat) : Fld := ⟨PCS_CTRL n, 10, 1⟩
/-- PCS.PCS_STATUS (05_network_ports.md). -/
def PCS_STATUS (n : Nat) : Nat := 0x18004 + n * 0x1000
def PCS_STATUS_Busy (n : Nat) : Fld := ⟨PCS_STATUS n, 0, 1⟩
def PCS_STATUS_SignalDetect (n : Nat) : Fld := ⟨PCS_STATUS n, 1, 1⟩
def PCS_STATUS_BlockLock (n : Nat) : Fld := ⟨PCS_STATUS n, 2, 1⟩
def PCS_STATUS_FecLock (n : Nat) : Fld := ⟨PCS_STATUS n, 3, 1⟩
def PCS_STATUS_HiBer (n : Nat) : Fld := ⟨PCS_STATUS n, 4, 1⟩
def PCS_STATUS_AnDone (n : Nat) : Fld := ⟨PCS_STATUS n, 5, 1⟩
def PCS_STATUS_TrainDone (n : Nat) : Fld := ⟨PCS_STATUS n, 6, 1⟩
def PCS_STATUS_LinkUp (n : Nat) : Fld := ⟨PCS_STATUS n, 7, 1⟩
/-- PCS.PCS_CMD (05_network_ports.md). -/
def PCS_CMD (n : Nat) : Nat := 0x18008 + n * 0x1000
def PCS_CMD_Restart (n : Nat) : Fld := ⟨PCS_CMD n, 0, 1⟩
def PCS_CMD_Adapt (n : Nat) : Fld := ⟨PCS_CMD n, 1, 1⟩
/-- PCS.ERR_BLOCKS (05_network_ports.md). -/
def ERR_BLOCKS (n : Nat) : Nat := 0x1800c + n * 0x1000
def ERR_BLOCKS_Count (n : Nat) : Fld := ⟨ERR_BLOCKS n, 0, 32⟩
/-- PCS.PRBS_ERR (05_network_ports.md). -/
def PRBS_ERR (n : Nat) : Nat := 0x18010 + n * 0x1000
def PRBS_ERR_Count (n : Nat) : Fld := ⟨PRBS_ERR n, 0, 32⟩
/-- PCS.EYE_MARGIN (05_network_ports.md). -/
def EYE_MARGIN (n : Nat) : Nat := 0x18014 + n * 0x1000
def EYE_MARGIN_HeightMv (n : Nat) : Fld := ⟨EYE_MARGIN n, 0, 8⟩
def EYE_MARGIN_Width (n : Nat) : Fld := ⟨EYE_MARGIN n, 8, 8⟩
/-- PCS.TX_EQ (05_network_ports.md). -/
def TX_EQ (n : Nat) : Nat := 0x18018 + n * 0x1000
def TX_EQ_Pre (n : Nat) : Fld := ⟨TX_EQ n, 0, 6⟩
def TX_EQ_Main (n : Nat) : Fld := ⟨TX_EQ n, 6, 6⟩
def TX_EQ_Post (n : Nat) : Fld := ⟨TX_EQ n, 12, 6⟩
/-- WARP.WARP_CTRL (06_stream_receive.md). -/
def WARP_CTRL : Nat := 0x20000
def WARP_CTRL_Enable : Fld := ⟨WARP_CTRL, 0, 1⟩
/-- WARP.WARP_STATUS (06_stream_receive.md). -/
def WARP_STATUS : Nat := 0x20004
def WARP_STATUS_Channels : Fld := ⟨WARP_STATUS, 0, 13⟩
def WARP_STATUS_Streams : Fld := ⟨WARP_STATUS, 13, 11⟩
/-- WARP.LOSS_PICKS (06_stream_receive.md). -/
def LOSS_PICKS : Nat := 0x20008
def LOSS_PICKS_Picks : Fld := ⟨LOSS_PICKS, 0, 16⟩
/-- WARP.PDV_WINDOW (06_stream_receive.md). -/
def PDV_WINDOW : Nat := 0x2000c
def PDV_WINDOW_Ms : Fld := ⟨PDV_WINDOW, 0, 16⟩
/-- WARP.SE_SEL (06_stream_receive.md). -/
def SE_SEL : Nat := 0x20010
def SE_SEL_Stream : Fld := ⟨SE_SEL, 0, 10⟩
/-- WARP.SE_CMD (06_stream_receive.md). -/
def SE_CMD : Nat := 0x20014
def SE_CMD_Read : Fld := ⟨SE_CMD, 0, 1⟩
def SE_CMD_Write : Fld := ⟨SE_CMD, 1, 1⟩
def SE_CMD_ClearCnt : Fld := ⟨SE_CMD, 2, 1⟩
/-- WARP.SE_RESULT (06_stream_receive.md). -/
def SE_RESULT : Nat := 0x20018
def SE_RESULT_Code : Fld := ⟨SE_RESULT, 0, 8⟩
def SE_RESULT_Seq : Fld := ⟨SE_RESULT, 16, 16⟩
/-- WARP.SE_CTRL (06_stream_receive.md). -/
def SE_CTRL : Nat := 0x20040
def SE_CTRL_Valid : Fld := ⟨SE_CTRL, 0, 1⟩
def SE_CTRL_Format : Fld := ⟨SE_CTRL, 1, 3⟩
def SE_CTRL_PortMask : Fld := ⟨SE_CTRL, 4, 4⟩
def SE_CTRL_Period : Fld := ⟨SE_CTRL, 8, 4⟩
def SE_CTRL_ConcealMode : Fld := ⟨SE_CTRL, 12, 2⟩
def SE_CTRL_SsrcMatch : Fld := ⟨SE_CTRL, 14, 1⟩
def SE_CTRL_PtCheck : Fld := ⟨SE_CTRL, 15, 1⟩
def SE_CTRL_PayloadType : Fld := ⟨SE_CTRL, 16, 7⟩
def SE_CTRL_Chans : Fld := ⟨SE_CTRL, 23, 8⟩
/-- WARP.SE_DA_LO (06_stream_receive.md). -/
def SE_DA_LO : Nat := 0x20044
def SE_DA_LO_Addr : Fld := ⟨SE_DA_LO, 0, 32⟩
/-- WARP.SE_DA_HI (06_stream_receive.md). -/
def SE_DA_HI : Nat := 0x20048
def SE_DA_HI_Addr : Fld := ⟨SE_DA_HI, 0, 16⟩
/-- WARP.SE_KEY0 (06_stream_receive.md). -/
def SE_KEY0 : Nat := 0x2004c
def SE_KEY0_Key0 : Fld := ⟨SE_KEY0, 0, 32⟩
/-- WARP.SE_KEY1 (06_stream_receive.md). -/
def SE_KEY1 : Nat := 0x20050
def SE_KEY1_Key1 : Fld := ⟨SE_KEY1, 0, 32⟩
/-- WARP.SE_SSRC (06_stream_receive.md). -/
def SE_SSRC : Nat := 0x20054
def SE_SSRC_Ssrc : Fld := ⟨SE_SSRC, 0, 32⟩
/-- WARP.SE_SLOT (06_stream_receive.md). -/
def SE_SLOT : Nat := 0x20058
def SE_SLOT_FirstSlot : Fld := ⟨SE_SLOT, 0, 12⟩
def SE_SLOT_Queue : Fld := ⟨SE_SLOT, 16, 12⟩
/-- WARP.SE_TIMING (06_stream_receive.md). -/
def SE_TIMING : Nat := 0x2005c
def SE_TIMING_PresentOffset : Fld := ⟨SE_TIMING, 0, 12⟩
def SE_TIMING_EarlyTol : Fld := ⟨SE_TIMING, 12, 12⟩
def SE_TIMING_ConcealLen : Fld := ⟨SE_TIMING, 24, 8⟩
/-- WARP.SE_CLKOFF (06_stream_receive.md). -/
def SE_CLKOFF : Nat := 0x20060
def SE_CLKOFF_Offset : Fld := ⟨SE_CLKOFF, 0, 32⟩
/-- WARP.SE_TWILL (06_stream_receive.md). -/
def SE_TWILL : Nat := 0x20064
def SE_TWILL_DigestExtId : Fld := ⟨SE_TWILL, 0, 4⟩
def SE_TWILL_VerifyDigest : Fld := ⟨SE_TWILL, 4, 1⟩
def SE_TWILL_TwillEnable : Fld := ⟨SE_TWILL, 5, 1⟩
def SE_TWILL_ExpectPair : Fld := ⟨SE_TWILL, 6, 1⟩
/-- WARP.SE_MARK (06_stream_receive.md). -/
def SE_MARK : Nat := 0x20068
def SE_MARK_Absent : Fld := ⟨SE_MARK, 0, 1⟩
/-- WARP.SE_STATE (06_stream_receive.md). -/
def SE_STATE : Nat := 0x20080
def SE_STATE_State : Fld := ⟨SE_STATE, 0, 2⟩
def SE_STATE_Phase : Fld := ⟨SE_STATE, 2, 6⟩
/-- WARP.SE_ARR_MIN (06_stream_receive.md). -/
def SE_ARR_MIN : Nat := 0x20084
def SE_ARR_MIN_Ns : Fld := ⟨SE_ARR_MIN, 0, 32⟩
/-- WARP.SE_ARR_MAX (06_stream_receive.md). -/
def SE_ARR_MAX : Nat := 0x20088
def SE_ARR_MAX_Ns : Fld := ⟨SE_ARR_MAX, 0, 32⟩
/-- WARP.SE_PDV (06_stream_receive.md). -/
def SE_PDV : Nat := 0x2008c
def SE_PDV_Ns : Fld := ⟨SE_PDV, 0, 32⟩
/-- WARP.SE_SKEW_MAX (06_stream_receive.md). -/
def SE_SKEW_MAX : Nat := 0x20090
def SE_SKEW_MAX_Ns : Fld := ⟨SE_SKEW_MAX, 0, 32⟩
/-- WARP.SE_HEADROOM (06_stream_receive.md). -/
def SE_HEADROOM : Nat := 0x20094
def SE_HEADROOM_Ns : Fld := ⟨SE_HEADROOM, 0, 32⟩
/-- WARP.SE_LAST_SEQ (06_stream_receive.md). -/
def SE_LAST_SEQ : Nat := 0x20098
def SE_LAST_SEQ_Seq : Fld := ⟨SE_LAST_SEQ, 0, 16⟩
/-- WARP.SE_CNT_k (06_stream_receive.md). -/
def SE_CNT (n : Nat) : Nat := 0x200c0 + n * 0x4
def SE_CNT_Count (n : Nat) : Fld := ⟨SE_CNT n, 0, 32⟩
/-- WARP.CNT_TWILL_MM (06_stream_receive.md). -/
def CNT_TWILL_MM : Nat := 0x20100
def CNT_TWILL_MM_Count : Fld := ⟨CNT_TWILL_MM, 0, 32⟩
/-- WARP.CNT_TWILL_SINGLE (06_stream_receive.md). -/
def CNT_TWILL_SINGLE : Nat := 0x20104
def CNT_TWILL_SINGLE_Count : Fld := ⟨CNT_TWILL_SINGLE, 0, 32⟩
/-- WARP.CNT_LOST (06_stream_receive.md). -/
def WARP_CNT_LOST : Nat := 0x20108
def WARP_CNT_LOST_Count : Fld := ⟨WARP_CNT_LOST, 0, 32⟩
/-- WARP.CNT_MMLOG_LOST (06_stream_receive.md). -/
def CNT_MMLOG_LOST : Nat := 0x2010c
def CNT_MMLOG_LOST_Count : Fld := ⟨CNT_MMLOG_LOST, 0, 32⟩
/-- WARP.MM_INFO (06_stream_receive.md). -/
def MM_INFO : Nat := 0x20120
def MM_INFO_Stream : Fld := ⟨MM_INFO, 0, 10⟩
def MM_INFO_Valid : Fld := ⟨MM_INFO, 10, 1⟩
def MM_INFO_Reason : Fld := ⟨MM_INFO, 11, 1⟩
/-- WARP.MM_SEQ (06_stream_receive.md). -/
def MM_SEQ : Nat := 0x20124
def MM_SEQ_Seq : Fld := ⟨MM_SEQ, 0, 16⟩
/-- WARP.MM_UNITS (06_stream_receive.md). -/
def MM_UNITS : Nat := 0x20128
def MM_UNITS_First : Fld := ⟨MM_UNITS, 0, 16⟩
def MM_UNITS_Second : Fld := ⟨MM_UNITS, 16, 16⟩
/-- SHUTTLE.SH_CTRL (07_stream_transmit.md). -/
def SH_CTRL : Nat := 0x24000
def SH_CTRL_Enable : Fld := ⟨SH_CTRL, 0, 1⟩
/-- SHUTTLE.SH_STATUS (07_stream_transmit.md). -/
def SH_STATUS : Nat := 0x24004
def SH_STATUS_Channels : Fld := ⟨SH_STATUS, 0, 13⟩
def SH_STATUS_Streams : Fld := ⟨SH_STATUS, 13, 11⟩
/-- SHUTTLE.SH_UNIT (07_stream_transmit.md). -/
def SH_UNIT : Nat := 0x24008
def SH_UNIT_Unit : Fld := ⟨SH_UNIT, 0, 16⟩
/-- SHUTTLE.SH_RELPT (07_stream_transmit.md). -/
def SH_RELPT : Nat := 0x2400c
def SH_RELPT_RelPt : Fld := ⟨SH_RELPT, 0, 12⟩
/-- SHUTTLE.ST_SEL (07_stream_transmit.md). -/
def ST_SEL : Nat := 0x24010
def ST_SEL_Stream : Fld := ⟨ST_SEL, 0, 10⟩
/-- SHUTTLE.ST_CMD (07_stream_transmit.md). -/
def ST_CMD : Nat := 0x24014
def ST_CMD_Read : Fld := ⟨ST_CMD, 0, 1⟩
def ST_CMD_Write : Fld := ⟨ST_CMD, 1, 1⟩
def ST_CMD_ClearCnt : Fld := ⟨ST_CMD, 2, 1⟩
/-- SHUTTLE.ST_RESULT (07_stream_transmit.md). -/
def ST_RESULT : Nat := 0x24018
def ST_RESULT_Code : Fld := ⟨ST_RESULT, 0, 8⟩
def ST_RESULT_Seq : Fld := ⟨ST_RESULT, 16, 16⟩
/-- SHUTTLE.PORT_TXn (07_stream_transmit.md). -/
def PORT_TX (n : Nat) : Nat := 0x24020 + n * 0x4
def PORT_TX_AudioShare (n : Nat) : Fld := ⟨PORT_TX n, 0, 7⟩
/-- SHUTTLE.PORT_IPn (07_stream_transmit.md). -/
def PORT_IP (n : Nat) : Nat := 0x24030 + n * 0x4
def PORT_IP_Addr (n : Nat) : Fld := ⟨PORT_IP n, 0, 32⟩
/-- SHUTTLE.TX_CTRL (07_stream_transmit.md). -/
def TX_CTRL : Nat := 0x24040
def TX_CTRL_Valid : Fld := ⟨TX_CTRL, 0, 1⟩
def TX_CTRL_Format : Fld := ⟨TX_CTRL, 1, 3⟩
def TX_CTRL_PortMask : Fld := ⟨TX_CTRL, 4, 4⟩
def TX_CTRL_Period : Fld := ⟨TX_CTRL, 8, 4⟩
def TX_CTRL_Announce : Fld := ⟨TX_CTRL, 12, 1⟩
def TX_CTRL_TwillTx : Fld := ⟨TX_CTRL, 13, 1⟩
def TX_CTRL_UdpCsum : Fld := ⟨TX_CTRL, 14, 1⟩
def TX_CTRL_PayloadType : Fld := ⟨TX_CTRL, 16, 7⟩
def TX_CTRL_Chans : Fld := ⟨TX_CTRL, 23, 8⟩
/-- SHUTTLE.TX_DA_LO (07_stream_transmit.md). -/
def TX_DA_LO : Nat := 0x24044
def TX_DA_LO_Addr : Fld := ⟨TX_DA_LO, 0, 32⟩
/-- SHUTTLE.TX_DA_HI (07_stream_transmit.md). -/
def TX_DA_HI : Nat := 0x24048
def TX_DA_HI_Addr : Fld := ⟨TX_DA_HI, 0, 16⟩
/-- SHUTTLE.TX_KEY0 (07_stream_transmit.md). -/
def TX_KEY0 : Nat := 0x2404c
def TX_KEY0_Key0 : Fld := ⟨TX_KEY0, 0, 32⟩
/-- SHUTTLE.TX_KEY1 (07_stream_transmit.md). -/
def TX_KEY1 : Nat := 0x24050
def TX_KEY1_Key1 : Fld := ⟨TX_KEY1, 0, 32⟩
/-- SHUTTLE.TX_SSRC (07_stream_transmit.md). -/
def TX_SSRC : Nat := 0x24054
def TX_SSRC_Ssrc : Fld := ⟨TX_SSRC, 0, 32⟩
/-- SHUTTLE.TX_SLOT (07_stream_transmit.md). -/
def TX_SLOT : Nat := 0x24058
def TX_SLOT_FirstSlot : Fld := ⟨TX_SLOT, 0, 12⟩
def TX_SLOT_Queue : Fld := ⟨TX_SLOT, 16, 12⟩
/-- SHUTTLE.TX_TIMING (07_stream_transmit.md). -/
def TX_TIMING : Nat := 0x2405c
def TX_TIMING_StreamPhase : Fld := ⟨TX_TIMING, 0, 6⟩
def TX_TIMING_TxPresentPicks : Fld := ⟨TX_TIMING, 6, 12⟩
/-- SHUTTLE.TX_CLKOFF (07_stream_transmit.md). -/
def TX_CLKOFF : Nat := 0x24060
def TX_CLKOFF_MediaClkOffset : Fld := ⟨TX_CLKOFF, 0, 32⟩
/-- SHUTTLE.TX_SEQ (07_stream_transmit.md). -/
def TX_SEQ : Nat := 0x24064
def TX_SEQ_SeqOffset : Fld := ⟨TX_SEQ, 0, 16⟩
def TX_SEQ_DigestExtId : Fld := ⟨TX_SEQ, 16, 4⟩
/-- SHUTTLE.TX_L3 (07_stream_transmit.md). -/
def TX_L3 : Nat := 0x24068
def TX_L3_Vid : Fld := ⟨TX_L3, 0, 12⟩
def TX_L3_Pcp : Fld := ⟨TX_L3, 12, 3⟩
def TX_L3_Tagged : Fld := ⟨TX_L3, 15, 1⟩
def TX_L3_Dscp : Fld := ⟨TX_L3, 16, 6⟩
def TX_L3_Ttl : Fld := ⟨TX_L3, 22, 8⟩
/-- SHUTTLE.ST_STATE (07_stream_transmit.md). -/
def ST_STATE : Nat := 0x24080
def ST_STATE_State : Fld := ⟨ST_STATE, 0, 2⟩
/-- SHUTTLE.ST_LAST_SEQ (07_stream_transmit.md). -/
def ST_LAST_SEQ : Nat := 0x24084
def ST_LAST_SEQ_Seq : Fld := ⟨ST_LAST_SEQ, 0, 16⟩
/-- SHUTTLE.ST_LAST_DIGEST (07_stream_transmit.md). -/
def ST_LAST_DIGEST : Nat := 0x24088
def ST_LAST_DIGEST_Digest : Fld := ⟨ST_LAST_DIGEST, 0, 32⟩
/-- SHUTTLE.ST_CNT_k (07_stream_transmit.md). -/
def ST_CNT (n : Nat) : Nat := 0x240c0 + n * 0x4
def ST_CNT_Count (n : Nat) : Fld := ⟨ST_CNT n, 0, 32⟩
/-- SHUTTLE.CNT_PAIR_OUT_MM (07_stream_transmit.md). -/
def CNT_PAIR_OUT_MM : Nat := 0x24100
def CNT_PAIR_OUT_MM_Count : Fld := ⟨CNT_PAIR_OUT_MM, 0, 32⟩
/-- SHUTTLE.CNT_PAIR_IN_MM (07_stream_transmit.md). -/
def CNT_PAIR_IN_MM : Nat := 0x24104
def CNT_PAIR_IN_MM_Count : Fld := ⟨CNT_PAIR_IN_MM, 0, 32⟩
/-- SHUTTLE.CNT_DIG_MISSING (07_stream_transmit.md). -/
def CNT_DIG_MISSING : Nat := 0x24108
def CNT_DIG_MISSING_Count : Fld := ⟨CNT_DIG_MISSING, 0, 32⟩
/-- SHUTTLE.CNT_PMLOG_LOST (07_stream_transmit.md). -/
def CNT_PMLOG_LOST : Nat := 0x2410c
def CNT_PMLOG_LOST_Count : Fld := ⟨CNT_PMLOG_LOST, 0, 32⟩
/-- SHUTTLE.PD_CTRL (07_stream_transmit.md). -/
def PD_CTRL : Nat := 0x24110
def PD_CTRL_Exchange : Fld := ⟨PD_CTRL, 0, 1⟩
/-- SHUTTLE.PD_STATUS (07_stream_transmit.md). -/
def PD_STATUS : Nat := 0x24114
def PD_STATUS_Paused : Fld := ⟨PD_STATUS, 0, 1⟩
/-- SHUTTLE.IDIG_MASKk (07_stream_transmit.md). -/
def IDIG_MASK (n : Nat) : Nat := 0x24120 + n * 0x4
def IDIG_MASK_Mask (n : Nat) : Fld := ⟨IDIG_MASK n, 0, 32⟩
/-- SHUTTLE.PM_INFO (07_stream_transmit.md). -/
def PM_INFO : Nat := 0x24130
def PM_INFO_Valid : Fld := ⟨PM_INFO, 0, 1⟩
def PM_INFO_Kind : Fld := ⟨PM_INFO, 1, 1⟩
def PM_INFO_Block : Fld := ⟨PM_INFO, 2, 7⟩
/-- SHUTTLE.PM_PICK_LO (07_stream_transmit.md). -/
def PM_PICK_LO : Nat := 0x24134
def PM_PICK_LO_Pick : Fld := ⟨PM_PICK_LO, 0, 32⟩
/-- SHUTTLE.PM_PICK_HI (07_stream_transmit.md). -/
def PM_PICK_HI : Nat := 0x24138
def PM_PICK_HI_Pick : Fld := ⟨PM_PICK_HI, 0, 32⟩
/-- SHUTTLE.PM_STREAMS (07_stream_transmit.md). -/
def PM_STREAMS : Nat := 0x2413c
def PM_STREAMS_FirstStream : Fld := ⟨PM_STREAMS, 0, 16⟩
def PM_STREAMS_Count : Fld := ⟨PM_STREAMS, 16, 16⟩
/-- BOBBIN.BOB_CTRL (08_bobbin_pool.md). -/
def BOB_CTRL : Nat := 0x28000
def BOB_CTRL_Enable : Fld := ⟨BOB_CTRL, 0, 1⟩
/-- BOBBIN.BOB_STATUS (08_bobbin_pool.md). -/
def BOB_STATUS : Nat := 0x28004
def BOB_STATUS_InitDone : Fld := ⟨BOB_STATUS, 0, 1⟩
def BOB_STATUS_Reclaiming : Fld := ⟨BOB_STATUS, 1, 1⟩
/-- BOBBIN.POOL_SPLIT (08_bobbin_pool.md). -/
def POOL_SPLIT : Nat := 0x28008
def POOL_SPLIT_RingCells : Fld := ⟨POOL_SPLIT, 0, 18⟩
/-- BOBBIN.POOL_SHARE (08_bobbin_pool.md). -/
def POOL_SHARE : Nat := 0x2800c
def POOL_SHARE_Share : Fld := ⟨POOL_SHARE, 0, 5⟩
/-- BOBBIN.LINKED_FREE (08_bobbin_pool.md). -/
def LINKED_FREE : Nat := 0x28010
def LINKED_FREE_Cells : Fld := ⟨LINKED_FREE, 0, 19⟩
/-- BOBBIN.QUOTA_SUM (08_bobbin_pool.md). -/
def QUOTA_SUM : Nat := 0x28014
def QUOTA_SUM_Cells : Fld := ⟨QUOTA_SUM, 0, 19⟩
/-- BOBBIN.RING_USED (08_bobbin_pool.md). -/
def RING_USED : Nat := 0x28018
def RING_USED_Cells : Fld := ⟨RING_USED, 0, 18⟩
/-- BOBBIN.ECC_UNCORR_LINK (08_bobbin_pool.md). -/
def ECC_UNCORR_LINK : Nat := 0x28020
def ECC_UNCORR_LINK_Count : Fld := ⟨ECC_UNCORR_LINK, 0, 32⟩
/-- BOBBIN.ECC_UNCORR_DATA (08_bobbin_pool.md). -/
def ECC_UNCORR_DATA : Nat := 0x28024
def ECC_UNCORR_DATA_Count : Fld := ⟨ECC_UNCORR_DATA, 0, 32⟩
/-- BOBBIN.ECC_CORR_b (08_bobbin_pool.md). -/
def ECC_CORR (n : Nat) : Nat := 0x28040 + n * 0x4
def ECC_CORR_Count (n : Nat) : Fld := ⟨ECC_CORR n, 0, 32⟩
/-- BOBBIN.Q_SEL (08_bobbin_pool.md). -/
def Q_SEL : Nat := 0x28100
def Q_SEL_Queue : Fld := ⟨Q_SEL, 0, 12⟩
/-- BOBBIN.Q_CMD (08_bobbin_pool.md). -/
def Q_CMD : Nat := 0x28104
def Q_CMD_Read : Fld := ⟨Q_CMD, 0, 1⟩
def Q_CMD_Write : Fld := ⟨Q_CMD, 1, 1⟩
def Q_CMD_Flush : Fld := ⟨Q_CMD, 2, 1⟩
def Q_CMD_ClearCnt : Fld := ⟨Q_CMD, 3, 1⟩
/-- BOBBIN.Q_RESULT (08_bobbin_pool.md). -/
def Q_RESULT : Nat := 0x28108
def Q_RESULT_Code : Fld := ⟨Q_RESULT, 0, 8⟩
def Q_RESULT_Seq : Fld := ⟨Q_RESULT, 16, 16⟩
/-- BOBBIN.Q_CFG (08_bobbin_pool.md). -/
def Q_CFG : Nat := 0x28140
def Q_CFG_Enable : Fld := ⟨Q_CFG, 0, 1⟩
def Q_CFG_Class : Fld := ⟨Q_CFG, 1, 2⟩
def Q_CFG_Mode : Fld := ⟨Q_CFG, 3, 1⟩
def Q_CFG_Readers : Fld := ⟨Q_CFG, 4, 2⟩
/-- BOBBIN.Q_QUOTA (08_bobbin_pool.md). -/
def Q_QUOTA : Nat := 0x28144
def Q_QUOTA_Quota : Fld := ⟨Q_QUOTA, 0, 19⟩
/-- BOBBIN.Q_MAXITEM (08_bobbin_pool.md). -/
def Q_MAXITEM : Nat := 0x28148
def Q_MAXITEM_Bytes : Fld := ⟨Q_MAXITEM, 0, 14⟩
/-- BOBBIN.Q_THRESH (08_bobbin_pool.md). -/
def Q_THRESH : Nat := 0x2814c
def Q_THRESH_Words : Fld := ⟨Q_THRESH, 0, 12⟩
/-- BOBBIN.Q_STATE (08_bobbin_pool.md). -/
def Q_STATE : Nat := 0x28160
def Q_STATE_State : Fld := ⟨Q_STATE, 0, 2⟩
def Q_STATE_Open : Fld := ⟨Q_STATE, 2, 1⟩
/-- BOBBIN.Q_DEPTH (08_bobbin_pool.md). -/
def Q_DEPTH : Nat := 0x28164
def Q_DEPTH_Words : Fld := ⟨Q_DEPTH, 0, 23⟩
/-- BOBBIN.Q_CELLS (08_bobbin_pool.md). -/
def Q_CELLS : Nat := 0x28168
def Q_CELLS_Cells : Fld := ⟨Q_CELLS, 0, 19⟩
/-- BOBBIN.Q_ITEMS (08_bobbin_pool.md). -/
def Q_ITEMS : Nat := 0x2816c
def Q_ITEMS_Items : Fld := ⟨Q_ITEMS, 0, 16⟩
/-- BOBBIN.Q_OWNMIN (08_bobbin_pool.md). -/
def Q_OWNMIN : Nat := 0x28170
def Q_OWNMIN_Cells : Fld := ⟨Q_OWNMIN, 0, 19⟩
/-- BOBBIN.Q_CNT_k (08_bobbin_pool.md). -/
def Q_CNT (n : Nat) : Nat := 0x28180 + n * 0x4
def Q_CNT_Count (n : Nat) : Fld := ⟨Q_CNT n, 0, 32⟩
/-- BOBBIN.QPk_SEL (08_bobbin_pool.md). -/
def QP_SEL (n : Nat) : Nat := 0x28200 + n * 0x20
def QP_SEL_Queue (n : Nat) : Fld := ⟨QP_SEL n, 0, 12⟩
/-- BOBBIN.QPk_PUSH (08_bobbin_pool.md). -/
def QP_PUSH (n : Nat) : Nat := 0x28204 + n * 0x20
def QP_PUSH_Data (n : Nat) : Fld := ⟨QP_PUSH n, 0, 32⟩
/-- BOBBIN.QPk_PUSH_CMD (08_bobbin_pool.md). -/
def QP_PUSH_CMD (n : Nat) : Nat := 0x28208 + n * 0x20
def QP_PUSH_CMD_Op (n : Nat) : Fld := ⟨QP_PUSH_CMD n, 0, 2⟩
def QP_PUSH_CMD_LastBytes (n : Nat) : Fld := ⟨QP_PUSH_CMD n, 2, 2⟩
/-- BOBBIN.QPk_POP_LO (08_bobbin_pool.md). -/
def QP_POP_LO (n : Nat) : Nat := 0x2820c + n * 0x20
def QP_POP_LO_Data (n : Nat) : Fld := ⟨QP_POP_LO n, 0, 32⟩
/-- BOBBIN.QPk_POP_HI (08_bobbin_pool.md). -/
def QP_POP_HI (n : Nat) : Nat := 0x28210 + n * 0x20
def QP_POP_HI_Tag (n : Nat) : Fld := ⟨QP_POP_HI n, 24, 8⟩
/-- BOBBIN.QPk_RESULT (08_bobbin_pool.md). -/
def QP_RESULT (n : Nat) : Nat := 0x28214 + n * 0x20
def QP_RESULT_Code (n : Nat) : Fld := ⟨QP_RESULT n, 0, 8⟩
def QP_RESULT_Seq (n : Nat) : Fld := ⟨QP_RESULT n, 16, 16⟩
/-- HEDDLE.HD_CTRL (09_heddle_matrix.md). -/
def HD_CTRL : Nat := 0x30000
def HD_CTRL_Enable : Fld := ⟨HD_CTRL, 0, 1⟩
/-- HEDDLE.HD_STATUS (09_heddle_matrix.md). -/
def HD_STATUS : Nat := 0x30004
def HD_STATUS_Xcount : Fld := ⟨HD_STATUS, 0, 15⟩
def HD_STATUS_Staging : Fld := ⟨HD_STATUS, 15, 1⟩
def HD_STATUS_Repacking : Fld := ⟨HD_STATUS, 16, 1⟩
/-- HEDDLE.HD_XLIMIT (09_heddle_matrix.md). -/
def HD_XLIMIT : Nat := 0x30008
def HD_XLIMIT_Limit : Fld := ⟨HD_XLIMIT, 0, 15⟩
/-- HEDDLE.HD_XRESERVED (09_heddle_matrix.md). -/
def HD_XRESERVED : Nat := 0x3000c
def HD_XRESERVED_Cells : Fld := ⟨HD_XRESERVED, 0, 15⟩
/-- HEDDLE.HD_CMD (09_heddle_matrix.md). -/
def HD_CMD : Nat := 0x30010
def HD_CMD_Repack : Fld := ⟨HD_CMD, 0, 1⟩
/-- HEDDLE.RING_FREE_RUN (09_heddle_matrix.md). -/
def RING_FREE_RUN : Nat := 0x30014
def RING_FREE_RUN_Cells : Fld := ⟨RING_FREE_RUN, 0, 18⟩
/-- HEDDLE.XT_CMD (09_heddle_matrix.md). -/
def XT_CMD : Nat := 0x30020
def XT_CMD_Open : Fld := ⟨XT_CMD, 0, 1⟩
def XT_CMD_Seal : Fld := ⟨XT_CMD, 1, 1⟩
def XT_CMD_Abandon : Fld := ⟨XT_CMD, 2, 1⟩
def XT_CMD_CommitNow : Fld := ⟨XT_CMD, 3, 1⟩
def XT_CMD_Id : Fld := ⟨XT_CMD, 16, 16⟩
/-- HEDDLE.XT_RESULT (09_heddle_matrix.md). -/
def XT_RESULT : Nat := 0x30024
def XT_RESULT_Code : Fld := ⟨XT_RESULT, 0, 8⟩
def XT_RESULT_Seq : Fld := ⟨XT_RESULT, 16, 16⟩
/-- HEDDLE.XE_W0 (09_heddle_matrix.md). -/
def XE_W0 : Nat := 0x30030
def XE_W0_Word : Fld := ⟨XE_W0, 0, 32⟩
/-- HEDDLE.XE_W1 (09_heddle_matrix.md). -/
def XE_W1 : Nat := 0x30034
def XE_W1_Word : Fld := ⟨XE_W1, 0, 32⟩
/-- HEDDLE.XE_W2 (09_heddle_matrix.md). -/
def XE_W2 : Nat := 0x30038
def XE_W2_Word : Fld := ⟨XE_W2, 0, 32⟩
/-- HEDDLE.XE_PUSH (09_heddle_matrix.md). -/
def XE_PUSH : Nat := 0x3003c
def XE_PUSH_Id : Fld := ⟨XE_PUSH, 0, 16⟩
/-- HEDDLE.XT_STATEk (09_heddle_matrix.md). -/
def XT_STATE (n : Nat) : Nat := 0x30040 + n * 0x4
def XT_STATE_Id (n : Nat) : Fld := ⟨XT_STATE n, 0, 16⟩
def XT_STATE_State (n : Nat) : Fld := ⟨XT_STATE n, 16, 3⟩
def XT_STATE_Edits (n : Nat) : Fld := ⟨XT_STATE n, 19, 11⟩
/-- HEDDLE.DS_SEL (09_heddle_matrix.md). -/
def DS_SEL : Nat := 0x30080
def DS_SEL_Dest : Fld := ⟨DS_SEL, 0, 13⟩
/-- HEDDLE.DS_CMD (09_heddle_matrix.md). -/
def DS_CMD : Nat := 0x30084
def DS_CMD_Read : Fld := ⟨DS_CMD, 0, 1⟩
def DS_CMD_Write : Fld := ⟨DS_CMD, 1, 1⟩
/-- HEDDLE.DS_RESULT (09_heddle_matrix.md). -/
def DS_RESULT : Nat := 0x30088
def DS_RESULT_Code : Fld := ⟨DS_RESULT, 0, 8⟩
def DS_RESULT_Seq : Fld := ⟨DS_RESULT, 16, 16⟩
/-- HEDDLE.DS_PATCH (09_heddle_matrix.md). -/
def DS_PATCH : Nat := 0x300c0
def DS_PATCH_Source : Fld := ⟨DS_PATCH, 0, 13⟩
def DS_PATCH_PatchEn : Fld := ⟨DS_PATCH, 13, 1⟩
/-- HEDDLE.DS_DELAY (09_heddle_matrix.md). -/
def DS_DELAY : Nat := 0x300c4
def DS_DELAY_Delay : Fld := ⟨DS_DELAY, 0, 17⟩
/-- HEDDLE.DS_DCAP (09_heddle_matrix.md). -/
def DS_DCAP : Nat := 0x300c8
def DS_DCAP_DelayCap : Fld := ⟨DS_DCAP, 0, 17⟩
/-- HEDDLE.DS_DFADE (09_heddle_matrix.md). -/
def DS_DFADE : Nat := 0x300cc
def DS_DFADE_Fade : Fld := ⟨DS_DFADE, 0, 16⟩
/-- HEDDLE.DS_OUT (09_heddle_matrix.md). -/
def DS_OUT : Nat := 0x300d0
def DS_OUT_OutBits : Fld := ⟨DS_OUT, 0, 2⟩
def DS_OUT_Dither : Fld := ⟨DS_OUT, 2, 1⟩
/-- HEDDLE.DS_RING (09_heddle_matrix.md). -/
def DS_RING : Nat := 0x300e0
def DS_RING_Base : Fld := ⟨DS_RING, 0, 18⟩
/-- HEDDLE.DS_DSTATE (09_heddle_matrix.md). -/
def DS_DSTATE : Nat := 0x300e4
def DS_DSTATE_DelayNow : Fld := ⟨DS_DSTATE, 0, 17⟩
def DS_DSTATE_Fading : Fld := ⟨DS_DSTATE, 17, 1⟩
def DS_DSTATE_Held : Fld := ⟨DS_DSTATE, 18, 1⟩
/-- HEDDLE.GRP_SEL (09_heddle_matrix.md). -/
def GRP_SEL : Nat := 0x30100
def GRP_SEL_Group : Fld := ⟨GRP_SEL, 0, 8⟩
/-- HEDDLE.GRP_TARGET (09_heddle_matrix.md). -/
def GRP_TARGET : Nat := 0x30104
def GRP_TARGET_Gain : Fld := ⟨GRP_TARGET, 0, 32⟩
/-- HEDDLE.GRP_RAMP (09_heddle_matrix.md). -/
def GRP_RAMP : Nat := 0x30108
def GRP_RAMP_Picks : Fld := ⟨GRP_RAMP, 0, 16⟩
def GRP_RAMP_Law : Fld := ⟨GRP_RAMP, 16, 1⟩
/-- HEDDLE.GRP_CMD (09_heddle_matrix.md). -/
def GRP_CMD : Nat := 0x3010c
def GRP_CMD_Go : Fld := ⟨GRP_CMD, 0, 1⟩
/-- HEDDLE.GRP_NOW (09_heddle_matrix.md). -/
def GRP_NOW : Nat := 0x30110
def GRP_NOW_Gain : Fld := ⟨GRP_NOW, 0, 32⟩
/-- HEDDLE.XQ_KEY (09_heddle_matrix.md). -/
def XQ_KEY : Nat := 0x30120
def XQ_KEY_Dest : Fld := ⟨XQ_KEY, 0, 13⟩
def XQ_KEY_Src : Fld := ⟨XQ_KEY, 13, 13⟩
/-- HEDDLE.XQ_CMD (09_heddle_matrix.md). -/
def XQ_CMD : Nat := 0x30124
def XQ_CMD_Lookup : Fld := ⟨XQ_CMD, 0, 1⟩
/-- HEDDLE.XQ_GAIN (09_heddle_matrix.md). -/
def XQ_GAIN : Nat := 0x30128
def XQ_GAIN_Gain : Fld := ⟨XQ_GAIN, 0, 32⟩
/-- HEDDLE.XQ_TARGET (09_heddle_matrix.md). -/
def XQ_TARGET : Nat := 0x3012c
def XQ_TARGET_Gain : Fld := ⟨XQ_TARGET, 0, 32⟩
/-- HEDDLE.XQ_INFO (09_heddle_matrix.md). -/
def XQ_INFO : Nat := 0x30130
def XQ_INFO_Found : Fld := ⟨XQ_INFO, 0, 1⟩
def XQ_INFO_Ramping : Fld := ⟨XQ_INFO, 1, 1⟩
def XQ_INFO_Group : Fld := ⟨XQ_INFO, 2, 8⟩
def XQ_INFO_Law : Fld := ⟨XQ_INFO, 10, 1⟩
def XQ_INFO_Seq : Fld := ⟨XQ_INFO, 16, 16⟩
/-- HEDDLE.CNT_XT_COMMIT (09_heddle_matrix.md). -/
def CNT_XT_COMMIT : Nat := 0x30180
def CNT_XT_COMMIT_Count : Fld := ⟨CNT_XT_COMMIT, 0, 32⟩
/-- HEDDLE.CNT_XT_REFUSED (09_heddle_matrix.md). -/
def CNT_XT_REFUSED : Nat := 0x30184
def CNT_XT_REFUSED_Count : Fld := ⟨CNT_XT_REFUSED, 0, 32⟩
/-- HEDDLE.CNT_DEST_SAT (09_heddle_matrix.md). -/
def CNT_DEST_SAT : Nat := 0x30188
def CNT_DEST_SAT_Count : Fld := ⟨CNT_DEST_SAT, 0, 32⟩
/-- HEDDLE.CNT_RING_POISON (09_heddle_matrix.md). -/
def CNT_RING_POISON : Nat := 0x3018c
def CNT_RING_POISON_Count : Fld := ⟨CNT_RING_POISON, 0, 32⟩
/-- HEDDLE.CNT_DELAY_REPLACED (09_heddle_matrix.md). -/
def CNT_DELAY_REPLACED : Nat := 0x30190
def CNT_DELAY_REPLACED_Count : Fld := ⟨CNT_DELAY_REPLACED, 0, 32⟩
/-- HEDDLE.TGg_CFG (09_heddle_matrix.md). -/
def TG_CFG (n : Nat) : Nat := 0x30200 + n * 0x10
def TG_CFG_Wave (n : Nat) : Fld := ⟨TG_CFG n, 0, 2⟩
/-- HEDDLE.TGg_INC (09_heddle_matrix.md). -/
def TG_INC (n : Nat) : Nat := 0x30204 + n * 0x10
def TG_INC_Inc (n : Nat) : Fld := ⟨TG_INC n, 0, 32⟩
/-- HEDDLE.TGg_LEVEL (09_heddle_matrix.md). -/
def TG_LEVEL (n : Nat) : Nat := 0x30208 + n * 0x10
def TG_LEVEL_Level (n : Nat) : Fld := ⟨TG_LEVEL n, 0, 31⟩
/-- DEC.DEC_CTRL (10_decimators.md). -/
def DEC_CTRL : Nat := 0x38000
def DEC_CTRL_Enable : Fld := ⟨DEC_CTRL, 0, 1⟩
def DEC_CTRL_SyncPinEn : Fld := ⟨DEC_CTRL, 1, 1⟩
def DEC_CTRL_SyncPol : Fld := ⟨DEC_CTRL, 2, 1⟩
/-- DEC.DEC_STATUS (10_decimators.md). -/
def DEC_STATUS : Nat := 0x38004
def DEC_STATUS_Settling : Fld := ⟨DEC_STATUS, 0, 1⟩
def DEC_STATUS_ClearPending : Fld := ⟨DEC_STATUS, 1, 1⟩
/-- DEC.DEC_CMD (10_decimators.md). -/
def DEC_CMD : Nat := 0x38008
def DEC_CMD_SyncNow : Fld := ⟨DEC_CMD, 0, 1⟩
/-- DEC.DEC_GRPk (10_decimators.md). -/
def DEC_GRP (n : Nat) : Nat := 0x38010 + n * 0x4
def DEC_GRP_Enable (n : Nat) : Fld := ⟨DEC_GRP n, 0, 1⟩
def DEC_GRP_Profile (n : Nat) : Fld := ⟨DEC_GRP n, 1, 1⟩
def DEC_GRP_Edge (n : Nat) : Fld := ⟨DEC_GRP n, 2, 1⟩
def DEC_GRP_LeaseDrive (n : Nat) : Fld := ⟨DEC_GRP n, 3, 1⟩
/-- DEC.DEC_GSTATk (10_decimators.md). -/
def DEC_GSTAT (n : Nat) : Nat := 0x38020 + n * 0x4
def DEC_GSTAT_State (n : Nat) : Fld := ⟨DEC_GSTAT n, 0, 2⟩
def DEC_GSTAT_Osr (n : Nat) : Fld := ⟨DEC_GSTAT n, 2, 2⟩
/-- DEC.DEC_SYNC_PICK_LO (10_decimators.md). -/
def DEC_SYNC_PICK_LO : Nat := 0x38030
def DEC_SYNC_PICK_LO_Pick : Fld := ⟨DEC_SYNC_PICK_LO, 0, 32⟩
/-- DEC.DEC_SYNC_PICK_HI (10_decimators.md). -/
def DEC_SYNC_PICK_HI : Nat := 0x38034
def DEC_SYNC_PICK_HI_Pick : Fld := ⟨DEC_SYNC_PICK_HI, 0, 32⟩
/-- DEC.CNT_DEC_SYNC (10_decimators.md). -/
def CNT_DEC_SYNC : Nat := 0x38040
def CNT_DEC_SYNC_Count : Fld := ⟨CNT_DEC_SYNC, 0, 32⟩
/-- DEC.CNT_DEC_CLIP (10_decimators.md). -/
def CNT_DEC_CLIP : Nat := 0x38044
def CNT_DEC_CLIP_Count : Fld := ⟨CNT_DEC_CLIP, 0, 32⟩
/-- DEC.CNT_DEC_STUCK (10_decimators.md). -/
def CNT_DEC_STUCK : Nat := 0x38048
def CNT_DEC_STUCK_Count : Fld := ⟨CNT_DEC_STUCK, 0, 32⟩
/-- DEC.CNT_DEC_CLKFAULT (10_decimators.md). -/
def CNT_DEC_CLKFAULT : Nat := 0x3804c
def CNT_DEC_CLKFAULT_Count : Fld := ⟨CNT_DEC_CLKFAULT, 0, 32⟩
/-- DEC.CNT_DEC_POISON (10_decimators.md). -/
def CNT_DEC_POISON : Nat := 0x38050
def CNT_DEC_POISON_Count : Fld := ⟨CNT_DEC_POISON, 0, 32⟩
/-- DEC.CNT_DEC_MERGED (10_decimators.md). -/
def CNT_DEC_MERGED : Nat := 0x38054
def CNT_DEC_MERGED_Count : Fld := ⟨CNT_DEC_MERGED, 0, 32⟩
/-- DEC.DEC_STUCK_LO (10_decimators.md). -/
def DEC_STUCK_LO : Nat := 0x38060
def DEC_STUCK_LO_Stuck : Fld := ⟨DEC_STUCK_LO, 0, 32⟩
/-- DEC.DEC_STUCK_HI (10_decimators.md). -/
def DEC_STUCK_HI : Nat := 0x38064
def DEC_STUCK_HI_Stuck : Fld := ⟨DEC_STUCK_HI, 0, 32⟩
/-- DEC.DEC_ROM_SEL (10_decimators.md). -/
def DEC_ROM_SEL : Nat := 0x38070
def DEC_ROM_SEL_Table : Fld := ⟨DEC_ROM_SEL, 0, 1⟩
def DEC_ROM_SEL_Tap : Fld := ⟨DEC_ROM_SEL, 8, 7⟩
/-- DEC.DEC_ROM_DATA (10_decimators.md). -/
def DEC_ROM_DATA : Nat := 0x38074
def DEC_ROM_DATA_Coef : Fld := ⟨DEC_ROM_DATA, 0, 32⟩
/-- DEC.DINk_CFG (10_decimators.md). -/
def DIN_CFG (n : Nat) : Nat := 0x38400 + n * 0x10
def DIN_CFG_Invert (n : Nat) : Fld := ⟨DIN_CFG n, 0, 1⟩
def DIN_CFG_DcBlock (n : Nat) : Fld := ⟨DIN_CFG n, 1, 1⟩
def DIN_CFG_DcShift (n : Nat) : Fld := ⟨DIN_CFG n, 2, 5⟩
def DIN_CFG_PhaseFrac (n : Nat) : Fld := ⟨DIN_CFG n, 7, 6⟩
def DIN_CFG_IntDelay (n : Nat) : Fld := ⟨DIN_CFG n, 13, 8⟩
def DIN_CFG_Mute (n : Nat) : Fld := ⟨DIN_CFG n, 21, 1⟩
/-- DEC.DINk_TRIM (10_decimators.md). -/
def DIN_TRIM (n : Nat) : Nat := 0x38404 + n * 0x10
def DIN_TRIM_Trim (n : Nat) : Fld := ⟨DIN_TRIM n, 0, 32⟩
/-- DEC.DINk_STATUS (10_decimators.md). -/
def DIN_STATUS (n : Nat) : Nat := 0x38408 + n * 0x10
def DIN_STATUS_PhaseFracNow (n : Nat) : Fld := ⟨DIN_STATUS n, 0, 6⟩
def DIN_STATUS_IntDelayNow (n : Nat) : Fld := ⟨DIN_STATUS n, 6, 8⟩
def DIN_STATUS_Pending (n : Nat) : Fld := ⟨DIN_STATUS n, 14, 1⟩
def DIN_STATUS_Settled (n : Nat) : Fld := ⟨DIN_STATUS n, 15, 1⟩
def DIN_STATUS_Stuck (n : Nat) : Fld := ⟨DIN_STATUS n, 16, 1⟩
/-- DEC.DINk_ONES (10_decimators.md). -/
def DIN_ONES (n : Nat) : Nat := 0x3840c + n * 0x10
def DIN_ONES_Ones (n : Nat) : Fld := ⟨DIN_ONES n, 0, 9⟩
/-- FILT.FILT_CTRL (11_filters_detectors.md). -/
def FILT_CTRL : Nat := 0x34000
def FILT_CTRL_Enable : Fld := ⟨FILT_CTRL, 0, 1⟩
/-- FILT.FILT_STATUS (11_filters_detectors.md). -/
def FILT_STATUS : Nat := 0x34004
def FILT_STATUS_Chains : Fld := ⟨FILT_STATUS, 0, 11⟩
def FILT_STATUS_Fading : Fld := ⟨FILT_STATUS, 11, 7⟩
def FILT_STATUS_Realigning : Fld := ⟨FILT_STATUS, 18, 1⟩
/-- FILT.FADE_CFG (11_filters_detectors.md). -/
def FADE_CFG : Nat := 0x34008
def FADE_CFG_MaxFades : Fld := ⟨FADE_CFG, 0, 7⟩
/-- FILT.FILT_SHARE (11_filters_detectors.md). -/
def FILT_SHARE : Nat := 0x3400c
def FILT_SHARE_Mac : Fld := ⟨FILT_SHARE, 0, 20⟩
/-- FILT.FILT_BUDGET (11_filters_detectors.md). -/
def FILT_BUDGET : Nat := 0x34010
def FILT_BUDGET_Mac : Fld := ⟨FILT_BUDGET, 0, 20⟩
/-- FILT.FILT_STEADY (11_filters_detectors.md). -/
def FILT_STEADY : Nat := 0x34014
def FILT_STEADY_Mac : Fld := ⟨FILT_STEADY, 0, 20⟩
/-- FILT.FILT_FADECOST (11_filters_detectors.md). -/
def FILT_FADECOST : Nat := 0x34018
def FILT_FADECOST_Mac : Fld := ⟨FILT_FADECOST, 0, 20⟩
/-- FILT.FILT_BQCOST (11_filters_detectors.md). -/
def FILT_BQCOST : Nat := 0x3401c
def FILT_BQCOST_Mac : Fld := ⟨FILT_BQCOST, 0, 20⟩
/-- FILT.FILT_COEF_REF (11_filters_detectors.md). -/
def FILT_COEF_REF : Nat := 0x34020
def FILT_COEF_REF_Words : Fld := ⟨FILT_COEF_REF, 0, 19⟩
/-- FILT.FILT_HIST_USED (11_filters_detectors.md). -/
def FILT_HIST_USED : Nat := 0x34024
def FILT_HIST_USED_Words : Fld := ⟨FILT_HIST_USED, 0, 19⟩
/-- FILT.FC_SEL (11_filters_detectors.md). -/
def FC_SEL : Nat := 0x34030
def FC_SEL_Chain : Fld := ⟨FC_SEL, 0, 10⟩
/-- FILT.FC_CMD (11_filters_detectors.md). -/
def FC_CMD : Nat := 0x34034
def FC_CMD_Read : Fld := ⟨FC_CMD, 0, 1⟩
def FC_CMD_Write : Fld := ⟨FC_CMD, 1, 1⟩
def FC_CMD_Swap : Fld := ⟨FC_CMD, 2, 1⟩
def FC_CMD_SwapFade : Fld := ⟨FC_CMD, 16, 16⟩
/-- FILT.FC_RESULT (11_filters_detectors.md). -/
def FC_RESULT : Nat := 0x34038
def FC_RESULT_Code : Fld := ⟨FC_RESULT, 0, 8⟩
def FC_RESULT_Seq : Fld := ⟨FC_RESULT, 16, 16⟩
/-- FILT.FC_CFG (11_filters_detectors.md). -/
def FC_CFG : Nat := 0x34040
def FC_CFG_Enable : Fld := ⟨FC_CFG, 0, 1⟩
def FC_CFG_Type : Fld := ⟨FC_CFG, 1, 1⟩
def FC_CFG_Length : Fld := ⟨FC_CFG, 2, 11⟩
def FC_CFG_FadeLen : Fld := ⟨FC_CFG, 16, 16⟩
/-- FILT.FC_BANK0 (11_filters_detectors.md). -/
def FC_BANK0 : Nat := 0x34044
def FC_BANK0_Base : Fld := ⟨FC_BANK0, 0, 18⟩
/-- FILT.FC_BANK1 (11_filters_detectors.md). -/
def FC_BANK1 : Nat := 0x34048
def FC_BANK1_Base : Fld := ⟨FC_BANK1, 0, 18⟩
/-- FILT.FC_STATE (11_filters_detectors.md). -/
def FC_STATE : Nat := 0x34060
def FC_STATE_ActiveBank : Fld := ⟨FC_STATE, 0, 1⟩
def FC_STATE_Fading : Fld := ⟨FC_STATE, 1, 1⟩
def FC_STATE_Pending : Fld := ⟨FC_STATE, 2, 1⟩
def FC_STATE_Waiting : Fld := ⟨FC_STATE, 3, 1⟩
def FC_STATE_Shadow : Fld := ⟨FC_STATE, 4, 1⟩
def FC_STATE_Poisoned : Fld := ⟨FC_STATE, 5, 1⟩
def FC_STATE_BaseHeld : Fld := ⟨FC_STATE, 6, 1⟩
def FC_STATE_FadeK : Fld := ⟨FC_STATE, 16, 16⟩
/-- FILT.CNT_FILT_SAT (11_filters_detectors.md). -/
def CNT_FILT_SAT : Nat := 0x34080
def CNT_FILT_SAT_Count : Fld := ⟨CNT_FILT_SAT, 0, 32⟩
/-- FILT.CNT_SWAP (11_filters_detectors.md). -/
def CNT_SWAP : Nat := 0x34084
def CNT_SWAP_Count : Fld := ⟨CNT_SWAP, 0, 32⟩
/-- FILT.CNT_SWAP_REPLACED (11_filters_detectors.md). -/
def CNT_SWAP_REPLACED : Nat := 0x34088
def CNT_SWAP_REPLACED_Count : Fld := ⟨CNT_SWAP_REPLACED, 0, 32⟩
/-- FILT.CNT_FADE_WAIT (11_filters_detectors.md). -/
def CNT_FADE_WAIT : Nat := 0x3408c
def CNT_FADE_WAIT_Count : Fld := ⟨CNT_FADE_WAIT, 0, 32⟩
/-- FILT.CNT_COEF_LOCKED (11_filters_detectors.md). -/
def CNT_COEF_LOCKED : Nat := 0x34090
def CNT_COEF_LOCKED_Count : Fld := ⟨CNT_COEF_LOCKED, 0, 32⟩
/-- FILT.CNT_FILT_POISON (11_filters_detectors.md). -/
def CNT_FILT_POISON : Nat := 0x34094
def CNT_FILT_POISON_Count : Fld := ⟨CNT_FILT_POISON, 0, 32⟩
/-- DET.DET_CTRL (11_filters_detectors.md). -/
def DET_CTRL : Nat := 0x3c000
def DET_CTRL_Enable : Fld := ⟨DET_CTRL, 0, 1⟩
/-- DET.DT_SEL (11_filters_detectors.md). -/
def DT_SEL : Nat := 0x3c008
def DT_SEL_Entry : Fld := ⟨DT_SEL, 0, 14⟩
/-- DET.DT_CMD (11_filters_detectors.md). -/
def DT_CMD : Nat := 0x3c00c
def DT_CMD_Read : Fld := ⟨DT_CMD, 0, 1⟩
def DT_CMD_Write : Fld := ⟨DT_CMD, 1, 1⟩
def DT_CMD_ClearMax : Fld := ⟨DT_CMD, 2, 1⟩
/-- DET.DT_RESULT (11_filters_detectors.md). -/
def DT_RESULT : Nat := 0x3c010
def DT_RESULT_Code : Fld := ⟨DT_RESULT, 0, 8⟩
def DT_RESULT_Seq : Fld := ⟨DT_RESULT, 16, 16⟩
/-- DET.DT_CFG (11_filters_detectors.md). -/
def DT_CFG : Nat := 0x3c040
def DT_CFG_PeakEn : Fld := ⟨DT_CFG, 0, 1⟩
def DT_CFG_RmsEn : Fld := ⟨DT_CFG, 1, 1⟩
def DT_CFG_EnvEn : Fld := ⟨DT_CFG, 2, 1⟩
def DT_CFG_LimitEn : Fld := ⟨DT_CFG, 3, 1⟩
def DT_CFG_AlertSrc : Fld := ⟨DT_CFG, 4, 2⟩
def DT_CFG_RmsShift : Fld := ⟨DT_CFG, 6, 5⟩
def DT_CFG_HoldPicks : Fld := ⟨DT_CFG, 16, 16⟩
/-- DET.DT_DECAY (11_filters_detectors.md). -/
def DT_DECAY : Nat := 0x3c044
def DT_DECAY_Decay : Fld := ⟨DT_DECAY, 0, 32⟩
/-- DET.DT_ATTACK (11_filters_detectors.md). -/
def DT_ATTACK : Nat := 0x3c048
def DT_ATTACK_Attack : Fld := ⟨DT_ATTACK, 0, 32⟩
/-- DET.DT_RELEASE (11_filters_detectors.md). -/
def DT_RELEASE : Nat := 0x3c04c
def DT_RELEASE_Release : Fld := ⟨DT_RELEASE, 0, 32⟩
/-- DET.DT_THRESH (11_filters_detectors.md). -/
def DT_THRESH : Nat := 0x3c050
def DT_THRESH_Threshold : Fld := ⟨DT_THRESH, 0, 31⟩
/-- DET.DT_ALERT (11_filters_detectors.md). -/
def DT_ALERT : Nat := 0x3c054
def DT_ALERT_AlertLevel : Fld := ⟨DT_ALERT, 0, 31⟩
/-- DET.DT_PEAK (11_filters_detectors.md). -/
def DT_PEAK : Nat := 0x3c080
def DT_PEAK_P : Fld := ⟨DT_PEAK, 0, 32⟩
/-- DET.DT_PEAKMAX (11_filters_detectors.md). -/
def DT_PEAKMAX : Nat := 0x3c084
def DT_PEAKMAX_PeakMax : Fld := ⟨DT_PEAKMAX, 0, 32⟩
/-- DET.DT_RMS (11_filters_detectors.md). -/
def DT_RMS : Nat := 0x3c088
def DT_RMS_Rms : Fld := ⟨DT_RMS, 0, 32⟩
/-- DET.DT_ENV (11_filters_detectors.md). -/
def DT_ENV : Nat := 0x3c08c
def DT_ENV_Env : Fld := ⟨DT_ENV, 0, 32⟩
/-- DET.DT_GAIN (11_filters_detectors.md). -/
def DT_GAIN : Nat := 0x3c090
def DT_GAIN_G : Fld := ⟨DT_GAIN, 0, 32⟩
/-- DET.DT_FLAGS (11_filters_detectors.md). -/
def DT_FLAGS : Nat := 0x3c094
def DT_FLAGS_Over : Fld := ⟨DT_FLAGS, 0, 1⟩
def DT_FLAGS_Limiting : Fld := ⟨DT_FLAGS, 1, 1⟩
/-- DET.CNT_DET_OVER (11_filters_detectors.md). -/
def CNT_DET_OVER : Nat := 0x3c100
def CNT_DET_OVER_Count : Fld := ⟨CNT_DET_OVER, 0, 32⟩
/-- DET.CNT_LIMIT_ON (11_filters_detectors.md). -/
def CNT_LIMIT_ON : Nat := 0x3c104
def CNT_LIMIT_ON_Count : Fld := ⟨CNT_LIMIT_ON, 0, 32⟩
/-- DET.CNT_OVLOG_LOST (11_filters_detectors.md). -/
def CNT_OVLOG_LOST : Nat := 0x3c108
def CNT_OVLOG_LOST_Count : Fld := ⟨CNT_OVLOG_LOST, 0, 32⟩
/-- DET.OV_INFO (11_filters_detectors.md). -/
def OV_INFO : Nat := 0x3c110
def OV_INFO_Entry : Fld := ⟨OV_INFO, 0, 14⟩
def OV_INFO_Valid : Fld := ⟨OV_INFO, 14, 1⟩
/-- DET.OV_PICK_LO (11_filters_detectors.md). -/
def OV_PICK_LO : Nat := 0x3c114
def OV_PICK_LO_Pick : Fld := ⟨OV_PICK_LO, 0, 32⟩
/-- DET.OV_PICK_HI (11_filters_detectors.md). -/
def OV_PICK_HI : Nat := 0x3c118
def OV_PICK_HI_Pick : Fld := ⟨OV_PICK_HI, 0, 32⟩
/-- DET.DET_OVER_w (11_filters_detectors.md). -/
def DET_OVER (n : Nat) : Nat := 0x3c400 + n * 0x4
def DET_OVER_Over (n : Nat) : Fld := ⟨DET_OVER n, 0, 32⟩
/-- TDM.TDM_CTRL (12_local_audio.md). -/
def TDM_CTRL (n : Nat) : Nat := 0x40000 + n * 0x1000
def TDM_CTRL_Enable (n : Nat) : Fld := ⟨TDM_CTRL n, 0, 1⟩
def TDM_CTRL_RxEn (n : Nat) : Fld := ⟨TDM_CTRL n, 1, 1⟩
def TDM_CTRL_TxEn (n : Nat) : Fld := ⟨TDM_CTRL n, 2, 1⟩
def TDM_CTRL_Master (n : Nat) : Fld := ⟨TDM_CTRL n, 3, 1⟩
def TDM_CTRL_LeaseDrive (n : Nat) : Fld := ⟨TDM_CTRL n, 4, 1⟩
/-- TDM.TDM_FMT (12_local_audio.md). -/
def TDM_FMT (n : Nat) : Nat := 0x40004 + n * 0x1000
def TDM_FMT_Format (n : Nat) : Fld := ⟨TDM_FMT n, 0, 2⟩
def TDM_FMT_Slots (n : Nat) : Fld := ⟨TDM_FMT n, 2, 5⟩
def TDM_FMT_SlotBits (n : Nat) : Fld := ⟨TDM_FMT n, 7, 2⟩
def TDM_FMT_DataBits (n : Nat) : Fld := ⟨TDM_FMT n, 9, 2⟩
def TDM_FMT_FsShape (n : Nat) : Fld := ⟨TDM_FMT n, 11, 1⟩
def TDM_FMT_FsPol (n : Nat) : Fld := ⟨TDM_FMT n, 12, 1⟩
def TDM_FMT_DataDelay (n : Nat) : Fld := ⟨TDM_FMT n, 13, 1⟩
def TDM_FMT_BclkInv (n : Nat) : Fld := ⟨TDM_FMT n, 14, 1⟩
def TDM_FMT_FrameBits (n : Nat) : Fld := ⟨TDM_FMT n, 16, 11⟩
/-- TDM.TDM_TXMASK (12_local_audio.md). -/
def TDM_TXMASK (n : Nat) : Nat := 0x40008 + n * 0x1000
def TDM_TXMASK_Mask (n : Nat) : Fld := ⟨TDM_TXMASK n, 0, 32⟩
/-- TDM.TDM_RXMASK (12_local_audio.md). -/
def TDM_RXMASK (n : Nat) : Nat := 0x4000c + n * 0x1000
def TDM_RXMASK_Mask (n : Nat) : Fld := ⟨TDM_RXMASK n, 0, 32⟩
/-- TDM.TDM_STATUS (12_local_audio.md). -/
def TDM_STATUS (n : Nat) : Nat := 0x40010 + n * 0x1000
def TDM_STATUS_State (n : Nat) : Fld := ⟨TDM_STATUS n, 0, 2⟩
def TDM_STATUS_Driving (n : Nat) : Fld := ⟨TDM_STATUS n, 2, 1⟩
def TDM_STATUS_MeasBits (n : Nat) : Fld := ⟨TDM_STATUS n, 4, 11⟩
def TDM_STATUS_LastResult (n : Nat) : Fld := ⟨TDM_STATUS n, 16, 3⟩
/-- TDM.CNT_TDM_SLIP (12_local_audio.md). -/
def CNT_TDM_SLIP (n : Nat) : Nat := 0x40020 + n * 0x1000
def CNT_TDM_SLIP_Count (n : Nat) : Fld := ⟨CNT_TDM_SLIP n, 0, 32⟩
/-- TDM.CNT_TDM_FRAMEERR (12_local_audio.md). -/
def CNT_TDM_FRAMEERR (n : Nat) : Nat := 0x40024 + n * 0x1000
def CNT_TDM_FRAMEERR_Count (n : Nat) : Fld := ⟨CNT_TDM_FRAMEERR n, 0, 32⟩
/-- TDM.CNT_TDM_CLKLOSS (12_local_audio.md). -/
def CNT_TDM_CLKLOSS (n : Nat) : Nat := 0x40028 + n * 0x1000
def CNT_TDM_CLKLOSS_Count (n : Nat) : Fld := ⟨CNT_TDM_CLKLOSS n, 0, 32⟩
/-- TDM.CNT_TDM_DRIVEOFF (12_local_audio.md). -/
def CNT_TDM_DRIVEOFF (n : Nat) : Nat := 0x4002c + n * 0x1000
def CNT_TDM_DRIVEOFF_Count (n : Nat) : Fld := ⟨CNT_TDM_DRIVEOFF n, 0, 32⟩
/-- LLINK.LL_CTRL (12_local_audio.md). -/
def LL_CTRL (n : Nat) : Nat := 0x50000 + n * 0x1000
def LL_CTRL_Enable (n : Nat) : Fld := ⟨LL_CTRL n, 0, 1⟩
def LL_CTRL_TxEn (n : Nat) : Fld := ⟨LL_CTRL n, 1, 1⟩
def LL_CTRL_RxEn (n : Nat) : Fld := ⟨LL_CTRL n, 2, 1⟩
def LL_CTRL_TxMute (n : Nat) : Fld := ⟨LL_CTRL n, 3, 1⟩
def LL_CTRL_HelloEn (n : Nat) : Fld := ⟨LL_CTRL n, 4, 1⟩
/-- LLINK.LL_STATUS (12_local_audio.md). -/
def LL_STATUS (n : Nat) : Nat := 0x50004 + n * 0x1000
def LL_STATUS_State (n : Nat) : Fld := ⟨LL_STATUS n, 0, 2⟩
def LL_STATUS_PartnerSeen (n : Nat) : Fld := ⟨LL_STATUS n, 2, 1⟩
def LL_STATUS_CcPending (n : Nat) : Fld := ⟨LL_STATUS n, 3, 1⟩
def LL_STATUS_PeerFlags (n : Nat) : Fld := ⟨LL_STATUS n, 8, 8⟩
def LL_STATUS_PeerUnit (n : Nat) : Fld := ⟨LL_STATUS n, 16, 16⟩
/-- LLINK.LL_PEER (12_local_audio.md). -/
def LL_PEER (n : Nat) : Nat := 0x50008 + n * 0x1000
def LL_PEER_DeviceKind (n : Nat) : Fld := ⟨LL_PEER n, 0, 8⟩
def LL_PEER_LinkNo (n : Nat) : Fld := ⟨LL_PEER n, 8, 8⟩
def LL_PEER_PairSide (n : Nat) : Fld := ⟨LL_PEER n, 16, 8⟩
def LL_PEER_Revision (n : Nat) : Fld := ⟨LL_PEER n, 24, 8⟩
/-- LLINK.LL_PEER_ID (12_local_audio.md). -/
def LL_PEER_ID (n : Nat) : Nat := 0x5000c + n * 0x1000
def LL_PEER_ID_DomainId (n : Nat) : Fld := ⟨LL_PEER_ID n, 0, 16⟩
def LL_PEER_ID_WordsIn (n : Nat) : Fld := ⟨LL_PEER_ID n, 16, 16⟩
/-- LLINK.CNT_LL_GOOD (12_local_audio.md). -/
def CNT_LL_GOOD (n : Nat) : Nat := 0x50010 + n * 0x1000
def CNT_LL_GOOD_Count (n : Nat) : Fld := ⟨CNT_LL_GOOD n, 0, 32⟩
/-- LLINK.CNT_LL_CRC (12_local_audio.md). -/
def CNT_LL_CRC (n : Nat) : Nat := 0x50014 + n * 0x1000
def CNT_LL_CRC_Count (n : Nat) : Fld := ⟨CNT_LL_CRC n, 0, 32⟩
/-- LLINK.CNT_LL_FORMAT (12_local_audio.md). -/
def CNT_LL_FORMAT (n : Nat) : Nat := 0x50018 + n * 0x1000
def CNT_LL_FORMAT_Count (n : Nat) : Fld := ⟨CNT_LL_FORMAT n, 0, 32⟩
/-- LLINK.CNT_LL_LATE (12_local_audio.md). -/
def CNT_LL_LATE (n : Nat) : Nat := 0x5001c + n * 0x1000
def CNT_LL_LATE_Count (n : Nat) : Fld := ⟨CNT_LL_LATE n, 0, 32⟩
/-- LLINK.CNT_LL_EARLY (12_local_audio.md). -/
def CNT_LL_EARLY (n : Nat) : Nat := 0x50020 + n * 0x1000
def CNT_LL_EARLY_Count (n : Nat) : Fld := ⟨CNT_LL_EARLY n, 0, 32⟩
/-- LLINK.CNT_LL_MISSING (12_local_audio.md). -/
def CNT_LL_MISSING (n : Nat) : Nat := 0x50024 + n * 0x1000
def CNT_LL_MISSING_Count (n : Nat) : Fld := ⟨CNT_LL_MISSING n, 0, 32⟩
/-- LLINK.CNT_LL_DOWN (12_local_audio.md). -/
def CNT_LL_DOWN (n : Nat) : Nat := 0x50028 + n * 0x1000
def CNT_LL_DOWN_Count (n : Nat) : Fld := ⟨CNT_LL_DOWN n, 0, 32⟩
/-- LLINK.CNT_LL_CC_LOST (12_local_audio.md). -/
def CNT_LL_CC_LOST (n : Nat) : Nat := 0x5002c + n * 0x1000
def CNT_LL_CC_LOST_Count (n : Nat) : Fld := ⟨CNT_LL_CC_LOST n, 0, 32⟩
/-- LLINK.CNT_LL_NOTOK (12_local_audio.md). -/
def CNT_LL_NOTOK (n : Nat) : Nat := 0x50030 + n * 0x1000
def CNT_LL_NOTOK_Count (n : Nat) : Fld := ⟨CNT_LL_NOTOK n, 0, 32⟩
/-- LLINK.CC_TX_Ww (12_local_audio.md). -/
def CC_TX_W (n k : Nat) : Nat := 0x50040 + n * 0x1000 + k * 0x4
def CC_TX_W_Data (n k : Nat) : Fld := ⟨CC_TX_W n k, 0, 32⟩
/-- LLINK.CC_TX_CMD (12_local_audio.md). -/
def CC_TX_CMD (n : Nat) : Nat := 0x50060 + n * 0x1000
def CC_TX_CMD_Send (n : Nat) : Fld := ⟨CC_TX_CMD n, 0, 1⟩
/-- LLINK.CC_RX_INFO (12_local_audio.md). -/
def CC_RX_INFO (n : Nat) : Nat := 0x50070 + n * 0x1000
def CC_RX_INFO_Valid (n : Nat) : Fld := ⟨CC_RX_INFO n, 0, 1⟩
def CC_RX_INFO_Count (n : Nat) : Fld := ⟨CC_RX_INFO n, 1, 5⟩
/-- LLINK.CC_RX_Ww (12_local_audio.md). -/
def CC_RX_W (n k : Nat) : Nat := 0x50080 + n * 0x1000 + k * 0x4
def CC_RX_W_Data (n k : Nat) : Fld := ⟨CC_RX_W n k, 0, 32⟩
/-- SELVEDGE.SV_CTRL (13_pair_redundancy.md). -/
def SV_CTRL : Nat := 0x70000
def SV_CTRL_Enable : Fld := ⟨SV_CTRL, 0, 1⟩
def SV_CTRL_CopyEnable : Fld := ⟨SV_CTRL, 1, 1⟩
def SV_CTRL_TimeEnable : Fld := ⟨SV_CTRL, 2, 1⟩
/-- SELVEDGE.SV_STATUS (13_pair_redundancy.md). -/
def SV_STATUS : Nat := 0x70004
def SV_STATUS_State : Fld := ⟨SV_STATUS, 0, 2⟩
def SV_STATUS_Silent : Fld := ⟨SV_STATUS, 2, 1⟩
def SV_STATUS_PartnerLocked : Fld := ⟨SV_STATUS, 3, 1⟩
def SV_STATUS_PartnerFault : Fld := ⟨SV_STATUS, 4, 1⟩
def SV_STATUS_PartnerHolding : Fld := ⟨SV_STATUS, 5, 1⟩
def SV_STATUS_PartnerLeaseOut : Fld := ⟨SV_STATUS, 6, 1⟩
def SV_STATUS_PartnerPairId : Fld := ⟨SV_STATUS, 7, 1⟩
def SV_STATUS_EpochSender : Fld := ⟨SV_STATUS, 8, 1⟩
def SV_STATUS_Receiving : Fld := ⟨SV_STATUS, 9, 1⟩
/-- SELVEDGE.SV_PARTNER (13_pair_redundancy.md). -/
def SV_PARTNER : Nat := 0x70008
def SV_PARTNER_Unit : Fld := ⟨SV_PARTNER, 0, 16⟩
/-- SELVEDGE.SV_DELAY (13_pair_redundancy.md). -/
def SV_DELAY : Nat := 0x7000c
def SV_DELAY_Delay : Fld := ⟨SV_DELAY, 0, 32⟩
/-- SELVEDGE.EPOCH_CFG (13_pair_redundancy.md). -/
def EPOCH_CFG : Nat := 0x70010
def EPOCH_CFG_PeriodMs : Fld := ⟨EPOCH_CFG, 0, 10⟩
def EPOCH_CFG_TimeoutMs : Fld := ⟨EPOCH_CFG, 16, 10⟩
/-- SELVEDGE.EPOCH_CMD (13_pair_redundancy.md). -/
def EPOCH_CMD : Nat := 0x70014
def EPOCH_CMD_SendFull : Fld := ⟨EPOCH_CMD, 0, 1⟩
def EPOCH_CMD_RequestFull : Fld := ⟨EPOCH_CMD, 1, 1⟩
/-- SELVEDGE.EPOCH_TX (13_pair_redundancy.md). -/
def EPOCH_TX : Nat := 0x70018
def EPOCH_TX_Epoch : Fld := ⟨EPOCH_TX, 0, 32⟩
/-- SELVEDGE.EPOCH_ACK (13_pair_redundancy.md). -/
def EPOCH_ACK : Nat := 0x7001c
def EPOCH_ACK_Epoch : Fld := ⟨EPOCH_ACK, 0, 32⟩
/-- SELVEDGE.EPOCH_APPLIED (13_pair_redundancy.md). -/
def EPOCH_APPLIED : Nat := 0x70020
def EPOCH_APPLIED_Epoch : Fld := ⟨EPOCH_APPLIED, 0, 32⟩
/-- SELVEDGE.EPOCH_PICK_LO (13_pair_redundancy.md). -/
def EPOCH_PICK_LO : Nat := 0x70024
def EPOCH_PICK_LO_Pick : Fld := ⟨EPOCH_PICK_LO, 0, 32⟩
/-- SELVEDGE.EPOCH_PICK_HI (13_pair_redundancy.md). -/
def EPOCH_PICK_HI : Nat := 0x70028
def EPOCH_PICK_HI_Pick : Fld := ⟨EPOCH_PICK_HI, 0, 32⟩
/-- SELVEDGE.CNT_SV_DOWN (13_pair_redundancy.md). -/
def CNT_SV_DOWN : Nat := 0x70040
def CNT_SV_DOWN_Count : Fld := ⟨CNT_SV_DOWN, 0, 32⟩
/-- SELVEDGE.CNT_SV_CRC (13_pair_redundancy.md). -/
def CNT_SV_CRC : Nat := 0x70044
def CNT_SV_CRC_Count : Fld := ⟨CNT_SV_CRC, 0, 32⟩
/-- SELVEDGE.CNT_EPOCH_APPLIED (13_pair_redundancy.md). -/
def CNT_EPOCH_APPLIED : Nat := 0x70048
def CNT_EPOCH_APPLIED_Count : Fld := ⟨CNT_EPOCH_APPLIED, 0, 32⟩
/-- SELVEDGE.CNT_EPOCH_DISCARD (13_pair_redundancy.md). -/
def CNT_EPOCH_DISCARD : Nat := 0x7004c
def CNT_EPOCH_DISCARD_Count : Fld := ⟨CNT_EPOCH_DISCARD, 0, 32⟩
/-- SELVEDGE.CNT_EPOCH_REJECT (13_pair_redundancy.md). -/
def CNT_EPOCH_REJECT : Nat := 0x70050
def CNT_EPOCH_REJECT_Count : Fld := ⟨CNT_EPOCH_REJECT, 0, 32⟩
/-- SELVEDGE.CNT_TIME_MISMATCH (13_pair_redundancy.md). -/
def CNT_TIME_MISMATCH : Nat := 0x70054
def CNT_TIME_MISMATCH_Count : Fld := ⟨CNT_TIME_MISMATCH, 0, 32⟩
/-- SELVEDGE.CNT_EPOCH_LATECUE (13_pair_redundancy.md). -/
def CNT_EPOCH_LATECUE : Nat := 0x70058
def CNT_EPOCH_LATECUE_Count : Fld := ⟨CNT_EPOCH_LATECUE, 0, 32⟩
/-- LEASE.LEASE_CTRL (13_pair_redundancy.md). -/
def LEASE_CTRL : Nat := 0x74000
def LEASE_CTRL_Mode : Fld := ⟨LEASE_CTRL, 0, 2⟩
def LEASE_CTRL_Fallback : Fld := ⟨LEASE_CTRL, 2, 1⟩
def LEASE_CTRL_SilentTakeover : Fld := ⟨LEASE_CTRL, 3, 1⟩
def LEASE_CTRL_Fault : Fld := ⟨LEASE_CTRL, 4, 1⟩
/-- LEASE.LEASE_STATUS (13_pair_redundancy.md). -/
def LEASE_STATUS : Nat := 0x74004
def LEASE_STATUS_LeaseValid : Fld := ⟨LEASE_STATUS, 0, 1⟩
def LEASE_STATUS_ReserveValid : Fld := ⟨LEASE_STATUS, 1, 1⟩
def LEASE_STATUS_ReserveActive : Fld := ⟨LEASE_STATUS, 2, 1⟩
def LEASE_STATUS_Holding : Fld := ⟨LEASE_STATUS, 3, 1⟩
def LEASE_STATUS_LeaseOut : Fld := ⟨LEASE_STATUS, 4, 1⟩
def LEASE_STATUS_LeaseIn : Fld := ⟨LEASE_STATUS, 5, 1⟩
def LEASE_STATUS_PartnerAsserted : Fld := ⟨LEASE_STATUS, 6, 1⟩
def LEASE_STATUS_DriveOk : Fld := ⟨LEASE_STATUS, 7, 1⟩
def LEASE_STATUS_Collision : Fld := ⟨LEASE_STATUS, 8, 1⟩
def LEASE_STATUS_Fenced : Fld := ⟨LEASE_STATUS, 9, 1⟩
def LEASE_STATUS_RosterAbsent : Fld := ⟨LEASE_STATUS, 10, 1⟩
def LEASE_STATUS_PairId : Fld := ⟨LEASE_STATUS, 11, 1⟩
def LEASE_STATUS_PairIdClash : Fld := ⟨LEASE_STATUS, 12, 1⟩
def LEASE_STATUS_FaultNow : Fld := ⟨LEASE_STATUS, 13, 1⟩
def LEASE_STATUS_InFallback : Fld := ⟨LEASE_STATUS, 14, 1⟩
def LEASE_STATUS_PinMismatch : Fld := ⟨LEASE_STATUS, 15, 1⟩
/-- LEASE.LEASE_TIME (13_pair_redundancy.md). -/
def LEASE_TIME : Nat := 0x74008
def LEASE_TIME_DurationMs : Fld := ⟨LEASE_TIME, 0, 7⟩
def LEASE_TIME_RenewMs : Fld := ⟨LEASE_TIME, 8, 7⟩
def LEASE_TIME_GuardMs : Fld := ⟨LEASE_TIME, 16, 5⟩
/-- LEASE.PULSE_CFG (13_pair_redundancy.md). -/
def PULSE_CFG : Nat := 0x7400c
def PULSE_CFG_PulseUs : Fld := ⟨PULSE_CFG, 0, 13⟩
/-- LEASE.LEASE_CMD (13_pair_redundancy.md). -/
def LEASE_CMD : Nat := 0x74010
def LEASE_CMD_Capture : Fld := ⟨LEASE_CMD, 0, 1⟩
def LEASE_CMD_Grant : Fld := ⟨LEASE_CMD, 1, 1⟩
def LEASE_CMD_ReserveCapture : Fld := ⟨LEASE_CMD, 2, 1⟩
def LEASE_CMD_ReserveGrant : Fld := ⟨LEASE_CMD, 3, 1⟩
def LEASE_CMD_Release : Fld := ⟨LEASE_CMD, 4, 1⟩
def LEASE_CMD_ReleaseReserve : Fld := ⟨LEASE_CMD, 5, 1⟩
def LEASE_CMD_PulseAck : Fld := ⟨LEASE_CMD, 6, 1⟩
def LEASE_CMD_SetRosterAbsent : Fld := ⟨LEASE_CMD, 7, 1⟩
def LEASE_CMD_ClearRosterAbsent : Fld := ⟨LEASE_CMD, 8, 1⟩
def LEASE_CMD_GrantMs : Fld := ⟨LEASE_CMD, 16, 16⟩
/-- LEASE.LEASE_REMAIN (13_pair_redundancy.md). -/
def LEASE_REMAIN : Nat := 0x74014
def LEASE_REMAIN_Us : Fld := ⟨LEASE_REMAIN, 0, 32⟩
/-- LEASE.RESERVE_REMAIN (13_pair_redundancy.md). -/
def RESERVE_REMAIN : Nat := 0x74018
def RESERVE_REMAIN_Us : Fld := ⟨RESERVE_REMAIN, 0, 32⟩
/-- LEASE.LEASE_GPO (13_pair_redundancy.md). -/
def LEASE_GPO : Nat := 0x7401c
def LEASE_GPO_Value : Fld := ⟨LEASE_GPO, 0, 4⟩
def LEASE_GPO_Enable : Fld := ⟨LEASE_GPO, 4, 4⟩
def LEASE_GPO_LeaseDrive : Fld := ⟨LEASE_GPO, 8, 4⟩
/-- LEASE.CNT_COLLISION (13_pair_redundancy.md). -/
def CNT_COLLISION : Nat := 0x74040
def CNT_COLLISION_Count : Fld := ⟨CNT_COLLISION, 0, 32⟩
/-- LEASE.CNT_LEASE_EXPIRE (13_pair_redundancy.md). -/
def CNT_LEASE_EXPIRE : Nat := 0x74044
def CNT_LEASE_EXPIRE_Count : Fld := ⟨CNT_LEASE_EXPIRE, 0, 32⟩
/-- LEASE.CNT_RESERVE_ACT (13_pair_redundancy.md). -/
def CNT_RESERVE_ACT : Nat := 0x74048
def CNT_RESERVE_ACT_Count : Fld := ⟨CNT_RESERVE_ACT, 0, 32⟩
/-- LEASE.CNT_FENCE (13_pair_redundancy.md). -/
def CNT_FENCE : Nat := 0x7404c
def CNT_FENCE_Count : Fld := ⟨CNT_FENCE, 0, 32⟩
/-- LEASE.CNT_PIN_MISMATCH (13_pair_redundancy.md). -/
def CNT_PIN_MISMATCH : Nat := 0x74050
def CNT_PIN_MISMATCH_Count : Fld := ⟨CNT_PIN_MISMATCH, 0, 32⟩
/-- TEMPLE.TP_CTRL (15_temple_ageing.md). -/
def TP_CTRL : Nat := 0x80000
def TP_CTRL_Enable : Fld := ⟨TP_CTRL, 0, 1⟩
def TP_CTRL_AvsEn : Fld := ⟨TP_CTRL, 1, 1⟩
def TP_CTRL_EyeEn : Fld := ⟨TP_CTRL, 2, 1⟩
/-- TEMPLE.TP_STATUS (15_temple_ageing.md). -/
def TP_STATUS : Nat := 0x80004
def TP_STATUS_AgeValid : Fld := ⟨TP_STATUS, 0, 1⟩
def TP_STATUS_TcValid : Fld := ⟨TP_STATUS, 1, 1⟩
def TP_STATUS_Hot : Fld := ⟨TP_STATUS, 2, 1⟩
def TP_STATUS_AvsLimited : Fld := ⟨TP_STATUS, 3, 1⟩
def TP_STATUS_Adapting : Fld := ⟨TP_STATUS, 4, 1⟩
/-- TEMPLE.TEMPs (15_temple_ageing.md). -/
def TEMP (n : Nat) : Nat := 0x80010 + n * 0x4
def TEMP_Temp (n : Nat) : Fld := ⟨TEMP n, 0, 16⟩
/-- TEMPLE.TEMP_WARN (15_temple_ageing.md). -/
def TEMP_WARN : Nat := 0x80020
def TEMP_WARN_Limit : Fld := ⟨TEMP_WARN, 0, 16⟩
/-- TEMPLE.AGE_RATE (15_temple_ageing.md). -/
def AGE_RATE : Nat := 0x80030
def AGE_RATE_Rate : Fld := ⟨AGE_RATE, 0, 32⟩
/-- TEMPLE.AGE_UNC (15_temple_ageing.md). -/
def AGE_UNC : Nat := 0x80034
def AGE_UNC_Unc : Fld := ⟨AGE_UNC, 0, 32⟩
/-- TEMPLE.AGE_TC (15_temple_ageing.md). -/
def AGE_TC : Nat := 0x80038
def AGE_TC_Tc : Fld := ⟨AGE_TC, 0, 32⟩
/-- TEMPLE.AGE_CFG (15_temple_ageing.md). -/
def AGE_CFG : Nat := 0x8003c
def AGE_CFG_WindowDays : Fld := ⟨AGE_CFG, 0, 9⟩
def AGE_CFG_TcDefault : Fld := ⟨AGE_CFG, 16, 16⟩
/-- TEMPLE.AGE_DAYS (15_temple_ageing.md). -/
def AGE_DAYS : Nat := 0x80040
def AGE_DAYS_ValidDays : Fld := ⟨AGE_DAYS, 0, 16⟩
/-- TEMPLE.AVS_CFG (15_temple_ageing.md). -/
def AVS_CFG : Nat := 0x80050
def AVS_CFG_VminCode : Fld := ⟨AVS_CFG, 0, 5⟩
def AVS_CFG_VmaxCode : Fld := ⟨AVS_CFG, 8, 5⟩
def AVS_CFG_SlackLow : Fld := ⟨AVS_CFG, 16, 8⟩
def AVS_CFG_SlackHigh : Fld := ⟨AVS_CFG, 24, 8⟩
/-- TEMPLE.AVS_STATUS (15_temple_ageing.md). -/
def AVS_STATUS : Nat := 0x80054
def AVS_STATUS_Code : Fld := ⟨AVS_STATUS, 0, 5⟩
def AVS_STATUS_WorstMon : Fld := ⟨AVS_STATUS, 5, 3⟩
def AVS_STATUS_WorstSlack : Fld := ⟨AVS_STATUS, 16, 16⟩
/-- TEMPLE.EYE_CFG (15_temple_ageing.md). -/
def EYE_CFG : Nat := 0x80060
def EYE_CFG_EyeMinMv : Fld := ⟨EYE_CFG, 0, 8⟩
def EYE_CFG_AdaptGapS : Fld := ⟨EYE_CFG, 16, 16⟩
/-- TEMPLE.EYE_WIN (15_temple_ageing.md). -/
def EYE_WIN : Nat := 0x80064
def EYE_WIN_StartMin : Fld := ⟨EYE_WIN, 0, 11⟩
def EYE_WIN_DurMin : Fld := ⟨EYE_WIN, 11, 11⟩
/-- TEMPLE.EYE_PERIOD (15_temple_ageing.md). -/
def EYE_PERIOD : Nat := 0x80068
def EYE_PERIOD_Sec : Fld := ⟨EYE_PERIOD, 0, 12⟩
/-- TEMPLE.EYE_WORST (15_temple_ageing.md). -/
def EYE_WORST : Nat := 0x8006c
def EYE_WORST_Lane : Fld := ⟨EYE_WORST, 0, 4⟩
def EYE_WORST_HeightMv : Fld := ⟨EYE_WORST, 8, 8⟩
/-- TEMPLE.CNT_TEMP_WARN (15_temple_ageing.md). -/
def CNT_TEMP_WARN : Nat := 0x80080
def CNT_TEMP_WARN_Count : Fld := ⟨CNT_TEMP_WARN, 0, 32⟩
/-- TEMPLE.CNT_AVS_UP (15_temple_ageing.md). -/
def CNT_AVS_UP : Nat := 0x80084
def CNT_AVS_UP_Count : Fld := ⟨CNT_AVS_UP, 0, 32⟩
/-- TEMPLE.CNT_AVS_DOWN (15_temple_ageing.md). -/
def CNT_AVS_DOWN : Nat := 0x80088
def CNT_AVS_DOWN_Count : Fld := ⟨CNT_AVS_DOWN, 0, 32⟩
/-- TEMPLE.CNT_AVS_LIMIT (15_temple_ageing.md). -/
def CNT_AVS_LIMIT : Nat := 0x8008c
def CNT_AVS_LIMIT_Count : Fld := ⟨CNT_AVS_LIMIT, 0, 32⟩
/-- TEMPLE.CNT_ADAPT (15_temple_ageing.md). -/
def CNT_ADAPT : Nat := 0x80090
def CNT_ADAPT_Count : Fld := ⟨CNT_ADAPT, 0, 32⟩
/-- TEMPLE.CNT_LEDGER_WRITE (15_temple_ageing.md). -/
def CNT_LEDGER_WRITE : Nat := 0x80094
def CNT_LEDGER_WRITE_Count : Fld := ⟨CNT_LEDGER_WRITE, 0, 32⟩
/-- TEMPLE.CNT_LEDGER_FAIL (15_temple_ageing.md). -/
def CNT_LEDGER_FAIL : Nat := 0x80098
def CNT_LEDGER_FAIL_Count : Fld := ⟨CNT_LEDGER_FAIL, 0, 32⟩
/-- MBX.MBX_CTRL (16_object_dictionary.md). -/
def MBX_CTRL (n : Nat) : Nat := 0x84100 + n * 0x4000
def MBX_CTRL_Enable (n : Nat) : Fld := ⟨MBX_CTRL n, 0, 1⟩
def MBX_CTRL_NotifyEn (n : Nat) : Fld := ⟨MBX_CTRL n, 1, 1⟩
def MBX_CTRL_NotifyQueue (n : Nat) : Fld := ⟨MBX_CTRL n, 16, 12⟩
/-- MBX.MBX_DOORBELL (16_object_dictionary.md). -/
def MBX_DOORBELL (n : Nat) : Nat := 0x84104 + n * 0x4000
def MBX_DOORBELL_Len (n : Nat) : Fld := ⟨MBX_DOORBELL n, 0, 11⟩
/-- MBX.MBX_STATUS (16_object_dictionary.md). -/
def MBX_STATUS (n : Nat) : Nat := 0x84108 + n * 0x4000
def MBX_STATUS_Busy (n : Nat) : Fld := ⟨MBX_STATUS n, 0, 1⟩
def MBX_STATUS_Result (n : Nat) : Fld := ⟨MBX_STATUS n, 8, 8⟩
def MBX_STATUS_Seq (n : Nat) : Fld := ⟨MBX_STATUS n, 16, 16⟩
/-- MBX.MBX_REPLY_LEN (16_object_dictionary.md). -/
def MBX_REPLY_LEN (n : Nat) : Nat := 0x8410c + n * 0x4000
def MBX_REPLY_LEN_Len (n : Nat) : Fld := ⟨MBX_REPLY_LEN n, 0, 11⟩
/-- MBX.MBX_NOTIFY_DROP (16_object_dictionary.md). -/
def MBX_NOTIFY_DROP (n : Nat) : Nat := 0x84110 + n * 0x4000
def MBX_NOTIFY_DROP_Count (n : Nat) : Fld := ⟨MBX_NOTIFY_DROP n, 0, 32⟩
/-- MBX.MBX_REQ (16_object_dictionary.md). -/
def MBX_REQ (n k : Nat) : Nat := 0x85000 + n * 0x4000 + k * 0x4
def MBX_REQ_Data (n k : Nat) : Fld := ⟨MBX_REQ n k, 0, 32⟩
/-- MBX.MBX_REPLY (16_object_dictionary.md). -/
def MBX_REPLY (n k : Nat) : Nat := 0x85800 + n * 0x4000 + k * 0x4
def MBX_REPLY_Data (n k : Nat) : Fld := ⟨MBX_REPLY n k, 0, 32⟩
/-- SYS.SYS_ID (17_host_bus_registers.md). -/
def SYS_ID : Nat := 0x0
def SYS_ID_Device : Fld := ⟨SYS_ID, 0, 16⟩
def SYS_ID_Revision : Fld := ⟨SYS_ID, 16, 8⟩
/-- SYS.SYS_STRAPS (17_host_bus_registers.md). -/
def SYS_STRAPS : Nat := 0x4
def SYS_STRAPS_Boot : Fld := ⟨SYS_STRAPS, 0, 2⟩
def SYS_STRAPS_PairId : Fld := ⟨SYS_STRAPS, 2, 1⟩
/-- SYS.SLOW_BUSY (17_host_bus_registers.md). -/
def SLOW_BUSY : Nat := 0x8
def SLOW_BUSY_Reed : Fld := ⟨SLOW_BUSY, 0, 1⟩
def SLOW_BUSY_Synth : Fld := ⟨SLOW_BUSY, 1, 1⟩
def SLOW_BUSY_Pcs : Fld := ⟨SLOW_BUSY, 2, 4⟩
def SLOW_BUSY_Aon : Fld := ⟨SLOW_BUSY, 6, 1⟩
def SLOW_BUSY_Fuse : Fld := ⟨SLOW_BUSY, 7, 1⟩
/-- SYS.SYS_CYCLES_LO (17_host_bus_registers.md). -/
def SYS_CYCLES_LO : Nat := 0xc
def SYS_CYCLES_LO_Cycles : Fld := ⟨SYS_CYCLES_LO, 0, 32⟩
/-- SYS.SYS_CYCLES_HI (17_host_bus_registers.md). -/
def SYS_CYCLES_HI : Nat := 0x10
def SYS_CYCLES_HI_Cycles : Fld := ⟨SYS_CYCLES_HI, 0, 32⟩
/-- SYS.SYS_SCRATCHk (17_host_bus_registers.md). -/
def SYS_SCRATCH (n : Nat) : Nat := 0x20 + n * 0x4
def SYS_SCRATCH_Data (n : Nat) : Fld := ⟨SYS_SCRATCH n, 0, 32⟩
/-- SYS.WIN_LOCKk (17_host_bus_registers.md). -/
def WIN_LOCK (n : Nat) : Nat := 0x40 + n * 0x4
def WIN_LOCK_Owner (n : Nat) : Fld := ⟨WIN_LOCK n, 0, 3⟩
/-- EVT.EVT_PENDw (17_host_bus_registers.md). -/
def EVT_PEND (n : Nat) : Nat := 0x3000 + n * 0x4
def EVT_PEND_Pending (n : Nat) : Fld := ⟨EVT_PEND n, 0, 32⟩
/-- EVT.EVT_ACKALLw (17_host_bus_registers.md). -/
def EVT_ACKALL (n : Nat) : Nat := 0x3010 + n * 0x4
def EVT_ACKALL_Ack (n : Nat) : Fld := ⟨EVT_ACKALL n, 0, 32⟩
/-- EVT.EVT_ACKe (17_host_bus_registers.md). -/
def EVT_ACK (n : Nat) : Nat := 0x3400 + n * 0x4
def EVT_ACK_Ack (n : Nat) : Fld := ⟨EVT_ACK n, 0, 32⟩
/-- EVT.EVT_COUNTe (17_host_bus_registers.md). -/
def EVT_COUNT (n : Nat) : Nat := 0x3800 + n * 0x4
def EVT_COUNT_Count (n : Nat) : Fld := ⟨EVT_COUNT n, 0, 32⟩
/-- EVT.EVT_ROUTEe (17_host_bus_registers.md). -/
def EVT_ROUTE (n : Nat) : Nat := 0x3c00 + n * 0x4
def EVT_ROUTE_Vector (n : Nat) : Fld := ⟨EVT_ROUTE n, 0, 5⟩
def EVT_ROUTE_MsixEn (n : Nat) : Fld := ⟨EVT_ROUTE n, 8, 1⟩
def EVT_ROUTE_SpiIrqEn (n : Nat) : Fld := ⟨EVT_ROUTE n, 9, 1⟩
def EVT_ROUTE_SpindleAEn (n : Nat) : Fld := ⟨EVT_ROUTE n, 10, 1⟩
def EVT_ROUTE_SpindleBEn (n : Nat) : Fld := ⟨EVT_ROUTE n, 11, 1⟩
/-- ERR.ERR_STATUS (17_host_bus_registers.md). -/
def ERR_STATUS : Nat := 0x2000
def ERR_STATUS_Fill : Fld := ⟨ERR_STATUS, 0, 5⟩
def ERR_STATUS_FirstValid : Fld := ⟨ERR_STATUS, 8, 1⟩
/-- ERR.CNT_REC (17_host_bus_registers.md). -/
def CNT_REC : Nat := 0x2004
def CNT_REC_Count : Fld := ⟨CNT_REC, 0, 32⟩
/-- ERR.CNT_LOST (17_host_bus_registers.md). -/
def ERR_CNT_LOST : Nat := 0x2008
def ERR_CNT_LOST_Count : Fld := ⟨ERR_CNT_LOST, 0, 32⟩
/-- ERR.ERR_FIRST_Wi (17_host_bus_registers.md). -/
def ERR_FIRST_W (n : Nat) : Nat := 0x2010 + n * 0x4
def ERR_FIRST_W_Word (n : Nat) : Fld := ⟨ERR_FIRST_W n, 0, 32⟩
/-- ERR.ERR_FIRST_ACK (17_host_bus_registers.md). -/
def ERR_FIRST_ACK : Nat := 0x2020
def ERR_FIRST_ACK_Seq : Fld := ⟨ERR_FIRST_ACK, 0, 16⟩
/-- ERR.ERR_POP (17_host_bus_registers.md). -/
def ERR_POP : Nat := 0x2030
def ERR_POP_Word0 : Fld := ⟨ERR_POP, 0, 31⟩
def ERR_POP_Valid : Fld := ⟨ERR_POP, 31, 1⟩
/-- ERR.ERR_POP_Wi (17_host_bus_registers.md). -/
def ERR_POP_W (n : Nat) : Nat := 0x2034 + n * 0x4
def ERR_POP_W_Word (n : Nat) : Fld := ⟨ERR_POP_W n, 0, 32⟩
/-- BUSMX.BUSMX_MCFGm (17_host_bus_registers.md). -/
def BUSMX_MCFG (n : Nat) : Nat := 0x4000 + n * 0x4
def BUSMX_MCFG_Qos (n : Nat) : Fld := ⟨BUSMX_MCFG n, 0, 4⟩
def BUSMX_MCFG_Limit (n : Nat) : Fld := ⟨BUSMX_MCFG n, 4, 5⟩
/-- BUSMX.BUSMX_MSTATm (17_host_bus_registers.md). -/
def BUSMX_MSTAT (n : Nat) : Nat := 0x4040 + n * 0x4
def BUSMX_MSTAT_Outstanding (n : Nat) : Fld := ⟨BUSMX_MSTAT n, 0, 5⟩
def BUSMX_MSTAT_Draining (n : Nat) : Fld := ⟨BUSMX_MSTAT n, 5, 1⟩
/-- BUSMX.CNT_MRESET (17_host_bus_registers.md). -/
def CNT_MRESET : Nat := 0x4080
def CNT_MRESET_Count : Fld := ⟨CNT_MRESET, 0, 32⟩
/-- BUSMX.CNT_PROMOTE (17_host_bus_registers.md). -/
def CNT_PROMOTE : Nat := 0x4084
def CNT_PROMOTE_Count : Fld := ⟨CNT_PROMOTE, 0, 32⟩
/-- BUSMX.CNT_SLOW_DROP (17_host_bus_registers.md). -/
def CNT_SLOW_DROP : Nat := 0x4088
def CNT_SLOW_DROP_Count : Fld := ⟨CNT_SLOW_DROP, 0, 32⟩
/-- BUSMX.CNT_BUSERR (17_host_bus_registers.md). -/
def CNT_BUSERR : Nat := 0x408c
def CNT_BUSERR_Count : Fld := ⟨CNT_BUSERR, 0, 32⟩
/-- PCIE.PCIE_STATUS (17_host_bus_registers.md). -/
def PCIE_STATUS : Nat := 0x84000
def PCIE_STATUS_LinkUp : Fld := ⟨PCIE_STATUS, 0, 1⟩
def PCIE_STATUS_Speed : Fld := ⟨PCIE_STATUS, 1, 2⟩
def PCIE_STATUS_Width : Fld := ⟨PCIE_STATUS, 3, 2⟩
def PCIE_STATUS_MsixEnable : Fld := ⟨PCIE_STATUS, 5, 1⟩
def PCIE_STATUS_FunctionMask : Fld := ⟨PCIE_STATUS, 6, 1⟩
/-- PCIE.CNT_PCIE_RESET (17_host_bus_registers.md). -/
def CNT_PCIE_RESET : Nat := 0x84004
def CNT_PCIE_RESET_Count : Fld := ⟨CNT_PCIE_RESET, 0, 32⟩
/-- PCIE.CNT_PCIE_CA (17_host_bus_registers.md). -/
def CNT_PCIE_CA : Nat := 0x84008
def CNT_PCIE_CA_Count : Fld := ⟨CNT_PCIE_CA, 0, 32⟩
/-- SPIH.SPI_WIN (17_host_bus_registers.md). -/
def SPI_WIN : Nat := 0x88000
def SPI_WIN_Base : Fld := ⟨SPI_WIN, 24, 8⟩
/-- SPIH.CNT_SPI_BADCMD (17_host_bus_registers.md). -/
def CNT_SPI_BADCMD : Nat := 0x88004
def CNT_SPI_BADCMD_Count : Fld := ⟨CNT_SPI_BADCMD, 0, 32⟩
/-- SPIH.CNT_SPI_ERR (17_host_bus_registers.md). -/
def CNT_SPI_ERR : Nat := 0x88008
def CNT_SPI_ERR_Count : Fld := ⟨CNT_SPI_ERR, 0, 32⟩
/-- SPIH.CNT_SPI_CUT (17_host_bus_registers.md). -/
def CNT_SPI_CUT : Nat := 0x8800c
def CNT_SPI_CUT_Count : Fld := ⟨CNT_SPI_CUT, 0, 32⟩
/-- PWR.PWR_CTRL (18_power_reset_boot.md). -/
def PWR_CTRL : Nat := 0x1000
def PWR_CTRL_Pd3 : Fld := ⟨PWR_CTRL, 0, 1⟩
def PWR_CTRL_Pd4 : Fld := ⟨PWR_CTRL, 1, 1⟩
def PWR_CTRL_Pd7 : Fld := ⟨PWR_CTRL, 2, 1⟩
def PWR_CTRL_Pd10 : Fld := ⟨PWR_CTRL, 3, 1⟩
def PWR_CTRL_Pd11 : Fld := ⟨PWR_CTRL, 4, 1⟩
/-- PWR.PWR_STATUS (18_power_reset_boot.md). -/
def PWR_STATUS : Nat := 0x1004
def PWR_STATUS_On : Fld := ⟨PWR_STATUS, 0, 12⟩
/-- PWR.PWR_CMD (18_power_reset_boot.md). -/
def PWR_CMD : Nat := 0x1008
def PWR_CMD_Kind : Fld := ⟨PWR_CMD, 0, 3⟩
def PWR_CMD_Key : Fld := ⟨PWR_CMD, 16, 16⟩
/-- PWR.SUPPLY_STATUS (18_power_reset_boot.md). -/
def SUPPLY_STATUS : Nat := 0x100c
def SUPPLY_STATUS_Low : Fld := ⟨SUPPLY_STATUS, 0, 8⟩
/-- PWR.CNT_SUPPLY_FAULT (18_power_reset_boot.md). -/
def CNT_SUPPLY_FAULT : Nat := 0x1010
def CNT_SUPPLY_FAULT_Count : Fld := ⟨CNT_SUPPLY_FAULT, 0, 32⟩
/-- PWR.PWR_THERM (18_power_reset_boot.md). -/
def PWR_THERM : Nat := 0x1014
def PWR_THERM_Tsd : Fld := ⟨PWR_THERM, 0, 16⟩
/-- AON.AON_STATUS (18_power_reset_boot.md). -/
def AON_STATUS : Nat := 0x8c000
def AON_STATUS_Busy : Fld := ⟨AON_STATUS, 0, 1⟩
/-- AON.AON_RST_CAUSE (18_power_reset_boot.md). -/
def AON_RST_CAUSE : Nat := 0x8c004
def AON_RST_CAUSE_Por : Fld := ⟨AON_RST_CAUSE, 0, 1⟩
def AON_RST_CAUSE_Pin : Fld := ⟨AON_RST_CAUSE, 1, 1⟩
def AON_RST_CAUSE_BrownOut : Fld := ⟨AON_RST_CAUSE, 2, 1⟩
def AON_RST_CAUSE_Thermal : Fld := ⟨AON_RST_CAUSE, 3, 1⟩
def AON_RST_CAUSE_Warm : Fld := ⟨AON_RST_CAUSE, 4, 1⟩
def AON_RST_CAUSE_Watchdog : Fld := ⟨AON_RST_CAUSE, 5, 1⟩
def AON_RST_CAUSE_PoolReset : Fld := ⟨AON_RST_CAUSE, 6, 1⟩
def AON_RST_CAUSE_SpindleReset : Fld := ⟨AON_RST_CAUSE, 7, 1⟩
def AON_RST_CAUSE_Wake : Fld := ⟨AON_RST_CAUSE, 8, 1⟩
def AON_RST_CAUSE_AutoRecovery : Fld := ⟨AON_RST_CAUSE, 9, 1⟩
/-- AON.AON_WAKE_CFG (18_power_reset_boot.md). -/
def AON_WAKE_CFG : Nat := 0x8c008
def AON_WAKE_CFG_Port : Fld := ⟨AON_WAKE_CFG, 0, 2⟩
def AON_WAKE_CFG_Mode : Fld := ⟨AON_WAKE_CFG, 2, 1⟩
def AON_WAKE_CFG_MagicEn : Fld := ⟨AON_WAKE_CFG, 3, 1⟩
def AON_WAKE_CFG_PatternEn : Fld := ⟨AON_WAKE_CFG, 4, 4⟩
def AON_WAKE_CFG_WakePinEn : Fld := ⟨AON_WAKE_CFG, 8, 1⟩
def AON_WAKE_CFG_PoolRetain : Fld := ⟨AON_WAKE_CFG, 9, 1⟩
/-- AON.AON_WAKE_CAUSE (18_power_reset_boot.md). -/
def AON_WAKE_CAUSE : Nat := 0x8c00c
def AON_WAKE_CAUSE_Magic : Fld := ⟨AON_WAKE_CAUSE, 0, 1⟩
def AON_WAKE_CAUSE_Pattern : Fld := ⟨AON_WAKE_CAUSE, 1, 4⟩
def AON_WAKE_CAUSE_WakePin : Fld := ⟨AON_WAKE_CAUSE, 5, 1⟩
/-- AON.AON_WAKE_ADDR_LO (18_power_reset_boot.md). -/
def AON_WAKE_ADDR_LO : Nat := 0x8c010
def AON_WAKE_ADDR_LO_Addr : Fld := ⟨AON_WAKE_ADDR_LO, 0, 32⟩
/-- AON.AON_WAKE_ADDR_HI (18_power_reset_boot.md). -/
def AON_WAKE_ADDR_HI : Nat := 0x8c014
def AON_WAKE_ADDR_HI_Addr : Fld := ⟨AON_WAKE_ADDR_HI, 0, 16⟩
/-- AON.AON_DOZE_CMD (18_power_reset_boot.md). -/
def AON_DOZE_CMD : Nat := 0x8c018
def AON_DOZE_CMD_Enter : Fld := ⟨AON_DOZE_CMD, 0, 1⟩
/-- AON.AON_PAT_SEL (18_power_reset_boot.md). -/
def AON_PAT_SEL : Nat := 0x8c020
def AON_PAT_SEL_Pattern : Fld := ⟨AON_PAT_SEL, 0, 2⟩
def AON_PAT_SEL_Word : Fld := ⟨AON_PAT_SEL, 2, 6⟩
/-- AON.AON_PAT_DATA (18_power_reset_boot.md). -/
def AON_PAT_DATA : Nat := 0x8c024
def AON_PAT_DATA_Data : Fld := ⟨AON_PAT_DATA, 0, 32⟩
/-- AON.AON_BOOT_STATUS (18_power_reset_boot.md). -/
def AON_BOOT_STATUS : Nat := 0x8c030
def AON_BOOT_STATUS_Mode : Fld := ⟨AON_BOOT_STATUS, 0, 2⟩
def AON_BOOT_STATUS_Slot : Fld := ⟨AON_BOOT_STATUS, 2, 1⟩
def AON_BOOT_STATUS_Fallback : Fld := ⟨AON_BOOT_STATUS, 3, 1⟩
def AON_BOOT_STATUS_Result : Fld := ⟨AON_BOOT_STATUS, 4, 4⟩
def AON_BOOT_STATUS_LoadWindow : Fld := ⟨AON_BOOT_STATUS, 8, 1⟩
def AON_BOOT_STATUS_Seq : Fld := ⟨AON_BOOT_STATUS, 16, 16⟩
/-- AON.AON_BOOT_CMD (18_power_reset_boot.md). -/
def AON_BOOT_CMD : Nat := 0x8c034
def AON_BOOT_CMD_Go : Fld := ⟨AON_BOOT_CMD, 0, 1⟩
/-- AON.AON_WDOG_CFG (18_power_reset_boot.md). -/
def AON_WDOG_CFG : Nat := 0x8c040
def AON_WDOG_CFG_TimeoutMs : Fld := ⟨AON_WDOG_CFG, 0, 14⟩
/-- AON.AON_WDOG_KICK (18_power_reset_boot.md). -/
def AON_WDOG_KICK : Nat := 0x8c044
def AON_WDOG_KICK_Key : Fld := ⟨AON_WDOG_KICK, 0, 16⟩
/-- AON.AON_WDOG_REMAIN (18_power_reset_boot.md). -/
def AON_WDOG_REMAIN : Nat := 0x8c048
def AON_WDOG_REMAIN_Ms : Fld := ⟨AON_WDOG_REMAIN, 0, 14⟩
/-- AON.CNT_WDOG_WARN (18_power_reset_boot.md). -/
def CNT_WDOG_WARN : Nat := 0x8c050
def CNT_WDOG_WARN_Count : Fld := ⟨CNT_WDOG_WARN, 0, 32⟩
/-- AON.CNT_BOOT_FALLBACK (18_power_reset_boot.md). -/
def CNT_BOOT_FALLBACK : Nat := 0x8c054
def CNT_BOOT_FALLBACK_Count : Fld := ⟨CNT_BOOT_FALLBACK, 0, 32⟩
/-- AON.AON_GPRk (18_power_reset_boot.md). -/
def AON_GPR (n : Nat) : Nat := 0x8c060 + n * 0x4
def AON_GPR_Data (n : Nat) : Fld := ⟨AON_GPR n, 0, 32⟩
/-- FUSE.FUSE_STATUS (18_power_reset_boot.md). -/
def FUSE_STATUS : Nat := 0x90000
def FUSE_STATUS_Busy : Fld := ⟨FUSE_STATUS, 0, 1⟩
def FUSE_STATUS_Lifecycle : Fld := ⟨FUSE_STATUS, 1, 2⟩
def FUSE_STATUS_VppOk : Fld := ⟨FUSE_STATUS, 3, 1⟩
def FUSE_STATUS_ShadowValid : Fld := ⟨FUSE_STATUS, 4, 1⟩
/-- FUSE.FUSE_ADDR (18_power_reset_boot.md). -/
def FUSE_ADDR : Nat := 0x90004
def FUSE_ADDR_Word : Fld := ⟨FUSE_ADDR, 0, 7⟩
/-- FUSE.FUSE_DATA (18_power_reset_boot.md). -/
def FUSE_DATA : Nat := 0x90008
def FUSE_DATA_Bits : Fld := ⟨FUSE_DATA, 0, 32⟩
/-- FUSE.FUSE_CMD (18_power_reset_boot.md). -/
def FUSE_CMD : Nat := 0x9000c
def FUSE_CMD_Program : Fld := ⟨FUSE_CMD, 0, 1⟩
def FUSE_CMD_Advance : Fld := ⟨FUSE_CMD, 1, 1⟩
/-- FUSE.FUSE_RESULT (18_power_reset_boot.md). -/
def FUSE_RESULT : Nat := 0x90010
def FUSE_RESULT_Code : Fld := ⟨FUSE_RESULT, 0, 4⟩
def FUSE_RESULT_Seq : Fld := ⟨FUSE_RESULT, 16, 16⟩
/-- FUSE.CNT_FUSE_PROG (18_power_reset_boot.md). -/
def CNT_FUSE_PROG : Nat := 0x90014
def CNT_FUSE_PROG_Count : Fld := ⟨CNT_FUSE_PROG, 0, 32⟩
/-- FUSE.CNT_FUSE_ERR (18_power_reset_boot.md). -/
def CNT_FUSE_ERR : Nat := 0x90018
def CNT_FUSE_ERR_Count : Fld := ⟨CNT_FUSE_ERR, 0, 32⟩
/-- FUSE.FUSE_WORDw (18_power_reset_boot.md). -/
def FUSE_WORD (n : Nat) : Nat := 0x90200 + n * 0x4
def FUSE_WORD_Data (n : Nat) : Fld := ⟨FUSE_WORD n, 0, 32⟩
/-- PCIE.MSIX_ADDR_LO (17_host_bus_registers.md). -/
def MSIX_ADDR_LO (n : Nat) : Nat := 0x84800 + n * 0x10
def MSIX_ADDR_LO_Word (n : Nat) : Fld := ⟨MSIX_ADDR_LO n, 0, 32⟩
/-- PCIE.MSIX_ADDR_HI (17_host_bus_registers.md). -/
def MSIX_ADDR_HI (n : Nat) : Nat := 0x84804 + n * 0x10
def MSIX_ADDR_HI_Word (n : Nat) : Fld := ⟨MSIX_ADDR_HI n, 0, 32⟩
/-- PCIE.MSIX_DATA (17_host_bus_registers.md). -/
def MSIX_DATA (n : Nat) : Nat := 0x84808 + n * 0x10
def MSIX_DATA_Word (n : Nat) : Fld := ⟨MSIX_DATA n, 0, 32⟩
/-- PCIE.MSIX_VCTRL (17_host_bus_registers.md). -/
def MSIX_VCTRL (n : Nat) : Nat := 0x8480c + n * 0x10
def MSIX_VCTRL_Mask (n : Nat) : Fld := ⟨MSIX_VCTRL n, 0, 1⟩
/-- PCIE.MSIX_PBA (17_host_bus_registers.md). -/
def MSIX_PBA (n : Nat) : Nat := 0x84a00 + n * 0x4
def MSIX_PBA_Pending (n : Nat) : Fld := ⟨MSIX_PBA n, 0, 32⟩

end R

/-- Register rows of block TIME, part 0. -/
def rowsTime0 : List RegRow := [
  ⟨0x68000, [], [⟨0, 1, .rw, [0]⟩, ⟨1, 3, .rw, [1]⟩]⟩,
  ⟨0x68004, [], [⟨0, 1, .ro, [0]⟩, ⟨1, 1, .ro, [0]⟩, ⟨2, 1, .ro, [0]⟩, ⟨3, 1, .ro, [0]⟩, ⟨4, 3, .ro, [1]⟩]⟩,
  ⟨0x68008, [], [⟨0, 1, .wo, [0]⟩]⟩,
  ⟨0x68010, [], [⟨0, 30, .ro, [0]⟩]⟩,
  ⟨0x68014, [], [⟨0, 16, .ro, [0]⟩]⟩,
  ⟨0x68018, [], [⟨0, 32, .ro, [0]⟩]⟩,
  ⟨0x6801c, [], [⟨0, 16, .ro, [0]⟩]⟩,
  ⟨0x68020, [], [⟨0, 32, .ro, [0]⟩]⟩,
  ⟨0x68024, [], [⟨0, 32, .ro, [0]⟩]⟩,
  ⟨0x68028, [], [⟨0, 32, .rse, [0]⟩]⟩,
  ⟨0x6802c, [], [⟨0, 32, .ro, [0]⟩]⟩,
  ⟨0x68030, [], [⟨0, 32, .rw, [0]⟩]⟩,
  ⟨0x68034, [], [⟨0, 16, .rw, [0]⟩]⟩,
  ⟨0x68038, [], [⟨0, 30, .rw, [0]⟩]⟩,
  ⟨0x6803c, [], [⟨0, 1, .wo, [0]⟩]⟩,
  ⟨0x68040, [], [⟨0, 32, .rw, [5000]⟩]⟩,
  ⟨0x68048, [], [⟨0, 32, .ro, [0]⟩]⟩,
  ⟨0x6804c, [], [⟨0, 32, .ro, [0]⟩]⟩,
  ⟨0x68050, [], [⟨0, 32, .ro, [0]⟩]⟩,
  ⟨0x68054, [], [⟨0, 32, .ro, [0]⟩]⟩,
  ⟨0x68058, [], [⟨0, 32, .ro, [0]⟩]⟩]
/-- Register rows of block TIME. -/
def rowsTime : List RegRow := rowsTime0

/-- Register rows of block TREADLE, part 0. -/
def rowsTreadle0 : List RegRow := [
  ⟨0x6c000, [], [⟨0, 1, .rw, [0]⟩]⟩,
  ⟨0x6c004, [], [⟨0, 16, .rw, [480]⟩]⟩,
  ⟨0x6c008, [], [⟨0, 13, .rw, [64]⟩]⟩,
  ⟨0x6c00c, [], [⟨0, 9, .ro, [0]⟩, ⟨9, 1, .ro, [0]⟩, ⟨10, 1, .ro, [0]⟩]⟩,
  ⟨0x6c010, [], [⟨0, 32, .ro, [0]⟩]⟩,
  ⟨0x6c014, [], [⟨0, 32, .ro, [0]⟩]⟩,
  ⟨0x6c018, [], [⟨0, 32, .ro, [0]⟩]⟩,
  ⟨0x6c01c, [], [⟨0, 32, .ro, [0]⟩]⟩,
  ⟨0x6c020, [], [⟨0, 32, .ro, [0]⟩]⟩,
  ⟨0x6c024, [], [⟨0, 32, .ro, [0]⟩]⟩,
  ⟨0x6c028, [], [⟨0, 32, .ro, [0]⟩]⟩,
  ⟨0x6c02c, [], [⟨0, 32, .ro, [0]⟩]⟩,
  ⟨0x6c030, [], [⟨0, 32, .ro, [4294967295]⟩]⟩,
  ⟨0x6c034, [], [⟨0, 32, .ro, [4294967295]⟩]⟩,
  ⟨0x6c040, [], [⟨0, 8, .rse, [0]⟩, ⟨8, 8, .rse, [255]⟩, ⟨16, 16, .rse, [0]⟩]⟩,
  ⟨0x6c044, [], [⟨0, 32, .ro, [0]⟩]⟩,
  ⟨0x6c048, [], [⟨0, 32, .ro, [0]⟩]⟩,
  ⟨0x6c04c, [], [⟨0, 32, .ro, [0]⟩]⟩,
  ⟨0x6c100, [(0x40, 4)], [⟨0, 32, .rw, [0]⟩]⟩,
  ⟨0x6c104, [(0x40, 4)], [⟨0, 32, .rw, [0]⟩]⟩,
  ⟨0x6c108, [(0x40, 4)], [⟨0, 8, .rw, [0]⟩, ⟨8, 8, .rw, [0]⟩, ⟨16, 16, .rw, [0]⟩]⟩,
  ⟨0x6c10c, [(0x40, 4)], [⟨0, 16, .rw, [65535]⟩]⟩,
  ⟨0x6c110, [(0x40, 4), (0x4, 4)], [⟨0, 32, .rw, [0]⟩]⟩,
  ⟨0x6c120, [(0x40, 4)], [⟨0, 1, .wo, [0]⟩, ⟨1, 1, .wo, [0]⟩]⟩,
  ⟨0x6c124, [(0x40, 4)], [⟨0, 8, .ro, [0]⟩, ⟨16, 16, .ro, [0]⟩]⟩]
/-- Register rows of block TREADLE. -/
def rowsTreadle : List RegRow := rowsTreadle0

/-- Register rows of block REED, part 0. -/
def rowsReed0 : List RegRow := [
  ⟨0x60000, [], [⟨0, 2, .rw, [0]⟩, ⟨2, 4, .rw, [0]⟩, ⟨6, 1, .rw, [1]⟩, ⟨7, 1, .rw, [1]⟩]⟩,
  ⟨0x60004, [], [⟨0, 1, .ro, [0]⟩, ⟨1, 3, .ro, [0]⟩, ⟨4, 4, .ro, [15]⟩, ⟨8, 4, .ro, [15]⟩, ⟨12, 1, .ro, [0]⟩, ⟨13, 1, .ro, [0]⟩]⟩,
  ⟨0x60008, [], [⟨0, 16, .rw, [50]⟩]⟩,
  ⟨0x6000c, [], [⟨0, 8, .rw, [100]⟩]⟩,
  ⟨0x60010, [], [⟨0, 16, .rw, [1000]⟩]⟩,
  ⟨0x60014, [], [⟨0, 16, .rw, [1000]⟩]⟩,
  ⟨0x60018, [], [⟨0, 8, .rw, [100]⟩]⟩,
  ⟨0x6001c, [], [⟨0, 32, .rw, [0]⟩]⟩,
  ⟨0x60020, [], [⟨0, 12, .rw, [300]⟩, ⟨12, 6, .rw, [5]⟩, ⟨18, 1, .rw, [1]⟩]⟩,
  ⟨0x60024, [], [⟨0, 32, .rw, [1000]⟩]⟩,
  ⟨0x60028, [], [⟨0, 32, .ro, [0]⟩]⟩,
  ⟨0x6002c, [], [⟨0, 32, .ro, [0]⟩]⟩,
  ⟨0x60030, [], [⟨0, 32, .ro, [0]⟩]⟩,
  ⟨0x60034, [], [⟨0, 1, .ro, [0]⟩, ⟨1, 31, .ro, [0]⟩]⟩,
  ⟨0x60038, [], [⟨0, 32, .ro, [0]⟩]⟩,
  ⟨0x6003c, [], [⟨0, 32, .ro, [0]⟩]⟩,
  ⟨0x60040, [(0x4, 6)], [⟨0, 24, .rw, [100, 10000, 1000, 50, 1000, 50000]⟩, ⟨24, 3, .rw, [3]⟩]⟩,
  ⟨0x60060, [], [⟨0, 32, .ro, [0]⟩]⟩,
  ⟨0x60064, [], [⟨0, 32, .ro, [0]⟩]⟩,
  ⟨0x60068, [], [⟨0, 32, .rw, [0]⟩]⟩,
  ⟨0x6006c, [], [⟨0, 32, .rw, [0]⟩]⟩,
  ⟨0x60070, [], [⟨0, 1, .wo, [0]⟩, ⟨1, 1, .wo, [0]⟩]⟩,
  ⟨0x60074, [], [⟨0, 1, .ro, [0]⟩, ⟨8, 2, .ro, [0]⟩]⟩,
  ⟨0x60080, [], [⟨0, 32, .ro, [0]⟩]⟩,
  ⟨0x60084, [], [⟨0, 32, .ro, [0]⟩]⟩,
  ⟨0x60088, [], [⟨0, 32, .ro, [0]⟩]⟩,
  ⟨0x6008c, [], [⟨0, 32, .ro, [0]⟩]⟩,
  ⟨0x60090, [], [⟨0, 32, .ro, [0]⟩]⟩,
  ⟨0x60100, [(0x40, 10)], [⟨0, 1, .rw, [0]⟩, ⟨1, 4, .rw, [15]⟩, ⟨5, 3, .ro, [0, 0, 0, 0, 1, 1, 2, 3, 4, 5]⟩, ⟨8, 1, .rw, [0]⟩, ⟨9, 1, .rw, [1, 1, 1, 1, 0, 0, 0, 0, 0, 0]⟩]⟩,
  ⟨0x60104, [(0x40, 10)], [⟨0, 24, .rw, [2000]⟩]⟩]
/-- Register rows of block REED, part 1. -/
def rowsReed1 : List RegRow := [
  ⟨0x60108, [(0x40, 10)], [⟨0, 32, .rw, [2000, 2000, 2000, 2000, 100, 100, 100, 100, 10, 10]⟩]⟩,
  ⟨0x6010c, [(0x40, 10)], [⟨0, 12, .rw, [60]⟩]⟩,
  ⟨0x60110, [(0x40, 10)], [⟨0, 18, .rw, [0, 0, 0, 0, 96000, 96000, 25, 0, 0, 0]⟩, ⟨18, 10, .rw, [1]⟩]⟩,
  ⟨0x60114, [(0x40, 10)], [⟨0, 3, .ro, [0]⟩, ⟨3, 1, .ro, [0]⟩, ⟨4, 4, .ro, [0]⟩, ⟨8, 20, .ro, [0]⟩]⟩,
  ⟨0x60118, [(0x40, 10)], [⟨0, 32, .ro, [0]⟩]⟩,
  ⟨0x6011c, [(0x40, 10)], [⟨0, 32, .ro, [0]⟩]⟩,
  ⟨0x60120, [(0x40, 10)], [⟨0, 32, .ro, [0]⟩]⟩,
  ⟨0x60400, [(0x20, 4)], [⟨0, 2, .rw, [0]⟩, ⟨2, 1, .rw, [0]⟩, ⟨3, 1, .rw, [0]⟩, ⟨4, 1, .rw, [0]⟩]⟩,
  ⟨0x60404, [(0x20, 4)], [⟨0, 18, .rw, [25]⟩, ⟨18, 10, .rw, [1]⟩]⟩,
  ⟨0x60408, [(0x20, 4)], [⟨0, 32, .rw, [0]⟩]⟩,
  ⟨0x6040c, [(0x20, 4)], [⟨0, 28, .rw, [12500]⟩]⟩,
  ⟨0x60410, [(0x20, 4)], [⟨0, 16, .rw, [1000]⟩, ⟨16, 16, .rw, [100]⟩]⟩,
  ⟨0x60414, [(0x20, 4)], [⟨0, 1, .ro, [0]⟩, ⟨1, 1, .ro, [0]⟩, ⟨2, 1, .ro, [0]⟩]⟩,
  ⟨0x60418, [(0x20, 4)], [⟨0, 32, .ro, [0]⟩]⟩,
  ⟨0x6041c, [(0x20, 4)], [⟨0, 32, .ro, [0]⟩]⟩]
/-- Register rows of block REED. -/
def rowsReed : List RegRow := rowsReed0 ++ rowsReed1

/-- Register rows of block SYNTH, part 0. -/
def rowsSynth0 : List RegRow := [
  ⟨0x64000, [], [⟨0, 1, .rw, [1]⟩, ⟨1, 1, .rw, [0]⟩]⟩,
  ⟨0x64004, [], [⟨0, 1, .ro, [0]⟩]⟩,
  ⟨0x64010, [], [⟨0, 2, .rw, [1]⟩]⟩,
  ⟨0x64014, [], [⟨0, 16, .rw, [0]⟩]⟩,
  ⟨0x64100, [(0x80, 2)], [⟨0, 1, .rw, [1]⟩, ⟨1, 1, .rw, [0]⟩, ⟨2, 1, .rw, [1]⟩, ⟨3, 13, .rw, [500]⟩]⟩,
  ⟨0x64104, [(0x80, 2)], [⟨0, 28, .rw, [98304000, 24576000]⟩, ⟨28, 1, .rw, [0]⟩]⟩,
  ⟨0x64108, [(0x80, 2)], [⟨0, 17, .rw, [100000]⟩]⟩,
  ⟨0x6410c, [(0x80, 2)], [⟨0, 2, .ro, [0]⟩, ⟨2, 1, .ro, [0]⟩, ⟨3, 1, .ro, [0]⟩, ⟨4, 2, .ro, [0]⟩]⟩,
  ⟨0x64110, [(0x80, 2)], [⟨0, 32, .ro, [0]⟩]⟩,
  ⟨0x64120, [(0x80, 2)], [⟨0, 1, .wo, [0]⟩, ⟨1, 1, .wo, [0]⟩, ⟨2, 1, .wo, [0]⟩, ⟨8, 24, .rw, [10000]⟩]⟩,
  ⟨0x64124, [(0x80, 2)], [⟨0, 3, .ro, [0]⟩, ⟨3, 1, .ro, [0]⟩, ⟨4, 2, .ro, [0]⟩]⟩,
  ⟨0x64128, [(0x80, 2)], [⟨0, 32, .ro, [0]⟩]⟩,
  ⟨0x64140, [(0x80, 2), (0x8, 8)], [⟨0, 24, .rw, [0]⟩]⟩,
  ⟨0x64144, [(0x80, 2), (0x8, 8)], [⟨0, 16, .rw, [0]⟩]⟩,
  ⟨0x64400, [(0x10, 12)], [⟨0, 1, .rw, [0]⟩, ⟨1, 1, .rw, [0]⟩, ⟨2, 1, .rw, [1]⟩, ⟨3, 1, .rw, [0]⟩, ⟨4, 1, .rw, [0]⟩]⟩,
  ⟨0x64404, [(0x10, 12)], [⟨0, 16, .rw, [7]⟩]⟩,
  ⟨0x64408, [(0x10, 12)], [⟨0, 16, .rw, [0]⟩, ⟨16, 8, .rw, [0]⟩]⟩,
  ⟨0x6440c, [(0x10, 12)], [⟨0, 16, .ro, [0]⟩, ⟨16, 1, .ro, [0]⟩, ⟨17, 1, .ro, [0]⟩]⟩]
/-- Register rows of block SYNTH. -/
def rowsSynth : List RegRow := rowsSynth0

/-- Register rows of block MAC, part 0. -/
def rowsMac0 : List RegRow := [
  ⟨0x10000, [(0x1000, 4)], [⟨0, 1, .rw, [0]⟩, ⟨1, 1, .rw, [0]⟩, ⟨2, 2, .rw, [0]⟩, ⟨4, 1, .rw, [0]⟩, ⟨5, 1, .rw, [0]⟩, ⟨6, 1, .rw, [1]⟩, ⟨7, 1, .rw, [1]⟩, ⟨8, 1, .rw, [1]⟩, ⟨9, 3, .rw, [0]⟩]⟩,
  ⟨0x10004, [(0x1000, 4)], [⟨0, 3, .ro, [0]⟩, ⟨3, 1, .ro, [0]⟩, ⟨4, 8, .ro, [0]⟩, ⟨12, 8, .ro, [0]⟩, ⟨20, 8, .ro, [0]⟩]⟩,
  ⟨0x10008, [(0x1000, 4)], [⟨0, 14, .rw, [1522]⟩]⟩,
  ⟨0x10010, [(0x1000, 4), (0x8, 4)], [⟨0, 32, .rw, [0]⟩]⟩,
  ⟨0x10014, [(0x1000, 4), (0x8, 4)], [⟨0, 16, .rw, [0]⟩, ⟨31, 1, .rw, [0]⟩]⟩,
  ⟨0x10030, [(0x1000, 4)], [⟨0, 16, .rw, [100]⟩, ⟨16, 1, .rw, [0]⟩, ⟨17, 1, .rw, [1]⟩]⟩,
  ⟨0x10034, [(0x1000, 4)], [⟨0, 16, .rw, [4883]⟩, ⟨16, 16, .rw, [2441]⟩]⟩,
  ⟨0x10040, [(0x1000, 4), (0x8, 8)], [⟨0, 12, .rw, [0]⟩, ⟨12, 1, .rw, [0]⟩, ⟨13, 2, .rw, [0, 0, 0, 0, 1, 2, 2, 3]⟩]⟩,
  ⟨0x10044, [(0x1000, 4), (0x8, 8)], [⟨0, 16, .rw, [0]⟩, ⟨16, 16, .rw, [0]⟩]⟩,
  ⟨0x10080, [(0x1000, 4)], [⟨0, 32, .rw, [0]⟩]⟩,
  ⟨0x10084, [(0x1000, 4)], [⟨0, 32, .rw, [0]⟩]⟩,
  ⟨0x10088, [(0x1000, 4)], [⟨0, 7, .ro, [0]⟩, ⟨8, 3, .ro, [0]⟩]⟩,
  ⟨0x1008c, [(0x1000, 4)], [⟨0, 16, .rse, [0]⟩, ⟨16, 1, .rse, [0]⟩, ⟨17, 1, .rse, [0]⟩]⟩,
  ⟨0x10090, [(0x1000, 4)], [⟨0, 32, .ro, [0]⟩]⟩,
  ⟨0x10094, [(0x1000, 4)], [⟨0, 16, .ro, [0]⟩]⟩,
  ⟨0x10098, [(0x1000, 4)], [⟨0, 30, .ro, [0]⟩]⟩,
  ⟨0x1009c, [(0x1000, 4)], [⟨0, 16, .ro, [0]⟩]⟩,
  ⟨0x100a0, [(0x1000, 4)], [⟨0, 16, .rse, [0]⟩, ⟨16, 1, .rse, [0]⟩]⟩,
  ⟨0x10100, [(0x1000, 4), (0x10, 16)], [⟨0, 32, .rw, [0]⟩]⟩,
  ⟨0x10104, [(0x1000, 4), (0x10, 16)], [⟨0, 16, .rw, [0]⟩, ⟨16, 12, .rw, [0]⟩, ⟨28, 1, .rw, [0]⟩, ⟨31, 1, .rw, [0]⟩]⟩,
  ⟨0x10108, [(0x1000, 4), (0x10, 16)], [⟨0, 4, .rw, [0]⟩, ⟨4, 12, .rw, [64]⟩, ⟨16, 12, .rw, [0]⟩]⟩,
  ⟨0x10300, [(0x1000, 4)], [⟨0, 32, .ro, [0]⟩]⟩,
  ⟨0x10304, [(0x1000, 4)], [⟨0, 20, .ro, [0]⟩]⟩,
  ⟨0x10308, [(0x1000, 4)], [⟨0, 32, .rw, [0]⟩]⟩,
  ⟨0x1030c, [(0x1000, 4)], [⟨0, 32, .ro, [0]⟩]⟩,
  ⟨0x10400, [(0x1000, 4), (0x4, 52)], [⟨0, 32, .rw, [0]⟩]⟩,
  ⟨0x10600, [(0x1000, 4), (0x4, 52)], [⟨0, 32, .rse, [0]⟩]⟩,
  ⟨0x10800, [(0x1000, 4), (0x8, 256)], [⟨0, 32, .rw, [0]⟩]⟩,
  ⟨0x10804, [(0x1000, 4), (0x8, 256)], [⟨0, 16, .rw, [0]⟩, ⟨31, 1, .rw, [0]⟩]⟩]
/-- Register rows of block MAC. -/
def rowsMac : List RegRow := rowsMac0

/-- Register rows of block PCS, part 0. -/
def rowsPcs0 : List RegRow := [
  ⟨0x18000, [(0x1000, 4)], [⟨0, 1, .rw, [0]⟩, ⟨1, 2, .rw, [0]⟩, ⟨3, 1, .rw, [0]⟩, ⟨4, 1, .rw, [1]⟩, ⟨5, 1, .rw, [1]⟩, ⟨6, 2, .rw, [0]⟩, ⟨8, 1, .rw, [0]⟩, ⟨9, 1, .rw, [0]⟩, ⟨10, 1, .rw, [0]⟩]⟩,
  ⟨0x18004, [(0x1000, 4)], [⟨0, 1, .ro, [0]⟩, ⟨1, 1, .ro, [0]⟩, ⟨2, 1, .ro, [0]⟩, ⟨3, 1, .ro, [0]⟩, ⟨4, 1, .ro, [0]⟩, ⟨5, 1, .ro, [0]⟩, ⟨6, 1, .ro, [0]⟩, ⟨7, 1, .ro, [0]⟩]⟩,
  ⟨0x18008, [(0x1000, 4)], [⟨0, 1, .wo, [0]⟩, ⟨1, 1, .wo, [0]⟩]⟩,
  ⟨0x1800c, [(0x1000, 4)], [⟨0, 32, .ro, [0]⟩]⟩,
  ⟨0x18010, [(0x1000, 4)], [⟨0, 32, .ro, [0]⟩]⟩,
  ⟨0x18014, [(0x1000, 4)], [⟨0, 8, .ro, [0]⟩, ⟨8, 8, .ro, [0]⟩]⟩,
  ⟨0x18018, [(0x1000, 4)], [⟨0, 6, .rw, [0]⟩, ⟨6, 6, .rw, [48]⟩, ⟨12, 6, .rw, [0]⟩]⟩]
/-- Register rows of block PCS. -/
def rowsPcs : List RegRow := rowsPcs0

/-- Register rows of block WARP, part 0. -/
def rowsWarp0 : List RegRow := [
  ⟨0x20000, [], [⟨0, 1, .rw, [0]⟩]⟩,
  ⟨0x20004, [], [⟨0, 13, .ro, [0]⟩, ⟨13, 11, .ro, [0]⟩]⟩,
  ⟨0x20008, [], [⟨0, 16, .rw, [480]⟩]⟩,
  ⟨0x2000c, [], [⟨0, 16, .rw, [1000]⟩]⟩,
  ⟨0x20010, [], [⟨0, 10, .rw, [0]⟩]⟩,
  ⟨0x20014, [], [⟨0, 1, .wo, [0]⟩, ⟨1, 1, .wo, [0]⟩, ⟨2, 1, .wo, [0]⟩]⟩,
  ⟨0x20018, [], [⟨0, 8, .ro, [0]⟩, ⟨16, 16, .ro, [0]⟩]⟩,
  ⟨0x20040, [], [⟨0, 1, .rw, [0]⟩, ⟨1, 3, .rw, [0]⟩, ⟨4, 4, .rw, [0]⟩, ⟨8, 4, .rw, [0]⟩, ⟨12, 2, .rw, [0]⟩, ⟨14, 1, .rw, [0]⟩, ⟨15, 1, .rw, [0]⟩, ⟨16, 7, .rw, [96]⟩, ⟨23, 8, .rw, [0]⟩]⟩,
  ⟨0x20044, [], [⟨0, 32, .rw, [0]⟩]⟩,
  ⟨0x20048, [], [⟨0, 16, .rw, [0]⟩]⟩,
  ⟨0x2004c, [], [⟨0, 32, .rw, [0]⟩]⟩,
  ⟨0x20050, [], [⟨0, 32, .rw, [0]⟩]⟩,
  ⟨0x20054, [], [⟨0, 32, .rw, [0]⟩]⟩,
  ⟨0x20058, [], [⟨0, 12, .rw, [0]⟩, ⟨16, 12, .rw, [0]⟩]⟩,
  ⟨0x2005c, [], [⟨0, 12, .rw, [2]⟩, ⟨12, 12, .rw, [2]⟩, ⟨24, 8, .rw, [48]⟩]⟩,
  ⟨0x20060, [], [⟨0, 32, .rw, [0]⟩]⟩,
  ⟨0x20064, [], [⟨0, 4, .rw, [0]⟩, ⟨4, 1, .rw, [0]⟩, ⟨5, 1, .rw, [0]⟩, ⟨6, 1, .rw, [0]⟩]⟩,
  ⟨0x20068, [], [⟨0, 1, .rw, [0]⟩]⟩,
  ⟨0x20080, [], [⟨0, 2, .ro, [0]⟩, ⟨2, 6, .ro, [0]⟩]⟩,
  ⟨0x20084, [], [⟨0, 32, .ro, [0]⟩]⟩,
  ⟨0x20088, [], [⟨0, 32, .ro, [0]⟩]⟩,
  ⟨0x2008c, [], [⟨0, 32, .ro, [0]⟩]⟩,
  ⟨0x20090, [], [⟨0, 32, .ro, [0]⟩]⟩,
  ⟨0x20094, [], [⟨0, 32, .ro, [0]⟩]⟩,
  ⟨0x20098, [], [⟨0, 16, .ro, [0]⟩]⟩,
  ⟨0x200c0, [(0x4, 15)], [⟨0, 32, .ro, [0]⟩]⟩,
  ⟨0x20100, [], [⟨0, 32, .ro, [0]⟩]⟩,
  ⟨0x20104, [], [⟨0, 32, .ro, [0]⟩]⟩,
  ⟨0x20108, [], [⟨0, 32, .ro, [0]⟩]⟩,
  ⟨0x2010c, [], [⟨0, 32, .ro, [0]⟩]⟩]
/-- Register rows of block WARP, part 1. -/
def rowsWarp1 : List RegRow := [
  ⟨0x20120, [], [⟨0, 10, .rse, [0]⟩, ⟨10, 1, .rse, [0]⟩, ⟨11, 1, .rse, [0]⟩]⟩,
  ⟨0x20124, [], [⟨0, 16, .ro, [0]⟩]⟩,
  ⟨0x20128, [], [⟨0, 16, .ro, [0]⟩, ⟨16, 16, .ro, [0]⟩]⟩]
/-- Register rows of block WARP. -/
def rowsWarp : List RegRow := rowsWarp0 ++ rowsWarp1

/-- Register rows of block SHUTTLE, part 0. -/
def rowsShuttle0 : List RegRow := [
  ⟨0x24000, [], [⟨0, 1, .rw, [0]⟩]⟩,
  ⟨0x24004, [], [⟨0, 13, .ro, [0]⟩, ⟨13, 11, .ro, [0]⟩]⟩,
  ⟨0x24008, [], [⟨0, 16, .rw, [0]⟩]⟩,
  ⟨0x2400c, [], [⟨0, 12, .ro, [54]⟩]⟩,
  ⟨0x24010, [], [⟨0, 10, .rw, [0]⟩]⟩,
  ⟨0x24014, [], [⟨0, 1, .wo, [0]⟩, ⟨1, 1, .wo, [0]⟩, ⟨2, 1, .wo, [0]⟩]⟩,
  ⟨0x24018, [], [⟨0, 8, .ro, [0]⟩, ⟨16, 16, .ro, [0]⟩]⟩,
  ⟨0x24020, [(0x4, 4)], [⟨0, 7, .rw, [75]⟩]⟩,
  ⟨0x24030, [(0x4, 4)], [⟨0, 32, .rw, [0]⟩]⟩,
  ⟨0x24040, [], [⟨0, 1, .rw, [0]⟩, ⟨1, 3, .rw, [0]⟩, ⟨4, 4, .rw, [0]⟩, ⟨8, 4, .rw, [0]⟩, ⟨12, 1, .rw, [0]⟩, ⟨13, 1, .rw, [1]⟩, ⟨14, 1, .rw, [1]⟩, ⟨16, 7, .rw, [96]⟩, ⟨23, 8, .rw, [0]⟩]⟩,
  ⟨0x24044, [], [⟨0, 32, .rw, [0]⟩]⟩,
  ⟨0x24048, [], [⟨0, 16, .rw, [0]⟩]⟩,
  ⟨0x2404c, [], [⟨0, 32, .rw, [0]⟩]⟩,
  ⟨0x24050, [], [⟨0, 32, .rw, [0]⟩]⟩,
  ⟨0x24054, [], [⟨0, 32, .rw, [0]⟩]⟩,
  ⟨0x24058, [], [⟨0, 12, .rw, [0]⟩, ⟨16, 12, .rw, [0]⟩]⟩,
  ⟨0x2405c, [], [⟨0, 6, .rw, [0]⟩, ⟨6, 12, .rw, [2]⟩]⟩,
  ⟨0x24060, [], [⟨0, 32, .rw, [0]⟩]⟩,
  ⟨0x24064, [], [⟨0, 16, .rw, [0]⟩, ⟨16, 4, .rw, [0]⟩]⟩,
  ⟨0x24068, [], [⟨0, 12, .rw, [0]⟩, ⟨12, 3, .rw, [5]⟩, ⟨15, 1, .rw, [1]⟩, ⟨16, 6, .rw, [46]⟩, ⟨22, 8, .rw, [16]⟩]⟩,
  ⟨0x24080, [], [⟨0, 2, .ro, [0]⟩]⟩,
  ⟨0x24084, [], [⟨0, 16, .ro, [0]⟩]⟩,
  ⟨0x24088, [], [⟨0, 32, .ro, [0]⟩]⟩,
  ⟨0x240c0, [(0x4, 6)], [⟨0, 32, .ro, [0]⟩]⟩,
  ⟨0x24100, [], [⟨0, 32, .ro, [0]⟩]⟩,
  ⟨0x24104, [], [⟨0, 32, .ro, [0]⟩]⟩,
  ⟨0x24108, [], [⟨0, 32, .ro, [0]⟩]⟩,
  ⟨0x2410c, [], [⟨0, 32, .ro, [0]⟩]⟩,
  ⟨0x24110, [], [⟨0, 1, .rw, [0]⟩]⟩,
  ⟨0x24114, [], [⟨0, 1, .ro, [1]⟩]⟩]
/-- Register rows of block SHUTTLE, part 1. -/
def rowsShuttle1 : List RegRow := [
  ⟨0x24120, [(0x4, 4)], [⟨0, 32, .rw, [4294967295]⟩]⟩,
  ⟨0x24130, [], [⟨0, 1, .rse, [0]⟩, ⟨1, 1, .rse, [0]⟩, ⟨2, 7, .rse, [0]⟩]⟩,
  ⟨0x24134, [], [⟨0, 32, .ro, [0]⟩]⟩,
  ⟨0x24138, [], [⟨0, 32, .ro, [0]⟩]⟩,
  ⟨0x2413c, [], [⟨0, 16, .ro, [0]⟩, ⟨16, 16, .ro, [0]⟩]⟩]
/-- Register rows of block SHUTTLE. -/
def rowsShuttle : List RegRow := rowsShuttle0 ++ rowsShuttle1

/-- Register rows of block BOBBIN, part 0. -/
def rowsBobbin0 : List RegRow := [
  ⟨0x28000, [], [⟨0, 1, .rw, [0]⟩]⟩,
  ⟨0x28004, [], [⟨0, 1, .ro, [0]⟩, ⟨1, 1, .ro, [0]⟩]⟩,
  ⟨0x28008, [], [⟨0, 18, .rw, [0]⟩]⟩,
  ⟨0x2800c, [], [⟨0, 5, .rw, [8]⟩]⟩,
  ⟨0x28010, [], [⟨0, 19, .ro, [262144]⟩]⟩,
  ⟨0x28014, [], [⟨0, 19, .ro, [0]⟩]⟩,
  ⟨0x28018, [], [⟨0, 18, .ro, [0]⟩]⟩,
  ⟨0x28020, [], [⟨0, 32, .ro, [0]⟩]⟩,
  ⟨0x28024, [], [⟨0, 32, .ro, [0]⟩]⟩,
  ⟨0x28040, [(0x4, 16)], [⟨0, 32, .ro, [0]⟩]⟩,
  ⟨0x28100, [], [⟨0, 12, .rw, [0]⟩]⟩,
  ⟨0x28104, [], [⟨0, 1, .wo, [0]⟩, ⟨1, 1, .wo, [0]⟩, ⟨2, 1, .wo, [0]⟩, ⟨3, 1, .wo, [0]⟩]⟩,
  ⟨0x28108, [], [⟨0, 8, .ro, [0]⟩, ⟨16, 16, .ro, [0]⟩]⟩,
  ⟨0x28140, [], [⟨0, 1, .rw, [0]⟩, ⟨1, 2, .rw, [0]⟩, ⟨3, 1, .rw, [0]⟩, ⟨4, 2, .rw, [1]⟩]⟩,
  ⟨0x28144, [], [⟨0, 19, .rw, [0]⟩]⟩,
  ⟨0x28148, [], [⟨0, 14, .rw, [1538]⟩]⟩,
  ⟨0x2814c, [], [⟨0, 12, .rw, [16]⟩]⟩,
  ⟨0x28160, [], [⟨0, 2, .ro, [0]⟩, ⟨2, 1, .ro, [0]⟩]⟩,
  ⟨0x28164, [], [⟨0, 23, .ro, [0]⟩]⟩,
  ⟨0x28168, [], [⟨0, 19, .ro, [0]⟩]⟩,
  ⟨0x2816c, [], [⟨0, 16, .ro, [0]⟩]⟩,
  ⟨0x28170, [], [⟨0, 19, .ro, [0]⟩]⟩,
  ⟨0x28180, [(0x4, 9)], [⟨0, 32, .ro, [0]⟩]⟩,
  ⟨0x28200, [(0x20, 4)], [⟨0, 12, .rw, [0]⟩]⟩,
  ⟨0x28204, [(0x20, 4)], [⟨0, 32, .wo, [0]⟩]⟩,
  ⟨0x28208, [(0x20, 4)], [⟨0, 2, .wo, [0]⟩, ⟨2, 2, .wo, [0]⟩]⟩,
  ⟨0x2820c, [(0x20, 4)], [⟨0, 32, .rse, [0]⟩]⟩,
  ⟨0x28210, [(0x20, 4)], [⟨24, 8, .ro, [0]⟩]⟩,
  ⟨0x28214, [(0x20, 4)], [⟨0, 8, .ro, [0]⟩, ⟨16, 16, .ro, [0]⟩]⟩]
/-- Register rows of block BOBBIN. -/
def rowsBobbin : List RegRow := rowsBobbin0

/-- Register rows of block HEDDLE, part 0. -/
def rowsHeddle0 : List RegRow := [
  ⟨0x30000, [], [⟨0, 1, .rw, [0]⟩]⟩,
  ⟨0x30004, [], [⟨0, 15, .ro, [0]⟩, ⟨15, 1, .ro, [0]⟩, ⟨16, 1, .ro, [0]⟩]⟩,
  ⟨0x30008, [], [⟨0, 15, .ro, [16384]⟩]⟩,
  ⟨0x3000c, [], [⟨0, 15, .ro, [0]⟩]⟩,
  ⟨0x30010, [], [⟨0, 1, .wo, [0]⟩]⟩,
  ⟨0x30014, [], [⟨0, 18, .ro, [0]⟩]⟩,
  ⟨0x30020, [], [⟨0, 1, .wo, [0]⟩, ⟨1, 1, .wo, [0]⟩, ⟨2, 1, .wo, [0]⟩, ⟨3, 1, .wo, [0]⟩, ⟨16, 16, .wo, [0]⟩]⟩,
  ⟨0x30024, [], [⟨0, 8, .ro, [0]⟩, ⟨16, 16, .ro, [0]⟩]⟩,
  ⟨0x30030, [], [⟨0, 32, .rw, [0]⟩]⟩,
  ⟨0x30034, [], [⟨0, 32, .rw, [0]⟩]⟩,
  ⟨0x30038, [], [⟨0, 32, .rw, [0]⟩]⟩,
  ⟨0x3003c, [], [⟨0, 16, .wo, [0]⟩]⟩,
  ⟨0x30040, [(0x4, 8)], [⟨0, 16, .ro, [0]⟩, ⟨16, 3, .ro, [0]⟩, ⟨19, 11, .ro, [0]⟩]⟩,
  ⟨0x30080, [], [⟨0, 13, .rw, [0]⟩]⟩,
  ⟨0x30084, [], [⟨0, 1, .wo, [0]⟩, ⟨1, 1, .wo, [0]⟩]⟩,
  ⟨0x30088, [], [⟨0, 8, .ro, [0]⟩, ⟨16, 16, .ro, [0]⟩]⟩,
  ⟨0x300c0, [], [⟨0, 13, .rw, [8191]⟩, ⟨13, 1, .rw, [0]⟩]⟩,
  ⟨0x300c4, [], [⟨0, 17, .rw, [0]⟩]⟩,
  ⟨0x300c8, [], [⟨0, 17, .rw, [0]⟩]⟩,
  ⟨0x300cc, [], [⟨0, 16, .rw, [0]⟩]⟩,
  ⟨0x300d0, [], [⟨0, 2, .rw, [0]⟩, ⟨2, 1, .rw, [0]⟩]⟩,
  ⟨0x300e0, [], [⟨0, 18, .ro, [0]⟩]⟩,
  ⟨0x300e4, [], [⟨0, 17, .ro, [0]⟩, ⟨17, 1, .ro, [0]⟩, ⟨18, 1, .ro, [0]⟩]⟩,
  ⟨0x30100, [], [⟨0, 8, .rw, [1]⟩]⟩,
  ⟨0x30104, [], [⟨0, 32, .rw, [268435456]⟩]⟩,
  ⟨0x30108, [], [⟨0, 16, .rw, [1]⟩, ⟨16, 1, .rw, [0]⟩]⟩,
  ⟨0x3010c, [], [⟨0, 1, .wo, [0]⟩]⟩,
  ⟨0x30110, [], [⟨0, 32, .ro, [268435456]⟩]⟩,
  ⟨0x30120, [], [⟨0, 13, .rw, [0]⟩, ⟨13, 13, .rw, [0]⟩]⟩,
  ⟨0x30124, [], [⟨0, 1, .wo, [0]⟩]⟩]
/-- Register rows of block HEDDLE, part 1. -/
def rowsHeddle1 : List RegRow := [
  ⟨0x30128, [], [⟨0, 32, .ro, [0]⟩]⟩,
  ⟨0x3012c, [], [⟨0, 32, .ro, [0]⟩]⟩,
  ⟨0x30130, [], [⟨0, 1, .ro, [0]⟩, ⟨1, 1, .ro, [0]⟩, ⟨2, 8, .ro, [0]⟩, ⟨10, 1, .ro, [0]⟩, ⟨16, 16, .ro, [0]⟩]⟩,
  ⟨0x30180, [], [⟨0, 32, .ro, [0]⟩]⟩,
  ⟨0x30184, [], [⟨0, 32, .ro, [0]⟩]⟩,
  ⟨0x30188, [], [⟨0, 32, .ro, [0]⟩]⟩,
  ⟨0x3018c, [], [⟨0, 32, .ro, [0]⟩]⟩,
  ⟨0x30190, [], [⟨0, 32, .ro, [0]⟩]⟩,
  ⟨0x30200, [(0x10, 16)], [⟨0, 2, .rw, [0]⟩]⟩,
  ⟨0x30204, [(0x10, 16)], [⟨0, 32, .rw, [0]⟩]⟩,
  ⟨0x30208, [(0x10, 16)], [⟨0, 31, .rw, [0]⟩]⟩]
/-- Register rows of block HEDDLE. -/
def rowsHeddle : List RegRow := rowsHeddle0 ++ rowsHeddle1

/-- Register rows of block DEC, part 0. -/
def rowsDec0 : List RegRow := [
  ⟨0x38000, [], [⟨0, 1, .rw, [0]⟩, ⟨1, 1, .rw, [0]⟩, ⟨2, 1, .rw, [0]⟩]⟩,
  ⟨0x38004, [], [⟨0, 1, .ro, [0]⟩, ⟨1, 1, .ro, [0]⟩]⟩,
  ⟨0x38008, [], [⟨0, 1, .wo, [0]⟩]⟩,
  ⟨0x38010, [(0x4, 4)], [⟨0, 1, .rw, [0]⟩, ⟨1, 1, .rw, [1]⟩, ⟨2, 1, .rw, [0]⟩, ⟨3, 1, .rw, [0]⟩]⟩,
  ⟨0x38020, [(0x4, 4)], [⟨0, 2, .ro, [0]⟩, ⟨2, 2, .ro, [3]⟩]⟩,
  ⟨0x38030, [], [⟨0, 32, .ro, [0]⟩]⟩,
  ⟨0x38034, [], [⟨0, 32, .ro, [0]⟩]⟩,
  ⟨0x38040, [], [⟨0, 32, .ro, [0]⟩]⟩,
  ⟨0x38044, [], [⟨0, 32, .ro, [0]⟩]⟩,
  ⟨0x38048, [], [⟨0, 32, .ro, [0]⟩]⟩,
  ⟨0x3804c, [], [⟨0, 32, .ro, [0]⟩]⟩,
  ⟨0x38050, [], [⟨0, 32, .ro, [0]⟩]⟩,
  ⟨0x38054, [], [⟨0, 32, .ro, [0]⟩]⟩,
  ⟨0x38060, [], [⟨0, 32, .ro, [0]⟩]⟩,
  ⟨0x38064, [], [⟨0, 32, .ro, [0]⟩]⟩,
  ⟨0x38070, [], [⟨0, 1, .rw, [0]⟩, ⟨8, 7, .rw, [0]⟩]⟩,
  ⟨0x38074, [], [⟨0, 32, .ro, [0]⟩]⟩,
  ⟨0x38400, [(0x10, 64)], [⟨0, 1, .rw, [0]⟩, ⟨1, 1, .rw, [0]⟩, ⟨2, 5, .rw, [12]⟩, ⟨7, 6, .rw, [0]⟩, ⟨13, 8, .rw, [0]⟩, ⟨21, 1, .rw, [0]⟩]⟩,
  ⟨0x38404, [(0x10, 64)], [⟨0, 32, .rw, [268435456]⟩]⟩,
  ⟨0x38408, [(0x10, 64)], [⟨0, 6, .ro, [0]⟩, ⟨6, 8, .ro, [0]⟩, ⟨14, 1, .ro, [0]⟩, ⟨15, 1, .ro, [0]⟩, ⟨16, 1, .ro, [0]⟩]⟩,
  ⟨0x3840c, [(0x10, 64)], [⟨0, 9, .ro, [0]⟩]⟩]
/-- Register rows of block DEC. -/
def rowsDec : List RegRow := rowsDec0

/-- Register rows of block FILT, part 0. -/
def rowsFilt0 : List RegRow := [
  ⟨0x34000, [], [⟨0, 1, .rw, [0]⟩]⟩,
  ⟨0x34004, [], [⟨0, 11, .ro, [0]⟩, ⟨11, 7, .ro, [0]⟩, ⟨18, 1, .ro, [0]⟩]⟩,
  ⟨0x34008, [], [⟨0, 7, .rw, [16]⟩]⟩,
  ⟨0x3400c, [], [⟨0, 20, .ro, [400000]⟩]⟩,
  ⟨0x34010, [], [⟨0, 20, .ro, [500000]⟩]⟩,
  ⟨0x34014, [], [⟨0, 20, .ro, [0]⟩]⟩,
  ⟨0x34018, [], [⟨0, 20, .ro, [0]⟩]⟩,
  ⟨0x3401c, [], [⟨0, 20, .ro, [0]⟩]⟩,
  ⟨0x34020, [], [⟨0, 19, .ro, [0]⟩]⟩,
  ⟨0x34024, [], [⟨0, 19, .ro, [0]⟩]⟩,
  ⟨0x34030, [], [⟨0, 10, .rw, [0]⟩]⟩,
  ⟨0x34034, [], [⟨0, 1, .wo, [0]⟩, ⟨1, 1, .wo, [0]⟩, ⟨2, 1, .wo, [0]⟩, ⟨16, 16, .wo, [0]⟩]⟩,
  ⟨0x34038, [], [⟨0, 8, .ro, [0]⟩, ⟨16, 16, .ro, [0]⟩]⟩,
  ⟨0x34040, [], [⟨0, 1, .rw, [0]⟩, ⟨1, 1, .rw, [0]⟩, ⟨2, 11, .rw, [1]⟩, ⟨16, 16, .rw, [480]⟩]⟩,
  ⟨0x34044, [], [⟨0, 18, .rw, [0]⟩]⟩,
  ⟨0x34048, [], [⟨0, 18, .rw, [0]⟩]⟩,
  ⟨0x34060, [], [⟨0, 1, .ro, [0]⟩, ⟨1, 1, .ro, [0]⟩, ⟨2, 1, .ro, [0]⟩, ⟨3, 1, .ro, [0]⟩, ⟨4, 1, .ro, [0]⟩, ⟨5, 1, .ro, [0]⟩, ⟨6, 1, .ro, [0]⟩, ⟨16, 16, .ro, [0]⟩]⟩,
  ⟨0x34080, [], [⟨0, 32, .ro, [0]⟩]⟩,
  ⟨0x34084, [], [⟨0, 32, .ro, [0]⟩]⟩,
  ⟨0x34088, [], [⟨0, 32, .ro, [0]⟩]⟩,
  ⟨0x3408c, [], [⟨0, 32, .ro, [0]⟩]⟩,
  ⟨0x34090, [], [⟨0, 32, .ro, [0]⟩]⟩,
  ⟨0x34094, [], [⟨0, 32, .ro, [0]⟩]⟩]
/-- Register rows of block FILT. -/
def rowsFilt : List RegRow := rowsFilt0

/-- Register rows of block DET, part 0. -/
def rowsDet0 : List RegRow := [
  ⟨0x3c000, [], [⟨0, 1, .rw, [0]⟩]⟩,
  ⟨0x3c008, [], [⟨0, 14, .rw, [0]⟩]⟩,
  ⟨0x3c00c, [], [⟨0, 1, .wo, [0]⟩, ⟨1, 1, .wo, [0]⟩, ⟨2, 1, .wo, [0]⟩]⟩,
  ⟨0x3c010, [], [⟨0, 8, .ro, [0]⟩, ⟨16, 16, .ro, [0]⟩]⟩,
  ⟨0x3c040, [], [⟨0, 1, .rw, [1]⟩, ⟨1, 1, .rw, [1]⟩, ⟨2, 1, .rw, [1]⟩, ⟨3, 1, .rw, [0]⟩, ⟨4, 2, .rw, [0]⟩, ⟨6, 5, .rw, [13]⟩, ⟨16, 16, .rw, [9600]⟩]⟩,
  ⟨0x3c044, [], [⟨0, 32, .rw, [1073739168]⟩]⟩,
  ⟨0x3c048, [], [⟨0, 32, .rw, [67108864]⟩]⟩,
  ⟨0x3c04c, [], [⟨0, 32, .rw, [131072]⟩]⟩,
  ⟨0x3c050, [], [⟨0, 31, .rw, [2147483647]⟩]⟩,
  ⟨0x3c054, [], [⟨0, 31, .rw, [0]⟩]⟩,
  ⟨0x3c080, [], [⟨0, 32, .ro, [0]⟩]⟩,
  ⟨0x3c084, [], [⟨0, 32, .ro, [0]⟩]⟩,
  ⟨0x3c088, [], [⟨0, 32, .ro, [0]⟩]⟩,
  ⟨0x3c08c, [], [⟨0, 32, .ro, [0]⟩]⟩,
  ⟨0x3c090, [], [⟨0, 32, .ro, [268435456]⟩]⟩,
  ⟨0x3c094, [], [⟨0, 1, .ro, [0]⟩, ⟨1, 1, .ro, [0]⟩]⟩,
  ⟨0x3c100, [], [⟨0, 32, .ro, [0]⟩]⟩,
  ⟨0x3c104, [], [⟨0, 32, .ro, [0]⟩]⟩,
  ⟨0x3c108, [], [⟨0, 32, .ro, [0]⟩]⟩,
  ⟨0x3c110, [], [⟨0, 14, .rse, [0]⟩, ⟨14, 1, .rse, [0]⟩]⟩,
  ⟨0x3c114, [], [⟨0, 32, .ro, [0]⟩]⟩,
  ⟨0x3c118, [], [⟨0, 32, .ro, [0]⟩]⟩,
  ⟨0x3c400, [(0x4, 258)], [⟨0, 32, .ro, [0]⟩]⟩]
/-- Register rows of block DET. -/
def rowsDet : List RegRow := rowsDet0

/-- Register rows of block TDM, part 0. -/
def rowsTdm0 : List RegRow := [
  ⟨0x40000, [(0x1000, 16)], [⟨0, 1, .rw, [0]⟩, ⟨1, 1, .rw, [0]⟩, ⟨2, 1, .rw, [0]⟩, ⟨3, 1, .rw, [0]⟩, ⟨4, 1, .rw, [1]⟩]⟩,
  ⟨0x40004, [(0x1000, 16)], [⟨0, 2, .rw, [0]⟩, ⟨2, 5, .rw, [1]⟩, ⟨7, 2, .rw, [2]⟩, ⟨9, 2, .rw, [1]⟩, ⟨11, 1, .rw, [0]⟩, ⟨12, 1, .rw, [0]⟩, ⟨13, 1, .rw, [1]⟩, ⟨14, 1, .rw, [0]⟩, ⟨16, 11, .rw, [64]⟩]⟩,
  ⟨0x40008, [(0x1000, 16)], [⟨0, 32, .rw, [4294967295]⟩]⟩,
  ⟨0x4000c, [(0x1000, 16)], [⟨0, 32, .rw, [4294967295]⟩]⟩,
  ⟨0x40010, [(0x1000, 16)], [⟨0, 2, .ro, [0]⟩, ⟨2, 1, .ro, [0]⟩, ⟨4, 11, .ro, [0]⟩, ⟨16, 3, .ro, [0]⟩]⟩,
  ⟨0x40020, [(0x1000, 16)], [⟨0, 32, .ro, [0]⟩]⟩,
  ⟨0x40024, [(0x1000, 16)], [⟨0, 32, .ro, [0]⟩]⟩,
  ⟨0x40028, [(0x1000, 16)], [⟨0, 32, .ro, [0]⟩]⟩,
  ⟨0x4002c, [(0x1000, 16)], [⟨0, 32, .ro, [0]⟩]⟩]
/-- Register rows of block TDM. -/
def rowsTdm : List RegRow := rowsTdm0

/-- Register rows of block LLINK, part 0. -/
def rowsLlink0 : List RegRow := [
  ⟨0x50000, [(0x1000, 4)], [⟨0, 1, .rw, [0]⟩, ⟨1, 1, .rw, [0]⟩, ⟨2, 1, .rw, [0]⟩, ⟨3, 1, .rw, [0]⟩, ⟨4, 1, .rw, [1]⟩]⟩,
  ⟨0x50004, [(0x1000, 4)], [⟨0, 2, .ro, [0]⟩, ⟨2, 1, .ro, [0]⟩, ⟨3, 1, .ro, [0]⟩, ⟨8, 8, .ro, [0]⟩, ⟨16, 16, .ro, [0]⟩]⟩,
  ⟨0x50008, [(0x1000, 4)], [⟨0, 8, .ro, [0]⟩, ⟨8, 8, .ro, [0]⟩, ⟨16, 8, .ro, [0]⟩, ⟨24, 8, .ro, [0]⟩]⟩,
  ⟨0x5000c, [(0x1000, 4)], [⟨0, 16, .ro, [0]⟩, ⟨16, 16, .ro, [0]⟩]⟩,
  ⟨0x50010, [(0x1000, 4)], [⟨0, 32, .ro, [0]⟩]⟩,
  ⟨0x50014, [(0x1000, 4)], [⟨0, 32, .ro, [0]⟩]⟩,
  ⟨0x50018, [(0x1000, 4)], [⟨0, 32, .ro, [0]⟩]⟩,
  ⟨0x5001c, [(0x1000, 4)], [⟨0, 32, .ro, [0]⟩]⟩,
  ⟨0x50020, [(0x1000, 4)], [⟨0, 32, .ro, [0]⟩]⟩,
  ⟨0x50024, [(0x1000, 4)], [⟨0, 32, .ro, [0]⟩]⟩,
  ⟨0x50028, [(0x1000, 4)], [⟨0, 32, .ro, [0]⟩]⟩,
  ⟨0x5002c, [(0x1000, 4)], [⟨0, 32, .ro, [0]⟩]⟩,
  ⟨0x50030, [(0x1000, 4)], [⟨0, 32, .ro, [0]⟩]⟩,
  ⟨0x50040, [(0x1000, 4), (0x4, 8)], [⟨0, 32, .rw, [0]⟩]⟩,
  ⟨0x50060, [(0x1000, 4)], [⟨0, 1, .wo, [0]⟩]⟩,
  ⟨0x50070, [(0x1000, 4)], [⟨0, 1, .rse, [0]⟩, ⟨1, 5, .rse, [0]⟩]⟩,
  ⟨0x50080, [(0x1000, 4), (0x4, 8)], [⟨0, 32, .ro, [0]⟩]⟩]
/-- Register rows of block LLINK. -/
def rowsLlink : List RegRow := rowsLlink0

/-- Register rows of block SELVEDGE, part 0. -/
def rowsSelvedge0 : List RegRow := [
  ⟨0x70000, [], [⟨0, 1, .rw, [0]⟩, ⟨1, 1, .rw, [1]⟩, ⟨2, 1, .rw, [1]⟩]⟩,
  ⟨0x70004, [], [⟨0, 2, .ro, [0]⟩, ⟨2, 1, .ro, [1]⟩, ⟨3, 1, .ro, [0]⟩, ⟨4, 1, .ro, [0]⟩, ⟨5, 1, .ro, [0]⟩, ⟨6, 1, .ro, [0]⟩, ⟨7, 1, .ro, [0]⟩, ⟨8, 1, .ro, [0]⟩, ⟨9, 1, .ro, [0]⟩]⟩,
  ⟨0x70008, [], [⟨0, 16, .ro, [65535]⟩]⟩,
  ⟨0x7000c, [], [⟨0, 32, .ro, [0]⟩]⟩,
  ⟨0x70010, [], [⟨0, 10, .rw, [10]⟩, ⟨16, 10, .rw, [100]⟩]⟩,
  ⟨0x70014, [], [⟨0, 1, .wo, [0]⟩, ⟨1, 1, .wo, [0]⟩]⟩,
  ⟨0x70018, [], [⟨0, 32, .ro, [0]⟩]⟩,
  ⟨0x7001c, [], [⟨0, 32, .ro, [0]⟩]⟩,
  ⟨0x70020, [], [⟨0, 32, .ro, [0]⟩]⟩,
  ⟨0x70024, [], [⟨0, 32, .ro, [0]⟩]⟩,
  ⟨0x70028, [], [⟨0, 32, .ro, [0]⟩]⟩,
  ⟨0x70040, [], [⟨0, 32, .ro, [0]⟩]⟩,
  ⟨0x70044, [], [⟨0, 32, .ro, [0]⟩]⟩,
  ⟨0x70048, [], [⟨0, 32, .ro, [0]⟩]⟩,
  ⟨0x7004c, [], [⟨0, 32, .ro, [0]⟩]⟩,
  ⟨0x70050, [], [⟨0, 32, .ro, [0]⟩]⟩,
  ⟨0x70054, [], [⟨0, 32, .ro, [0]⟩]⟩,
  ⟨0x70058, [], [⟨0, 32, .ro, [0]⟩]⟩]
/-- Register rows of block SELVEDGE. -/
def rowsSelvedge : List RegRow := rowsSelvedge0

/-- Register rows of block LEASE, part 0. -/
def rowsLease0 : List RegRow := [
  ⟨0x74000, [], [⟨0, 2, .rw, [0]⟩, ⟨2, 1, .rw, [1]⟩, ⟨3, 1, .rw, [0]⟩, ⟨4, 1, .rw, [0]⟩]⟩,
  ⟨0x74004, [], [⟨0, 1, .ro, [0]⟩, ⟨1, 1, .ro, [0]⟩, ⟨2, 1, .ro, [0]⟩, ⟨3, 1, .ro, [0]⟩, ⟨4, 1, .ro, [0]⟩, ⟨5, 1, .ro, [0]⟩, ⟨6, 1, .ro, [0]⟩, ⟨7, 1, .ro, [0]⟩, ⟨8, 1, .ro, [0]⟩, ⟨9, 1, .ro, [0]⟩, ⟨10, 1, .ro, [0]⟩, ⟨11, 1, .ro, [0]⟩, ⟨12, 1, .ro, [0]⟩, ⟨13, 1, .ro, [0]⟩, ⟨14, 1, .ro, [0]⟩, ⟨15, 1, .ro, [0]⟩]⟩,
  ⟨0x74008, [], [⟨0, 7, .rw, [20]⟩, ⟨8, 7, .rw, [5]⟩, ⟨16, 5, .rw, [2]⟩]⟩,
  ⟨0x7400c, [], [⟨0, 13, .rw, [1000]⟩]⟩,
  ⟨0x74010, [], [⟨0, 1, .wo, [0]⟩, ⟨1, 1, .wo, [0]⟩, ⟨2, 1, .wo, [0]⟩, ⟨3, 1, .wo, [0]⟩, ⟨4, 1, .wo, [0]⟩, ⟨5, 1, .wo, [0]⟩, ⟨6, 1, .wo, [0]⟩, ⟨7, 1, .wo, [0]⟩, ⟨8, 1, .wo, [0]⟩, ⟨16, 16, .wo, [0]⟩]⟩,
  ⟨0x74014, [], [⟨0, 32, .ro, [0]⟩]⟩,
  ⟨0x74018, [], [⟨0, 32, .ro, [0]⟩]⟩,
  ⟨0x7401c, [], [⟨0, 4, .rw, [0]⟩, ⟨4, 4, .rw, [0]⟩, ⟨8, 4, .rw, [15]⟩]⟩,
  ⟨0x74040, [], [⟨0, 32, .ro, [0]⟩]⟩,
  ⟨0x74044, [], [⟨0, 32, .ro, [0]⟩]⟩,
  ⟨0x74048, [], [⟨0, 32, .ro, [0]⟩]⟩,
  ⟨0x7404c, [], [⟨0, 32, .ro, [0]⟩]⟩,
  ⟨0x74050, [], [⟨0, 32, .ro, [0]⟩]⟩]
/-- Register rows of block LEASE. -/
def rowsLease : List RegRow := rowsLease0

/-- Register rows of block TEMPLE, part 0. -/
def rowsTemple0 : List RegRow := [
  ⟨0x80000, [], [⟨0, 1, .rw, [0]⟩, ⟨1, 1, .rw, [0]⟩, ⟨2, 1, .rw, [1]⟩]⟩,
  ⟨0x80004, [], [⟨0, 1, .ro, [0]⟩, ⟨1, 1, .ro, [0]⟩, ⟨2, 1, .ro, [0]⟩, ⟨3, 1, .ro, [0]⟩, ⟨4, 1, .ro, [0]⟩]⟩,
  ⟨0x80010, [(0x4, 4)], [⟨0, 16, .ro, [0]⟩]⟩,
  ⟨0x80020, [], [⟨0, 16, .rw, [1600]⟩]⟩,
  ⟨0x80030, [], [⟨0, 32, .ro, [0]⟩]⟩,
  ⟨0x80034, [], [⟨0, 32, .ro, [0]⟩]⟩,
  ⟨0x80038, [], [⟨0, 32, .ro, [1000]⟩]⟩,
  ⟨0x8003c, [], [⟨0, 9, .rw, [30]⟩, ⟨16, 16, .rw, [1000]⟩]⟩,
  ⟨0x80040, [], [⟨0, 16, .ro, [0]⟩]⟩,
  ⟨0x80050, [], [⟨0, 5, .rw, [0]⟩, ⟨8, 5, .rw, [16]⟩, ⟨16, 8, .rw, [40]⟩, ⟨24, 8, .rw, [100]⟩]⟩,
  ⟨0x80054, [], [⟨0, 5, .ro, [16]⟩, ⟨5, 3, .ro, [0]⟩, ⟨16, 16, .ro, [0]⟩]⟩,
  ⟨0x80060, [], [⟨0, 8, .rw, [40]⟩, ⟨16, 16, .rw, [600]⟩]⟩,
  ⟨0x80064, [], [⟨0, 11, .rw, [0]⟩, ⟨11, 11, .rw, [1440]⟩]⟩,
  ⟨0x80068, [], [⟨0, 12, .rw, [60]⟩]⟩,
  ⟨0x8006c, [], [⟨0, 4, .ro, [0]⟩, ⟨8, 8, .ro, [0]⟩]⟩,
  ⟨0x80080, [], [⟨0, 32, .ro, [0]⟩]⟩,
  ⟨0x80084, [], [⟨0, 32, .ro, [0]⟩]⟩,
  ⟨0x80088, [], [⟨0, 32, .ro, [0]⟩]⟩,
  ⟨0x8008c, [], [⟨0, 32, .ro, [0]⟩]⟩,
  ⟨0x80090, [], [⟨0, 32, .ro, [0]⟩]⟩,
  ⟨0x80094, [], [⟨0, 32, .ro, [0]⟩]⟩,
  ⟨0x80098, [], [⟨0, 32, .ro, [0]⟩]⟩]
/-- Register rows of block TEMPLE. -/
def rowsTemple : List RegRow := rowsTemple0

/-- Register rows of block MBX, part 0. -/
def rowsMbx0 : List RegRow := [
  ⟨0x84100, [(0x4000, 2)], [⟨0, 1, .rw, [1]⟩, ⟨1, 1, .rw, [0]⟩, ⟨16, 12, .rw, [0]⟩]⟩,
  ⟨0x84104, [(0x4000, 2)], [⟨0, 11, .wo, [0]⟩]⟩,
  ⟨0x84108, [(0x4000, 2)], [⟨0, 1, .ro, [0]⟩, ⟨8, 8, .ro, [0]⟩, ⟨16, 16, .ro, [0]⟩]⟩,
  ⟨0x8410c, [(0x4000, 2)], [⟨0, 11, .ro, [0]⟩]⟩,
  ⟨0x84110, [(0x4000, 2)], [⟨0, 32, .ro, [0]⟩]⟩,
  ⟨0x85000, [(0x4000, 2), (0x4, 512)], [⟨0, 32, .rw, [0]⟩]⟩,
  ⟨0x85800, [(0x4000, 2), (0x4, 512)], [⟨0, 32, .ro, [0]⟩]⟩]
/-- Register rows of block MBX. -/
def rowsMbx : List RegRow := rowsMbx0

/-- Register rows of block SYS, part 0. -/
def rowsSys0 : List RegRow := [
  ⟨0x0, [], [⟨0, 16, .ro, [25600]⟩, ⟨16, 8, .ro, [176]⟩]⟩,
  ⟨0x4, [], [⟨0, 2, .ro, [0]⟩, ⟨2, 1, .ro, [0]⟩]⟩,
  ⟨0x8, [], [⟨0, 1, .ro, [0]⟩, ⟨1, 1, .ro, [0]⟩, ⟨2, 4, .ro, [0]⟩, ⟨6, 1, .ro, [0]⟩, ⟨7, 1, .ro, [0]⟩]⟩,
  ⟨0xc, [], [⟨0, 32, .rse, [0]⟩]⟩,
  ⟨0x10, [], [⟨0, 32, .ro, [0]⟩]⟩,
  ⟨0x20, [(0x4, 4)], [⟨0, 32, .rw, [0]⟩]⟩,
  ⟨0x40, [(0x4, 8)], [⟨0, 3, .rse, [0]⟩]⟩]
/-- Register rows of block SYS. -/
def rowsSys : List RegRow := rowsSys0

/-- Register rows of block EVT, part 0. -/
def rowsEvt0 : List RegRow := [
  ⟨0x3000, [(0x4, 4)], [⟨0, 32, .ro, [0]⟩]⟩,
  ⟨0x3010, [(0x4, 4)], [⟨0, 32, .wo, [0]⟩]⟩,
  ⟨0x3400, [(0x4, 128)], [⟨0, 32, .rw, [0]⟩]⟩,
  ⟨0x3800, [(0x4, 128)], [⟨0, 32, .ro, [0]⟩]⟩,
  ⟨0x3c00, [(0x4, 128)], [⟨0, 5, .rw, [0]⟩, ⟨8, 1, .rw, [0]⟩, ⟨9, 1, .rw, [0]⟩, ⟨10, 1, .rw, [0]⟩, ⟨11, 1, .rw, [0]⟩]⟩]
/-- Register rows of block EVT. -/
def rowsEvt : List RegRow := rowsEvt0

/-- Register rows of block ERR, part 0. -/
def rowsErr0 : List RegRow := [
  ⟨0x2000, [], [⟨0, 5, .ro, [0]⟩, ⟨8, 1, .ro, [0]⟩]⟩,
  ⟨0x2004, [], [⟨0, 32, .ro, [0]⟩]⟩,
  ⟨0x2008, [], [⟨0, 32, .ro, [0]⟩]⟩,
  ⟨0x2010, [(0x4, 4)], [⟨0, 32, .ro, [0]⟩]⟩,
  ⟨0x2020, [], [⟨0, 16, .wo, [0]⟩]⟩,
  ⟨0x2030, [], [⟨0, 31, .rse, [0]⟩, ⟨31, 1, .rse, [0]⟩]⟩,
  ⟨0x2034, [(0x4, 3)], [⟨0, 32, .ro, [0]⟩]⟩]
/-- Register rows of block ERR. -/
def rowsErr : List RegRow := rowsErr0

/-- Register rows of block BUSMX, part 0. -/
def rowsBusmx0 : List RegRow := [
  ⟨0x4000, [(0x4, 7)], [⟨0, 4, .rw, [8, 8, 6, 6, 4, 12, 2]⟩, ⟨4, 5, .rw, [16, 16, 16, 1, 16, 16, 2]⟩]⟩,
  ⟨0x4040, [(0x4, 7)], [⟨0, 5, .ro, [0]⟩, ⟨5, 1, .ro, [0]⟩]⟩,
  ⟨0x4080, [], [⟨0, 32, .ro, [0]⟩]⟩,
  ⟨0x4084, [], [⟨0, 32, .ro, [0]⟩]⟩,
  ⟨0x4088, [], [⟨0, 32, .ro, [0]⟩]⟩,
  ⟨0x408c, [], [⟨0, 32, .ro, [0]⟩]⟩]
/-- Register rows of block BUSMX. -/
def rowsBusmx : List RegRow := rowsBusmx0

/-- Register rows of block PCIE, part 0. -/
def rowsPcie0 : List RegRow := [
  ⟨0x84000, [], [⟨0, 1, .ro, [0]⟩, ⟨1, 2, .ro, [0]⟩, ⟨3, 2, .ro, [0]⟩, ⟨5, 1, .ro, [0]⟩, ⟨6, 1, .ro, [0]⟩]⟩,
  ⟨0x84004, [], [⟨0, 32, .ro, [0]⟩]⟩,
  ⟨0x84008, [], [⟨0, 32, .ro, [0]⟩]⟩,
  ⟨0x84800, [(0x10, 32)], [⟨0, 32, .rw, [0]⟩]⟩,
  ⟨0x84804, [(0x10, 32)], [⟨0, 32, .rw, [0]⟩]⟩,
  ⟨0x84808, [(0x10, 32)], [⟨0, 32, .rw, [0]⟩]⟩,
  ⟨0x8480c, [(0x10, 32)], [⟨0, 1, .rw, [0]⟩]⟩,
  ⟨0x84a00, [(0x4, 2)], [⟨0, 32, .ro, [0]⟩]⟩]
/-- Register rows of block PCIE. -/
def rowsPcie : List RegRow := rowsPcie0

/-- Register rows of block SPIH, part 0. -/
def rowsSpih0 : List RegRow := [
  ⟨0x88000, [], [⟨24, 8, .rw, [4]⟩]⟩,
  ⟨0x88004, [], [⟨0, 32, .ro, [0]⟩]⟩,
  ⟨0x88008, [], [⟨0, 32, .ro, [0]⟩]⟩,
  ⟨0x8800c, [], [⟨0, 32, .ro, [0]⟩]⟩]
/-- Register rows of block SPIH. -/
def rowsSpih : List RegRow := rowsSpih0

/-- Register rows of block PWR, part 0. -/
def rowsPwr0 : List RegRow := [
  ⟨0x1000, [], [⟨0, 1, .rw, [1]⟩, ⟨1, 1, .rw, [1]⟩, ⟨2, 1, .rw, [1]⟩, ⟨3, 1, .rw, [1]⟩, ⟨4, 1, .rw, [1]⟩]⟩,
  ⟨0x1004, [], [⟨0, 12, .ro, [4095]⟩]⟩,
  ⟨0x1008, [], [⟨0, 3, .wo, [0]⟩, ⟨16, 16, .wo, [0]⟩]⟩,
  ⟨0x100c, [], [⟨0, 8, .ro, [0]⟩]⟩,
  ⟨0x1010, [], [⟨0, 32, .ro, [0]⟩]⟩,
  ⟨0x1014, [], [⟨0, 16, .ro, [1840]⟩]⟩]
/-- Register rows of block PWR. -/
def rowsPwr : List RegRow := rowsPwr0

/-- Register rows of block AON, part 0. -/
def rowsAon0 : List RegRow := [
  ⟨0x8c000, [], [⟨0, 1, .ro, [0]⟩]⟩,
  ⟨0x8c004, [], [⟨0, 1, .ro, [1]⟩, ⟨1, 1, .ro, [0]⟩, ⟨2, 1, .ro, [0]⟩, ⟨3, 1, .ro, [0]⟩, ⟨4, 1, .ro, [0]⟩, ⟨5, 1, .ro, [0]⟩, ⟨6, 1, .ro, [0]⟩, ⟨7, 1, .ro, [0]⟩, ⟨8, 1, .ro, [0]⟩, ⟨9, 1, .ro, [0]⟩]⟩,
  ⟨0x8c008, [], [⟨0, 2, .rw, [0]⟩, ⟨2, 1, .rw, [0]⟩, ⟨3, 1, .rw, [0]⟩, ⟨4, 4, .rw, [0]⟩, ⟨8, 1, .rw, [0]⟩, ⟨9, 1, .rw, [0]⟩]⟩,
  ⟨0x8c00c, [], [⟨0, 1, .ro, [0]⟩, ⟨1, 4, .ro, [0]⟩, ⟨5, 1, .ro, [0]⟩]⟩,
  ⟨0x8c010, [], [⟨0, 32, .ro, [0]⟩]⟩,
  ⟨0x8c014, [], [⟨0, 16, .ro, [0]⟩]⟩,
  ⟨0x8c018, [], [⟨0, 1, .wo, [0]⟩]⟩,
  ⟨0x8c020, [], [⟨0, 2, .rw, [0]⟩, ⟨2, 6, .rw, [0]⟩]⟩,
  ⟨0x8c024, [], [⟨0, 32, .rw, [0]⟩]⟩,
  ⟨0x8c030, [], [⟨0, 2, .ro, [0]⟩, ⟨2, 1, .ro, [0]⟩, ⟨3, 1, .ro, [0]⟩, ⟨4, 4, .ro, [0]⟩, ⟨8, 1, .ro, [0]⟩, ⟨16, 16, .ro, [0]⟩]⟩,
  ⟨0x8c034, [], [⟨0, 1, .wo, [0]⟩]⟩,
  ⟨0x8c040, [], [⟨0, 14, .rw, [0]⟩]⟩,
  ⟨0x8c044, [], [⟨0, 16, .wo, [0]⟩]⟩,
  ⟨0x8c048, [], [⟨0, 14, .ro, [0]⟩]⟩,
  ⟨0x8c050, [], [⟨0, 32, .ro, [0]⟩]⟩,
  ⟨0x8c054, [], [⟨0, 32, .ro, [0]⟩]⟩,
  ⟨0x8c060, [(0x4, 4)], [⟨0, 32, .rw, [0]⟩]⟩]
/-- Register rows of block AON. -/
def rowsAon : List RegRow := rowsAon0

/-- Register rows of block FUSE, part 0. -/
def rowsFuse0 : List RegRow := [
  ⟨0x90000, [], [⟨0, 1, .ro, [0]⟩, ⟨1, 2, .ro, [0]⟩, ⟨3, 1, .ro, [0]⟩, ⟨4, 1, .ro, [0]⟩]⟩,
  ⟨0x90004, [], [⟨0, 7, .rw, [0]⟩]⟩,
  ⟨0x90008, [], [⟨0, 32, .rw, [0]⟩]⟩,
  ⟨0x9000c, [], [⟨0, 1, .wo, [0]⟩, ⟨1, 1, .wo, [0]⟩]⟩,
  ⟨0x90010, [], [⟨0, 4, .ro, [0]⟩, ⟨16, 16, .ro, [0]⟩]⟩,
  ⟨0x90014, [], [⟨0, 32, .ro, [0]⟩]⟩,
  ⟨0x90018, [], [⟨0, 32, .ro, [0]⟩]⟩,
  ⟨0x90200, [(0x4, 128)], [⟨0, 32, .ro, [0]⟩]⟩]
/-- Register rows of block FUSE. -/
def rowsFuse : List RegRow := rowsFuse0

/-- Instance numbers of an offset relative to a row's base, outermost first: none where the row has no such register. -/
def dimsOf : List (Nat × Nat) → Nat → Option (List Nat)
  | [], o => if o = 0 then some [] else none
  | (stride, count) :: ds, o =>
    let i := o / stride
    if i < count then (dimsOf ds (o - i * stride)).map (i :: ·) else none

/-- The row of an offset and the innermost instance number. -/
def findRow : List RegRow → Nat → Option (RegRow × Nat)
  | [], _ => none
  | r :: rs, a =>
    if a < r.base then findRow rs a
    else match dimsOf r.dims (a - r.base) with
      | some is => some (r, is.getLastD 0)
      | none => findRow rs a

/-- The rows of the block that owns an offset (R373). MACn, PCSn, TDMn and LLINKn have one list each for all instances. -/
def blockRows (a : Nat) : List RegRow :=
  if a < 0x3c000 then (if a < 0x18000 then (if a < 0x3000 then (if a < 0x1000 then (rowsSys) else (if a < 0x2000 then (rowsPwr) else (rowsErr))) else (if a < 0x4000 then (rowsEvt) else (if a < 0x10000 then (rowsBusmx) else (rowsMac)))) else (if a < 0x28000 then (if a < 0x20000 then (rowsPcs) else (if a < 0x24000 then (rowsWarp) else (rowsShuttle))) else (if a < 0x34000 then (if a < 0x30000 then (rowsBobbin) else (rowsHeddle)) else (if a < 0x38000 then (rowsFilt) else (rowsDec))))) else (if a < 0x70000 then (if a < 0x60000 then (if a < 0x40000 then (rowsDet) else (if a < 0x50000 then (rowsTdm) else (rowsLlink))) else (if a < 0x68000 then (if a < 0x64000 then (rowsReed) else (rowsSynth)) else (if a < 0x6c000 then (rowsTime) else (rowsTreadle)))) else (if a < 0x84000 then (if a < 0x74000 then (rowsSelvedge) else (if a < 0x80000 then (rowsLease) else (rowsTemple))) else (if a < 0x8c000 then (if a < 0x88000 then (rowsPcie ++ rowsMbx) else (rowsSpih ++ rowsMbx)) else (if a < 0x90000 then (rowsAon) else (rowsFuse)))))

/-- A field's reset value for instance i. -/
def FieldRow.resetOf (f : FieldRow) (i : Nat) : Nat := match f.rst with
  | [v] => v
  | vs => vs.getD i 0

/-- The reset value of a word of register space (R11): the fields' reset values at their bits; 0 where no register lies. -/
def regReset (a : Nat) : BitVec 32 :=
  match findRow (blockRows a) a with
  | none => 0#32
  | some (r, i) => BitVec.ofNat 32 (r.fields.foldl (fun acc f => acc + f.resetOf i * 2 ^ f.lsb) 0)

end Sys2Proof.Machine
end

