-- ==== Sys2Proof/Machine/Tbl.lean ====
section
/-!
DEFINITION. Sparse tables: lists of (number, value) pairs in one canonical form, numbers strictly rising and no entry equal
to what an unlisted number reads as. Register space, the stream, queue, destination, chain and detector tables and the
memories are all held so, and equal tables are equal lists.
-/
namespace Sys2Proof.Machine

/-- What a table holds at a number; an unlisted number reads as d. -/
def tget {β : Type} (d : β) : List (Nat × β) → Nat → β
  | [], _ => d
  | (k, v) :: r, a => if k = a then v else tget d r a

/-- The table without a number's entry. -/
def terase {β : Type} (a : Nat) : List (Nat × β) → List (Nat × β)
  | [] => []
  | (k, v) :: r => if k = a then terase a r else (k, v) :: terase a r

/-- An entry put in at its place. -/
def tins {β : Type} (a : Nat) (v : β) : List (Nat × β) → List (Nat × β)
  | [] => [(a, v)]
  | (k, w) :: r => if a < k then (a, v) :: (k, w) :: r else (k, w) :: tins a v r

/-- A write of v at a number; writing what an unlisted number reads as removes the entry. -/
def tput {β : Type} [DecidableEq β] (d : β) (a : Nat) (v : β) (t : List (Nat × β)) : List (Nat × β) :=
  if v = d then terase a t else tins a v (terase a t)

/-- The numbers of a table rise strictly, all above lo. -/
def trising {β : Type} : Option Nat → List (Nat × β) → Bool
  | _, [] => true
  | lo, (k, _) :: r => (match lo with | none => true | some l => decide (l < k)) && trising (some k) r

/-- The canonical form: numbers strictly rising, no entry equal to what an unlisted number (under `dflt`) reads as. -/
def tcanon {β : Type} [DecidableEq β] (dflt : Nat → β) (t : List (Nat × β)) : Bool :=
  trising none t && t.all (fun e => decide (e.2 ≠ dflt e.1))

/-- A table changed at one number by a function of what it held. -/
def tupd {β : Type} [DecidableEq β] (d : β) (a : Nat) (f : β → β) (t : List (Nat × β)) : List (Nat × β) :=
  tput d a (f (tget d t a)) t

end Sys2Proof.Machine
end

