-- ==== Sys2Proof/Machine/State.lean ====
section
/-!
DEFINITION. The state of one WDX-6400 as the spec gives it: the register words, the state each block holds behind its
registers, the memories, what the device has sent, and the queue of commands that wait.
Every field's initial value in these structures is its value at reset (R11, R352), or the value a log entry names where
the spec gives none, so `State.reset` is the structure with every field at its initial value.
Registers hold their words in `State.regs`; a field of another structure is the home of state that no register shows.
-/
namespace Sys2Proof.Machine

/-- What stops the machine. No command of this model faults (notes/assumptions/1.md). -/
inductive Fault where
  /-- Raised by no command; safe. -/
  | none
deriving DecidableEq, Repr

/-- Why a command is refused. -/
inductive Refusal where
  /-- Raised by an arm of exec whose row has no meaning; no arm of this model is one; safe. -/
  | notModelled (mnemonic : String)
  /-- Raised by every command whose operands name something the device does not have (WellFormed.lean): no such command exists; safe. -/
  | illFormed
deriving DecidableEq, Repr

-- ## Errors (R388, R390)

/-- An error report waiting for the ERR block (R388, R390), before it has a Seq and a Pick. -/
structure ErrReport where
  code   : Nat
  block  : Nat
  write  : Bool := true
  addr   : Nat := 0
  detail : Nat := 0
  /-- Master ID and transaction ID of the access; none where they are not meaningful. -/
  master : Option (Nat × Nat) := none
  aux    : Nat := 0
deriving DecidableEq, Repr

/-- An error record: four words (R388). -/
structure ErrRec where
  w0 : Nat := 0
  w1 : Nat := 0
  w2 : Nat := 0
  w3 : Nat := 0
deriving DecidableEq, Repr

-- ## Time and cues (02_media_timeline.md)

/-- The timekeeper and the pick counter. -/
structure TimeSt where
  /-- Time of day in units of 2^-16 ns (48 bits of seconds). -/
  tai     : Nat := 0
  /-- Fifths of a 2^-16 ns unit: 1 CCLK is 104,857.6 units. -/
  taiRem  : Nat := 0
  /-- SYS_CYCLES, the free-running CCLK count, 64 bits. -/
  cycles  : Nat := 0
  /-- The live pick count, 64 bits. -/
  pick    : Nat := 0
  /-- The pick counter counts (R38). -/
  running : Bool := false
  /-- After a change of family MCS0 has locked and the counter waits for the next whole second (R46). -/
  resume : Bool := false
deriving DecidableEq, Repr

/-- Who pushed a cue, for its NOTIFY (R41, R364, R368). -/
inductive CueOrigin where
  | window (k : Nat)
  | firmware
  | lcp (netPort ip udp : Nat)
  | mailbox (m : Nat)
  | epoch
deriving DecidableEq, Repr

/-- A pending cue (R41) with its staging (R44). -/
structure Cue where
  pick    : Nat := 0
  action  : Nat := 0
  noLate  : Bool := false
  notify  : Bool := false
  order   : Nat := 0
  issuer  : Nat := 0xFFFF
  arg0    : Nat := 0
  arg1    : Nat := 0
  arg2    : Nat := 0
  arg3    : Nat := 0
  origin  : CueOrigin := .firmware
  /-- Staging has begun. -/
  staging : Bool := false
  /-- Staging is complete: the cue is armed. -/
  armed   : Bool := false
  /-- An overlay's writes, read when staging begins: object key and value (R44). -/
  writes  : List (Nat × Nat) := []
  /-- An overlay's check at staging failed (R329). -/
  bad     : Bool := false
deriving DecidableEq, Repr

/-- A completion record (R45): DONE_INFO, DONE_PICK and DONE_EXEC. -/
structure DoneRec where
  action : Nat := 0
  status : Nat := 0
  order  : Nat := 0
  pick   : Nat := 0
  exec   : Nat := 0
  issuer : Nat := 0
  /-- A Mark's user value (R43). -/
  user   : Nat := 0
deriving DecidableEq, Repr

-- ## Reed (03_reed_references.md)

/-- What Reed holds of a reference beside its registers. -/
structure RefSt where
  /-- A pin reference: an edge has come within four nominal periods. A PTP reference: Announce and Sync arrive (R51). -/
  present : Bool := false
  /-- A PTP reference: the Announce messages carry ptpTimescale TRUE (R34). -/
  timescale : Bool := true
  /-- The checks of R52 passed at the last tick. -/
  passing : Bool := false
  /-- It reached Qualified, or finished WaitToRestore, during the switch in progress (R54, R68). -/
  late    : Bool := false
  /-- Evaluation ticks for which the checks have passed in Qualifying or WaitToRestore (R54). -/
  ticks   : Nat := 0
  /-- Its frequency offset against XREF, as last measured, in 0.001 ppb. -/
  vsXref  : Int := 0
  /-- A PTP reference: reference time minus timekeeper, as last measured, in 2^-16 ns. -/
  off     : Int := 0
  /-- A PTP reference: Announce has come from the master in use; Sync has come. -/
  announce : Bool := false
  sync     : Bool := false
  /-- A PTP reference: the grandmaster's clock identity (R163). -/
  gm       : Nat := 0
deriving DecidableEq, Repr

/-- A phase step on its way to a pick boundary (R63): its size in 2^-16 ns, and whether it is a step or a slew. -/
structure PhaseReq where
  size : Int
  step : Bool
deriving DecidableEq, Repr

/-- What Reed holds of a frame-pulse output beside its registers (R66, R67), in units of 1/6,553,600 ns: a hundredth of 2^-16 ns. -/
structure FpoSt where
  /-- The error the next pulse removes by a step. -/
  step : Option Int := none
  /-- The error being removed by slewing. -/
  slew : Int := 0
  /-- Where the grid of Aligned mode stands against the times k × RateDen ÷ RateNum. -/
  corr : Int := 0
deriving DecidableEq, Repr

/-- An entry of the holdover history (R64): output frequency (0.001 ppb), XREF-side temperature (1/16 °C), and its XREF-derived time. -/
structure HistEnt where
  freq : Int
  temp : Int
  time : Nat
deriving DecidableEq, Repr

/-- What Reed holds behind its registers. -/
structure ReedSt where
  refs     : List (Nat × RefSt) := []
  /-- Mode and ForcedRef in force while a switch runs, where RD_CTRL was written during it (R68). -/
  modeHeld : Option (Nat × Nat) := none
  /-- Phase not yet slewed in, in 2^-16 ns (R63). -/
  slewRem  : Int := 0
  /-- Steps and slews waiting for their pick boundary, oldest first. -/
  steps    : List PhaseReq := []
  /-- XREF-derived time at which the measure time of the latest switch began (R59). -/
  measure  : Nat := 0
  /-- Holdover history, newest first (R64), and the XREF-derived time of the latest entry to Holdover. -/
  hist     : List HistEnt := []
  heldAt   : Nat := 0
  /-- The number of history entries behind f0 and Tmean, their sums, and the accumulated estimate E in units of
  1/(1,382,400,000 × holdN) ns (R64, R65). -/
  holdN    : Nat := 1
  f0Sum    : Int := 0
  tSum     : Int := 0
  est      : Int := 0
  fpo      : List (Nat × FpoSt) := []
deriving DecidableEq, Repr
-- ## Temple (15_temple_ageing.md)

/-- What Temple gathers of a TAI day (R333, R341). -/
structure DaySt where
  /-- Seconds of the day in Locked, and the sums of their frequency entries and TS0 temperatures. -/
  secs  : Nat := 0
  fSum  : Int := 0
  tSum  : Int := 0
  /-- The first TAI day that has no ledger record yet. -/
  next  : Nat := 0
  /-- XREF-derived time at which the device's part of the day began, in CCLK. -/
  start : Nat := 0
  /-- A holdover, HoldoverOutOfSpec or TempWarn occurred: the counts at the day's start. -/
  hold0 : Nat := 0
  oos0  : Nat := 0
  warn0 : Nat := 0
  /-- TS0's least and greatest reading, and the greatest of any sensor; none before the first. -/
  low   : Option Int := none
  high  : Option Int := none
  hot   : Option Int := none
  /-- Sum and number of AVS codes, the highest, and the least worst slack. -/
  avs   : Nat := 0
  avsN  : Nat := 0
  avsTop : Nat := 0
  slack : Option Int := none
  /-- The lane of least eye height and that height. -/
  eye   : Option (Nat × Nat) := none
  /-- Counts at the day's start: adaptations, corrected and uncorrectable ECC words, planning cues issued. -/
  adapt0 : Nat := 0
  corr0  : Nat := 0
  unc0   : Nat := 0
  cues0  : Nat := 0
  /-- Greatest control-range use, and seconds in Holdover. -/
  synth : Nat := 0
  hsecs : Nat := 0
deriving DecidableEq, Repr
-- ## Synthesizers and clock outputs (04_synthesis_clock_outputs.md)

/-- A running ramp or glide: the segments not yet ended, the current one first, with slope (ppb/ms) and duration (ms), the exact end
offset where the last millisecond is held to it (R78, R79), and the XREF-derived time at which the current segment began, in CCLK. -/
structure RampSt where
  segs  : List (Int × Nat) := []
  endAt : Option Int := none
  glide : Bool := false
  start : Nat := 0
deriving DecidableEq, Repr

/-- A clock output beside its registers (R82). -/
structure CkoSt where
  /-- The enable in force. -/
  on      : Bool := false
  /-- An enable or disable that waits for its pick boundary. -/
  pend    : Option Bool := none
  /-- An Align output started before Run, to be re-aligned at the first whole second. -/
  realign : Bool := false
  /-- Time of the boundary at which the enable took effect, in 2^-16 ns of TAI. -/
  base    : Nat := 0
deriving DecidableEq, Repr

/-- The synthesizers behind their registers. -/
structure SynthSt where
  ramps : List (Nat × Option RampSt) := []
  ckos  : List (Nat × CkoSt) := []
deriving DecidableEq, Repr
-- ## Bobbin (08_bobbin_pool.md)

/-- A memory: (address, byte) pairs in canonical form; an unlisted address reads 0. -/
abbrev Memory := List Host.Cell

/-- An item in a queue (R175, R177): its place in the chain's payload words, and the readers that have yet to pass it. -/
structure QItem where
  /-- Place of the length slot, as Queue.base counts payload words. -/
  start : Nat := 0
  /-- Who has the item open: 1 + n MAC n, 8 + k queue port k, 0 any other. -/
  by_   : Nat := 0
  /-- Words so far, the length slot included. -/
  words : Nat := 1
  /-- Committed (R175); an item that is not is open. -/
  done  : Bool := false
  /-- Readers that have not passed the item, bit r for reader r; in Assembly and transit queues reader r is port r. -/
  need  : Nat := 0
deriving DecidableEq, Repr

/-- A queue descriptor with the queue's contents (R173 to R195). The payload words of the cells it holds have their home
here; a cell's words go back to the pool memory when the cell is freed. -/
structure Queue where
  enable  : Bool := false
  cls     : Nat := 0
  cutThru : Bool := false
  readers : Nat := 1
  quota   : Nat := 0
  maxItem : Nat := 1538
  thresh  : Nat := 16
  /-- Q_STATE.State: 0 Off, 1 Ready, 2 Reclaim. -/
  state   : Nat := 0
  /-- Cells of the chain, head first. -/
  chain   : List Nat := []
  /-- Number of the first payload word of the first cell, counting from the first word the queue ever held. -/
  base    : Nat := 0
  /-- Payload words from the first word of the first cell to the tail. -/
  data    : List (BitVec 32) := []
  /-- Items not yet passed, oldest first, the open items of its producers among them. -/
  items   : List QItem := []
  /-- Words each reader has taken of its current item. -/
  pos     : List (Nat × Nat) := []
  /-- Cells that await reclaim. -/
  reclaim : List Nat := []
  /-- Link words that the POOL target has written into cells of the chain (R192), by cell. -/
  links   : List (Nat × BitVec 32) := []
  /-- Counters of R195, by number. -/
  cnt     : List (Nat × Nat) := []
deriving DecidableEq, Repr

/-- What became of an item a hardware producer puts into a queue (R183, R184). -/
inductive PutResult where
  | ok | noQuota | oversize | off
deriving DecidableEq, Repr
-- ## Network ports (05_network_ports.md)

/-- A received pause in force for a priority (R103, R104): the quanta its timer was loaded with, when the pause began, and when the timer
runs out, in 2^-16 ns of TAI. -/
structure PauseSt where
  quanta : Nat := 0
  start  : Nat := 0
  ends   : Nat := 0
deriving DecidableEq, Repr

/-- A frame that is coming in at a port and is written into a queue as it comes (R109, R175): the queue, the cut-through rule where one
matched, whether its item is still open, and what became of it. -/
structure RxOpen where
  queue : Nat
  rule  : Option Nat
  alive : Bool := true
  res   : PutResult := .ok
deriving DecidableEq, Repr

/-- A frame of a queue on the wire: its queue, its bytes, and how many of them had left when it was last looked at (R187). -/
structure WireSt where
  queue : Nat
  bytes : List Byte
  sent  : Nat
deriving DecidableEq, Repr

/-- An entry of a port's transmit timestamp queue (R108). -/
structure TsEntry where
  tag  : Nat
  ptp  : Bool
  time : Nat
deriving DecidableEq, Repr

/-- What a port holds behind its registers. -/
structure PortSt where
  /-- Pauses in force, by priority. -/
  pause  : List (Nat × PauseSt) := []
  /-- PFC frames that wait to be sent: priority and time (R101). -/
  pfc    : List (Nat × Nat) := []
  tsq    : List TsEntry := []
  lost   : List Nat := []
  /-- Transit queues with a frame that waits for this port as egress, in order of arrival (R111). -/
  ctWait : List Nat := []
  /-- The pick in which the latest cut-through frame started, and when its last bit leaves, in 2^-16 ns of TAI (R111). -/
  ctPick : Option Nat := none
  ctEnd  : Nat := 0
  /-- The transit queue whose open item the port is sending (R178). -/
  ct     : Option Nat := none
  /-- The frame coming in, where it is written into a queue as it comes. -/
  rxOpen : Option RxOpen := none
  /-- The frame of a queue on the wire between two commands. -/
  wire   : Option WireSt := none
  /-- When the latest frame started ends, in 2^-16 ns of TAI (R103). -/
  busy   : Nat := 0
  /-- Time of the latest pause request for a priority (R104), in 2^-16 ns of TAI. -/
  asked  : List (Nat × Nat) := []
  /-- The latest TAI microsecond counted in TX_PAUSED_US. -/
  usMark : Option Nat := none
deriving DecidableEq, Repr
-- ## Warp (06_stream_receive.md)

/-- A marked position of a merge window (R129, R131): the digest and unit number its copy carried, the copy's timestamp index
and arrival time (2^-16 ns), and whether a copy from a second unit has been compared. -/
structure WinPos where
  seq    : Nat
  digest : Option (Nat × Nat)
  t      : Int
  arr    : Nat
  second : Bool := false
deriving DecidableEq, Repr

/-- What Warp measures of a stream in an interval (R138), in ns. -/
structure RxMeas where
  arrMin : Int
  arrMax : Int
  head   : Int
deriving DecidableEq, Repr

/-- The 16 configuration words of an entry of the receive stream table after reset (0x040 to 0x07F of WARP). -/
def warpEntryReset : List (BitVec 32) := [0x00600000, 0, 0, 0, 0, 0, 0, 0x30002002, 0, 0, 0, 0, 0, 0, 0, 0]

/-- An entry of the receive stream table (R121 to R143). -/
structure RxStream where
  /-- The configuration last written, and the one in force since the latest strobe (R22). -/
  cfg     : List (BitVec 32) := warpEntryReset
  eff     : List (BitVec 32) := warpEntryReset
  /-- 0 Off, 1 Waiting, 2 Running, 3 Lost (R136). -/
  state   : Nat := 0
  /-- φ (R135). -/
  phase   : Nat := 0
  /-- h, none before the first copy since Waiting or Lost (R129), and as SE_LAST_SEQ shows it. -/
  high    : Option Nat := none
  lastSeq : Nat := 0
  win     : List WinPos := []
  /-- Sequence number and timestamp index of the last accepted packet (R125). -/
  last    : Option (Nat × Int) := none
  /-- The most recent index with an in-time sample, and the samples (R134). -/
  got     : Option (Nat × List (BitVec 32)) := none
  /-- Recent indices that received a sample (R135). -/
  gotIdx  : List Nat := []
  /-- Consecutive indices that passed with no in-time sample (R136). -/
  lossRun : Nat := 0
  /-- Indices below this are not counted MISSING (R137). -/
  noMiss  : Nat := 0
  meas    : Option RxMeas := none
  /-- Greatest skew in the interval, in ns. -/
  skew    : Nat := 0
  /-- ArrMin, ArrMax, Pdv, SkewMax and Headroom as the last interval left them. -/
  stat    : List Nat := [0, 0, 0, 0, 0]
  cnt     : List (Nat × Nat) := []
deriving DecidableEq, Repr

/-- A record of Warp's mismatch log (R133). -/
structure MmRec where
  stream : Nat
  seq    : Nat
  first  : Nat
  second : Nat
  timestamp : Bool
deriving DecidableEq, Repr
-- ## Shuttle (07_stream_transmit.md)

/-- The 16 configuration words of an entry of the transmit stream table after reset (0x040 to 0x07F of SHUTTLE). -/
def shuttleEntryReset : List (BitVec 32) := [0x00606000, 0, 0, 0, 0, 0, 0, 0x00000080, 0, 0, 0x042ED000, 0, 0, 0, 0, 0]

/-- An entry of the transmit stream table (R145 to R165). -/
structure TxStream where
  cfg     : List (BitVec 32) := shuttleEntryReset
  eff     : List (BitVec 32) := shuttleEntryReset
  /-- First index computed with Valid = 1 (R148), or the first after the picks were renumbered (R164). -/
  since   : Option Nat := none
  /-- The packet being assembled: its first index and the samples so far, as payload bytes. -/
  asm     : Option (Nat × List Byte) := none
  running : Bool := false
  lastSeq : Nat := 0
  lastDigest : Nat := 0
  /-- Version of the session description (R163). -/
  sdpVersion : Nat := 1
  cnt     : List (Nat × Nat) := []
deriving DecidableEq, Repr

/-- A record of the pair mismatch log (R160, R161). -/
structure PmRec where
  input  : Bool
  block  : Nat
  pick   : Nat
  first  : Nat
  count  : Nat
deriving DecidableEq, Repr

/-- What the pair digests hold (R158 to R160). -/
structure PairDig where
  /-- Packet digests of the last 16 release picks: pick, and (stream, digest) pairs. -/
  hist   : List (Nat × List (Nat × Nat)) := []
  /-- Own and partner's pick digests that wait for the other side: pick and digest. -/
  ownOut : List (Nat × Nat) := []
  parOut : List (Nat × Nat) := []
  /-- Own and partner's input digests: index, and (block, digest) pairs. -/
  ownIn  : List (Nat × List (Nat × Nat)) := []
  parIn  : List (Nat × List (Nat × Nat)) := []
  /-- Output records started, waiting for the partner's packet digests: the pick. -/
  asked  : List Nat := []
  /-- Since the point of agreement of R162: a cause has been set, and the indices of Input records. -/
  judged : Bool := false
  inSeen : List Nat := []
  /-- Input digests of every block for the latest index, for its Beat (R301). -/
  last   : Option (Nat × List (Nat × Nat)) := none
deriving DecidableEq, Repr
-- ## Heddle (09_heddle_matrix.md)

/-- The state of a gain ramp (R205): from g0 to g1, index s the first, over n picks, under the amplitude law or the dB law; `done` where it
stands at its target at every index (R213, R219). -/
structure Ramp where
  g0 : Int := 0x10000000
  g1 : Int := 0x10000000
  s  : Int := 0
  n  : Nat := 1
  db : Bool := false
  done : Bool := true
deriving DecidableEq, Repr

/-- A crosspoint entry (R202). -/
structure Xp where
  dst   : Nat
  src   : Nat
  group : Nat
  ramp  : Ramp
deriving DecidableEq, Repr

/-- A delay fade (R216): the old delay, the first index, and F. -/
structure DelayFade where
  old : Nat
  s   : Int
  f   : Nat
deriving DecidableEq, Repr

/-- A destination (R214 to R218): its five configuration words (0x0C0 to 0x0D0) as last written and as in force, and its delay
line. -/
structure Dest where
  cfg   : List (BitVec 32) := [8191#32, 0#32, 0#32, 0#32, 0#32]
  eff   : List (BitVec 32) := [8191#32, 0#32, 0#32, 0#32, 0#32]
  /-- Delay in force. -/
  now   : Nat := 0
  fade  : Option DelayFade := none
  held  : Option Nat := none
  /-- First ring cell and count of ring cells, in force and allocated for the next strobe (R217). -/
  ring  : Nat × Nat := (0, 0)
  next  : Option (Nat × Nat) := none
  /-- Z (R215); none until the first index is computed. -/
  z     : Option Nat := none
deriving DecidableEq, Repr

/-- An edit record: three words (R209). -/
structure Edit where
  w0 : Nat
  w1 : Nat
  w2 : Nat
deriving DecidableEq, Repr

/-- A transaction (R210): 1 Open, 2 Sealed, 3 Cued; one that is Free is not listed. -/
structure Trans where
  slot   : Nat
  id     : Nat
  state  : Nat := 1
  edits  : List Edit := []
  growth : Nat := 0
  /-- Cued by CommitNow. -/
  direct : Bool := false
deriving DecidableEq, Repr

/-- Heddle behind its registers. -/
structure Heddle where
  /-- The table in force, in canonical order, and one that replaces it at the next strobe (R202, R213). -/
  xps    : List Xp := []
  next   : Option (List Xp) := none
  groups : List (Nat × Ramp) := []
  /-- Group gains written, for the next strobe: target, ramp length, law (R208). -/
  goes   : List (Nat × Option (Int × Nat × Bool)) := []
  dests  : List (Nat × Dest) := []
  trans  : List Trans := []
  /-- The last index computed. -/
  last   : Option Nat := none
deriving DecidableEq, Repr
-- ## Decimators (10_decimators.md)

/-- An input's chain (R225 to R231, R238). Histories are newest first. -/
structure DinSt where
  ints  : List Nat := [0, 0, 0, 0, 0]
  combs : List Nat := [0, 0, 0, 0, 0]
  bits  : List Int := []
  h1    : List Int := []
  h2    : List Int := []
  h3    : List Int := []
  x1    : Int := 0
  acc   : Int := 0
  delay : List (BitVec 32) := []
  /-- The value every bit of the latest whole picks had, and how many picks. -/
  same  : Option (Bool × Nat) := none
deriving DecidableEq, Repr

/-- The decimators behind their registers (R234, R235). -/
structure DecSt where
  dins    : List (Nat × DinSt) := []
  syncNow : Bool := false
  /-- Picks for which the DSM_SYNC ball has asked for a sync. -/
  pin     : List Nat := []
  /-- The pick of the last sync, and the pick at whose boundary its clear point lies while that is ahead. -/
  pick    : Option Nat := none
  clear   : Option Nat := none
  /-- Each input's value of the latest index before trim and mute, and whether an earlier stage has counted it as clipped (R231). -/
  vals    : List (Nat × BitVec 32 × Bool) := []
deriving DecidableEq, Repr
-- ## Filter engine, detectors and limiters (11_filters_detectors.md)

/-- The state of a biquad section (R246). -/
structure Sec where
  x1 : Int := 0
  x2 : Int := 0
  y1 : Int := 0
  y2 : Int := 0
  e  : Int := 0
deriving DecidableEq, Repr

/-- A bank fade (R252): its first index, N, the slots it holds, and the outgoing bank's instances: the live one, and the shadow's
(R255); none where there is none. -/
structure ChFade where
  s     : Nat
  n     : Nat
  slots : Nat := 1
  out   : Option (List Sec) := none
  shOut : Option (List Sec) := none
deriving DecidableEq, Repr

/-- A chain's configuration words after reset: FC_CFG, FC_BANK0, FC_BANK1. -/
def chainReset : List (BitVec 32) := [0x01E00004#32, 0#32, 0#32]

/-- A filter chain (R241 to R255). Sections beyond the list are zero; histories are newest first. -/
structure Chain where
  /-- Configuration as last accepted, and as in force. -/
  cfg     : List (BitVec 32) := chainReset
  eff     : List (BitVec 32) := chainReset
  active  : Nat := 0
  secs    : List Sec := []
  hist    : List Int := []
  fade    : Option ChFade := none
  /-- Fade length of the pending swap, and whether it waits for a slot (R253). -/
  pend    : Option Nat := none
  wait    : Bool := false
  shadow  : Option (List Sec) := none
  /-- The closing cross-fade: first index and N (R255). -/
  closing : Option (Nat × Nat) := none
  /-- Poisoned, and the coefficient word that is to be rewritten; none for a state word (R245). -/
  poison  : Option (Option Nat) := none
  /-- The last index the chain ran for. -/
  ran     : Option Nat := none
deriving DecidableEq, Repr

/-- The filter engine behind its registers. -/
structure Filt where
  chains  : List (Nat × Chain) := []
  /-- Swap requests for the next index, of the host and of cues: chain and fade length, 0 for FadeLen (R252). -/
  reqs    : List (Nat × Nat) := []
  cueReqs : List (Nat × Nat) := []
  /-- The engine runs (R457). -/
  on      : Bool := false
  /-- A Realign period: first index and RealignPicks (R30). -/
  period  : Option (Nat × Nat) := none
  /-- Coefficient words (R243), and those whose stored word is uncorrectable (R245). -/
  coef    : List (Nat × BitVec 32) := []
  bad     : List Nat := []
deriving DecidableEq, Repr

/-- The measurements of a detector entry and its limiter's gain (R257 to R262). While P is 0 the hold count has no effect and is
held at 0. -/
structure DetVal where
  p    : Nat := 0
  h    : Nat := 0
  m    : Nat := 0
  e    : Nat := 0
  ovr  : Bool := false
  g    : Nat := 0x10000000
deriving DecidableEq, Repr

/-- A detector entry's configuration words after reset (0x040 to 0x054 of DET). -/
def detReset : List (BitVec 32) := [0x25800347#32, 0x3FFFF5A0#32, 0x04000000#32, 0x00020000#32, 0x7FFFFFFF#32, 0#32]

/-- A detector entry (R256). -/
structure Det where
  cfg  : List (BitVec 32) := detReset
  eff  : List (BitVec 32) := detReset
  val  : DetVal := {}
  /-- PeakMax. -/
  top  : Nat := 0
  /-- The Realign shadow. -/
  sh   : DetVal := {}
deriving DecidableEq, Repr

/-- The detectors behind their registers. -/
structure DetSt where
  ents   : List (Nat × Det) := []
  /-- A Realign period runs: first index and RealignPicks (R30). -/
  period : Option (Nat × Nat) := none
  /-- The over log, oldest first, at most 16: entry and index (R260). -/
  log    : List (Nat × Nat) := []
deriving DecidableEq, Repr
-- ## TDM ports and local links (12_local_audio.md)

/-- What a TDM port holds behind its registers (R267 to R271). -/
structure TdmSt where
  /-- Master: Running at the next pick boundary. -/
  start  : Bool := false
  /-- Pick of the last slave frame, and of the last one that was good while Waiting. -/
  last   : Option Nat := none
  ok     : Option Nat := none
  /-- Masks in force since the frame start of the latest pick, and the receive mask of the frame before. -/
  txMask : Nat := 0xFFFFFFFF
  rxMask : Nat := 0xFFFFFFFF
  rxPrev : Nat := 0xFFFFFFFF
  /-- Input slots that wait for their index: index and (slot, value) pairs. -/
  wait   : List (Nat × List (Nat × BitVec 32)) := []
deriving DecidableEq, Repr

/-- What a local link holds behind its registers (R277 to R281). -/
structure LlSt where
  /-- TxMute in force. -/
  mute   : Bool := false
  /-- Consecutive whole picks with a good frame, and with none. -/
  run    : Nat := 0
  dry    : Nat := 0
  /-- In the current pick: a good frame has come; a frame has been written; the link's own frame has been sent. -/
  good   : Bool := false
  wrote  : Bool := false
  sent   : Bool := true
  /-- Pick of the last Hello. -/
  hello  : Option Nat := none
  seq    : Nat := 0
  ack    : Nat := 0
  /-- The cell pending in the transmit mailbox, and the cells received, oldest first: eight words each. -/
  mbox   : Option (List (BitVec 32)) := none
  fifo   : List (List (BitVec 32)) := []
deriving DecidableEq, Repr
-- ## Lease and Selvedge (13_pair_redundancy.md)

/-- The lease logic behind its registers; times are in CCLK of XREF-derived time (R289 to R297, R309, R310). -/
structure LeaseSt where
  /-- Time of the capture since the previous grant, for the lease and for the reserve. -/
  cap     : Option Nat := none
  resCap  : Option Nat := none
  /-- When the lease and the reserve end. -/
  endAt   : Nat := 0
  resEnd  : Nat := 0
  /-- Since when the conditions of DriveOk have held. -/
  armAt   : Option Nat := none
  /-- When the last PulseAck was written. -/
  ackAt   : Nat := 0
  /-- Consecutive Beats whose LeaseOut disagreed with LeaseIn (R290). -/
  differ  : Nat := 0
  /-- Sequence of the last lease message sent, and of the last Request and ReserveRequest (R292). -/
  seq     : Nat := 0
  reqSeq  : Option Nat := none
  resSeq  : Option Nat := none
  /-- When a grant was last sent to the partner over Selvedge (R309, R310), and when a grant last arrived. -/
  gaveAt  : Option Nat := none
  gotAt   : Nat := 0
deriving DecidableEq, Repr

/-- A record of an epoch (R305): object index, subindex, kind, value bytes. -/
structure EpRec where
  index : Nat
  sub   : Nat
  kind  : Nat
  value : List Byte
deriving DecidableEq, Repr

/-- Selvedge behind its registers (R299 to R308). -/
structure SvSt where
  /-- Frames sent, by FrameType (R300). -/
  seqs    : List (Nat × Nat) := []
  /-- Pick of the last Beat sent (R301). -/
  beat    : Option Nat := none
  /-- First pick whose digests are compared since the link came up (R160). -/
  since   : Nat := 0
  /-- The partner's last Time frame since the link last came up: its t3 and its arrival (R302). -/
  tIn     : Option (Nat × Nat) := none
  /-- Partner's time of day less the timekeeper, where a Time frame with TodValid has given it (R302, R415). -/
  tod     : Option Int := none
  /-- The partial epoch: number, bytes, and when its first Copy frame came (R305, R307). -/
  part    : Option (Nat × List Byte × Nat) := none
  /-- A checked epoch that waits for its strobe: number and records (R306). -/
  due     : Option (Nat × List EpRec) := none
  /-- As sender: a full epoch is owed; the values of the epochs sent, by number, that a delta may be based on (R305, R308). -/
  full    : Bool := false
  sent    : List (Nat × List EpRec) := []
  /-- This unit was the epoch sender when last looked at. -/
  sender  : Bool := false
  /-- The partner has applied an epoch since the link came Up, so the Realign of R308 has been pushed. -/
  aligned : Bool := false
  /-- Ledger records written since the last epoch (R304). -/
  ledger  : List (List Byte) := []
deriving DecidableEq, Repr
-- ## Patterns, overlays, flash and OTP (14_domain_patterns.md, 18_power_reset_boot.md)

/-- The overlay stack and what it covers (R327 to R329). -/
structure OvlSt where
  /-- Definitions of overlays by number, as the bytes of OverlayDef. -/
  defs   : List (Nat × List Byte) := []
  /-- Overlay at each position; 0xFF when empty. -/
  stack  : List Nat := [255, 255, 255, 255]
  /-- Commit pick and deferred pick of each position's last change. -/
  commit : List Nat := [0, 0, 0, 0]
  defer  : List Nat := [0, 0, 0, 0]
  /-- Base values of the objects the stack covers, and of those that wait for a deferred change, by object key. -/
  base   : List (Nat × Option Nat) := []
  /-- The records each position has applied: object key and value. -/
  recs   : List (List (Nat × Nat)) := [[], [], [], []]
  /-- Deferred changes: position and object keys. -/
  later  : List (Nat × List Nat) := []
deriving DecidableEq, Repr

/-- Who asked for a flash operation, and is answered at its end (R325, R326, R359). -/
inductive Asker where
  | none
  /-- A WRITE item of the LCP or mailbox request that waits for the flash. -/
  | request
  /-- A PatternImage write whose result has been given. -/
  | told
deriving DecidableEq, Repr

/-- A flash operation in progress: a pattern load with its result, a pattern image being stored, or a ledger record. -/
inductive FlashOp where
  | load (slot code : Nat) (asker : Asker)
  | save (slot : Nat) (image : List Byte) (asker : Asker)
  | ledger (rec : List Byte)
deriving DecidableEq, Repr

/-- The boot flash: its contents by offset (R411), the settings record's BootPattern, how many ledger records have been written, the
operation in progress, and the ledger records that wait for it, each with the time of day by which a day's first write begins. -/
structure FlashSt where
  mem    : Memory := []
  boot   : Nat := 255
  ledger : Nat := 0
  busy   : Option FlashOp := none
  wait   : List (List Byte × Option Nat) := []
deriving DecidableEq, Repr
-- ## Loom Control Protocol (16_object_dictionary.md)

/-- An entry of the peer table (R357): DomainId, Sender, source address; the highest counter accepted, and bit i for the counter
i + 1 below it. -/
structure Peer where
  dom  : Nat
  unit : Nat
  ip   : Nat
  high : Nat
  map  : Nat := 0
deriving DecidableEq, Repr

/-- A kept reply (R360): its requester, TransactionId and Kind, the reply's body, and when it was made in CCLK of XREF-derived time. -/
structure Kept where
  who  : Requester
  txn  : Nat
  kind : Nat
  body : List Byte
  made : Nat
deriving DecidableEq, Repr

/-- A subscription (R365): key, mode (1 OnChange, 2 Periodic), period in ms; the value and the time in ms of the last send, and the
time in ms of the last SUBSCRIBE. -/
structure Sub where
  who    : Requester
  index  : Nat
  sub    : Nat
  mode   : Nat
  period : Nat
  value  : Option Nat := none
  sent   : Nat := 0
  fresh  : Nat := 0
deriving DecidableEq, Repr

/-- A bulk session (R367): its object, Total, the bytes staged so far, the cells they hold, and the time in ms of its last request. -/
structure Bulk where
  id    : Nat
  who   : Requester
  write : Bool
  index : Nat
  sub   : Nat
  total : Nat
  data  : List Byte := []
  cells : Nat := 0
  seen  : Nat := 0
deriving DecidableEq, Repr

/-- A request that the end of flash operations or of fuse programming answers (R359, R425): its requester, its message without the tag,
its reply's body, how many operations it still waits for, and where in the body the code of a FuseProgram goes. -/
structure HeldReq where
  who  : Requester
  msg  : List Byte
  body : List Byte
  left : Nat
  fuse : Option Nat := none
deriving DecidableEq, Repr

/-- The protocol's own state, all of it in the Spindle firmware (R357, R360, R365 to R367). -/
structure LcpSt where
  /-- The last counter sent. -/
  last  : Nat := 0
  /-- Most recently used first. -/
  peers : List Peer := []
  /-- Newest first, at most 64. -/
  kept  : List Kept := []
  subs  : List Sub := []
  bulk  : List Bulk := []
  next  : Nat := 1
  /-- Sequence numbers of NOTIFY, by requester. -/
  seqs  : List (Requester × Nat) := []
  /-- Requests that wait for the end of a flash operation, oldest first: the whole message without its tag (R359). -/
  wait  : List (Requester × List Byte) := []
  /-- The request that waits for an operation's end. -/
  held  : Option HeldReq := none
deriving DecidableEq, Repr

-- ## Domain and discovery (14_domain_patterns.md)

/-- A roster entry with what the manager holds of its unit: times are in CCLK of XREF-derived time (R293, R297, R318, R319). -/
structure Member where
  info    : RosterRec
  /-- When its last Heartbeat and its last Pulse arrived, and when it became Absent or Left. -/
  beat    : Nat := 0
  pulse   : Nat := 0
  gone    : Nat := 0
  /-- When its last Lease grant ends; none before the first, and since it has sent Release. -/
  leaseEnd : Option Nat := none
  /-- Fault or PinMismatch in its last lease message. -/
  unfit   : Bool := false
  fault   : Bool := false
  /-- Seq of its last Request and of its last ReserveRequest. -/
  reqSeq  : Nat := 0
  resSeq  : Nat := 0
  /-- Its report of a unit's absence waits: the Seq of the report and the unit reported (R297). -/
  report  : Option (Nat × Nat) := none
deriving DecidableEq, Repr

/-- A challenge the manager waits on (R317): the request, its own nonce, and when it was sent. -/
structure Challenge where
  req   : JoinReq
  nonce : List Byte
  sent  : Nat
deriving DecidableEq, Repr

/-- A neighbour on a port (R314): its fields as the data unit carried them, and when its Time To Live runs out. -/
structure Neighbour where
  chassis : List Byte
  port    : List Byte
  ttl     : Nat
  ends    : Nat
  name    : List Byte := []
  addr    : List Byte := []
  alaner  : List Byte := []
deriving DecidableEq, Repr

/-- The domain firmware (R315 to R323). Its state, term, manager and roster version are objects 0x1203 to 0x1206. -/
structure DomainSt where
  roster   : List Member := []
  /-- Changes by version (R319). -/
  deltas   : List (Nat × RosterRec) := []
  /-- Beacons sent. -/
  seq      : Nat := 0
  /-- When the last valid beacon arrived. -/
  heard    : Nat := 0
  /-- A joining unit's nonce and when it asked; when it may try again. -/
  nonce    : List Byte := []
  asked    : Nat := 0
  retry    : Option Nat := none
  waiting  : List Challenge := []
  /-- A manager that has yielded acts as backup (R322). -/
  backup   : Bool := false
  /-- The start-up window of R293. -/
  holdoff  : Option Nat := none
  /-- Streams whose ExpectPair the firmware has cleared (R320). -/
  cleared  : List Nat := []
  neighbours : List (Nat × Option Neighbour) := []
deriving DecidableEq, Repr
-- ## Temple (15_temple_ageing.md)

/-- Temple behind its registers (R332 to R341). -/
structure TempleSt where
  /-- The last 100 samples of each sensor, newest first, in 1/16 °C. -/
  temps  : List (List Int) := [[], [], [], []]
  /-- Consecutive windows whose worst slack was at or above SlackHigh. -/
  calm   : Nat := 0
  /-- Consecutive measurements below EyeMinMv, by lane; the lanes that adapt; when the last adaptation began, in TAI seconds. -/
  low    : List (Nat × Nat) := []
  lanes  : List Nat := []
  since  : Option Nat := none
  /-- Corrected ECC counts at the last hour. -/
  ecc    : List Nat := []
  /-- Of each stream, the intervals of the last PlanWindow: TAI second, ArrMax, Headroom. -/
  seen   : List (Nat × List (Nat × Int × Int)) := []
  /-- The partner's required offsets, and the TAI second each came. -/
  theirs : List (Nat × Nat × Nat) := []
  /-- Streams whose planning cue was refused: the TAI second, and the quota and bounds it was refused under (R338). -/
  stuck  : List (Nat × Nat × List Nat) := []
  /-- A ledger record whose flash write failed (R341). -/
  retry  : Option (List Byte) := none
deriving DecidableEq, Repr
-- ## Power, reset and boot (18_power_reset_boot.md)

/-- What keeps every domain but PD0 from running: thermal shutdown (R408), the loss of XREF (R448), or Doze (R417). -/
inductive Held where
  | none
  | thermal
  | xref
  | doze
deriving DecidableEq, Repr

/-- How far the device has come since its last reset (R407, R412, R415). -/
inductive Stage where
  | reset
  | rom
  | launched
  | running
deriving DecidableEq, Repr

/-- A word of the OTP being programmed (R421, R422): its number, the bits, and whether a write of FuseProgram waits for the code. -/
structure FuseOp where
  word  : Nat
  bits  : Nat
  asked : Bool
deriving DecidableEq, Repr

/-- A write posted to a slow block and not yet applied (R381): register offset, word, and the transaction it came by. -/
structure Posted where
  off    : Nat
  word   : Nat
  master : Nat
  id     : Nat
deriving DecidableEq, Repr

/-- Power, reset and boot behind their registers. -/
structure LifeSt where
  held  : Held := .none
  stage : Stage := .reset
  /-- From the start of a reset the general outputs are at high impedance until LEASE_GPO is written (R406). -/
  gpoOff : Bool := true
  /-- From the start of a reset LOCK_A is driven at 0 V until firmware has written SYN_CTRL or LOCKA_CFG (R406). -/
  lockOff : Bool := true
  /-- PD8 has come up since the latest reset (R75). -/
  pd8   : Bool := false
  /-- The watchdog counts: when it last began, in CCLK of XREF-derived time, and whether it has warned (R409). -/
  wdog  : Option (Nat × Bool) := none
  fuse  : Option FuseOp := none
  /-- The firmware of this launch waits for a time to start the pick counter with (R415). -/
  wantTime : Bool := false
  /-- It has not yet moved the ports that carry streams to Service (R415). -/
  wantSvc : Bool := false
  /-- When the latest reset acted, in CCLK of XREF-derived time, and its kind's rank (R424). -/
  rst : Option (Nat × Nat) := none
  /-- Writes posted to slow blocks, oldest first. -/
  posted : List Posted := []
deriving DecidableEq, Repr
-- ## Host ports (17_host_bus_registers.md)

/-- The PCIe endpoint and the SPI slave behind their registers (R391 to R395). -/
structure HostSt where
  /-- The endpoint is in D3hot. -/
  d3  : Bool := false
  /-- The endpoint's AER capability has logged a Completer Abort (R391). -/
  aerAbort : Bool := false
  /-- The last SPI frame ended with an error. -/
  spiErr : Bool := false
  /-- The trailing bytes of an SPI write frame whose CS_N has not risen, and their internal address. -/
  spi : Option (Nat × List Byte) := none
deriving DecidableEq, Repr

/-- One thing the device has handed out: the model's own list of what leaves at the ports, links, pins and host ports. -/
inductive Sent where
  /-- An MSI-X message of a vector (R385). -/
  | msix (vector : Nat)
  /-- The data a register read returns to its master. -/
  | readData (off value : Nat)
  /-- A PTP message sent: port, kind, domain number, the time of day it carries in 2^-16 ns, request identity, and whether its transport is
  layer 2 and not UDP (R33). -/
  | ptp (port kind domain time id : Nat) (l2 : Bool)
  /-- A frame sent on a port: the bytes before the FCS, and the FCS (R95). -/
  | frame (port : Nat) (bytes : List Byte) (fcs : Nat)
  /-- A received frame handed to a Spindle queue (R98): 0 PTP, 1 discovery, 2 LCP, 3 port control, 4 boot ROM. -/
  | spindle (kind port ts : Nat) (bytes : List Byte)
  /-- A Selvedge frame: start bytes 1 to 7, payload, CRC-32C (R300). -/
  | selvedge (bytes : List Byte)
  /-- A Ctrl frame to the partner, by its content (R300). -/
  | svCtrl (m : SvCtrl)
  /-- A lease message to the unit named, or to the manager followed (R292). -/
  | lease (dest : Nat) (m : LeaseMsg)
  /-- The response to a bus master: master ID, transaction ID, whether it is an error response, and the data of a read. -/
  | busReply (master id : Nat) (error : Bool) (data : Nat)
  /-- The result code of an object write that runs a block's command (R210, R213). -/
  | opResult (index sub code : Nat)
  /-- A TDM output frame of a pick, BCLK period by BCLK period (R266, R269): DOUT, none where it is at high impedance, a master's FS, and whether
  both change on the rising BCLK edge. One sent while the pick counter does not run repeats until it starts (R270). -/
  | tdmOut (port pick : Nat) (dout : List (Option Bool)) (fs : List Bool) (inv : Bool)
  /-- A local link frame: the Mark block apart, each block's control-header bit and its eight payload bytes as on the line (R273). -/
  | linkFrame (link : Nat) (blocks : List (Bool × List Byte))
  /-- An LCP message: port, destination address and UDP port, and the whole message (R354, R355). -/
  | lcp (port ip udp : Nat) (bytes : List Byte)
  /-- A domain message (R316). -/
  | domain (dest : DomTo) (m : DomMsg)
  /-- A cue sent to a unit as a WRITE_AT message (R320, R339). -/
  | cueTo (unit : Nat) (bytes : List Byte)
  /-- The code driven on AVS_VID (R335). -/
  | avsVid (code : Nat)
  /-- The bytes the SPI slave has driven in a frame, the 0xFF before each marker apart (R392, R393). -/
  | spi (bytes : List Byte)
deriving DecidableEq, Repr

/-- A frame of the firmware that waits for a port's transmitter (R94, R154): what leaves, its length with the FCS, its address counter as
castBin numbers it, its priority, and whether it is a PTP event message. -/
structure FwFrame where
  out   : Sent
  len   : Nat
  cast  : Nat
  pri   : Nat
  event : Bool := false
deriving DecidableEq, Repr

/-- The state of the device. -/
structure State where
  /-- Register words that differ from their reset values, by offset in register space. -/
  regs     : List (Nat × BitVec 32) := []
  /-- Which free value comes next: the model's own field. -/
  freeCtr  : Nat := 0
  time     : TimeSt := {}
  /-- Pending cues in the order they were accepted (R41). -/
  cues     : List Cue := []
  /-- The completion log, oldest first, at most 64 (R49). -/
  doneLog  : List DoneRec := []
  /-- The most recent completion record, as the CueDone object shows it (R371). -/
  lastDone : Option DoneRec := none
  /-- Error reports that wait for the ERR block (R390). -/
  errWait  : List ErrReport := []
  /-- The error FIFO, oldest first, at most 16 (R390). -/
  errFifo  : List ErrRec := []
  /-- MSI-X vector levels as last seen, bit v for vector v (R385). -/
  msixLevel : Nat := 0
  reed     : ReedSt := {}
  day      : DaySt := {}
  synth    : SynthSt := {}
  /-- Objects that no register holds, by index × 256 + subindex, where they differ from their defaults (R352). -/
  objs     : List (Nat × Nat) := []
  /-- STR and BLOB objects that no table holds, as bytes. -/
  blobs    : List (Nat × List Byte) := []
  /-- Pool memory, 262,144 cells of 128 bytes, by byte offset in the pool window (R167): ring cells, and what freed cells of
  the linked region hold. -/
  pool     : Memory := []
  /-- Queue descriptors 0 to 4,095 (R173). -/
  queues   : List (Nat × Queue) := []
  /-- The queue in which each queue port holds an open item (R190, R456). -/
  portOpen : List (Nat × Option Nat) := []
  ports    : List (Nat × PortSt) := []
  /-- Frames of the Spindle firmware that wait for each port, oldest first (R154, R454). -/
  fwq      : List (Nat × List FwFrame) := []
  rx       : List (Nat × RxStream) := []
  mmLog    : List MmRec := []
  tx       : List (Nat × TxStream) := []
  pmLog    : List PmRec := []
  dig      : PairDig := {}
  /-- The source buffer half that is filling, by source slot (R16). -/
  src      : List (Nat × BitVec 32) := []
  /-- Destination values written in the pick, by destination slot (R18). -/
  dst      : List (Nat × BitVec 32) := []
  /-- The boot ROM runs recovery on N0 (R93, R413). -/
  recovering : Bool := false
  heddle   : Heddle := {}
  dec      : DecSt := {}
  filt     : Filt := {}
  det      : DetSt := {}
  /-- Host writes since the latest strobe to fields a cue may write, by key (R22, R49). -/
  marks    : List Nat := []
  tdm      : List (Nat × TdmSt) := []
  ll       : List (Nat × LlSt) := []
  /-- XREF-derived time in CCLK since power-on; it runs through every reset (R291). -/
  xref     : Nat := 0
  lease    : LeaseSt := {}
  sv       : SvSt := {}
  ovl      : OvlSt := {}
  flash    : FlashSt := {}
  /-- A checked pattern image that is applied at the next strobe: its slot and records (R325). -/
  patDue   : Option (Nat × List EpRec) := none
  /-- OTP words, and the shadow of R407, where they are not 0 (R419). -/
  otp      : List (Nat × BitVec 32) := []
  shadow   : List (Nat × BitVec 32) := []
  /-- SRAM, by byte offset (R372). -/
  sram     : Memory := []
  /-- The partner's ledger records, newest first, at most 64 (R342). -/
  partnerLedger : List (List Byte) := []
  /-- Subscriptions in use (R365). -/
  subCount : Nat := 0
  lcp      : LcpSt := {}
  dom      : DomainSt := {}
  temple   : TempleSt := {}
  life     : LifeSt := {}
  host     : HostSt := {}
  /-- What the device has sent, oldest first: the model's own field. -/
  outbox   : List Sent := []
  /-- The commands that wait, first in first out. -/
  pending  : List Instr := []
deriving DecidableEq, Repr

/-- The machine right after reset. -/
def State.reset : State := {}

end Sys2Proof.Machine
end

