-- ==== Sys2Proof/WellFormed.lean ====
section
/-!
DEFINITION. Well-formed commands: every number that names something of the device names one it has (a port, a stream, a queue, a window,
an event), and a register's value fits its 32 bits. No other command exists; one that is not well-formed is refused by that name
(notes/assumptions/2.md).
-/
namespace Sys2Proof

/-- A number below a bound. -/
def below (n b : Nat) : Bool := decide (n < b)

/-- A number below a bound, where there is one. -/
def optBelow (n : Option Nat) (b : Nat) : Bool := match n with
  | some k => below k b
  | none => true

/-- A transaction of the matrix's kind (R375, R376, R379): one of its seven masters and sixteen IDs, 1 to 16 beats of 1, 2, 4 or 8 bytes. -/
def BusAcc.wf (a : BusAcc) : Bool :=
  below a.master 7 && below a.id 16 && (a.width == 1 || a.width == 2 || a.width == 4 || a.width == 8) && below 0 a.beats && below a.beats 17

/-- Two BOOT balls and one PAIR_ID ball (R410, R289). -/
def Straps.wf (s : Straps) : Bool := below s.boot 4 && below s.pair 2

/-- A port that exists, or the mailbox of one of the two host interfaces (R354, R368). -/
def Requester.wf (r : Requester) : Bool := match r with
  | .net port _ _ _ => below port 4
  | .mbox m => below m 2

/-- A staging window or a port that exists (R41, R354). -/
def CuePath.wf (p : CuePath) : Bool := match p with
  | .window k => below k 4
  | .firmware => true
  | .writeAt port _ _ => below port 4

/-- A command is well-formed. -/
def Instr.wf (c : Instr) : Bool := match c with
  | .pickStrobe _ _ _ => true
  | .filterChainStart j _ => below j 1024
  | .fadeEnd j => below j 1024
  | .realignPeriodEnd => true
  | .closingCrossfadeEnd j => below j 1024
  | .delayFadeEnd d => below d 8192
  | .cueArmed _ _ => true
  | .cuePush path _ => path.wf
  | .cueCancel path _ _ => path.wf
  | .doneInfoPop => true
  | .timeCtrlWrite v => below v (2 ^ 32)
  | .pickCounterStart => true
  | .pickCounterResume => true
  | .timeSet => true
  | .timeCapture => true
  | .pickLoRead => true
  | .ptpMessageRx port _ => below port 4
  | .ptpMessageTx port _ => below port 4
  | .reedTick _ _ _ => true
  | .refGateExpire e => below e.k 10
  | .refWtrExpire e => below e.k 10
  | .refEdgeTimeout k => below k 10
  | .ptpAnnounceTimeout k => below k 10
  | .refEnableWrite k v => below k 10 && below v (2 ^ 32)
  | .rdCtrlWrite v => below v (2 ^ 32)
  | .dpllAcquireLock _ => true
  | .dpllLockLoss _ => true
  | .switchCommit _ => true
  | .holdHistorySample _ => true
  | .holdoverSecond => true
  | .pstepGo v => below v (2 ^ 32)
  | .phaseStepApply => true
  | .fpoInputPulse j _ => below j 4
  | .fpoStepApply j => below j 4
  | .synthUnlock m => below m 2
  | .synthLocked m => below m 2
  | .synthOutputRestart m => below m 2
  | .synthStopped m => below m 2
  | .synthNcdReturn m => below m 2
  | .synCtrlWrite v => below v (2 ^ 32)
  | .rampStart m => below m 2
  | .rampAbort m _ => below m 2
  | .rampZero m => below m 2
  | .rampSegmentEnd m => below m 2
  | .glideEnd => true
  | .ckoCfgWrite i v => below i 12 && below v (2 ^ 32)
  | .ckoEnableApply => true
  | .ckoPhaseWrite i v => below i 12 && below v (2 ^ 32)
  | .ckoWalkStep i => below i 12
  | .ckoSecondRealign => true
  | .pcsCtrlWrite n v => below n 4 && below v (2 ^ 32)
  | .pcsRestart n => below n 4
  | .pcsAdapt n => below n 4
  | .macCtrlWrite n v => below n 4 && below v (2 ^ 32)
  | .portSignalDetect n => below n 4
  | .portLinkUp n => below n 4
  | .portLinkLoss n _ _ => below n 4
  | .rxFrame n _ => below n 4
  | .ctFrameStart n => below n 4
  | .pauseTimerExpire n p => below n 4 && below p 8
  | .pauseWatchdog n p => below n 4 && below p 8
  | .pauseSpentTimeout n p => below n 4 && below p 8
  | .pfcRefresh n => below n 4
  | .txFrameStart n _ => below n 4
  | .tsPopTag n => below n 4
  | .lostTagPop n => below n 4
  | .counterHarvest n i => below n 4 && below i 52
  | .wakeFrameMatch _ _ _ st => st.wf
  | .streamLost i => below i 1024
  | .pdvWindowEnd => true
  | .seRead => true
  | .seWrite => true
  | .seClearCnt => true
  | .mmInfoPop => true
  | .digestMissing _ => true
  | .stRead => true
  | .stWrite => true
  | .stClearCnt => true
  | .pmInfoPop => true
  | .sapAnnounce i => below i 1024
  | .poolInitDone => true
  | .qRead => true
  | .qWrite => true
  | .qFlush => true
  | .qClearCnt => true
  | .reclaimDone e => below e.q 4096
  | .qpSelWrite k v => below k 4 && below v (2 ^ 32)
  | .qpPushStart k => below k 4
  | .qpPushData k v => below k 4 && below v (2 ^ 32)
  | .qpPushEnd k last => below k 4 && below last 4
  | .qpPushAbort k => below k 4
  | .qpPop k _ => below k 4
  | .poolTargetAccess a _ => a.wf
  | .xtOpen id => below id 65536
  | .xePush id => below id 65536
  | .xtSeal id => below id 65536
  | .xtAbandon id => below id 65536
  | .xtCommitNow id => below id 65536
  | .xpEditsApplied id => below id 65536
  | .xpTransactionWrite _ => true
  | .xpTableWrite _ => true
  | .dsRead => true
  | .dsWrite => true
  | .hdRepack => true
  | .grpGo => true
  | .xqLookup => true
  | .decSyncNow => true
  | .dsmSyncEdge _ => true
  | .decClearPoint => true
  | .decSettled k => below k 64
  | .decClockFault k => below k 4
  | .decClockValid k => below k 4
  | .decGrpWrite k v => below k 4 && below v (2 ^ 32)
  | .fcRead => true
  | .fcWrite => true
  | .fcSwap fade => below fade 65536
  | .fadeCfgWrite v => below v (2 ^ 32)
  | .filtCtrlWrite v => below v (2 ^ 32)
  | .coefWrite a => a.wf
  | .coefImageWrite _ => true
  | .dtRead => true
  | .dtWrite => true
  | .dtClearMax => true
  | .ovInfoPop => true
  | .tdmEnable k v => below k 16 && below v (2 ^ 32)
  | .tdmFmtWrite k v => below k 16 && below v (2 ^ 32)
  | .tdmFrameRx k _ => below k 16
  | .tdmClockLoss k => below k 16
  | .tdmDriveOn k => below k 16
  | .llFrameTx k => below k 4
  | .llFrameRx k _ => below k 4
  | .llLinkDown k => below k 4
  | .llPartnerSeenTimeout k => below k 4
  | .ccTxSend k => below k 4
  | .ccRxPop k => below k 4
  | .leaseCapture => true
  | .leaseGrant _ => true
  | .reserveCapture => true
  | .reserveGrant _ => true
  | .leaseRelease => true
  | .releaseReserve => true
  | .pulseAck => true
  | .setRosterAbsent => true
  | .clearRosterAbsent => true
  | .leaseExpire => true
  | .reserveExpire => true
  | .leaseInChange _ => true
  | .driveokArm => true
  | .fenceTimeout => true
  | .pulseTx => true
  | .leaseRenewTx _ => true
  | .absenceReportTx => true
  | .leaseRequest _ => true
  | .leaseGrantMsg _ => true
  | .leaseReleaseMsg _ => true
  | .reserveRequest _ => true
  | .reserveGrantMsg _ => true
  | .pulse _ => true
  | .pulseAckMsg _ => true
  | .absenceReport _ => true
  | .absentConfirmDue _ => true
  | .absentConfirm _ => true
  | .deny _ => true
  | .fallbackRequest => true
  | .silentTakeover => true
  | .selvedgeDown => true
  | .selvedgeBeatTx => true
  | .selvedgeBeatRx _ => true
  | .timeFrameTx => true
  | .timeFrameRx _ _ => true
  | .selvedgeCtrlRx _ _ => true
  | .epochBuild => true
  | .copyFrameRx _ => true
  | .commitFrameRx _ => true
  | .epochApply => true
  | .epochTimeout => true
  | .epochSendFull => true
  | .epochRequestFull => true
  | .lldpTx n => below n 4
  | .lldpRx n _ => below n 4
  | .lldpTtlExpire n => below n 4
  | .beaconTx => true
  | .beaconRx _ _ => true
  | .joinRequest _ _ => true
  | .joinChallenge _ _ _ => true
  | .joinResponse _ _ => true
  | .joinAccept _ _ _ => true
  | .joinDeny _ => true
  | .heartbeat _ _ _ _ => true
  | .leave _ => true
  | .rosterDelta _ _ => true
  | .rosterSyncTx => true
  | .rosterSync _ _ => true
  | .joinTimeout => true
  | .joinRetry _ => true
  | .challengeTimeout _ => true
  | .beaconLoss => true
  | .managerStart => true
  | .backupTakeover => true
  | .managerHoldoffEnd => true
  | .unitAbsent _ => true
  | .patternLoad n => below n 8
  | .patternSave n => below n 8
  | .patternImageWrite n _ => below n 8
  | .overlayDefWrite k _ => below k 64
  | .overlayDeferredApply => true
  | .tempSample _ => true
  | .avsWindow _ => true
  | .avsLower => true
  | .tpCtrlWrite v => below v (2 ^ 32)
  | .eyeMeasure _ => true
  | .adaptDone _ => true
  | .eccHour => true
  | .dayEnd => true
  | .ledgerRetry => true
  | .planPass => true
  | .lcpRx port _ _ _ => below port 4
  | .read who _ => who.wf
  | .write who _ => who.wf
  | .writeAt who _ => who.wf
  | .subscribe who _ => who.wf
  | .subscriptionEval => true
  | .subscriptionLapse => true
  | .bulkOpenRead who _ => who.wf
  | .bulkOpenWrite who _ => who.wf
  | .bulkData who _ => who.wf
  | .bulkAbort who _ => who.wf
  | .bulkTimeout => true
  | .mbxDoorbell m v => below m 2 && below v (2 ^ 32)
  | .registerWrite a _ => a.wf
  | .slowWriteApply b _ _ => below b 8
  | .cmdMultiBit a v => below a (2 ^ 24) && below v (2 ^ 32)
  | .busPromote => true
  | .masterReset m _ => below m 7
  | .winLockAcquire m k => below m 7 && below k 8
  | .winLockRelease m k => below m 7 && below k 8
  | .evtAckWrite e v => below e 128 && below v (2 ^ 32)
  | .evtAckallWrite w v => below w 4 && below v (2 ^ 32)
  | .msixUnmask v => optBelow v 32
  | .errorRecordAccept => true
  | .errPop => true
  | .errFirstAck v => below v (2 ^ 32)
  | .sysCyclesRead => true
  | .spiWrite addr _ => below addr (2 ^ 24)
  | .spiRead addr _ _ => below addr (2 ^ 24)
  | .spiWriteWin addr _ => below addr (2 ^ 24)
  | .spiReadWin addr _ _ => below addr (2 ^ 24)
  | .spiQuadWrite addr _ => below addr (2 ^ 24)
  | .spiQuadRead addr _ _ => below addr (2 ^ 24)
  | .spiQuadWriteWin addr _ => below addr (2 ^ 24)
  | .spiQuadReadWin addr _ _ => below addr (2 ^ 24)
  | .spiStatus => true
  | .spiBadCmd b => below b 256
  | .spiCsRise _ => true
  | .pcieLinkReset _ _ => true
  | .powerOnReset st => st.wf
  | .pinReset st => st.wf
  | .warmReset => true
  | .poolPreservingReset => true
  | .spindleReset => true
  | .brownOut st => st.wf
  | .supplyUndervoltage low => below low 256
  | .thermalShutdown => true
  | .thermalRelease st => st.wf
  | .watchdogKick v => below v (2 ^ 32)
  | .watchdogCfgWrite v => below v (2 ^ 32)
  | .watchdogWarn => true
  | .watchdogExpire => true
  | .pwrCtrlWrite v => below v (2 ^ 32)
  | .pdPowerUpDone d => below d 12
  | .fuseShadowLoaded => true
  | .bootRomStart => true
  | .bootGo => true
  | .recoveryIdentify _ _ _ => true
  | .recoveryLoad _ _ _ => true
  | .recoveryLaunch _ _ _ => true
  | .firmwareStart _ => true
  | .dozeEnter => true
  | .wakePin st => st.wf
  | .fuseProgram _ => true
  | .fuseProgramDone _ => true
  | .fuseAdvance _ => true
  | .xrefLoss => true
  | .xrefReturn st => st.wf
  | .portSignalLoss n => below n 4
  | .leaseGuardEnd _ => true
  | .rosterDeltaRequest _ _ => true
  | .keptReplyExpire => true
  | .pcieLinkUp speed width _ _ _ => decide (1 ≤ speed) && decide (speed ≤ 3) && decide (1 ≤ width) && decide (width ≤ 2)
  | .repackDone => true
  | .flashOperationEnd _ => true

end Sys2Proof
end

