-- ==== Sys2Proof/Machine/Ops.lean ====
section
/-!
DEFINITION. The named operations every meaning is written over: reading and writing register words and fields (R9 to R11),
counters, error reports (R388, R390), result registers, slow-block posting (R381), messages out, free values,
memory cells, and the end of a command, where message-signalled interrupts are settled (R383, R385).
-/
namespace Sys2Proof.Machine

-- ## Register words and fields

/-- A word of register space. -/
def State.rd (s : State) (a : Nat) : BitVec 32 := tget (regReset a) s.regs a

/-- A word of register space replaced. -/
def State.wr (s : State) (a : Nat) (w : BitVec 32) : State :=
  { s with regs := tput (regReset a) a w s.regs }

/-- The value of a field. -/
def State.get (s : State) (f : Fld) : Nat := bitsOf (s.rd f.reg).toNat f.lsb f.wid

/-- A field set to a value (its low bits). -/
def State.put (s : State) (f : Fld) (v : Nat) : State :=
  s.wr f.reg (BitVec.ofNat 32 (setBits (s.rd f.reg).toNat f.lsb f.wid v))

/-- A one-bit field as a truth value. -/
def State.is (s : State) (f : Fld) : Bool := s.get f = 1

/-- A one-bit field set or cleared. -/
def State.putB (s : State) (f : Fld) (b : Bool) : State := s.put f (if b then 1 else 0)

/-- The signed value of a field. -/
def State.getI (s : State) (f : Fld) : Int := toSigned f.wid (s.get f)

/-- A signed field, its value taken modulo the field's width. -/
def State.putI (s : State) (f : Fld) (i : Int) : State := s.put f (ofSigned f.wid i)

/-- A signed field, its value saturated to the field's width. -/
def State.putSat (s : State) (f : Fld) (i : Int) : State := s.putI f (satSigned f.wid i)

/-- An unsigned field, its value saturated to the field's width. -/
def State.putCap (s : State) (f : Fld) (v : Nat) : State := s.put f (min v (2 ^ f.wid - 1))

/-- A counter that wraps, plus k. -/
def State.add (s : State) (f : Fld) (k : Nat) : State := s.put f (s.get f + k)

/-- A counter that wraps, plus 1. -/
def State.bump (s : State) (f : Fld) : State := s.add f 1

/-- The 64-bit value of a low word and a high word. -/
def State.get64 (s : State) (lo hi : Fld) : Nat := s.get lo + s.get hi * 2 ^ 32

/-- A 64-bit value put into a low word and a high word. -/
def State.put64 (s : State) (lo hi : Fld) (v : Nat) : State := (s.put lo (v % 2 ^ 32)).put hi (v / 2 ^ 32)

/-- A signed 64-bit value put into a low word and a high word. -/
def State.put64I (s : State) (lo hi : Fld) (i : Int) : State := s.put64 lo hi (ofSigned 64 i)

/-- The signed 64-bit value of a low word and a high word. -/
def State.get64I (s : State) (lo hi : Fld) : Int := toSigned 64 (s.get64 lo hi)

/-- Words put at consecutive register offsets. -/
def State.wrWords (s : State) (a : Nat) : List (BitVec 32) → State
  | [] => s
  | w :: ws => (s.wr a w).wrWords (a + 4) ws

/-- Count consecutive words of register space. -/
def State.rdWords (s : State) (a : Nat) : Nat → List (BitVec 32)
  | 0 => []
  | n + 1 => s.rd a :: s.rdWords (a + 4) n

/-- Fold over 0 … n - 1 in rising order. -/
def State.forN (s : State) (n : Nat) (f : Nat → State → State) : State := (List.range n).foldl (fun t i => f i t) s

/-- Fold over a list. -/
def State.forL {α : Type} (s : State) (xs : List α) (f : α → State → State) : State := xs.foldl (fun t x => f x t) s

-- ## What a register word looks like to a write (R9, R10, R379)

/-- The word a write of `w` leaves in a register of these fields that holds `old`: RW fields take the written bits,
every other bit keeps what it held. `en` has the bits of the enabled bytes. -/
def mergeFields : List FieldRow → Nat → Nat → Nat → Nat
  | [], old, _, _ => old
  | f :: fs, old, w, en =>
    let old' := match f.acc with
      | .rw => setBits old f.lsb f.wid ((bitsOf w f.lsb f.wid &&& bitsOf en f.lsb f.wid) |||
                 (bitsOf old f.lsb f.wid &&& (2 ^ f.wid - 1 - bitsOf en f.lsb f.wid)))
      | _ => old
    mergeFields fs old' w en

/-- A write of a whole word to the RW fields of the register at an offset. -/
def State.wrRW (s : State) (a : Nat) (w : Nat) : State :=
  match findRow (blockRows a) a with
  | none => s
  | some (r, _) => s.wr a (BitVec.ofNat 32 (mergeFields r.fields (s.rd a).toNat w (2 ^ 32 - 1)))

-- ## Blocks (R373, R388)

/-- The internal address of offset 0 of register space (R372). -/
def regBase : Nat := 0x04000000

/-- The register offset an offset in register space reaches (R373, R374): blocks decode only the low bits of their
decoded size, so aliases fold onto the register; none outside every region. -/
def regCanon (o : Nat) : Option Nat :=
  if o < 0x5000 then some o
  else if 0x10000 ≤ o ∧ o < 0x14000 then some o
  else if 0x18000 ≤ o ∧ o < 0x1C000 then some o
  else if 0x20000 ≤ o ∧ o < 0x2C000 then some (o / 0x4000 * 0x4000 + o % 0x1000)
  else if 0x30000 ≤ o ∧ o < 0x40000 then some (o / 0x4000 * 0x4000 + o % 0x1000)
  else if 0x40000 ≤ o ∧ o < 0x50000 then some o
  else if 0x50000 ≤ o ∧ o < 0x54000 then some o
  else if 0x60000 ≤ o ∧ o < 0x78000 then some (o / 0x4000 * 0x4000 + o % 0x1000)
  else if 0x80000 ≤ o ∧ o < 0x84000 then some (o / 0x4000 * 0x4000 + o % 0x1000)
  else if 0x84000 ≤ o ∧ o < 0x8C000 then some (o / 0x4000 * 0x4000 + o % 0x2000)
  else if 0x8C000 ≤ o ∧ o < 0x94000 then some (o / 0x4000 * 0x4000 + o % 0x1000)
  else none

/-- The Block number of an error record for a register offset (R388). -/
def blockOf (o : Nat) : Nat :=
  if o < 0x5000 then o / 0x1000
  else if o < 0x18000 then 5 + (o - 0x10000) / 0x1000
  else if o < 0x20000 then 9 + (o - 0x18000) / 0x1000
  else if o < 0x30000 then 13 + (o - 0x20000) / 0x4000
  else if o < 0x40000 then 16 + (o - 0x30000) / 0x4000
  else if o < 0x50000 then 20 + (o - 0x40000) / 0x1000
  else if o < 0x60000 then 36 + (o - 0x50000) / 0x1000
  else if o < 0x80000 then 40 + (o - 0x60000) / 0x4000
  else 46 + (o - 0x80000) / 0x4000

/-- The Busy field of the slow block that owns an offset (R381); none for a fast block. -/
def slowBusy (o : Nat) : Option Fld :=
  if 0x18000 ≤ o ∧ o < 0x1C000 then some (R.PCS_STATUS_Busy ((o - 0x18000) / 0x1000))
  else if 0x60000 ≤ o ∧ o < 0x64000 then some R.RD_STATUS_Busy
  else if 0x64000 ≤ o ∧ o < 0x68000 then some R.SYN_STATUS_Busy
  else if 0x8C000 ≤ o ∧ o < 0x90000 then some R.AON_STATUS_Busy
  else if 0x90000 ≤ o ∧ o < 0x94000 then some R.FUSE_STATUS_Busy
  else none

-- ## Error reports (R388 to R390)

/-- A report made to the ERR block; it waits until ERR accepts it (R390). -/
def State.report (s : State) (e : ErrReport) : State := { s with errWait := s.errWait ++ [e] }

/-- A report of a register write that its block refuses or ignores. -/
def State.errAt (s : State) (code off : Nat) (detail : Nat := 0) (aux : Nat := 0) : State :=
  s.report { code := code, block := blockOf off, addr := regBase + off, detail := detail, aux := aux }

/-- Code Ignored: a write out of range, or not allowed in the current state (R389, R452). -/
def State.ignored (s : State) (off : Nat) : State := s.errAt 0x11 off

/-- Code Refused, with the block's result code (R389). -/
def State.refusedAt (s : State) (off : Nat) (detail : Nat := 0xFF) (aux : Nat := 0) : State := s.errAt 0x10 off detail aux

/-- A result register of Code and Seq: the code is stored and Seq counts the result. -/
def State.result (s : State) (code seq : Fld) (v : Nat) : State := (s.put code v).bump seq

/-- A result, with an error record of code Refused where it is not Ok. -/
def State.resultErr (s : State) (code seq : Fld) (off v : Nat) (aux : Nat := 0) : State :=
  let s := s.result code seq v
  if v = 0 then s else s.refusedAt off v aux

/-- A write to a slow block (R381): dropped, counted and recorded while the block is busy; otherwise applied. -/
def State.slow (s : State) (off : Nat) (apply : State → State) : State :=
  match slowBusy off with
  | some busy => if s.is busy then (s.bump R.CNT_SLOW_DROP_Count).errAt 0x08 off else apply s
  | none => apply s

-- ## Masters (R378)

/-- A master's reset (R378), with the number of its outstanding responses dropped: one record, and its window locks released (R387). -/
def State.masterReset (s : State) (m dropped : Nat) : State :=
  let s := (s.bump R.CNT_MRESET_Count).report { code := 9, block := 4, write := false, detail := min dropped 255, master := some (m, 0) }
  s.forN 8 (fun k t => if t.get (R.WIN_LOCK_Owner k) = m + 1 then t.put (R.WIN_LOCK_Owner k) 0 else t)

-- ## Messages out and free values

/-- Something handed out. -/
def State.send (s : State) (m : Sent) : State := { s with outbox := s.outbox ++ [m] }

/-- The next free value, and the state that has used it. -/
def State.free (s : State) : BitVec 32 × State := (Config.freeWord s.freeCtr, { s with freeCtr := s.freeCtr + 1 })

-- ## Objects that no register holds (R352)

/-- The key of an object: index and subindex. -/
def objKey (index sub : Nat) : Nat := index * 256 + sub

/-- The default of an object that no register holds (R352): its table's value where the table gives one, 0 otherwise
(notes/assumptions/6.md). -/
def objReset (key : Nat) : Nat :=
  let i := key / 256
  if i = 0x1100 then 1
  else if i = 0x1101 then 2000
  else if i = 0x1103 then 10
  else if i = 0x1104 then 0xFFFF
  else if 0x5140 ≤ i ∧ i < 0x5142 then 0x110000000
  else if i = 0x1202 then 0xEFFF540A
  else if i = 0x1203 then 5
  else if i = 0x1211 then 1
  else if i = 0x9000 then 0xFF
  else if i = 0x41F3 then 30
  else if i = 0x41F4 then 0xEFFFFFFF
  else if i = 0xA030 then [0, 10, 60, 0, 960, 0, 0, 0].getD (key % 256) 0
  else 0

/-- An object that no register holds. -/
def State.obj (s : State) (index sub : Nat) : Nat := tget (objReset (objKey index sub)) s.objs (objKey index sub)

/-- An object that no register holds, set. -/
def State.setObj (s : State) (index sub v : Nat) : State :=
  { s with objs := tput (objReset (objKey index sub)) (objKey index sub) v s.objs }

/-- A STR or BLOB object that no table holds. -/
def State.blob (s : State) (index sub : Nat) : List Byte := tget [] s.blobs (objKey index sub)

/-- A STR or BLOB object that no table holds, set. -/
def State.setBlob (s : State) (index sub : Nat) (v : List Byte) : State :=
  { s with blobs := tput [] (objKey index sub) v s.blobs }

-- ## Host writes that wait for a strobe (R22, R49)

/-- A host write to a field that cues may write too is marked until the next strobe; a cue of that strobe then leaves the field to
the host's value (R22, R49). Keys: an object's key, or tableKey of a table's entry. -/
def State.mark (s : State) (k : Nat) : State :=
  if s.time.running then { s with marks := if s.marks.contains k then s.marks else s.marks ++ [k] } else s

/-- The key of a table entry's window: table 0 receive streams, 1 transmit streams, 2 queues, 3 destinations, 4 chains, 5 detectors. -/
def tableKey (table entry : Nat) : Nat := 2 ^ 24 + table * 2 ^ 16 + entry

/-- The key of a register. -/
def regKey (off : Nat) : Nat := 2 ^ 32 + off

-- ## Rates (R38)

/-- The domain rate of a rate code, in hertz; 0 for the reserved codes. -/
def rateHz (code : Nat) : Nat :=
  [44100, 48000, 88200, 96000, 176400, 192000].getD code 0

/-- The 44.1 kHz family's codes are the even ones. -/
def rateFamily (code : Nat) : Nat := if code % 2 = 0 then 1 else 0

/-- The rate in force, in hertz. -/
def State.fs (s : State) : Nat := rateHz (s.get R.TIME_STATUS_RateNow)

/-- 2^-16 ns units in a second. -/
def unitsPerSec : Nat := 1000000000 * 65536

/-- The boundary time B(n) of pick n at a rate (R37), in units of 2^-16 ns. -/
def boundary (fs n : Nat) : Nat := if fs = 0 then 0 else n / fs * unitsPerSec + n % fs * unitsPerSec / fs

/-- The pick count of a time (R37): floor(T × fs). -/
def pickOf (fs tai : Nat) : Nat := tai * fs / unitsPerSec

/-- The first pick whose boundary is at or after a time. -/
def firstPickAt (fs tai : Nat) : Nat :=
  let n := pickOf fs tai
  if boundary fs n ≥ tai then n else if boundary fs (n + 1) ≥ tai then n + 1 else n + 2

/-- The time of day at which pick n begins: B(n) moved by the accumulated phase adjustment, which delays the media clock (R37, R63). -/
def State.edge (s : State) (n : Nat) : Nat := ((boundary s.fs n : Int) + s.getI R.PHASE_ADJ_Adj).toNat

/-- A time of day as the media timeline carries it: picks begin at B(n) there (R63). -/
def State.media (s : State) (tai : Nat) : Nat := ((tai : Int) - s.getI R.PHASE_ADJ_Adj).toNat

/-- The first pick that begins at or after a time of day. -/
def State.firstEdgeAt (s : State) (tai : Nat) : Nat := firstPickAt s.fs (s.media tai)

/-- XREF-derived time brought forward to t at the least: an event that marks the end of a timer comes at that end. -/
def State.xrefTo (s : State) (t : Nat) : State := { s with xref := max s.xref t }

/-- Time of day brought forward to t at the least: an event that marks the end of a timer comes at that end. -/
def State.taiTo (s : State) (t : Nat) : State := { s with time := { s.time with tai := max s.time.tai t } }

/-- CCLK in a millisecond. -/
def cclkMs : Nat := 625000

/-- The live pick count. -/
def State.pickNow (s : State) : Nat := s.time.pick

/-- TAI time in whole nanoseconds. -/
def State.taiNs (s : State) : Nat := s.time.tai / 65536

-- ## Events and message-signalled interrupts (R383 to R385)

/-- The source count of an event (R384). -/
def evtSource (e : Nat) : Option Fld :=
  if e < 5 then [some R.CNT_JUMP_Count, some R.CNT_LATE_Count, some R.CNT_STALE_Count, some R.CNT_HOSTCONFLICT_Count, some R.CNT_MARK_Count].getD e none
  else if e < 10 then [some R.CNT_SWITCH_Count, some R.CNT_HOLDOVER_Count, some R.CNT_DISAGREE_Count, some R.CNT_HOLD_OOS_Count, some R.CNT_PHASE_CLIP_Count].getD (e - 5) none
  else if e < 20 then some (R.CNT_REF_FAIL_Count (e - 10))
  else if e < 24 then some (R.CNT_FPO_REALIGN_Count (e - 20))
  else if e < 26 then some (R.MCS_CNT_UNLOCK_Count (e - 24))
  else if e < 30 then some (R.LINK_DOWN_Count (e - 26))
  else if e < 34 then some (R.PORT_CNT_Count (e - 30) 43)
  else if e < 38 then some (R.PORT_CNT_Count (e - 34) 45)
  else if e < 42 then some (R.CNT_HALF_Count (e - 38))
  else if e < 45 then [some R.CNT_TWILL_MM_Count, some R.CNT_TWILL_SINGLE_Count, some R.WARP_CNT_LOST_Count].getD (e - 42) none
  else if e < 48 then [some R.CNT_PAIR_OUT_MM_Count, some R.CNT_PAIR_IN_MM_Count, some R.CNT_DIG_MISSING_Count].getD (e - 45) none
  else if e < 51 then [some R.ECC_UNCORR_LINK_Count, some R.CNT_DEST_SAT_Count, some R.CNT_DELAY_REPLACED_Count].getD (e - 48) none
  else if e < 54 then [some R.CNT_DEC_CLIP_Count, some R.CNT_DEC_STUCK_Count, some R.CNT_DEC_CLKFAULT_Count].getD (e - 51) none
  else if e < 57 then [some R.CNT_FILT_SAT_Count, some R.CNT_SWAP_REPLACED_Count, some R.CNT_FILT_POISON_Count].getD (e - 54) none
  else if e < 59 then [some R.CNT_DET_OVER_Count, some R.CNT_LIMIT_ON_Count].getD (e - 57) none
  else if e < 75 then some (R.CNT_TDM_SLIP_Count (e - 59))
  else if e < 91 then some (R.CNT_TDM_CLKLOSS_Count (e - 75))
  else if e < 95 then some (R.CNT_LL_CRC_Count (e - 91))
  else if e < 99 then some (R.CNT_LL_DOWN_Count (e - 95))
  else if e < 104 then [some R.CNT_COLLISION_Count, some R.CNT_LEASE_EXPIRE_Count, some R.CNT_RESERVE_ACT_Count, some R.CNT_FENCE_Count, some R.CNT_PIN_MISMATCH_Count].getD (e - 99) none
  else if e < 109 then [some R.CNT_SV_DOWN_Count, some R.CNT_SV_CRC_Count, some R.CNT_EPOCH_DISCARD_Count, some R.CNT_EPOCH_REJECT_Count, some R.CNT_TIME_MISMATCH_Count].getD (e - 104) none
  else if e < 112 then [some R.CNT_TEMP_WARN_Count, some R.CNT_AVS_LIMIT_Count, some R.CNT_LEDGER_FAIL_Count].getD (e - 109) none
  else if e < 114 then some (R.MBX_STATUS_Seq (e - 112))
  else if e < 117 then [some R.CNT_REC_Count, some R.ERR_CNT_LOST_Count, some R.CNT_MRESET_Count].getD (e - 114) none
  else if e < 122 then [some R.CNT_SUPPLY_FAULT_Count, some R.CNT_WDOG_WARN_Count, some R.CNT_BOOT_FALLBACK_Count, some R.CNT_FUSE_PROG_Count, some R.CNT_FUSE_ERR_Count].getD (e - 117) none
  else none

/-- The current count of an event. -/
def State.evtCount (s : State) (e : Nat) : Nat := match evtSource e with
  | some f => s.get f
  | none => 0

/-- An event is pending while its source count and its acknowledged count differ in the source's width (R383). -/
def State.evtPending (s : State) (e : Nat) : Bool := match evtSource e with
  | some f => decide (s.get f ≠ s.get (R.EVT_ACK_Ack e) % 2 ^ f.wid)
  | none => false

/-- The events whose route word is not 0, with their route words (R385). -/
def State.routes (s : State) : List (Nat × Nat) :=
  (s.regs.filter (fun e => decide (0x3C00 ≤ e.1 ∧ e.1 < 0x3E00))).map (fun e => ((e.1 - 0x3C00) / 4, e.2.toNat))

/-- The level of an MSI-X vector: 1 while any event routed to it is pending (R385). -/
def State.vecLevel (s : State) (v : Nat) : Bool :=
  s.routes.any (fun r => bitOf r.2 8 && decide (bitsOf r.2 0 5 = v) && s.evtPending r.1)

/-- SPI_IRQ_N is low while any event routed to it is pending (R385). -/
def State.spiIrq (s : State) : Bool := s.routes.any (fun r => bitOf r.2 9 && s.evtPending r.1)

/-- The interrupt level of Spindle A (c = 0) or Spindle B (c = 1) (R385). -/
def State.spindleIrq (s : State) (c : Nat) : Bool := s.routes.any (fun r => bitOf r.2 (10 + c) && s.evtPending r.1)

/-- A vector is masked by its table entry or by the function mask (R385). -/
def State.vecMasked (s : State) (v : Nat) : Bool := s.is (R.MSIX_VCTRL_Mask v) || s.is R.PCIE_STATUS_FunctionMask

/-- Vector v's message is sent, or its Pending Bit Array bit set where it is masked (R385). A message leaves only while the
link is up and MSI-X is enabled, and none in D3hot (DEDUCED, notes/assumptions/9.md). -/
def State.vecFire (s : State) (v : Nat) : State :=
  if s.vecMasked v then s.put ⟨R.MSIX_PBA 0, v, 1⟩ 1
  else if s.is R.PCIE_STATUS_LinkUp && s.is R.PCIE_STATUS_MsixEnable && !s.host.d3 then s.send (.msix v) else s

/-- The levels of vectors 0 to n - 1 as bits. -/
def State.levels (s : State) : Nat → Nat
  | 0 => 0
  | n + 1 => s.levels n + (if s.vecLevel n then 2 ^ n else 0)

/-- At the end of a command: a vector whose level has risen sends its message (R385). -/
def State.settle (s : State) : State :=
  let now := s.levels 32
  let up := s.forN 32 (fun v t => if bitOf now v && !bitOf s.msixLevel v then t.vecFire v else t)
  { up with msixLevel := now }

/-- The end of every command: interrupts are settled and the state is the next one. -/
def State.done (s : State) : Host.Outcome State Fault Refusal := .next s.settle

/-- A command with operands, `ok` saying that they name what the device has (Instr.wf): one that is not well-formed is refused by name. -/
def State.always (s : State) (ok : Bool) (f : State → Host.Outcome State Fault Refusal) : Host.Outcome State Fault Refusal :=
  if ok then f s else .refused .illFormed

/-- While every domain but PD0 is held, a command that needs them changes nothing (R408, R418, R448). -/
def State.live (s : State) (f : State → Host.Outcome State Fault Refusal) : Host.Outcome State Fault Refusal :=
  if s.life.held = .none then f s else .next s

/-- A command with operands that needs more than PD0. -/
def State.accept (s : State) (ok : Bool) (f : State → Host.Outcome State Fault Refusal) : Host.Outcome State Fault Refusal :=
  s.always ok fun s => s.live f

end Sys2Proof.Machine
end

