-- ==== Sys2Proof/Machine/Frames.lean ====
section
/-!
DEFINITION. Ethernet frames as the ports, Warp and Shuttle read and build them: the header and one tag, IPv4 and UDP, RTP and
its header extensions, AAF, samples, checksums and the CRC-32C digest (R92, R97, R98, R122 to R125, R146 to R151).
-/
namespace Sys2Proof.Machine

/-- The big-endian number of k bytes at an offset. -/
def beAt (bs : List Byte) (off k : Nat) : Nat := beNat (sliceB bs off k)

-- ## CRC-32C (R150)

/-- Eight steps of the reflected CRC. -/
def crcBits (c : Nat) : Nat → Nat
  | 0 => c
  | k + 1 => crcBits (if c % 2 = 1 then (c / 2) ^^^ 0x82F63B78 else c / 2) k

/-- CRC-32C of a byte string (R150). -/
def crc32c (bs : List Byte) : Nat :=
  (bs.foldl (fun c b => crcBits (c ^^^ b.toNat) 8) 0xFFFFFFFF) ^^^ 0xFFFFFFFF

/-- Eight reflected steps of the CRC of Ethernet. -/
def crc32Bits (c : Nat) : Nat → Nat
  | 0 => c
  | k + 1 => if c % 2 = 1 then crc32Bits (c / 2 ^^^ 0xEDB88320) k else crc32Bits (c / 2) k

/-- CRC-32 of a byte string (R276). -/
def crc32 (bs : List Byte) : Nat := (bs.foldl (fun c b => crc32Bits (c ^^^ b.toNat) 8) 0xFFFFFFFF) ^^^ 0xFFFFFFFF

/-- The 32-bit FCS of a frame, or with `bad` the same with every bit inverted (R95). -/
def frameFcs (bs : List Byte) (bad : Bool) : Nat := if bad then crc32 bs ^^^ 0xFFFFFFFF else crc32 bs

-- ## Ethernet (R92)

/-- The parts of a frame the MAC classifies by. -/
structure EthInfo where
  da   : Nat
  /-- Priority code point and VLAN ID of the tag, where the frame carries one. -/
  tag  : Option (Nat × Nat)
  typ  : Nat
  body : List Byte
deriving DecidableEq, Repr

/-- A frame's header. -/
def ethInfo (bs : List Byte) : EthInfo :=
  if beAt bs 12 2 = 0x8100 then
    { da := beAt bs 0 6, tag := some (beAt bs 14 2 / 8192, beAt bs 14 2 % 4096), typ := beAt bs 16 2, body := bs.drop 18 }
  else { da := beAt bs 0 6, tag := none, typ := beAt bs 12 2, body := bs.drop 14 }

/-- A group address. -/
def isGroup (da : Nat) : Bool := bitOf da 40

/-- The broadcast address. -/
def isBroadcast (da : Nat) : Bool := decide (da = 0xFFFFFFFFFFFF)

-- ## IPv4 and UDP

/-- The ones' complement sum of the 16-bit words of a byte string. -/
def onesSum : List Byte → Nat
  | [] => 0
  | [a] => a.toNat * 256
  | a :: b :: r => a.toNat * 256 + b.toNat + onesSum r

/-- A ones' complement sum folded to 16 bits. -/
def foldSum (n : Nat) : Nat :=
  let a := n / 65536 + n % 65536
  let b := a / 65536 + a % 65536
  b / 65536 + b % 65536

/-- An IPv4 datagram with a UDP header. -/
structure UdpInfo where
  dst  : Nat
  sport : Nat
  dport : Nat
  /-- The header checksum is right. -/
  ipOk : Bool
  frag : Bool
  /-- The lengths of the two headers fit the frame. -/
  lenOk : Bool
  csumOk : Bool
  payload : List Byte
deriving DecidableEq, Repr

/-- The UDP datagram of an IPv4 frame; none for anything else and for a fragment that does not begin the datagram. -/
def udpInfo (e : EthInfo) : Option UdpInfo :=
  let b := e.body
  let ihl := 4 * (beAt b 0 1 % 16)
  if e.typ ≠ 0x0800 ∨ beAt b 0 1 / 16 ≠ 4 ∨ ihl < 20 ∨ beAt b 9 1 ≠ 17 ∨ beAt b 6 2 % 8192 ≠ 0 ∨ b.length < ihl + 8 then none
  else
    let total := beAt b 2 2
    let ulen := beAt b (ihl + 4) 2
    let seg := sliceB b ihl ulen
    let pseudo := sliceB b 12 8 ++ [0#8, 17#8] ++ beBytes 2 ulen
    some {
      dst := beAt b 16 4, sport := beAt b ihl 2, dport := beAt b (ihl + 2) 2
      ipOk := decide (foldSum (onesSum (sliceB b 0 ihl)) = 0xFFFF)
      frag := bitOf (beAt b 6 2) 13
      lenOk := decide (total ≤ b.length ∧ ihl + ulen = total ∧ 8 ≤ ulen)
      csumOk := decide (beAt b (ihl + 6) 2 = 0 ∨ foldSum (onesSum (pseudo ++ seg)) = 0xFFFF)
      payload := (seg.drop 8) }

/-- A PTP message: EtherType 0x88F7, or UDP to port 319 or 320; its first byte, and whether it is an event message (R98, R106). -/
def ptpInfo (e : EthInfo) : Option Bool :=
  if e.typ = 0x88F7 then some (decide (beAt e.body 0 1 % 16 < 4))
  else match udpInfo e with
    | some u =>
      if u.dport = 319 then some (decide (beAt u.payload 0 1 % 16 < 4))
      else if u.dport = 320 then some false else none
    | none => none

-- ## Formats and samples (R123, R146)

/-- Bytes per sample of a format code; 0 for the reserved codes. -/
def fmtBytes (f : Nat) : Nat := [2, 3, 4, 0, 2, 3, 4, 0].getD f 0

/-- Format codes 0 to 2 are RTP. -/
def fmtRtp (f : Nat) : Bool := decide (f < 3)

/-- The packet period of a code (R123). -/
def periodOf (code : Nat) : Nat := [1, 2, 4, 6, 8, 12, 16, 24, 48].getD code 0

/-- The nsr code of a rate (R151). -/
def nsrOf (fs : Nat) : Nat :=
  if fs = 44100 then 4 else if fs = 48000 then 5 else if fs = 88200 then 6 else if fs = 96000 then 7
  else if fs = 176400 then 8 else 9

/-- The AAF format byte of a format code (R123). -/
def aafFormat (f : Nat) : Nat := if f = 4 then 4 else if f = 5 then 3 else 2

/-- Samples of b bytes as internal samples: the sent bytes are the most significant ones (R123). -/
def samplesOf (b : Nat) (bs : List Byte) : Nat → List (BitVec 32)
  | 0 => []
  | n + 1 => BitVec.ofNat 32 (beAt bs 0 b * 2 ^ (8 * (4 - b))) :: samplesOf b (bs.drop b) n

/-- The b most significant bytes of a sample (R146). -/
def sampleBytes (b : Nat) (w : BitVec 32) : List Byte := beBytes b (w.toNat / 2 ^ (8 * (4 - b)))

-- ## RTP header extensions (R124, RFC 8285)

/-- The elements of a one-byte-form extension: ID and data; none where an element runs past the end. -/
def extOne : Nat → List Byte → Option (List (Nat × List Byte))
  | 0, _ => some []
  | fuel + 1, bs => match bs with
    | [] => some []
    | h :: r =>
      if h = 0 then extOne fuel r
      else
        let id := h.toNat / 16
        let len := h.toNat % 16 + 1
        if id = 15 then some []
        else if r.length < len then none
        else (extOne fuel (r.drop len)).map (fun t => (id, r.take len) :: t)

/-- The elements of a two-byte-form extension. -/
def extTwo : Nat → List Byte → Option (List (Nat × List Byte))
  | 0, _ => some []
  | fuel + 1, bs => match bs with
    | [] => some []
    | h :: r =>
      if h = 0 then extTwo fuel r
      else match r with
        | [] => none
        | l :: d => if d.length < l.toNat then none
                    else (extTwo fuel (d.drop l.toNat)).map (fun t => (h.toNat, d.take l.toNat) :: t)

/-- An RTP packet taken apart (R124). -/
structure RtpInfo where
  version : Nat
  pt   : Nat
  seq  : Nat
  time : Nat
  ssrc : Nat
  exts : List (Nat × List Byte)
  payload : List Byte
deriving DecidableEq, Repr

/-- The elements of a header extension of a profile. -/
def extElems (profile : Nat) (d : List Byte) : Option (List (Nat × List Byte)) :=
  if profile = 0xBEDE then extOne d.length d
  else if profile / 16 = 0x100 then extTwo d.length d
  else some []

/-- An RTP packet whose length fields fit together (R124); none where they do not. -/
def rtpInfo (p : List Byte) : Option RtpInfo :=
  let b0 := beAt p 0 1
  let off := 12 + 4 * (b0 % 16)
  if p.length < off then none
  else
    let x := bitOf b0 4
    let xlen := if x then 4 + 4 * beAt p (off + 2) 2 else 0
    if p.length < off + xlen ∨ (x ∧ p.length < off + 4) then none
    else
      let rest := p.drop (off + xlen)
      let pad := if bitOf b0 5 then beAt p (p.length - 1) 1 else 0
      if bitOf b0 5 ∧ (pad = 0 ∨ rest.length < pad) then none
      else match (if x then extElems (beAt p off 2) (sliceB p (off + 4) (xlen - 4)) else some []) with
        | none => none
        | some es => some {
            version := b0 / 64, pt := beAt p 1 1 % 128, seq := beAt p 2 2, time := beAt p 4 4, ssrc := beAt p 8 4
            exts := es, payload := rest.take (rest.length - pad) }

/-- The digest and unit number in a digest element (R150). -/
def digestElem (id : Nat) (es : List (Nat × List Byte)) : Option (Nat × Nat) :=
  match es.find? (fun e => decide (e.1 = id)) with
  | some (_, d) => if d.length < 6 then none else some (beAt d 0 4, beAt d 4 2)
  | none => none

/-- The stream_id of an AVTP stream PDU. -/
def avtpStreamId (body : List Byte) : Nat := beAt body 4 8

-- ## Line modes (R91, R24)

/-- Bit times in CCLK, rounded up, at a line mode: 25 Gb/s 1/40, 10 Gb/s 1/16, 1 Gb/s 0.625 (R157). -/
def bitTimes (mode bits : Nat) : Nat :=
  if mode = 0 then ceilDiv bits 40 else if mode = 1 then ceilDiv bits 16 else ceilDiv (bits * 5) 8

/-- The time of a number of bits at a line mode, in 2^-16 ns, rounded up (R100). -/
def bitUnits (mode bits : Nat) : Nat := ceilDiv (bits * 65536) ([25, 10].getD mode 1)

/-- The time of a number of CCLK in 2^-16 ns. -/
def cclkUnits (n : Nat) : Nat := n * 1048576 / 10

/-- The transmit adder of a line mode in CCLK (R24). -/
def txAdder (mode : Nat) (fec : Bool) : Nat :=
  if mode = 0 then (if fec then 24 else 0) else if mode = 1 then 26 else 110

/-- CCLK in a pick, whole cycles. -/
def cclkPerPick (fs : Nat) : Nat := if fs = 0 then 0 else 625000000 / fs

end Sys2Proof.Machine
end

