-- ==== Sys2Proof/Machine/Mem.lean ====
section
/-!
DEFINITION. The operations over memories: lists of (address, byte) pairs in canonical form, in which an unlisted address
reads 0. The pool reads 0 after its initialisation (R170); SRAM is given the same contents by choice
(notes/assumptions/8.md). Words are little-endian (R167, R176).
-/
namespace Sys2Proof.Machine

/-- The canonical form of a memory: addresses strictly rising, no entry 0. -/
def Memory.wf (m : Memory) : Bool := tcanon (fun _ => 0#8) m

/-- One byte of a memory. -/
def Memory.read (m : Memory) (a : Nat) : Byte := tget 0#8 m a

/-- One byte written. -/
def Memory.write (m : Memory) (a : Nat) (b : Byte) : Memory := tput 0#8 a b m

/-- Bytes written at rising addresses. -/
def Memory.writeBytes (m : Memory) (a : Nat) : List Byte → Memory
  | [] => m
  | b :: bs => Memory.writeBytes (Memory.write m a b) (a + 1) bs

/-- Count bytes from an address. -/
def Memory.readBytes (m : Memory) (a : Nat) : Nat → List Byte
  | 0 => []
  | n + 1 => Memory.read m a :: Memory.readBytes m (a + 1) n

/-- A 32-bit word. -/
def Memory.readWord (m : Memory) (a : Nat) : BitVec 32 := BitVec.ofNat 32 (leNat (Memory.readBytes m a 4))

/-- A 32-bit word written. -/
def Memory.writeWord (m : Memory) (a : Nat) (w : BitVec 32) : Memory := Memory.writeBytes m a (leBytes 4 w.toNat)

/-- Words written at rising addresses. -/
def Memory.writeWords (m : Memory) (a : Nat) : List (BitVec 32) → Memory
  | [] => m
  | w :: ws => Memory.writeWords (Memory.writeWord m a w) (a + 4) ws

/-- Bytes as words, little-endian; missing bytes of the last word read 0. -/
def wordsOfN : Nat → List Byte → List (BitVec 32)
  | 0, _ => []
  | n + 1, bs => BitVec.ofNat 32 (leNat (bs.take 4)) :: wordsOfN n (bs.drop 4)

/-- Bytes as words. -/
def wordsOf (bs : List Byte) : List (BitVec 32) := wordsOfN ((bs.length + 3) / 4) bs

/-- Words as bytes. -/
def bytesOf (ws : List (BitVec 32)) : List Byte := ws.flatMap (fun w => leBytes 4 w.toNat)

end Sys2Proof.Machine
end

