-- ==== Sys2Proof/Machine/Queues.lean ====
section
/-!
DEFINITION. The operations on Bobbin's queues that every producer and consumer shares: cells and their chains, items and
their length slots, reading, quota and size limits, flush and reclaim (08_bobbin_pool.md).
-/
namespace Sys2Proof.Machine

/-- A queue descriptor. -/
def State.queue (s : State) (q : Nat) : Queue := tget {} s.queues q

/-- A queue descriptor replaced. -/
def State.setQueue (s : State) (q : Nat) (v : Queue) : State := { s with queues := tput {} q v s.queues }

/-- A counter of a queue (R195), modulo 2^32. -/
def Queue.bump (v : Queue) (k : Nat) : Queue := { v with cnt := tupd 0 k (fun n => (n + 1) % 2 ^ 32) v.cnt }

/-- Cells a queue holds, those awaiting reclaim included (R183). -/
def Queue.cells (v : Queue) : Nat := v.chain.length + v.reclaim.length

/-- The queue's item is open. -/
def Queue.isOpen (v : Queue) : Bool := match v.items.getLast? with
  | some i => !i.done
  | none => false

/-- The size of the linked region in cells (R171). -/
def State.linkedCells (s : State) : Nat := 262144 - s.get R.POOL_SPLIT_RingCells

/-- Every cell that some queue holds. -/
def State.heldCells (s : State) : List Nat := s.queues.flatMap (fun e => e.2.chain ++ e.2.reclaim)

/-- Free cells of the linked region (LINKED_FREE). -/
def State.linkedFree (s : State) : Nat := s.linkedCells - s.heldCells.length

/-- The sum of the quotas of the enabled queues (QUOTA_SUM, R185). -/
def State.quotaSum (s : State) : Nat := (s.queues.map (fun e => if e.2.enable then e.2.quota else 0)).foldl (· + ·) 0

/-- The first cell at or after a start, round the linked region, that is not held. -/
def firstFree (n : Nat) (held : List Nat) (start : Nat) : Nat → Nat
  | 0 => start
  | fuel + 1 => if held.contains start then firstFree n held ((start + 1) % n) fuel else start

/-- A free cell: the spec does not say which cell of the free list a push takes (notes/assumptions/13.md). -/
def State.pickCell (s : State) : Nat × State :=
  let (w, t) := s.free
  let n := s.linkedCells
  let held := s.heldCells
  (firstFree n held (w.toNat % n) held.length, t)

/-- A payload word of a queue by its number. -/
def Queue.word (v : Queue) (k : Nat) : BitVec 32 := if k < v.base then 0#32 else v.data.getD (k - v.base) 0#32

/-- The number that the next word of a queue gets. -/
def Queue.tail (v : Queue) : Nat := v.base + v.data.length

/-- The cell that holds a payload word, and the word's place in the cell (R168). -/
def Queue.cellAt (v : Queue) (k : Nat) : Nat × Nat := (v.chain.getD ((k - v.base) / 31) 0, (k - v.base) % 31)

/-- A word put into a queue's payload words at a number; the items behind it follow one word later. -/
def Queue.putAt (v : Queue) (k : Nat) (w : BitVec 32) : Queue :=
  { v with
    data := v.data.take (k - v.base) ++ [w] ++ v.data.drop (k - v.base),
    items := v.items.map (fun i => if k ≤ i.start then { i with start := i.start + 1 } else i) }

/-- One word put into a queue; a new cell is taken where the tail cell is full. None at quota (R183). -/
def State.qInsert (s : State) (q k : Nat) (w : BitVec 32) : Option State :=
  let v := s.queue q
  if v.data.length < 31 * v.chain.length then some (s.setQueue q (v.putAt k w))
  else if v.cells ≥ v.quota then none
  else
    let (c, s) := s.pickCell
    some (s.setQueue q ({ v with chain := v.chain ++ [c] }.putAt k w))

/-- The word with a length slot's State and Length (R175). -/
def slotWord (state len : Nat) : BitVec 32 := BitVec.ofNat 32 (state % 4 * 2 ^ 30 + len % 65536)

/-- The bits of readers 0 to n - 1. -/
def readerMask (n : Nat) : Nat := 2 ^ n - 1

/-- The item that a producer holds open. -/
def Queue.openOf (v : Queue) (by_ : Nat) : Option QItem := v.items.find? (fun i => !i.done && decide (i.by_ = by_))

/-- The item reader r is in or comes to next, committed or open. -/
def Queue.next (v : Queue) (r : Nat) : Option QItem := v.items.find? (fun i => !i.done || bitOf i.need r)

-- ## Freeing (R180)

/-- Where reader r's head stands in an item: past the words it has taken of its current one, else before the slot. -/
def Queue.headIn (v : Queue) (i : QItem) (r : Nat) : Nat :=
  i.start + (if (v.next r).map QItem.start = some i.start then tget 0 v.pos r else 0)

/-- The least head that an item's readers keep. -/
def Queue.itemHead (v : Queue) (i : QItem) : Nat :=
  if i.need = 0 then i.start
  else (List.range 4).foldl (fun m r => if bitOf i.need r then min m (v.headIn i r) else m) v.tail

/-- The least head of the readers that hold the chain. -/
def Queue.minHead (v : Queue) : Nat := v.items.foldl (fun m i => min m (v.itemHead i)) v.tail

/-- The link word of a cell in a chain (R168): the next cell, or Last with an undefined Next, which `last` supplies. -/
def linkWord (next : Option Nat) (last : Nat) : BitVec 32 := match next with
  | some c => BitVec.ofNat 32 c
  | none => BitVec.ofNat 32 (2 ^ 31 + last % 2 ^ 18)

/-- The link word of a cell of the queue as a read gives it: what the POOL target has written there (R192), or the chain's. -/
def Queue.linkOf (v : Queue) (c : Nat) (next : Option Nat) (last : Nat) : BitVec 32 :=
  match v.links.find? (fun e => decide (e.1 = c)) with
  | some (_, w) => w
  | none => linkWord next last

/-- The words of the first n cells of a chain go back to the pool memory. -/
def Queue.spill (v : Queue) (m : Memory) (last : Nat) : Nat → List Nat → List (BitVec 32) → Memory
  | 0, _, _ => m
  | _, [], _ => m
  | n + 1, c :: cs, d =>
    let m := Memory.writeWords m (c * 128) (d.take 31)
    v.spill (Memory.writeWord m (c * 128 + 124) (v.linkOf c cs.head? last)) last n cs (d.drop 31)

/-- Cells that every reader's head has left are freed (R180). -/
def State.qTrim (s : State) (q : Nat) : State :=
  let v := s.queue q
  let n := (v.minHead - v.base) / 31
  if n = 0 then s
  else
    let (w, s) := s.free
    let s := { s with pool := v.spill s.pool w.toNat n v.chain v.data }
    s.setQueue q { v with
      chain := v.chain.drop n, data := v.data.drop (31 * n), base := v.base + 31 * n,
      links := v.links.filter (fun e => !(v.chain.take n).contains e.1) }

-- ## Producing (R175, R179, R183, R184)

/-- A producer opens an item: its length slot is reserved. None at quota. -/
def State.qStart (s : State) (q by_ : Nat) : Option State :=
  let at_ := (s.queue q).tail
  (s.qInsert q at_ (slotWord 0 0)).map (fun t =>
    let v := t.queue q
    t.setQueue q { v with items := v.items ++ [{ start := at_, by_ := by_ }] })

/-- An open item changed. -/
def Queue.updOpen (v : Queue) (by_ : Nat) (f : QItem → QItem) : Queue :=
  { v with items := v.items.map (fun i => if !i.done && decide (i.by_ = by_) then f i else i) }

/-- A word pushed into a producer's open item, at its end. None at quota, or with no such item. -/
def State.qPush (s : State) (q by_ : Nat) (w : BitVec 32) : Option State :=
  match (s.queue q).openOf by_ with
  | none => none
  | some i => (s.qInsert q (i.start + i.words) w).map (fun t =>
      t.setQueue q ((t.queue q).updOpen by_ (fun i => { i with words := i.words + 1 })))

/-- A word of the queue's payload replaced. -/
def Queue.setWord (v : Queue) (k : Nat) (w : BitVec 32) : Queue := if k < v.base then v else { v with data := setAt v.data (k - v.base) w }

/-- A producer's open item is gone: its words stay until the readers have passed them. -/
def Queue.dropOpen (v : Queue) (by_ : Nat) : Queue :=
  match v.openOf by_ with
  | some i => { v.setWord i.start (slotWord 2 (4 * i.words)) with items := v.items.filter (fun j => QItem.done j || decide (j.by_ ≠ by_)) }
  | none => v

/-- A producer's item is aborted and counted ABORTED (R179), or OVERSIZE (R184). -/
def State.qDrop (s : State) (q by_ k : Nat) : State :=
  (s.setQueue q (((s.queue q).dropOpen by_).bump k)).qTrim q

/-- A producer's open item is committed with its length in bytes (R175); `need` has the readers in force (R180). -/
def State.qCommitFor (s : State) (q by_ len need : Nat) : State :=
  let v := s.queue q
  match v.openOf by_ with
  | some i =>
    s.setQueue q (((v.setWord i.start (slotWord 1 len)).updOpen by_ (fun j => { j with done := true, by_ := 0, need := need })).bump 0)
  | none => s

/-- A producer's open item is committed for the queue's readers (R175, R180). -/
def State.qCommit (s : State) (q by_ len : Nat) : State := s.qCommitFor q by_ len (readerMask (s.queue q).readers)

/-- An item that no reader needs any more is gone; counter k counts it. -/
def State.qFreeDone (s : State) (q k : Nat) : State :=
  let v := s.queue q
  let keep := v.items.filter (fun j => !(QItem.done j && decide (j.need = 0)))
  if keep.length = v.items.length then s else (s.setQueue q ({ v with items := keep }.bump k)).qTrim q

/-- A committed item at a place needs no reader any more and is freed (R128). -/
def State.qRelease (s : State) (q start : Nat) : State :=
  let v := s.queue q
  (s.setQueue q { v with items := v.items.map (fun j => if QItem.done j ∧ j.start = start then { j with need := 0 } else j) }).qFreeDone q 1

/-- Words pushed into a hardware producer's open item, of which `len` bytes have come: they stop at the byte that passes MaxItem (R184) or at
the word that meets the quota (R183), whichever comes first. -/
def State.qFill (s : State) (q by_ len : Nat) : List (BitVec 32) → PutResult × State
  | [] => (.ok, s)
  | w :: ws =>
    let v := s.queue q
    let k := ((v.openOf by_).map QItem.words).getD 0
    if min (4 * (k + 1)) len > v.maxItem then (.oversize, s)
    else match s.qPush q by_ w with
      | some t => t.qFill q by_ len ws
      | none => (.noQuota, s)

/-- A hardware producer's open item that its words could not all join is dropped (R184) or aborted (R183). -/
def State.qDropAs (s : State) (q by_ : Nat) (r : PutResult) : State :=
  match r with
  | .oversize => s.qDrop q by_ 3
  | .noQuota => s.qDrop q by_ 4
  | _ => s

/-- A hardware producer opens an item and pushes words into it, of which `len` bytes have come, the slot included. -/
def State.qBegin (s : State) (q by_ len : Nat) (ws : List (BitVec 32)) : PutResult × State :=
  let v := s.queue q
  if v.state = 0 then (.off, s)
  else match s.qStart q by_ with
    | none => (.noQuota, s)
    | some t => t.qFill q by_ len ws

/-- A hardware producer puts a whole item into a queue: the words after the length slot, and the length in bytes. `need` has its
readers. -/
def State.qPut (s : State) (q by_ : Nat) (ws : List (BitVec 32)) (len need : Nat) : PutResult × State :=
  match s.qBegin q by_ len ws with
  | (.ok, t) => (.ok, t.qCommitFor q by_ len need)
  | (r, t) => (r, t.qDropAs q by_ r)

-- ## Reading (R181)

/-- The item reader r is in or comes to next, if it is committed. -/
def Queue.current (v : Queue) (r : Nat) : Option QItem :=
  match v.next r with
  | some i => if i.done then some i else none
  | none => none

/-- An item's words are visible: it is committed, or it is open in a CutThrough queue with Threshold words present (R177, R178). -/
def Queue.sees (v : Queue) (i : QItem) : Bool := i.done || (v.cutThru && decide (v.thresh ≤ i.words))

/-- Words reader r can see (R182). -/
def Queue.depth (v : Queue) (r : Nat) : Nat :=
  ((v.items.takeWhile v.sees).filter (fun i => bitOf i.need r)).foldl (fun n i => n + i.words) 0 - tget 0 v.pos r

/-- Reader r has passed an item: one that no reader needs any more is freed. -/
def Queue.pass (v : Queue) (r start : Nat) : Queue :=
  let items := v.items.map (fun j => if QItem.done j ∧ j.start = start then { j with need := j.need - j.need / 2 ^ r % 2 * 2 ^ r } else j)
  let gone := items.any (fun j => QItem.done j && decide (j.start = start) && decide (j.need = 0))
  let v := { v with items := items.filter (fun j => !(QItem.done j && decide (j.need = 0))), pos := tput 0 r 0 v.pos }
  if gone then v.bump 1 else v

/-- A reader takes one word (R181): the word, its tag, and its number. Reading the last word passes the item; the last reader to pass
it frees it. -/
def State.qPop (s : State) (q r : Nat) : Option (BitVec 32 × Nat × Nat × State) :=
  let v := s.queue q
  match v.current r with
  | none => none
  | some i =>
    let p := tget 0 v.pos r
    let last := decide (p + 1 ≥ i.words)
    let tag := (if p = 0 then 0x40 else 0) + (if last then 0x20 else 0)
    let v' := if last then v.pass r i.start else { v with pos := tput 0 r (p + 1) v.pos }
    some (v.word (i.start + p), tag, i.start + p, (s.setQueue q v').qTrim q)

/-- The words of an item. -/
def Queue.itemWords (v : Queue) (i : QItem) : List (BitVec 32) := (v.data.drop (i.start - v.base)).take i.words

/-- A reader that is at the start of a committed item takes all of it. -/
def State.qTake (s : State) (q r : Nat) : Option (List (BitVec 32) × State) :=
  let v := s.queue q
  match v.current r with
  | none => none
  | some i => some (v.itemWords i, (s.setQueue q (v.pass r i.start)).qTrim q)

-- ## Flush and reclaim (R174, R187, R188)

/-- Every port's open item in a queue is open no longer (R456). -/
def State.closePorts (s : State) (q : Nat) : State :=
  { s with portOpen := s.portOpen.filter (fun e => decide (e.2 ≠ some q)) }

/-- A queue is emptied at once and its cells await reclaim (R187); counter k counts it. -/
def State.qFlush (s : State) (q k : Nat) : State :=
  let v := s.queue q
  let (w, s) := s.free
  let s := { s with pool := v.spill s.pool w.toNat v.chain.length v.chain v.data }
  let s := s.closePorts q
  let s := s.setQueue q ({ v with
    state := 2, chain := [], base := 0, data := [], items := [], pos := [], links := [], reclaim := v.reclaim ++ v.chain }.bump k)
  s.put R.BOB_STATUS_Reclaiming 1

/-- The flushed cells are returned: the queue leaves Reclaim to Ready, or to Off where it is disabled (R174). -/
def State.qReclaimed (s : State) (q : Nat) : State :=
  let v := s.queue q
  if v.state ≠ 2 then s
  else
    let v' := { v with reclaim := [], state := if v.enable then 1 else 0 }
    let s := s.setQueue q v'
    s.putB R.BOB_STATUS_Reclaiming (s.queues.any (fun e => decide (e.2.state = 2)))

/-- QUEUE_ECC_RESET (R188): uncorrectable structural words reset their queue, once; a record for each names the queue and the word's place
in its cell. -/
def State.qEccReset (s : State) (q : Nat) (words : List Nat) : State :=
  if words = [] then s
  else
    s.qFlush q 6 |>.forL words (fun w t => (t.bump R.ECC_UNCORR_LINK_Count).report
      { code := 0x13, block := 15, write := false, detail := w, aux := q })

/-- An uncorrectable data word of a queue is read (R189). -/
def State.qPoison (s : State) (q : Nat) : State :=
  (s.setQueue q ((s.queue q).bump 7)).bump R.ECC_UNCORR_DATA_Count

/-- A corrected word of a cell is counted for its bank, cell mod 16 (R167, R188). -/
def State.eccCorr (s : State) (cell : Nat) : State := s.bump (R.ECC_CORR_Count (cell % 16))

/-- Reader count and threshold of a queue as the device sets them (R173, R180). -/
def State.qSetReaders (s : State) (q n : Nat) : State := s.setQueue q { s.queue q with readers := n }

/-- The length of a committed item's length slot. -/
def slotLen (w : BitVec 32) : Nat := bitsOf w.toNat 0 16

/-- The bytes of a frame held in an item after its 16-byte prefix (R176). -/
def itemFrame (ws : List (BitVec 32)) : List Byte :=
  (bytesOf (ws.drop 4)).take (slotLen (ws.headD 0#32) - 16)

end Sys2Proof.Machine
end

