-- ==== Sys2Proof/Machine/PortOps.lean ====
section
/-!
DEFINITION. What the ports' commands share: port state, the saturating counters and their levels (R114, R115), received pause
(R103 to R105), PFC (R101), entries of the two stream tables as words and fields, and the transmit budget (R155, R157).
-/
namespace Sys2Proof.Machine

-- ## Sparse port and stream state

/-- What a port holds behind its registers. -/
def State.port (s : State) (n : Nat) : PortSt := tget {} s.ports n

/-- A port's state changed. -/
def State.updPort (s : State) (n : Nat) (f : PortSt → PortSt) : State := { s with ports := tupd {} n f s.ports }

/-- An entry of the receive stream table. -/
def State.rxs (s : State) (i : Nat) : RxStream := tget {} s.rx i

/-- An entry of the receive stream table changed. -/
def State.updRx (s : State) (i : Nat) (f : RxStream → RxStream) : State := { s with rx := tupd {} i f s.rx }

/-- An entry of the transmit stream table. -/
def State.txs (s : State) (i : Nat) : TxStream := tget {} s.tx i

/-- An entry of the transmit stream table changed. -/
def State.updTx (s : State) (i : Nat) (f : TxStream → TxStream) : State := { s with tx := tupd {} i f s.tx }

/-- A field of an entry's configuration words: the words of a window that begins at a register offset. -/
def wf (ws : List (BitVec 32)) (base : Nat) (f : Fld) : Nat :=
  bitsOf (ws.getD ((f.reg - base) / 4) 0#32).toNat f.lsb f.wid

/-- A field of an entry's configuration words replaced. -/
def wfSet (ws : List (BitVec 32)) (base : Nat) (f : Fld) (v : Nat) : List (BitVec 32) :=
  let i := (f.reg - base) / 4
  setAt ws i (BitVec.ofNat 32 (setBits (ws.getD i 0#32).toNat f.lsb f.wid v))

/-- A field of a receive entry's words. -/
def seF (ws : List (BitVec 32)) (f : Fld) : Nat := wf ws R.SE_CTRL f

/-- A field of a transmit entry's words. -/
def txF (ws : List (BitVec 32)) (f : Fld) : Nat := wf ws R.TX_CTRL f

/-- The 48-bit address in a low and a high word. -/
def addr48 (lo hi : Nat) : Nat := lo + hi * 2 ^ 32

/-- A receive entry counts event k (R143). -/
def RxStream.bump (e : RxStream) (k : Nat) : RxStream := { e with cnt := tupd 0 k (fun n => (n + 1) % 2 ^ 32) e.cnt }

/-- A transmit entry counts event k (R165). -/
def TxStream.bump (e : TxStream) (k : Nat) : TxStream := { e with cnt := tupd 0 k (fun n => (n + 1) % 2 ^ 32) e.cnt }

/-- The entry is valid as last written. -/
def RxStream.valid (e : RxStream) : Bool := decide (seF e.cfg R.SE_CTRL_Valid = 1)

/-- The entry is valid as last written. -/
def TxStream.valid (e : TxStream) : Bool := decide (txF e.cfg R.TX_CTRL_Valid = 1)

/-- C of a receive entry's words. -/
def seChans (ws : List (BitVec 32)) : Nat := seF ws R.SE_CTRL_Chans + 1

/-- C of a transmit entry's words. -/
def txChans (ws : List (BitVec 32)) : Nat := txF ws R.TX_CTRL_Chans + 1

/-- P of a receive entry's words. -/
def sePeriod (ws : List (BitVec 32)) : Nat := periodOf (seF ws R.SE_CTRL_Period)

/-- P of a transmit entry's words. -/
def txPeriod (ws : List (BitVec 32)) : Nat := periodOf (txF ws R.TX_CTRL_Period)

/-- Channels and streams of the valid entries as the status registers show them. -/
def State.streamStatus (s : State) : State :=
  let r := s.rx.filter (fun e => e.2.valid)
  let t := s.tx.filter (fun e => e.2.valid)
  let s := (s.put R.WARP_STATUS_Streams r.length).put R.WARP_STATUS_Channels (r.foldl (fun n e => n + seChans e.2.cfg) 0)
  (s.put R.SH_STATUS_Streams t.length).put R.SH_STATUS_Channels (t.foldl (fun n e => n + txChans e.2.cfg) 0)

-- ## Port state (R93)

/-- MAC_STATUS.State. -/
def State.portState (s : State) (n : Nat) : Nat := s.get (R.MAC_STATUS_State n)

/-- The port is in Service. -/
def State.inService (s : State) (n : Nat) : Bool := decide (s.portState n = 3)

/-- Shuttle and cut-through frames leave on the port: in Service with the transmitter enabled (R94, R454). -/
def State.carries (s : State) (n : Nat) : Bool := s.inService n && s.is (R.MAC_CTRL_TxEnable n)

/-- The line mode of a port. -/
def State.lineMode (s : State) (n : Nat) : Nat := s.get (R.PCS_CTRL_Mode n)

-- ## Counters (R114, R115)

/-- The levels a port's counters show: CNT_HIGH0, CNT_HIGH1 and CntSaturated. -/
def State.cntLevels (s : State) (n : Nat) : State :=
  let hi := fun (a m : Nat) => (List.range m).foldl (fun w i => w + (if bitOf (s.get (R.PORT_CNT_Count n (a + i))) 31 then 2 ^ i else 0)) 0
  let sat := (List.range 52).any (fun i => decide (s.get (R.PORT_CNT_Count n i) = 0xFFFFFFFF))
  ((s.put (R.CNT_HIGH0_High n) (hi 0 32)).put (R.CNT_HIGH1_High n) (hi 32 20)).putB (R.MAC_STATUS_CntSaturated n) sat

/-- Counter i of port n set: CNT_HALF counts a rise of bit 31 (R115). -/
def State.setCnt (s : State) (n i v : Nat) : State :=
  let old := s.get (R.PORT_CNT_Count n i)
  let s := s.put (R.PORT_CNT_Count n i) v
  let s := if bitOf v 31 && !bitOf old 31 then s.bump (R.CNT_HALF_Count n) else s
  if bitOf v 31 = bitOf old 31 ∧ v ≠ 0xFFFFFFFF ∧ old ≠ 0xFFFFFFFF then s else s.cntLevels n

/-- Counter i of port n plus k, saturating (R114). -/
def State.cntAdd (s : State) (n i k : Nat) : State := s.setCnt n i (min (s.get (R.PORT_CNT_Count n i) + k) 0xFFFFFFFF)

/-- Counter i of port n plus 1. -/
def State.cnt (s : State) (n i : Nat) : State := s.cntAdd n i 1

/-- The size counter of a frame: 0 for 64 bytes to 6 for 1,519 and more. -/
def sizeBin (len : Nat) : Nat :=
  if len ≤ 64 then 0 else if len < 128 then 1 else if len < 256 then 2 else if len < 512 then 3
  else if len < 1024 then 4 else if len < 1519 then 5 else 6

/-- The address counter of a frame: 0 unicast, 1 group, 2 broadcast. -/
def castBin (da : Nat) : Nat := if isBroadcast da then 2 else if isGroup da then 1 else 0

-- ## Received pause (R102 to R105)

/-- The microsecond of TAI time the device is in. -/
def State.taiUs (s : State) : Nat := s.time.tai / 65536000

/-- TX_PAUSED_US counts the microsecond of now, once, where a priority is held (R114). -/
def State.pausedUs (s : State) (n : Nat) : State :=
  if s.get (R.MAC_STATUS_Paused n) = 0 ∨ (s.port n).usMark = some s.taiUs then s
  else (s.cnt n 42).updPort n (fun p => { p with usMark := some s.taiUs })

/-- The pause on a priority ends. -/
def State.pauseEnd (s : State) (n p : Nat) : State :=
  (s.put ⟨(R.MAC_STATUS n), 4 + p, 1⟩ 0).updPort n (fun v => { v with pause := terase p v.pause })

/-- Priority p is held by received pause. -/
def State.paused (s : State) (n p : Nat) : Bool := bitOf (s.get (R.MAC_STATUS_Paused n)) p

/-- Priority p is Spent (R104). -/
def State.spent (s : State) (n p : Nat) : Bool := bitOf (s.get (R.MAC_STATUS_Spent n)) p

/-- Spent of a priority set or cleared. -/
def State.setSpent (s : State) (n p : Nat) (b : Bool) : State := s.putB ⟨(R.MAC_STATUS n), 12 + p, 1⟩ b

/-- The pause in force on a priority. -/
def State.pauseOf (s : State) (n p : Nat) : PauseSt := tget {} (s.port n).pause p

/-- A pause of q quanta of 512 bit times on a priority begins, or its timer is reloaded: it runs from the end of the frame in progress, or
from now (R100, R103). -/
def State.pauseLoad (s : State) (n p q : Nat) : State :=
  let start := if s.paused n p then (s.pauseOf n p).start else s.time.tai
  let ends := max s.time.tai (s.port n).busy + bitUnits (s.lineMode n) (512 * q)
  let s := s.updPort n (fun v => { v with pause := tins p { quanta := q, start := start, ends := ends } (terase p v.pause) })
  (s.put ⟨(R.MAC_STATUS n), 4 + p, 1⟩ 1).pausedUs n

/-- The pauses whose time has run out end (R103, R105). -/
def State.pauseRunOut (s : State) (n : Nat) : State :=
  s.forN 8 (fun p t => if t.paused n p ∧ (t.pauseOf n p).ends ≤ t.time.tai then t.pauseEnd n p else t)

/-- WdLimit in 2^-16 ns (R104). -/
def State.wdLimit (s : State) (n : Nat) : Nat := s.get (R.PAUSE_CFG_WdLimit n) * 65536000

/-- A pause request for one priority in Service (R103, R104). -/
def State.pauseReqService (s : State) (n p q : Nat) : State :=
  if q = 0 then (s.pauseEnd n p).setSpent n p false
  else if s.get (R.PRI_CFG_Class n p) ≥ 2 ∨ s.spent n p then s.cnt n 22
  else s.pauseLoad n p q

/-- A pause request outside Service stops or releases the whole transmitter (R105). -/
def State.pauseReqWhole (s : State) (n q : Nat) : State :=
  if q = 0 then s.forN 8 (fun p t => t.pauseEnd n p) else s.forN 8 (fun p t => t.pauseLoad n p q)

/-- The pause requests of a frame: (priority, time) pairs (R102). -/
def State.pauseReqs (s : State) (n : Nat) (reqs : List (Nat × Nat)) : State :=
  let s := s.forL reqs (fun r t => t.updPort n (fun v => { v with asked := tput 0 r.1 t.time.tai v.asked }))
  if s.inService n then s.forL reqs (fun r t => t.pauseReqService n r.1 r.2)
  else if reqs = [] then s
  else s.pauseReqWhole n (reqs.foldl (fun m r => max m r.2) 0)

/-- The pause watchdog fires on a priority (R104). -/
def State.watchdogFire (s : State) (n p : Nat) : State := ((s.pauseEnd n p).cnt n 43).setSpent n p true

-- ## Transmitted PFC (R100, R101)

/-- PFC is watched on the port. -/
def State.pfcWatch (s : State) (n : Nat) : Bool :=
  s.is (R.PAUSE_CFG_TxPfcEnable n) && (decide (s.portState n = 2) || s.inService n)

/-- The device is pausing the partner on priority p. -/
def State.pfcOut (s : State) (n p : Nat) : Bool := bitOf (s.get (R.MAC_STATUS_PfcOut n)) p

/-- The PFC watch of one priority: a frame of Quanta above HighCells, a frame of time 0 at LowCells or below, and a pending
frame withdrawn there (R101, R119). DESIGN CHOICE: a pending refresh is withdrawn as any pending frame is, with no frame of time 0, although an
earlier pause frame of the same pause has been sent (notes/assumptions/35.md). -/
def State.pfcPri (s : State) (n p : Nat) : State :=
  let occ := (s.queue (s.get (R.PRI_CFG_RxQueue n p))).cells
  let watched := s.pfcWatch n && decide (s.get (R.PRI_CFG_Class n p) = 0) && s.is (R.PRI_CFG_UseQueue n p)
  if !watched then
    (s.put ⟨(R.MAC_STATUS n), 20 + p, 1⟩ 0).updPort n (fun v => { v with pfc := terase p v.pfc })
  else if !s.pfcOut n p then
    if occ > s.get (R.PFC_WM_HighCells n p) then
      (s.put ⟨(R.MAC_STATUS n), 20 + p, 1⟩ 1).updPort n (fun v => { v with pfc := tput 0 p (s.get (R.PFC_QUANTA_Quanta n)) v.pfc })
    else s
  else if occ ≤ s.get (R.PFC_WM_LowCells n p) then
    let waiting := (s.port n).pfc.any (fun e => decide (e.1 = p ∧ e.2 > 0))
    (s.put ⟨(R.MAC_STATUS n), 20 + p, 1⟩ 0).updPort n (fun v =>
      if waiting then { v with pfc := terase p v.pfc } else { v with pfc := tins p 0 (terase p v.pfc) })
  else s

/-- The PFC watch of a port. -/
def State.pfcPort (s : State) (n : Nat) : State :=
  if s.is (R.PAUSE_CFG_TxPfcEnable n) ∨ s.get (R.MAC_STATUS_PfcOut n) ≠ 0 then s.forN 8 (fun p t => t.pfcPri n p) else s

/-- The PFC watch of every port, after queues' occupancy may have changed. -/
def State.pfcAll (s : State) : State := s.forN 4 (fun n t => t.pfcPort n)

-- ## Queue requirements (R186)

/-- A queue meets a requirement (R186): not Off, of the class, quota and MaxItem enough. -/
def State.queueMeets (s : State) (q cls cells maxItem : Nat) : Bool :=
  let v := s.queue q
  v.enable && decide (v.state ≠ 0) && decide (v.cls = cls) && decide (cells ≤ v.quota) && decide (maxItem ≤ v.maxItem)

-- ## Rates a configuration must fit (R4, R46)

/-- The rate code a pending RateChange carries (R43, R46). -/
def State.pendingRate (s : State) : Option Nat := (s.cues.find? (fun c => decide (c.action = 9))).map (fun c => c.arg0 % 8)

/-- The rates, in hertz, that a configuration written now must fit. -/
def State.ratesFor (s : State) : List Nat :=
  s.fs :: (match s.pendingRate with
    | some c => [rateHz c]
    | none => [])

/-- At 176.4 and 192 kHz the capacities halve (R3). -/
def highRate (fs : Nat) : Bool := decide (fs > 96000)

-- ## The transmit budget (R155, R157)

/-- RelPt of a crosspoint count (R155). -/
def relPt (x : Nat) : Nat := ceilDiv x 32 + 54

/-- F: the frame length of a transmit entry, FCS included (R149, R151, R156). -/
def txFrameLen (ws : List (BitVec 32)) : Nat :=
  let f := txF ws R.TX_CTRL_Format
  let pay := txChans ws * txPeriod ws * fmtBytes f
  let eth := 14 + 4 * txF ws R.TX_L3_Tagged
  if fmtRtp f then eth + 20 + 8 + 12 + (if txF ws R.TX_SEQ_DigestExtId = 0 then 0 else 12) + pay + 4
  else eth + 24 + pay + 4

/-- The valid entries' words that send on port n. -/
def State.txOn (s : State) (n : Nat) : List (List (BitVec 32)) :=
  (s.tx.filter (fun e => e.2.valid && bitOf (txF e.2.cfg R.TX_CTRL_PortMask) n)).map (fun e => e.2.cfg)

/-- Wn(r) (R157). -/
def wnAt (mode r : Nat) (es : List (List (BitVec 32))) : Nat :=
  bitTimes mode (es.foldl (fun b ws =>
    if txPeriod ws ≠ 0 ∧ r % txPeriod ws = txF ws R.TX_TIMING_StreamPhase then b + (txFrameLen ws + 20) * 8 else b) 0)

/-- A valid cut-through rule of ingress i names egress n (R109). -/
def State.ctNames (s : State) (i n : Nat) : Bool :=
  (List.range 16).any (fun k => s.is (R.CT_RULE_DA_HI_Valid i k) && bitOf (s.get (R.CT_RULE_ACT_EgressMask i k)) n)

/-- The Burst part of R157 on port n at a rate, RelPt being given. -/
def State.burstOk (s : State) (n fs rel : Nat) : Bool :=
  let mode := s.lineMode n
  let es := s.txOn n
  let ms := ((List.range 4).filter (fun i => s.ctNames i n)).map (fun i => s.get (R.MAX_FRAME_Bytes i))
  let ct := if ms = [] then 0 else bitTimes mode ((ms.foldl max 0 + 20) * 8)
  let pf := if s.is (R.PAUSE_CFG_TxPfcEnable n) then bitTimes mode (84 * 8) else 0
  let base := rel + 180 + txAdder mode (s.is (R.PCS_CTRL_RsFec n)) + ct + pf
  (List.range 48).all (fun r => decide (base + wnAt mode r es + 32 ≤ cclkPerPick fs))

/-- The Share part of R157 on port n at a rate: the mean of Wn over 48 residues against AudioShare. -/
def State.shareOk (s : State) (n fs : Nat) : Bool :=
  let mode := s.lineMode n
  let es := s.txOn n
  let sum := (List.range 48).foldl (fun t r => t + wnAt mode r es) 0
  decide (sum * fs * 100 ≤ 48 * 625000000 * s.get (R.PORT_TX_AudioShare n))

/-- The transmit budget of R157 as the configuration stands, on every port and at every rate it must fit. -/
def State.budgetOk (s : State) (rel : Nat) : Bool :=
  (List.range 4).all (fun n => s.ratesFor.all (fun fs => s.burstOk n fs rel && s.shareOk n fs))

/-- The crosspoints a check of now counts: the table in force, or the one that replaces it, and the reserved growth of sealed
transactions (R211, R213, R451). -/
def State.xPlan (s : State) : Nat := (s.heddle.next.getD s.heddle.xps).length + s.get R.HD_XRESERVED_Cells

/-- The transmit budget with the crosspoints that count now. -/
def State.budgetNow (s : State) : Bool := s.budgetOk (relPt s.xPlan)

-- ## Frames of the firmware

/-- A station address of a port (R97, R152). -/
def State.station (s : State) (n k : Nat) : Nat := addr48 (s.get (R.STA_ADDR_LO_Addr n k)) (s.get (R.STA_ADDR_HI_Addr n k))

/-- The transmit counters of a frame that leaves a port: its length with the FCS, its address counter, whether it is a PTP event message and
whether its FCS is inverted (R95, R114). -/
def State.txCount (s : State) (n len cast : Nat) (event bad : Bool) : State :=
  let s := if bad then s.cnt n 40 else (s.cnt n 28).cntAdd n 29 len
  let s := (s.cnt n (30 + cast)).cnt n (33 + sizeBin len)
  if event then s.cnt n 44 else s

/-- A frame of a length starts on a port: its transmitter is busy until the frame and its preamble have left. -/
def State.txBusy (s : State) (n len : Nat) : State :=
  s.updPort n (fun p => { p with busy := s.time.tai + bitUnits (s.lineMode n) (8 * (len + 8)) })

/-- A frame has left a port: its counters, and the frame with its FCS (R95). -/
def State.frameOut (s : State) (n : Nat) (bytes : List Byte) (bad : Bool) : State :=
  let e := ethInfo bytes
  (s.txCount n (bytes.length + 4) (castBin e.da) (decide (ptpInfo e = some true)) bad).send (.frame n bytes (frameFcs bytes bad))

/-- A frame starts on a port and leaves it. -/
def State.sendFrame (s : State) (n : Nat) (bytes : List Byte) (bad : Bool) : State := (s.txBusy n (bytes.length + 4)).frameOut n bytes bad

/-- Frames of the firmware that wait for a port. -/
def State.fwFrames (s : State) (n : Nat) : List FwFrame := tget [] s.fwq n

/-- A frame of the firmware joins those that wait for a port (R154, R454). -/
def State.fwSend (s : State) (n : Nat) (f : FwFrame) : State := { s with fwq := tupd [] n (fun l => l ++ [f]) s.fwq }

/-- A frame the firmware builds whole: it takes the port's default priority (R92). -/
def State.wholeFrame (s : State) (n : Nat) (bytes : List Byte) : FwFrame :=
  { out := .frame n bytes (frameFcs bytes false), len := bytes.length + 4, cast := castBin (ethInfo bytes).da, pri := s.get (R.MAC_CTRL_DefaultPri n) }

/-- A frame the firmware has built whole joins those that wait for a port. -/
def State.fwBytes (s : State) (n : Nat) (bytes : List Byte) : State := s.fwSend n (s.wholeFrame n bytes)

/-- The highest priority of class Ptp on a port, or 7 (notes/assumptions/33.md). -/
def State.ptpPri (s : State) (n : Nat) : Nat :=
  (List.range 8).foldl (fun m p => if s.get (R.PRI_CFG_Class n p) = 3 then p else m) 7

/-- The transport of a port's profile is layer 2: profile 3 (R33). -/
def State.ptpL2 (s : State) (n : Nat) : Bool := decide (s.obj (0x2010 + n) 1 = 3)

/-- The length of a PTP message's frame: its message, the addresses and type, and UDP and IPv4 unless it goes at layer 2 (notes/assumptions/33.md). -/
def ptpLen (kind : Nat) (l2 : Bool) : Nat :=
  max 64 ((if kind = 11 then 64 else if kind = 0 ∨ kind = 1 ∨ kind = 8 then 44 else 54) + 18 + (if l2 then 0 else 28))

/-- A PTP message joins the firmware's frames for a port (R33): its messageType, the time it carries and the identity of the request it answers. -/
def State.fwPtp (s : State) (n kind time id : Nat) : State :=
  s.fwSend n {
    out := .ptp n kind (s.obj (0x2010 + n) 2) time id (s.ptpL2 n), len := ptpLen kind (s.ptpL2 n), cast := 1, pri := s.ptpPri n
    event := decide (kind < 4) }

-- ## Queues under a MAC (R187, R188)

/-- The bytes of the frame in an item's words after its prefix, as far as they have come (R176). -/
def wordsFrame (ws : List (BitVec 32)) : List Byte := bytesOf (ws.drop 4)

/-- A cut-through frame leaves a port (R112, R113): its last bit does so the fixed latency of R23 after the last byte came in. -/
def State.ctOut (s : State) (n : Nat) (bytes : List Byte) (bad : Bool) : State :=
  let s := (s.frameOut n bytes bad).cnt n 46
  let s := if bad then s.cnt n 48 else s
  s.updPort n (fun p => { p with ct := none, ctEnd := s.time.tai + cclkUnits 118, busy := s.time.tai + cclkUnits 118 })

/-- A port that sends the open item of a transit queue ends its frame with the inverted FCS: with the bytes given, or with those that are in the
queue (R113, R178). -/
def State.ctCut (s : State) (n q : Nat) (bytes : Option (List Byte)) : State :=
  if (s.port n).ct ≠ some q then s
  else match (s.queue q).next n with
    | some i => s.ctOut n (bytes.getD (wordsFrame ((s.queue q).itemWords i))) true
    | none => s.updPort n (fun p => { p with ct := none })

/-- Items of a queue that port n has yet to pass. -/
def Queue.owed (v : Queue) (n : Nat) : Nat := (v.items.filter (fun i => bitOf i.need n)).length

/-- An open item of a transit queue waits in a port's list, which has one entry for each item that waits. -/
def State.ctQueued (s : State) (n q : Nat) : Bool := decide ((s.queue q).owed n ≤ ((s.port n).ctWait.filter (fun k => decide (k = q))).length)

/-- The open item of a transit queue is about to be aborted: ports that send it end their frames, and those where it waits forget it. -/
def State.ctBreak (s : State) (q : Nat) (bytes : Option (List Byte)) : State :=
  s.forN 4 (fun n t =>
    let t := t.ctCut n q bytes
    match (t.queue q).items.find? (fun i => !i.done) with
    | some i => if bitOf i.need n ∧ t.ctQueued n q then t.updPort n (fun p => { p with ctWait := (p.ctWait.reverse.erase q).reverse }) else t
    | none => t)

/-- A queue's contents are about to go at once: frames of it on a wire end with the inverted FCS, copies that wait go, and a MAC that is
writing an item drops the rest of its frame (R178, R187). -/
def State.cutQueue (s : State) (q : Nat) : State :=
  s.forN 4 (fun n t =>
    let t := match (t.port n).wire with
      | some w => if w.queue = q then (t.frameOut n (w.bytes.take w.sent) true).updPort n (fun p => { p with wire := none }) else t
      | none => t
    (t.ctCut n q none).updPort n (fun p => { p with
      ctWait := p.ctWait.filter (fun k => decide (k ≠ q)),
      rxOpen := p.rxOpen.map (fun o => if o.queue = q then { o with alive := false } else o) }))

/-- The frame that comes in at a port ends early: its item is aborted (R113, R179). -/
def State.rxAbandon (s : State) (n : Nat) : State :=
  match (s.port n).rxOpen with
  | none => s
  | some o =>
    (if o.alive then (s.ctBreak o.queue none).qDrop o.queue (n + 1) 4 else s).updPort n (fun p => { p with rxOpen := none })

/-- A queue is flushed under whatever reads and writes it (R187). -/
def State.qFlushAll (s : State) (q k : Nat) : State := (s.cutQueue q).qFlush q k

/-- The packets of an Assembly queue that a reset loses count ABORTED: those committed, by the stream number in their prefix, and the one being
assembled (R164, R165). -/
def State.txLost (s : State) (q : Nat) : State :=
  if (s.queue q).cls ≠ 1 then s
  else
    let s := s.forL ((s.queue q).items.filter QItem.done) (fun i t => t.updTx (bitsOf ((s.queue q).word (i.start + 3)).toNat 0 10) (fun e => e.bump 4))
    s.forL s.tx (fun e t => if e.2.asm.isSome ∧ txF e.2.eff R.TX_SLOT_Queue = q then t.updTx e.1 (fun e => { e.bump 4 with asm := none }) else t)

/-- A queue is reset for its uncorrectable structural words, given by their places in their cells (R188, R194). -/
def State.qReset (s : State) (q : Nat) (words : List Nat) : State :=
  if words = [] then s else ((s.txLost q).cutQueue q).qEccReset q words

/-- The ones' complement checksum of a byte string. -/
def checksum (bs : List Byte) : Nat := 0xFFFF - foldSum (onesSum bs)

/-- Bytes of a list replaced from an offset. -/
def patch (bs : List Byte) (off : Nat) (new : List Byte) : List Byte := bs.take off ++ new ++ bs.drop (off + new.length)

/-- A packet's frame as a port sends it: its own source addresses, and the checksums that cover them (R149, R152). -/
def txOwn (bs : List Byte) (mac ip : Nat) (csum : Bool) : List Byte :=
  let bs := patch bs 6 (beBytes 6 mac)
  let e := ethInfo bs
  if e.typ ≠ 0x0800 then bs
  else
    let o := bs.length - e.body.length
    let bs := patch bs (o + 12) (beBytes 4 ip)
    let bs := patch bs (o + 10) (beBytes 2 (checksum (sliceB bs o 20)))
    if csum then
      let ulen := beAt bs (o + 24) 2
      let pseudo := sliceB bs (o + 12) 8 ++ [0#8, 17#8] ++ beBytes 2 ulen
      let c := checksum (pseudo ++ sliceB bs (o + 20) ulen)
      patch bs (o + 26) (beBytes 2 (if c = 0 then 0xFFFF else c))
    else bs

/-- The unit is one of a pair. -/
def State.paired (s : State) : Bool := decide (s.get R.LEASE_CTRL_Mode = 1 ∨ s.get R.LEASE_CTRL_Mode = 2)

-- ## LLDP (R313, R314)

/-- An LLDP TLV: 7 bits of type, 9 bits of length, the value. -/
def lldpTlv (t : Nat) (v : List Byte) : List Byte := beBytes 2 (t * 512 + v.length) ++ v

/-- LLDP goes out and is taken on a port: it is enabled, and the port is in Startup, Service or Test. -/
def State.lldpRuns (s : State) (n : Nat) : Bool :=
  s.is (R.MAC_CTRL_LldpEnable n) && decide (2 ≤ s.portState n ∧ s.portState n ≤ 4)

/-- The organizationally specific TLV's eight bytes (R313). -/
def State.lldpOwn (s : State) : List Byte :=
  let mode := s.get R.LEASE_CTRL_Mode
  let pair := s.get R.SYS_STRAPS_PairId + (if mode = 1 ∨ mode = 2 then 2 else 0)
  beBytes 2 (s.obj 0x1200 0) ++ beBytes 2 (s.get R.SH_UNIT_Unit) ++ beBytes 1 (s.obj 0x1201 0) ++ beBytes 1 pair ++ beBytes 2 (s.get R.SV_PARTNER_Unit)

/-- A port's data unit as a frame, with a Time To Live (R313). -/
def State.lldpFrame (s : State) (n ttl : Nat) : List Byte :=
  let name := [0x4E#8, BitVec.ofNat 8 (0x30 + n)]
  beBytes 6 0x0180C200000E ++ beBytes 6 (s.station n 0) ++ beBytes 2 0x88CC
    ++ lldpTlv 1 (4#8 :: beBytes 6 (s.station 0 0)) ++ lldpTlv 2 (7#8 :: name) ++ lldpTlv 3 (beBytes 2 ttl) ++ lldpTlv 4 name
    ++ lldpTlv 5 ((s.blob 0x1212 0).take 63) ++ lldpTlv 7 (beBytes 2 0x80 ++ beBytes 2 0x80)
    ++ lldpTlv 8 ([5#8, 1#8] ++ beBytes 4 (s.get (R.PORT_IP_Addr n)) ++ [2#8] ++ beBytes 4 (n + 1) ++ [0#8])
    ++ lldpTlv 127 (beBytes 3 (Config.oui.toNat % 2 ^ 24) ++ [1#8] ++ s.lldpOwn) ++ lldpTlv 0 []

/-- LLDP_TX (R313). -/
def State.lldpSend (s : State) (n : Nat) : State :=
  if s.lldpRuns n then s.fwBytes n (s.lldpFrame n (4 * s.obj 0x1211 0)) else s

/-- What of a port's data unit can change (R313). -/
def State.lldpContent (s : State) (n : Nat) : List Byte :=
  beBytes 6 (s.station 0 0) ++ beBytes 1 (s.obj 0x1211 0) ++ beBytes 4 (s.get (R.PORT_IP_Addr n)) ++ s.lldpOwn ++ s.blob 0x1212 0

/-- After a change from state `old`: a data unit on every port whose content is no longer the same (R313). -/
def State.lldpSince (s old : State) : State := s.forN 4 (fun n t => if s.lldpContent n = old.lldpContent n then t else t.lldpSend n)

/-- The neighbour of a port removed (R314). -/
def State.lldpDrop (s : State) (n : Nat) : State := { s with dom := { s.dom with neighbours := tput none n none s.dom.neighbours } }

end Sys2Proof.Machine
end

