-- ==== Sys2Proof/Machine/Ports.lean ====
section
/-!
DEFINITION. Port commands other than frames: line modes and port states (R91, R93), the MAC's configuration checks (R96 to
R101, R109, R110, R452), pause timers and the watchdog (R103 to R105), PFC refresh (R101), timestamp and lost-tag pops (R108)
and counter harvest (R116).
-/
namespace Sys2Proof.Machine

-- ## Port states (R93)

/-- Port n will not send a committed item: it reads past it (R153, R164, R454). -/
def State.purgeItem (s : State) (n q start : Nat) : State := (s.setQueue q ((s.queue q).pass n start)).qTrim q

/-- Port n wants the open item it comes to next no more. -/
def Queue.leaveOpen (v : Queue) (n : Nat) : Queue :=
  match v.next n with
  | some i => if i.done then v else v.updOpen i.by_ (fun j => { j with need := j.need - j.need / 2 ^ n % 2 * 2 ^ n })
  | none => v

/-- Every Shuttle copy that waits for port n is dropped (R164, R454). -/
def State.purgeCopies (s : State) (n : Nat) : State :=
  s.forL s.tx (fun e t =>
    let q := txF e.2.cfg R.TX_SLOT_Queue
    t.forL ((t.queue q).items.filter (fun j => QItem.done j && bitOf j.need n)) (fun j u =>
      (u.purgeItem n q j.start).updTx e.1 (fun x => x.bump 3)))

/-- Cut-through frames that wait for port n as egress are not sent and count CT_DROP (R110, R454). -/
def State.purgeCt (s : State) (n : Nat) : State :=
  let s' := s.forL (s.port n).ctWait (fun q t =>
    let t := match (t.queue q).current n with
      | some j => t.purgeItem n q j.start
      | none => t.setQueue q ((t.queue q).leaveOpen n)
    t.cnt n 49)
  s'.updPort n (fun p => { p with ctWait := [] })

/-- What is on a port's wire when it goes to Down or Training is lost: nothing more leaves. -/
def State.wireLost (s : State) (n : Nat) : State :=
  let s := match (s.port n).ct with
    | some q => s.setQueue q ((s.queue q).leaveOpen n)
    | none => s
  let s := s.rxAbandon n
  s.updPort n (fun p => { p with wire := none, ct := none, busy := 0, ctEnd := 0 })

/-- A port enters a state. Leaving Service drops the copies that wait and clears Spent; outside Startup and Service no PFC frame
waits; Down, Training and Recovery set StateReq to 0 (R93, R101, R119, R164). Entering Service, a pause of a class that Service
never honours ends, and one that has reached WdLimit fires the watchdog (R104, R119). A port that goes Down loses its neighbour (R314). -/
def State.enterPort (s : State) (n st : Nat) : State :=
  let s := if s.inService n ∧ st ≠ 3 then ((s.purgeCopies n).purgeCt n).put (R.MAC_STATUS_Spent n) 0 else s
  let s := s.put (R.MAC_STATUS_State n) st
  let s := if st = 0 then s.lldpDrop n else s
  let s := if st < 2 then s.wireLost n else s
  let s := if st = 0 ∨ st = 1 ∨ st = 5 then s.put (R.MAC_CTRL_StateReq n) 0 else s
  let s := if st = 3 then
      s.forN 8 (fun p t =>
        if !t.paused n p then t
        else if t.get (R.PRI_CFG_Class n p) ≥ 2 then t.pauseEnd n p
        else if t.time.tai ≥ (t.pauseOf n p).start + t.wdLimit n then t.watchdogFire n p
        else t)
    else s
  s.pfcPort n

/-- The state a signal leaves an enabled port in: Training from Down (R93). -/
def State.portSignal (s : State) (n : Nat) : State :=
  if s.is (R.PCS_CTRL_Enable n) ∧ s.is (R.PCS_STATUS_SignalDetect n) ∧ s.portState n = 0 ∧ ¬ (n = 0 ∧ s.recovering) then s.enterPort n 1 else s

/-- Lock bits of PCS_STATUS as LinkUp implies them (R93), or all clear. -/
def State.pcsLocks (s : State) (n : Nat) (up : Bool) : State :=
  let s := (s.putB (R.PCS_STATUS_BlockLock n) up).putB (R.PCS_STATUS_LinkUp n) up
  let s := s.putB (R.PCS_STATUS_FecLock n) (up && s.is (R.PCS_CTRL_RsFec n))
  let s := s.putB (R.PCS_STATUS_AnDone n) (up && s.is (R.PCS_CTRL_AnEnable n) && decide (s.lineMode n ≠ 1))
  (s.putB (R.PCS_STATUS_TrainDone n) (up && s.is (R.PCS_CTRL_Training n) && decide (s.lineMode n = 0))).put (R.PCS_STATUS_HiBer n) 0

-- ## Cut-through rules and queue requirements (R110, R186)

/-- Every cut-through rule of a port keeps R109 and R110: no bit for the ingress port; and where it is valid, one line mode of 25GBASE-R or
10GBASE-R, and a transit queue that meets R186. -/
def State.rulesOk (s : State) (n : Nat) : Bool :=
  (List.range 16).all (fun k =>
    let m := s.get (R.CT_RULE_ACT_EgressMask n k)
    let q := s.get (R.CT_RULE_ACT_Queue n k)
    !bitOf m n && (!s.is (R.CT_RULE_DA_HI_Valid n k) ||
      (decide (s.lineMode n < 2)
        && (List.range 4).all (fun e => !bitOf m e || decide (s.lineMode e = s.lineMode n))
        && s.queueMeets q 2 0 0 && (s.queue q).cutThru)))

-- ## PCS writes (R91)

/-- PCS_CTRL written (R91, R93). -/
def State.pcsCtrlApply (s : State) (n v : Nat) : State :=
  let a := R.PCS_CTRL n
  let old := (s.rd a).toNat
  let mode := bitsOf v 1 2
  let chg := decide (bitsOf old 1 3 ≠ bitsOf v 1 3)
  if bitOf old 0 ∧ chg then s.ignored a
  else if (bitOf v 3 ∧ mode ≠ 0) ∨ bitsOf v 6 2 = 3 then s.refusedAt a
  else
    let t := s.wrRW a v
    if chg ∧ ¬ (t.budgetNow ∧ (List.range 4).all (fun i => t.rulesOk i)) then s.refusedAt a
    else if bitOf old 0 ∧ ¬ bitOf v 0 then (t.pcsLocks n false).enterPort n 0
    else t.portSignal n

/-- PCS_CTRL_WRITE. -/
def execPcsCtrlWrite (n v : Nat) (s : State) : Host.Outcome State Fault Refusal := s.accept (below n 4 && below v (2 ^ 32)) fun s =>
  (s.slow (R.PCS_CTRL n) (fun s => s.pcsCtrlApply n v)).done

/-- A lane's adaptation begins (R336): lanes 0 to 3 are N0 to N3, 4 to 7 L0 to L3, 8 Selvedge. -/
def State.adaptLane (s : State) (n : Nat) : State :=
  let t := s.temple
  ({ s with temple := { t with lanes := if t.lanes.contains n then t.lanes else t.lanes ++ [n], since := some (s.time.tai / unitsPerSec), low := tput 0 n 0 t.low } } : State).put R.TP_STATUS_Adapting 1

/-- PCS_ADAPT (R336): the port keeps its state. -/
def execPcsAdapt (n : Nat) (s : State) : Host.Outcome State Fault Refusal := s.accept (below n 4) fun s =>
  (s.slow (R.PCS_CMD n) (fun s => if s.is (R.PCS_CTRL_Enable n) then s.adaptLane n else s)).done

/-- LinkUp is lost (R93): Startup, Service and Test go to Training, or to Down with no signal, and Recovery waits; LINK_DOWN counts the loss
of a link that was up. -/
def State.linkLost (s : State) (n : Nat) : State :=
  let st := s.portState n
  let was := s.is (R.PCS_STATUS_LinkUp n)
  let s := s.pcsLocks n false
  let s := if st = 2 ∨ st = 3 ∨ st = 4 then s.enterPort n (if s.is (R.PCS_STATUS_SignalDetect n) then 1 else 0) else s
  if was ∧ 2 ≤ st then s.bump (R.LINK_DOWN_Count n) else s

/-- PCS_CMD.Restart: negotiation and training begin again, so LinkUp is lost (R93). -/
def State.pcsRestart (s : State) (n : Nat) : State := s.linkLost n

/-- PCS_RESTART. -/
def execPcsRestart (n : Nat) (s : State) : Host.Outcome State Fault Refusal := s.accept (below n 4) fun s =>
  (s.slow (R.PCS_CMD n) (fun s => if s.is (R.PCS_CTRL_Enable n) then s.pcsRestart n else s)).done

-- ## MAC writes

/-- MAC_CTRL written (R93): a changed StateReq names a transition; one not in the table is ignored with a record while the
other fields take effect. When LldpEnable goes to 0 the shutdown data unit is sent (R313). -/
def State.macCtrlWrite (s : State) (n v : Nat) : State :=
  let a := R.MAC_CTRL n
  let req := bitsOf v 2 2
  let old := s.get (R.MAC_CTRL_StateReq n)
  let tx := s.is (R.MAC_CTRL_TxEnable n)
  if req = 3 then s.refusedAt a
  else
    let st := s.portState n
    let named := decide (req ≠ old)
    let ok := (st = 2 && decide (req ≠ 0)) || (st = 3 && decide (req ≠ 1)) || (st = 4 && decide (req ≠ 2))
    let t := if s.lldpRuns n ∧ ¬ bitOf v 8 then s.fwBytes n (s.lldpFrame n 0) else s
    let t := t.wrRW a v
    let t := if named && !ok then (t.put (R.MAC_CTRL_StateReq n) old).ignored a else t
    let t := if tx && !t.is (R.MAC_CTRL_TxEnable n) then (t.purgeCopies n).purgeCt n else t
    if named && ok then t.enterPort n (req + 2) else t

/-- MAC_CTRL_WRITE. -/
def execMacCtrlWrite (n v : Nat) (s : State) : Host.Outcome State Fault Refusal := s.accept (below n 4 && below v (2 ^ 32)) fun s => (s.macCtrlWrite n v).done

/-- A PRI_CFG or PFC_WM pair that results from a write is allowed: LowCells below HighCells for a priority that PFC watches, HighCells
within the quota (R101), and a queue named with UseQueue is an enabled Control queue (R98, R186). -/
def State.priOk (s : State) (n p : Nat) : Bool :=
  !s.is (R.PRI_CFG_UseQueue n p) ||
    (s.queueMeets (s.get (R.PRI_CFG_RxQueue n p)) 2 (s.get (R.PFC_WM_HighCells n p)) 0
      && (decide (s.get (R.PRI_CFG_Class n p) ≠ 0) || decide (s.get (R.PFC_WM_LowCells n p) < s.get (R.PFC_WM_HighCells n p))))

/-- The device sets Readers and Threshold of the transit queue of rule k, whenever a word of the rule is written (R173, R180). -/
def State.transitSet (s : State) (n k : Nat) : State :=
  let q := s.get (R.CT_RULE_ACT_Queue n k)
  let m := s.get (R.CT_RULE_ACT_EgressMask n k)
  if (s.queue q).cls = 2 ∧ m ≠ 0 then
    s.setQueue q { s.queue q with
      readers := (List.range 4).foldl (fun c i => c + (if bitOf m i then 1 else 0)) 0,
      thresh := ceilDiv (s.get (R.CT_RULE_ACT_ThresholdBytes n k)) 4 }
  else s

/-- A write of MAC register offset r (within the block), `v` the word with unwritten bytes kept. -/
def State.macRegWrite (s : State) (n r v : Nat) : State :=
  let a := R.MAC_CTRL n + r
  let t := s.wrRW a v
  if r = 0 then s.macCtrlWrite n v
  else if r = 8 then
    if v % 16384 < 64 ∨ 9600 < v % 16384 then s.ignored a else if t.budgetNow then t else s.refusedAt a
  else if r = 0x30 then
    if v % 65536 = 0 then s.ignored a else if t.budgetNow then t.pfcPort n else s.refusedAt a
  else if r = 0x34 then
    if bitsOf v 16 16 ≥ bitsOf v 0 16 then s.refusedAt a else t
  else if 0x40 ≤ r ∧ r < 0x80 then
    let p := (r - 0x40) / 8
    if r % 8 = 4 ∧ bitsOf v 16 16 ≥ bitsOf v 0 16 then s.refusedAt a
    else if t.priOk n p then t.pfcPort n else s.refusedAt a
  else if 0x100 ≤ r ∧ r < 0x200 then
    let k := (r - 0x100) / 16
    if r % 16 = 8 ∧ (bitsOf v 4 12 < 64 ∨ 2048 < bitsOf v 4 12) then s.ignored a
    else if !t.rulesOk n ∨ (t.is (R.CT_RULE_DA_HI_Valid n k) ∧ ¬ t.budgetNow) then s.refusedAt a
    else t.transitSet n k
  else if 0x400 ≤ r ∧ r < 0x4D0 then s.setCnt n ((r - 0x400) / 4) v
  else if 0x800 ≤ r then
    let g := (r - 0x800) / 8
    if t.is (R.MGRP_HI_Valid n g) ∧ ¬ bitOf (t.get (R.MGRP_HI_Addr n g)) 8 then s.refusedAt a else t
  else t

/-- A write of PCS register offset r, applied (R381): `v` the word. -/
def State.pcsRegApply (s : State) (n r v : Nat) : State :=
  if r = 0 then s.pcsCtrlApply n v
  else if r = 8 then
    let t := if v % 2 = 1 ∧ s.is (R.PCS_CTRL_Enable n) then s.pcsRestart n else s
    if bitOf v 1 ∧ s.is (R.PCS_CTRL_Enable n) then t.adaptLane n else t
  else s.wrRW (R.PCS_CTRL n + r) v

-- ## Signal and link

/-- PORT_SIGNAL_DETECT (R93). -/
def execPortSignalDetect (n : Nat) (s : State) : Host.Outcome State Fault Refusal := s.accept (below n 4) fun s =>
  ((s.put (R.PCS_STATUS_SignalDetect n) 1).portSignal n).done

/-- PORT_SIGNAL_LOSS: a port in Training whose signal is lost returns to Down (R93). -/
def execPortSignalLoss (n : Nat) (s : State) : Host.Outcome State Fault Refusal := s.accept (below n 4) fun s =>
  let s := s.put (R.PCS_STATUS_SignalDetect n) 0
  (if s.portState n = 1 then s.enterPort n 0 else s).done

/-- PORT_LINK_UP: Training to Startup; from Down, port N0 in recovery at 1000BASE-X to Recovery (R93). -/
def execPortLinkUp (n : Nat) (s : State) : Host.Outcome State Fault Refusal := s.accept (below n 4) fun s =>
  (if s.portState n = 1 then (s.pcsLocks n true).enterPort n 2
   else if s.portState n = 0 ∧ n = 0 ∧ s.recovering ∧ s.is (R.PCS_CTRL_Enable n) ∧ s.lineMode n = 2 then (s.pcsLocks n true).enterPort n 5
   else if s.portState n = 5 then s.pcsLocks n true
   else s).done

-- ## Pause

/-- PAUSE_TIMER_EXPIRE (R103, R105): the timer of a paused priority runs out, and with it every pause of the port that ends no later. -/
def execPauseTimerExpire (n p : Nat) (s : State) : Host.Outcome State Fault Refusal := s.accept (below n 4 && below p 8) fun s =>
  (if s.paused n p then (s.taiTo (s.pauseOf n p).ends).pauseRunOut n else s).done

/-- PAUSE_WATCHDOG (R104): only in Service, on a BestEffort or Control priority whose pause reaches WdLimit. -/
def execPauseWatchdog (n p : Nat) (s : State) : Host.Outcome State Fault Refusal := s.accept (below n 4 && below p 8) fun s =>
  let v := s.pauseOf n p
  let at_ := v.start + s.wdLimit n
  (if s.inService n ∧ s.paused n p ∧ s.get (R.PRI_CFG_Class n p) < 2 ∧ at_ ≤ v.ends then (s.taiTo at_).watchdogFire n p else s).done

/-- PAUSE_SPENT_TIMEOUT (R104): WdLimit has passed since the latest request for the priority. -/
def execPauseSpentTimeout (n p : Nat) (s : State) : Host.Outcome State Fault Refusal := s.accept (below n 4 && below p 8) fun s =>
  (if s.spent n p then (s.taiTo (tget 0 (s.port n).asked p + s.wdLimit n)).setSpent n p false else s).done

/-- PFC_REFRESH (R101): a PFC frame of Quanta for every priority the device is pausing whose queue stays above LowCells. -/
def execPfcRefresh (n : Nat) (s : State) : Host.Outcome State Fault Refusal := s.accept (below n 4) fun s =>
  (s.forN 8 (fun p t =>
    if t.pfcWatch n && t.pfcOut n p && decide ((t.queue (t.get (R.PRI_CFG_RxQueue n p))).cells > t.get (R.PFC_WM_LowCells n p)) then
      t.updPort n (fun v => { v with pfc := tput 0 p (t.get (R.PFC_QUANTA_Quanta n)) v.pfc })
    else t)).done

-- ## Timestamps (R108)

/-- TS_STATUS as the queue and the list stand. -/
def State.tsStatus (s : State) (n : Nat) : State :=
  (s.put (R.TS_STATUS_Used n) (s.port n).tsq.length).put (R.TS_STATUS_LostTags n) (s.port n).lost.length

/-- A transmit timestamp request is met, or its tag is lost (R108). -/
def State.tsPush (s : State) (n : Nat) (e : TsEntry) : State :=
  let p := s.port n
  if p.tsq.length < (if e.ptp then 64 else 56) then
    (s.updPort n (fun p => { p with tsq := p.tsq ++ [e] })).tsStatus n
  else
    let lost := if p.lost.length ≥ 4 then p.lost.drop 1 ++ [e.tag] else p.lost ++ [e.tag]
    ((s.updPort n (fun p => { p with lost := lost })).tsStatus n).cnt n 45

/-- A read of TS_POP_TAG: the word read, and the state after the pop (R108). -/
def State.tsPop (s : State) (n : Nat) : Nat × State :=
  match (s.port n).tsq with
  | [] => (0, s)
  | e :: r =>
    let s := (s.updPort n (fun p => { p with tsq := r })).tsStatus n
    let sec := e.time / unitsPerSec
    let s := (s.put (R.TS_SEC_LO_Sec n) sec).put (R.TS_SEC_HI_Sec n) (sec / 2 ^ 32)
    let s := (s.put (R.TS_NS_Ns n) (e.time % unitsPerSec / 65536)).put (R.TS_FRAC_Frac n) (e.time % 65536)
    (e.tag + 0x10000 + (if e.ptp then 0x20000 else 0), s)

/-- TS_POP_TAG. -/
def execTsPopTag (n : Nat) (s : State) : Host.Outcome State Fault Refusal := s.accept (below n 4) fun s =>
  let (w, s) := s.tsPop n
  (s.send (.readData (R.TS_POP_TAG n) w)).done

/-- A read of LOST_TAG: the word read, and the state after the pop (R108). -/
def State.lostPop (s : State) (n : Nat) : Nat × State :=
  match (s.port n).lost with
  | [] => (0, s)
  | t :: r => (t + 0x10000, (s.updPort n (fun p => { p with lost := r })).tsStatus n)

/-- LOST_TAG_POP. -/
def execLostTagPop (n : Nat) (s : State) : Host.Outcome State Fault Refusal := s.accept (below n 4) fun s =>
  let (w, s) := s.lostPop n
  (s.send (.readData (R.LOST_TAG n) w)).done

-- ## Harvest (R116)

/-- A read of a HARVEST alias: the counter's value, and the state with 2^31 taken off where its bit 31 is set. -/
def State.harvest (s : State) (n i : Nat) : Nat × State :=
  let v := s.get (R.PORT_CNT_Count n i)
  (v, if bitOf v 31 then s.setCnt n i (v - 2 ^ 31) else s)

/-- COUNTER_HARVEST. -/
def execCounterHarvest (n i : Nat) (s : State) : Host.Outcome State Fault Refusal := s.accept (below n 4 && below i 52) fun s =>
  let (w, s) := s.harvest n i
  (s.send (.readData (R.PORT_HARVEST n i) w)).done

end Sys2Proof.Machine
end

