-- ==== Sys2Proof/Machine/Reed.lean ====
section
/-!
DEFINITION. Reed: references and their monitors, selection, the DPLL's states, switches, phase steps, holdover and the
frame-pulse outputs (03_reed_references.md). Frequencies are in 0.001 ppb, phases in 2^-16 ns.
-/
namespace Sys2Proof.Machine

/-- What Reed holds of reference k. -/
def State.refSt (s : State) (k : Nat) : RefSt := tget {} s.reed.refs k

/-- What Reed holds of reference k, changed. -/
def State.updRef (s : State) (k : Nat) (f : RefSt → RefSt) : State :=
  { s with reed := { s.reed with refs := tupd {} k f s.reed.refs } }

/-- The reference that session descriptions name has changed: every stream's version counts it (R163). -/
def State.sdpBump (s : State) : State :=
  { s with tx := s.tx.map (fun (e : Nat × TxStream) => (e.1, { e.2 with sdpVersion := e.2.sdpVersion + 1 })) }

/-- Selected set; a change of the reference raises the version of the session descriptions (R163). -/
def State.select (s : State) (k : Nat) : State :=
  let old := s.get R.RD_STATUS_Selected
  let s := s.put R.RD_STATUS_Selected k
  if old = k then s else s.sdpBump

/-- The type of a reference (R51): 0 PTP, 1 word clock, 2 frame pulse, 3 PPS, 4 10 MHz, 5 Partner. -/
def refType (k : Nat) : Nat := [0, 0, 0, 0, 1, 1, 2, 3, 4, 5].getD k 0

/-- The gate time of a type in 10 ms ticks (R56). -/
def gateTicks (t : Nat) : Nat := [1600, 100, 200, 1600, 100, 10].getD t 0

/-- The lock window of a type in ns (R56). -/
def lockWindow (t : Nat) : Nat := [200, 5, 5, 20, 1, 1].getD t 0

/-- The measure time of a switch to a reference of a type, in CCLK (R56); a frame pulse's is 16 periods of REF6's rate. -/
def State.measureTime (s : State) (t : Nat) : Nat :=
  if t = 2 then 16 * 1000 * cclkMs * s.get (R.REF_RATE_RateDen 6) / max 1 (s.get (R.REF_RATE_RateNum 6))
  else [2000 * cclkMs, 10 * cclkMs, 0, 4000 * cclkMs, 10 * cclkMs, cclkMs].getD t 0

/-- Selvedge is up (SV_STATUS.State). -/
def State.svUp (s : State) : Bool := decide (s.get R.SV_STATUS_State = 2)

/-- A reference is present (R51). -/
def State.refPresent (s : State) (k : Nat) : Bool :=
  if k = 9 then s.svUp && s.is R.SV_STATUS_PartnerLocked else (s.refSt k).present

/-- The Reason code of a reference that is not present (REFk_STATUS.Reason). The spec names none for a partner that is not Locked while Selvedge
is up, nor for a PTP reference without Sync: 1 LOS and 5 AnnounceTimeout (DESIGN CHOICE, notes/assumptions/11.md). -/
def State.absentReason (s : State) (k : Nat) : Nat :=
  if k < 4 then 5 else if k = 9 ∧ !s.svUp then 6 else 1

/-- The DPLL is in Locked, Switching or Holdover: the frequency monitor measures against its output (R52). -/
def State.vsOutput (s : State) : Bool := decide (2 ≤ s.get R.RD_STATUS_State)

/-- The first check of R52 that a sample fails, as a Reason code; none if it passes. Which reason shows where several
fail is the model's choice (notes/assumptions/11.md). -/
def State.failReason (s : State) (k : Nat) (m : RefSample) : Option Nat :=
  let t := refType k
  let num := s.get (R.REF_RATE_RateNum k)
  let den := s.get (R.REF_RATE_RateDen k)
  let win := s.get (R.REF_FWIN_Ppb k)
  let freq := if s.vsOutput then m.vsDpll else m.vsXref
  if t = 0 ∧ !(s.refSt k).timescale then some 4
  else if (t = 1 ∨ t = 2) ∧ ((m.rate * den : Nat) - (num * 1000 : Nat) : Int).natAbs * 1000000000 > win * (num * 1000) then some 7
  else if m.vsXref.natAbs > s.get R.FREQ_RANGE_Ppm * 1000000 then some 8
  else if freq.natAbs > win * 1000 then some 2
  else if m.php > s.get (R.REF_PWIN_Ns k) then some 3
  else none

/-- A reference's state (REFk_STATUS.State): 0 Off, 1 Absent, 2 Qualifying, 3 Qualified, 4 Failed, 5 WaitToRestore. -/
def State.refState (s : State) (k : Nat) : Nat := s.get (R.REF_STATUS_State k)

/-- The ticks for which the checks must pass in a state (R54): the gate time in Qualifying, REFk_WTR in WaitToRestore. -/
def State.refWait (s : State) (k st : Nat) : Nat :=
  if st = 2 then gateTicks (refType k) else if st = 5 then s.get (R.REF_WTR_Sec k) * 100 else 0

/-- A reference moved to a state, with none of the state's wait over; Timer shows the remaining ticks (R54). -/
def State.refGo (s : State) (k st : Nat) : State :=
  ((s.put (R.REF_STATUS_State k) st).put (R.REF_STATUS_Timer k) (s.refWait k st)).updRef k (fun r => { r with ticks := 0 })

/-- A reference fails or is lost (R54): Failed with a reason, or Absent; a Qualified reference counts RefFail. -/
def State.refFail (s : State) (k st reason : Nat) : State :=
  let s := if s.refState k = 3 then s.bump (R.CNT_REF_FAIL_Count k) else s
  (s.refGo k st).put (R.REF_STATUS_Reason k) reason

/-- The timekeeper moved by a number of 2^-16 ns units, modulo 2^48 seconds. -/
def State.moveTai (s : State) (d : Int) : State :=
  { s with time := { s.time with tai := ((s.time.tai + d) % (2 ^ 48 * unitsPerSec : Nat)).toNat } }

/-- A reference reaches Qualified (R54); the first PTP reference to do so loads the time of day (R35). -/
def State.refQualify (s : State) (k : Nat) : State :=
  let s := ((s.refGo k 3).put (R.REF_STATUS_EverQual k) 1).put (R.REF_STATUS_Reason k) 0
  let s := if s.get R.RD_STATUS_State = 3 then s.updRef k (fun r => { r with late := true }) else s
  if k < 4 ∧ !s.is R.TIME_STATUS_TodValid then (s.moveTai (s.refSt k).off).put R.TIME_STATUS_TodValid 1 else s

/-- A reference returns (R54): WaitToRestore if it has qualified before, Qualifying otherwise; a wait of 0 that passes
its checks is over at once. -/
def State.refReturn (s : State) (k : Nat) (pass : Bool) : State :=
  if s.is (R.REF_STATUS_EverQual k) then
    let s := s.refGo k 5
    if pass ∧ s.get (R.REF_WTR_Sec k) = 0 then s.refQualify k else s
  else s.refGo k 2

/-- Failures of one reference in one tick (R53, R54). -/
def State.refTickFail (s : State) (k : Nat) (present : Bool) (fail : Option Nat) : State :=
  let st := s.refState k
  if st < 2 then s
  else if !present then s.refFail k 1 (s.absentReason k)
  else match fail with
    | some r => if st = 4 then s else s.refFail k 4 r
    | none => s

/-- Progress of one reference in one tick (R53, R54). -/
def State.refTickUp (s : State) (k : Nat) (present : Bool) (fail : Option Nat) : State :=
  let st := s.refState k
  let pass := present && fail.isNone
  if st = 1 ∧ present then s.refReturn k pass
  else if st = 4 ∧ pass then s.refReturn k pass
  else if (st = 2 ∨ st = 5) ∧ pass then
    let t := (s.refSt k).ticks + 1
    let s := (s.updRef k (fun r => { r with ticks := t })).put (R.REF_STATUS_Timer k) (s.refWait k st - t)
    if s.refWait k st ≤ t then s.refQualify k else s
  else s

-- ## Selection (R57, R58, R60)

/-- The mode and forced reference in force (R57, R68). -/
def State.rdMode (s : State) : Nat × Nat := match s.reed.modeHeld with
  | some m => m
  | none => (s.get R.RD_CTRL_Mode, s.get R.RD_CTRL_ForcedRef)

/-- A reference's frequency as REFk_FREQ shows it. -/
def State.refFreq (s : State) (k : Nat) : Int := s.getI (R.REF_FREQ_Freq k)

/-- Two references lie within AGREE_WIN (units of 0.1 ppb) of one another (R60). -/
def State.agree (s : State) (i j : Nat) : Bool := decide ((s.refFreq i - s.refFreq j).natAbs ≤ s.get R.AGREE_WIN_Win * 100)

/-- The least rank of a list of references. -/
def State.minRank (s : State) (cs : List Nat) : Nat := cs.foldl (fun r k => min r (s.get (R.REF_CFG_Rank k))) 15

/-- The references of a list that hold its least rank. -/
def State.bestRank (s : State) (cs : List Nat) : List Nat := cs.filter (fun k => decide (s.get (R.REF_CFG_Rank k) = s.minRank cs))

/-- The candidates of R58 in Auto: the Qualified references. -/
def State.qualified (s : State) : List Nat := (List.range 10).filter (fun k => decide (s.refState k = 3))

/-- Some pair of a list disagrees (R60). -/
def State.disagree (s : State) (cs : List Nat) : Bool := cs.any (fun i => cs.any (fun j => !s.agree i j))

/-- The reference of a list whose frequency is closest to HOLD_FREQ, the lower number on a tie (R60). HOLD_FREQ is an offset from XREF, so
the references' offsets from XREF are compared with it. -/
def State.closest (s : State) (cs : List Nat) : Option Nat :=
  let off := fun (k : Nat) => ((s.refSt k).vsXref - s.getI R.HOLD_FREQ_Freq).natAbs
  cs.foldl (fun b k => match b with
    | none => some k
    | some j => if off k < off j then some k else b) none

/-- The choice among the candidates of the best rank (R58, R60). -/
def State.choose (s : State) (cs : List Nat) : Option Nat :=
  let sel := s.get R.RD_STATUS_Selected
  if !s.disagree cs then (if cs.contains sel then some sel else cs.head?)
  else
    let maj := cs.filter (fun c => decide (2 * (cs.filter (fun d => s.agree c d)).length > cs.length))
    if cs.length ≥ 3 ∧ maj ≠ [] then (if maj.contains sel then some sel else maj.head?)
    else if cs.contains sel then some sel
    else s.closest cs

/-- Step 3 of a tick (R53): the best reference (R57, R58), with Disagree (R60) and HoldEarlyExit (R58) applied. R60 defines Disagree for the
candidates of Auto; it is cleared in Forced and stands in Modes 2 and 3 (DESIGN CHOICE, notes/assumptions/19.md). -/
def State.selection (s : State) : Option Nat × State :=
  let (mode, forced) := s.rdMode
  if mode = 1 then ((if s.refState forced = 3 then some forced else none), s.put R.RD_STATUS_Disagree 0)
  else if mode ≠ 0 then (none, s)
  else
    let cs := s.qualified
    if cs = [] then
      let s := s.put R.RD_STATUS_Disagree 0
      let ws := (List.range 10).filter (fun k => decide (s.refState k = 5 ∧ gateTicks (refType k) ≤ (s.refSt k).ticks))
      if s.is R.RD_CTRL_HoldEarlyExit then
        match (s.bestRank ws).head? with
        | some k => (some k, s.refQualify k)
        | none => (none, s)
      else (none, s)
    else
      let top := s.bestRank cs
      let dis := s.disagree top
      let s := if dis ∧ !s.is R.RD_STATUS_Disagree then s.bump R.CNT_DISAGREE_Count else s
      let s := s.putB R.RD_STATUS_Disagree dis
      let sel := s.get R.RD_STATUS_Selected
      if cs.contains sel ∧ !top.contains sel ∧ !s.is R.RD_CTRL_Revertive then (some sel, s)
      else (s.choose top, s)

-- ## Holdover (R64, R65)

/-- The history entries behind the holdover estimate (R64): those of the HoldAvg seconds that end HoldGuard seconds ago; all, where
fewer entries exist than these seconds need or none lies in them. -/
def State.holdWindow (s : State) : List HistEnt :=
  let sec := 1000 * cclkMs
  let g := s.get R.HOLD_CFG_HoldGuard
  let a := s.get R.HOLD_CFG_HoldAvg
  let w := s.reed.hist.filter (fun e => decide (e.time + g * sec ≤ s.xref ∧ s.xref < e.time + (g + a) * sec))
  if s.reed.hist.length < g + a ∨ w.isEmpty then s.reed.hist else w

/-- Sum of a list of integers. -/
def sumInt (xs : List Int) : Int := xs.foldl (· + ·) 0

/-- The sample standard deviation of a list, rounded to nearest; 0 for fewer than two values. -/
def sampleDev (xs : List Int) : Nat :=
  let n := xs.length
  let num := ((n : Int) * sumInt (xs.map (fun x => x * x)) - sumInt xs * sumInt xs).toNat
  if n < 2 then 0 else (isqrt (4 * num / (n * (n - 1))) + 1) / 2

/-- The entries a holdover that began now would rest on (R64): the window of the history; the current frequency and temperature, as one
entry, while HistValid is 0. -/
def State.holdBase (s : State) : List HistEnt :=
  if s.is R.RD_STATUS_HistValid && !s.holdWindow.isEmpty then s.holdWindow
  else [⟨s.getI R.DPLL_FREQ_Freq, s.getI (R.TEMP_Temp 0), s.xref⟩]

/-- HOLD_FREQ shows the current estimate while there is no holdover (R64). -/
def State.holdShow (s : State) : State :=
  if s.get R.RD_STATUS_State = 4 then s
  else s.putSat R.HOLD_FREQ_Freq (divRoundAway (sumInt (s.holdBase.map HistEnt.freq)) s.holdBase.length)

/-- Entry to Holdover (R57, R64): f0, Fu and Tmean are computed and the holdover-spec timer starts. The output goes to f0 within the limits
of R62, tick by tick. -/
def State.holdoverEnter (s : State) : State :=
  let s := s.holdShow
  let w := s.holdBase
  let fu := if s.is R.RD_STATUS_HistValid then max 100 (sampleDev (w.map HistEnt.freq)) else 100000
  let s := (((s.put R.RD_STATUS_State 4).select 0xF).put R.RD_STATUS_Target 0xF).bump R.CNT_HOLDOVER_Count
  let s := { s with reed := { s.reed with holdN := w.length, f0Sum := sumInt (w.map HistEnt.freq), tSum := sumInt (w.map HistEnt.temp), est := 0, heldAt := s.xref } }
  ((((s.putCap R.HOLD_FU_Fu fu).put R.HOLD_EST_Ns 0).put R.HOLD_STATUS_OutOfSpec 0).put R.HOLD_STATUS_Seconds 0)

/-- Loss of every reference (R57): Holdover with history, Freerun without. -/
def State.holdOrFree (s : State) : State :=
  if s.is R.RD_STATUS_HistValid then s.holdoverEnter
  else ((s.put R.RD_STATUS_State 0).select 0xF).put R.RD_STATUS_Target 0xF

/-- The measured phase of the reference against the output goes into the build-out, or moves the timekeeper while no
audio runs (R57). -/
def State.acquireFrom (s : State) (k : Nat) (phase : Int) : State :=
  let s := (s.put R.RD_STATUS_State 1).select k
  if s.is R.TIME_CTRL_Run then s.put64I R.BUILDOUT_LO_Bo R.BUILDOUT_HI_Bo phase
  else (s.moveTai phase).put64I R.BUILDOUT_LO_Bo R.BUILDOUT_HI_Bo 0

/-- A switch begins its measure time (R59); leaving Holdover clears OutOfSpec (R65). No reference has qualified during it yet (R68). -/
def State.switchStart (s : State) (k : Nat) : State :=
  let s := s.put R.HOLD_STATUS_OutOfSpec 0
  let s := (s.put R.RD_STATUS_State 3).put R.RD_STATUS_Target k
  let s : State := { s with reed := { s.reed with measure := s.xref } }
  s.forN 10 (fun i t => t.updRef i (fun r => { r with late := false }))

/-- The DPLL takes up Mode 2 or 3 (R57); the history is cleared by Mode 3 (R64). The output goes to its frequency within the limits of
R62, tick by tick. -/
def State.modeTake (s : State) : State :=
  let m := s.get R.RD_CTRL_Mode
  if m = 2 then (if s.get R.RD_STATUS_State = 4 then s else s.holdoverEnter)
  else if m = 3 then
    let s := ((s.put R.RD_STATUS_State 0).select 0xF).put R.RD_STATUS_Target 0xF
    let s := { s with reed := { s.reed with hist := [] } }
    ((s.put R.RD_STATUS_HistValid 0).put R.HOLD_STATUS_OutOfSpec 0).holdShow
  else s

/-- A switch whose target has left Qualified is abandoned (R57, R68): a mode written during it comes into force, and selection decides
again. -/
def State.switchAbandon (s : State) (best : Option Nat) : State :=
  let held := s.reed.modeHeld.isSome
  let s : State := { s.put R.RD_STATUS_Target 0xF with reed := { s.reed with modeHeld := none } }
  if held ∧ 2 ≤ s.get R.RD_CTRL_Mode then s.modeTake
  else
    let (best, s) := if held then s.selection else (best, s)
    let sel := s.get R.RD_STATUS_Selected
    match best with
    | some k => if k = sel then s.put R.RD_STATUS_State 2 else s.switchStart k
    | none => s.holdoverEnter

/-- The DPLL's transitions on the result of a selection (R57, R59, R68); `phase` is the measured phase of the best reference, none where
the event brings no measurement: a free-running loop then begins to acquire at the next tick. -/
def State.dpllNext (s : State) (best : Option Nat) (phase : Option Int) : State :=
  let st := s.get R.RD_STATUS_State
  let sel := s.get R.RD_STATUS_Selected
  let selOk := decide (s.refState sel = 3)
  if (s.rdMode).1 ≥ 2 then s
  else if st = 0 then
    match best, phase with
    | some k, some x => s.acquireFrom k x
    | _, _ => s
  else if st = 1 then (if selOk then s else s.holdOrFree)
  else if st = 2 then
    match best with
    | some k => if k = sel then s else s.switchStart k
    | none => if selOk then s else s.holdOrFree
  else if st = 3 then
    if s.refState (s.get R.RD_STATUS_Target) = 3 then s else s.switchAbandon best
  else
    match best with
    | some k => s.switchStart k
    | none => s

-- ## Slews (R61 to R63, R67)

/-- An integer moved towards zero by at most a natural number. -/
def towardZero (x : Int) (d : Nat) : Int := if x.natAbs ≤ d then 0 else if x > 0 then x - d else x + d

/-- The phase one 10 ms tick may slew, in 2^-16 ns: SLEW_RATE, or less where FREQ_RANGE binds (R62). A slew that delays the clock lowers the
output's frequency, one that advances it raises it. -/
def State.slewTick (s : State) (delays : Bool) : Nat :=
  let range : Int := s.get R.FREQ_RANGE_Ppm * 1000000
  let f := s.getI R.DPLL_FREQ_Freq
  min (s.get R.SLEW_RATE_Rate) (((if delays then range + f else range - f) / 1000).toNat) * 65536 / 100

/-- The slews of one tick: PhaseStep slews into PHASE_ADJ (R63), and build-out decay (R61) with what they leave of SLEW_RATE. A positive
build-out that decays delays the output, as a positive step does (R59). -/
def State.slewStep (s : State) : State :=
  let rem := towardZero s.reed.slewRem (s.slewTick (decide (0 < s.reed.slewRem)))
  let bo := s.get64I R.BUILDOUT_LO_Bo R.BUILDOUT_HI_Bo
  let left := s.slewTick (decide (0 < bo)) - (s.reed.slewRem - rem).natAbs
  let s := s.putSat R.PHASE_ADJ_Adj (max (-163840000) (min 163840000 (s.getI R.PHASE_ADJ_Adj + (s.reed.slewRem - rem))))
  let s := { s with reed := { s.reed with slewRem := rem } }
  let s := s.putB R.PSTEP_STATUS_Slewing (decide (rem ≠ 0))
  let sel := s.get R.RD_STATUS_Selected
  if (s.get R.RD_STATUS_State = 1 ∨ s.get R.RD_STATUS_State = 2) ∧ sel < 10 ∧ s.is (R.REF_CFG_BoDecay sel) then
    s.put64I R.BUILDOUT_LO_Bo R.BUILDOUT_HI_Bo (towardZero bo left)
  else s

/-- What Reed holds of FPOj. -/
def State.fpoSt (s : State) (j : Nat) : FpoSt := tget {} s.reed.fpo j

/-- What Reed holds of FPOj, changed. -/
def State.updFpo (s : State) (j : Nat) (f : FpoSt → FpoSt) : State :=
  { s with reed := { s.reed with fpo := tupd {} j f s.reed.fpo } }

/-- FpoSt's units in 0.8 ns, the unit of FPOj_OFFSET and FPOj_ERR. -/
def fpoUnit : Int := 5242880

/-- The time at which pulse k of FPOj begins (R66), in 2^-16 ns of TAI: in Free mode on the media timeline, which a phase step moves, with
Offset; in Aligned mode on the grid that the input's pulses place. -/
def State.fpoAt (s : State) (j k : Nat) : Int :=
  let base : Int := k * s.get (R.FPO_RATE_RateDen j) * unitsPerSec / max 1 (s.get (R.FPO_RATE_RateNum j))
  if s.get (R.FPO_CFG_Mode j) = 1 then base + s.getI (R.FPO_OFFSET_Offset j) * 262144 / 5 + s.getI R.PHASE_ADJ_Adj
  else base + (s.fpoSt j).corr / 100

/-- The level of FPOj at a time in 2^-16 ns of TAI (R66): a pulse of Width from each of its times; driven low while it is off. -/
def State.fpoLevel (s : State) (j : Nat) (t : Int) : Bool :=
  let per := s.get (R.FPO_RATE_RateDen j) * unitsPerSec
  let k := ((t - s.fpoAt j 0) * s.get (R.FPO_RATE_RateNum j) / per).toNat
  let on := decide (0 < s.get (R.FPO_RATE_RateNum j)) && [k, k + 1].any (fun i =>
    decide (s.fpoAt j i ≤ t ∧ 5 * t < 5 * s.fpoAt j i + s.get (R.FPO_WIDTH_Width j) * 262144))
  decide (s.get (R.FPO_CFG_Mode j) ≠ 0) && (on != s.is (R.FPO_CFG_Polarity j))

/-- FPOj's pulses keep the rules of R66 with a mode, source and rate of its own and its source's rate as given: in Aligned mode the input
period is a whole multiple of the FPO's. -/
def fpoFits (mode num den inNum inDen : Nat) : Bool :=
  decide (mode ≠ 2) || (decide (0 < num ∧ 0 < inNum ∧ 0 < den) && decide (inDen * num % (inNum * den) = 0))

/-- The rate of an input of the frame-pulse outputs as numerator and denominator (R66): REF6_RATE, or 1 Hz for REF7. -/
def State.fpoInput (s : State) (source : Nat) : Nat × Nat :=
  if source = 0 then (s.get (R.REF_RATE_RateNum 6), s.get (R.REF_RATE_RateDen 6)) else (1, 1)

/-- FPOj as configured keeps the rules of R66. -/
def State.fpoOk (s : State) (j : Nat) : Bool :=
  let i := s.fpoInput (s.get (R.FPO_CFG_Source j))
  fpoFits (s.get (R.FPO_CFG_Mode j)) (s.get (R.FPO_RATE_RateNum j)) (s.get (R.FPO_RATE_RateDen j)) i.1 i.2

/-- One tick of FPOj's slew (R67), and its flywheel level. -/
def State.fpoTick (s : State) (j : Nat) : State :=
  if s.get (R.FPO_CFG_Mode j) ≠ 2 then s
  else
    let src := 6 + s.get (R.FPO_CFG_Source j)
    let s := s.putB (R.FPO_STATUS_Flywheel j) (!s.refPresent src)
    let e := (s.fpoSt j).slew
    let e' := towardZero e (s.get (R.FPO_ALIGN_AlignSlew j) * 65536)
    let s := s.updFpo j (fun f => { f with slew := e', corr := f.corr + (e - e') })
    let s := s.putB (R.FPO_STATUS_Realigning j) (decide (e' ≠ 0))
    if (s.fpoSt j).step.isNone then s.putB (R.FPO_STATUS_Aligned j) (decide (e'.natAbs ≤ s.get (R.FPO_ALIGN_AlignTol j) * 6553600)) else s

/-- The output's frequency after one tick within the limits of R62, FREQ_RANGE and FREQ_SLEW: towards DPLL_FREQ_SET in Freerun, the holdover
frequency in Holdover and in a switch whose old reference is not Qualified (R57, R59, R64), and the loop's own frequency otherwise. -/
def State.loopFreq (s : State) (f : Int) : State :=
  let st := s.get R.RD_STATUS_State
  let f := if st = 0 then s.getI R.DPLL_FREQ_SET_Freq
    else if st = 4 ∨ (st = 3 ∧ s.refState (s.get R.RD_STATUS_Selected) ≠ 3) then s.getI R.HOLD_FREQ_Freq
    else f
  let cur := s.getI R.DPLL_FREQ_Freq
  let slew : Int := (max 1 (s.get R.FREQ_SLEW_Slew) * 100 : Nat)
  let lim : Int := (s.get R.FREQ_RANGE_Ppm * 1000000 : Nat)
  s.putSat R.DPLL_FREQ_Freq (max (-lim) (min lim (max (cur - slew) (min (cur + slew) f))))

/-- The monitors' results into REFk_FREQ and REFk_PHPP, and pin presence (R51, R52). -/
def State.monitor (s : State) (k : Nat) (m : RefSample) : State :=
  let s := s.putSat (R.REF_FREQ_Freq k) (if s.vsOutput then m.vsDpll else m.vsXref)
  let s := (s.putCap (R.REF_PHPP_Ns k) m.php).updRef k (fun r => { r with vsXref := m.vsXref })
  if 4 ≤ k ∧ k < 9 then s.updRef k (fun r => { r with present := m.edge }) else s

/-- The sample of reference k in a tick; one that is not given measures nothing. -/
def sampleOf (ms : List RefSample) (k : Nat) : RefSample := ms.getD k ⟨false, 0, 0, 0, 0⟩

/-- Selection run once and the DPLL moved by it (R53). -/
def State.runSelection (s : State) (phase : Option Int) : State :=
  let (best, s) := s.selection
  s.dpllNext best phase

/-- REED_TICK (R53): every 10 ms the monitors update, the reference states advance, failures before qualifications, and
selection runs once; slews move by one tick. -/
def execReedTick (samples : List RefSample) (freq phase : Int) (s : State) : Host.Outcome State Fault Refusal := s.live fun s =>
  let s := s.forN 10 (fun k t => t.monitor k (sampleOf samples k))
  let fails := (List.range 10).map (fun k => s.failReason k (sampleOf samples k))
  let s := s.forN 10 (fun k t => t.refTickFail k (t.refPresent k) (fails.getD k none))
  let s := s.forN 10 (fun k t => (t.refTickUp k (t.refPresent k) (fails.getD k none)).updRef k
    (fun r => { r with passing := (fails.getD k none).isNone }))
  let s := s.runSelection (some phase)
  let s := (s.loopFreq freq).holdShow
  let s := s.slewStep
  (s.forN 4 (fun j t => t.fpoTick j)).done

/-- A reference may qualify: it is present, and a PTP reference is on the PTP timescale (R34, R54). -/
def State.mayQualify (s : State) (k : Nat) : Bool := s.refPresent k && (decide (4 ≤ k) || (s.refSt k).timescale)

/-- REF_GATE_EXPIRE (R54): a Qualifying reference whose checks have passed for the gate time becomes Qualified, and
selection runs with its phase. -/
def execRefGateExpire (e : RefPhase) (s : State) : Host.Outcome State Fault Refusal := s.accept (below e.k 10) fun s =>
  (if e.k < 10 ∧ s.refState e.k = 2 ∧ s.mayQualify e.k then (s.refQualify e.k).runSelection (some e.phase) else s).done

/-- REF_WTR_EXPIRE (R54): a reference's wait-to-restore time ends and it becomes Qualified; selection runs. -/
def execRefWtrExpire (e : RefPhase) (s : State) : Host.Outcome State Fault Refusal := s.accept (below e.k 10) fun s =>
  (if e.k < 10 ∧ s.refState e.k = 5 ∧ s.mayQualify e.k then (s.refQualify e.k).runSelection (some e.phase) else s).done

/-- A reference is no longer present (R51, R54), and the outputs aligned to it run on (R67). -/
def State.refLost (s : State) (k : Nat) : State :=
  let s := s.updRef k (fun r => { r with present := false, announce := false, sync := false })
  let s := if s.refState k ≥ 2 then s.refFail k 1 (s.absentReason k) else s
  let s := s.forN 4 (fun j t => if t.get (R.FPO_CFG_Mode j) = 2 ∧ 6 + t.get (R.FPO_CFG_Source j) = k then t.put (R.FPO_STATUS_Flywheel j) 1 else t)
  s.runSelection none

/-- REF_EDGE_TIMEOUT (R51): a pin reference with no edge for four nominal periods becomes absent. -/
def execRefEdgeTimeout (k : Nat) (s : State) : Host.Outcome State Fault Refusal := s.accept (below k 10) fun s =>
  (if 4 ≤ k ∧ k < 9 then s.refLost k else s).done

/-- PTP_ANNOUNCE_TIMEOUT (R51): a PTP reference becomes absent. -/
def execPtpAnnounceTimeout (k : Nat) (s : State) : Host.Outcome State Fault Refusal := s.accept (below k 10) fun s =>
  (if k < 4 then s.refLost k else s).done

/-- A port's PTP profile, domain number, role and log Sync interval (OD 0x2010 to 0x2013); profile 0xFF is PTP off. -/
def State.ptpProfile (s : State) (n : Nat) : Nat := s.obj (0x2010 + n) 1
def State.ptpDomain (s : State) (n : Nat) : Nat := s.obj (0x2010 + n) 2
def State.ptpRole (s : State) (n : Nat) : Nat := s.obj (0x2010 + n) 3
def State.ptpLogSync (s : State) (n : Nat) : Int := toSigned 32 (s.obj (0x2010 + n) 4)

/-- Half the phase detector rate of a loop's type in mHz (R55), rounded down: for PTP that of the least Sync rate of the ports, for a frame
pulse that of REF6_RATE. -/
def State.loopTop (s : State) (t : Nat) : Nat :=
  if t = 0 then
    let log := (List.range 4).foldl (fun (m : Int) n => if s.ptpProfile n = 0xFF then m else max m (s.ptpLogSync n)) (-7)
    if 0 ≤ log then 500 / 2 ^ log.toNat else 500 * 2 ^ (-log).toNat
  else if t = 2 then s.get (R.REF_RATE_RateNum 6) * 500 / max 1 (s.get (R.REF_RATE_RateDen 6))
  else [0, 4000000, 0, 500, 500000, 50000000].getD t 0

/-- After a change of LogSyncInterval a PTP bandwidth above half the Sync rate is clamped to it (R55). -/
def State.loopClamp (s : State) : State :=
  if s.loopTop 0 < s.get (R.LOOP_CFG_BwMilliHz 0) then s.put (R.LOOP_CFG_BwMilliHz 0) (s.loopTop 0) else s

/-- A write of REFk_CFG as the block applies it (R54). -/
def State.refCfgApply (s : State) (k v : Nat) : State :=
  let was := s.is (R.REF_CFG_Enable k)
  let s := s.wrRW (R.REF_CFG k) v
  let now := s.is (R.REF_CFG_Enable k)
  if !now then (s.refGo k 0).put (R.REF_STATUS_EverQual k) 0
  else if !was then s.refGo k 1 else s

/-- REF_ENABLE_WRITE (R54): a write of REFk_CFG moves the reference to Off or Absent. -/
def execRefEnableWrite (k v : Nat) (s : State) : Host.Outcome State Fault Refusal := s.accept (below k 10 && below v (2 ^ 32)) fun s =>
  (if k < 10 then s.slow (R.REF_CFG k) (fun s => s.refCfgApply k v) else s).done

/-- A write of RD_CTRL as the block applies it (R57, R68): ForcedRef 10 to 15 is refused; a write during a switch takes
effect after the commit. -/
def State.rdCtrlApply (s : State) (v : Nat) : State :=
  if bitsOf v 2 4 ≥ 10 then s.refusedAt R.RD_CTRL
  else
    let old := s.rdMode
    let s := s.wrRW R.RD_CTRL v
    if s.get R.RD_STATUS_State = 3 then { s with reed := { s.reed with modeHeld := some old } } else s.modeTake

/-- RD_CTRL_WRITE (R57). -/
def execRdCtrlWrite (v : Nat) (s : State) : Host.Outcome State Fault Refusal := s.accept (below v (2 ^ 32)) fun s =>
  (s.slow R.RD_CTRL (fun s => s.rdCtrlApply v)).done

/-- The lock window of the selected reference in 2^-16 ns (R56). -/
def State.selWindow (s : State) : Nat := lockWindow (refType (s.get R.RD_STATUS_Selected)) * 65536

/-- DPLL_ACQUIRE_LOCK (R57): the filtered phase error has lain within the lock window for two gate times. -/
def execDpllAcquireLock (err : Int) (s : State) : Host.Outcome State Fault Refusal := s.live fun s =>
  (if s.get R.RD_STATUS_State = 1 ∧ err.natAbs ≤ s.selWindow then s.put R.RD_STATUS_State 2 else s).done

/-- DPLL_LOCK_LOSS (R57): the filtered phase error has exceeded four lock windows for one gate time. While audio runs the whole difference
goes into the build-out, and no pick boundary moves. -/
def execDpllLockLoss (err : Int) (s : State) : Host.Outcome State Fault Refusal := s.live fun s =>
  (if s.get R.RD_STATUS_State = 2 ∧ err.natAbs > 4 * s.selWindow then
     let t := s.put R.RD_STATUS_State 1
     if s.is R.TIME_CTRL_Run then t.put64I R.BUILDOUT_LO_Bo R.BUILDOUT_HI_Bo (t.get64I R.BUILDOUT_LO_Bo R.BUILDOUT_HI_Bo + err) else t
   else s).done

/-- A reference that reached Qualified during the switch waits to restore where its rank is better than the target's (R54, R68). -/
def State.lateTake (s : State) (rank k : Nat) : State :=
  let t := if (s.refSt k).late ∧ s.refState k = 3 ∧ s.get (R.REF_CFG_Rank k) < rank then s.refGo k 5 else s
  t.updRef k (fun r => { r with late := false })

/-- The measured phase is loaded into the build-out and the loop moves to the target of the switch; a better reference that qualified
meanwhile waits to restore (R59, R54). -/
def State.switchMove (s : State) (tgt : Nat) (phase : Int) : State :=
  let s := s.put64I R.BUILDOUT_LO_Bo R.BUILDOUT_HI_Bo phase
  let s := (((s.put R.RD_STATUS_State 2).select tgt).put R.RD_STATUS_Target 0xF).bump R.CNT_SWITCH_Count
  let rank := s.get (R.REF_CFG_Rank tgt)
  s.forN 10 (fun k t => t.lateTake rank k)

/-- The end of a switch (R59, R68), after which a mode written during it comes into force and selection runs. -/
def State.switchCommit (s : State) (phase : Int) : State :=
  let s := s.switchMove (s.get R.RD_STATUS_Target) phase
  let held := s.reed.modeHeld.isSome
  let s := { s with reed := { s.reed with modeHeld := none } }
  if held ∧ 2 ≤ s.get R.RD_CTRL_Mode then s.modeTake else s.runSelection none

/-- SWITCH_COMMIT (R59): the measure time ends (R56) with the target still Qualified. -/
def execSwitchCommit (phase : Int) (s : State) : Host.Outcome State Fault Refusal := s.live fun s =>
  (if s.get R.RD_STATUS_State = 3 ∧ s.refState (s.get R.RD_STATUS_Target) = 3 then
     (s.xrefTo (s.reed.measure + s.measureTime (refType (s.get R.RD_STATUS_Target)))).switchCommit phase
   else s).done

/-- A second of the TAI day spent in Locked (R333). -/
def State.dayTake (s : State) : State :=
  { s with day := { s.day with secs := s.day.secs + 1, fSum := s.day.fSum + s.getI R.DPLL_FREQ_Freq, tSum := s.day.tSum + s.getI (R.TEMP_Temp 0) } }

/-- HealthSynth (R332): the control-range use of MCS0 and MCS1 in 0.01 %, and the day's greatest (R341). -/
def State.healthSynth (s : State) (use : List Nat) : State :=
  if !s.is R.TP_CTRL_Enable then s
  else
    let s := (s.setObj 0xA024 1 (use.getD 0 0 % 65536)).setObj 0xA024 2 (use.getD 1 0 % 65536)
    { s with day := { s.day with synth := max s.day.synth (max (s.obj 0xA024 1) (s.obj 0xA024 2)) } }

/-- HOLD_HISTORY_SAMPLE (R64, R332): each second in Locked the output frequency and temperature enter the history of 3,600; `use` is
the control-range use of MCS0 and MCS1. A second ends at least a second after the entry before it. -/
def execHoldHistorySample (use : List Nat) (s : State) : Host.Outcome State Fault Refusal := s.live fun s =>
  let s := s.healthSynth use
  (if s.get R.RD_STATUS_State = 2 then
    let s := match s.reed.hist with
      | [] => s
      | e :: _ => s.xrefTo (e.time + 1000 * cclkMs)
    let h := (⟨s.getI R.DPLL_FREQ_Freq, s.getI (R.TEMP_Temp 0), s.xref⟩ :: s.reed.hist).take 3600
    let s := { s with reed := { s.reed with hist := h } }
    (s.putB R.RD_STATUS_HistValid (decide (h.length ≥ 10))).holdShow.dayTake
  else s).done

/-- HOLDOVER_SECOND (R64, R65): the estimate grows by Fu + Ag × k + Tc × |Tk - Tmean|, and HOLD_FREQ, which the output follows, is
f0 + Ac × t. -/
def execHoldoverSecond (s : State) : Host.Outcome State Fault Refusal := s.live fun s =>
  (if s.get R.RD_STATUS_State = 4 then
    let r := s.reed
    let k := s.get R.HOLD_STATUS_Seconds + 1
    let aged := s.is R.HOLD_CFG_AgeCorrect && s.is R.TP_STATUS_AgeValid
    let rate := s.getI R.AGE_RATE_Rate
    let ag : Int := if aged then s.get R.AGE_UNC_Unc else rate.natAbs
    let dT : Int := (s.getI (R.TEMP_Temp 0) * r.holdN - r.tSum).natAbs
    let e := r.est + (s.get R.HOLD_FU_Fu : Int) * 1382400 * r.holdN + ag * k * 16 * r.holdN + s.getI R.AGE_TC_Tc * dT * 86400
    let unit : Nat := 1382400000 * r.holdN
    let s := { s.xrefTo (r.heldAt + k * 1000 * cclkMs) with reed := { r with est := e }, day := { s.day with hsecs := s.day.hsecs + 1 } }
    let s := s.putCap R.HOLD_STATUS_Seconds k
    let s := s.putCap R.HOLD_EST_Ns (e / unit).toNat
    let s := s.putSat R.HOLD_FREQ_Freq (divRoundAway (r.f0Sum * 86400 + (if aged then rate * k * r.holdN else 0)) (r.holdN * 86400))
    if e > (s.get R.HOLD_LIMIT_Ns * unit : Nat) ∧ !s.is R.HOLD_STATUS_OutOfSpec then
      (s.put R.HOLD_STATUS_OutOfSpec 1).bump R.CNT_HOLD_OOS_Count
    else s
  else s).done

/-- The limits a phase step keeps at its submission (R63). -/
def phaseReqOk (r : PhaseReq) : Bool := decide (r.size.natAbs ≤ 163840000 ∧ (r.step = true → r.size.natAbs ≤ 13107200))

/-- A phase step handed to Reed: it applies at the next pick boundary (R63). -/
def State.phaseSubmit (s : State) (r : PhaseReq) : State := { s with reed := { s.reed with steps := s.reed.steps ++ [r] } }

/-- A write of PSTEP_CMD as the block applies it (R63). -/
def State.pstepApply (s : State) (v : Nat) : State :=
  if !bitOf v 0 then s
  else
    let r : PhaseReq := ⟨s.get64I R.PSTEP_LO_Step R.PSTEP_HI_Step, bitOf v 1⟩
    if phaseReqOk r then s.phaseSubmit r else (s.put R.PSTEP_STATUS_Result 2).refusedAt R.PSTEP_CMD

/-- PSTEP_GO (R63): the host submits the phase step in PSTEP_LO and PSTEP_HI. -/
def execPstepGo (v : Nat) (s : State) : Host.Outcome State Fault Refusal := s.accept (below v (2 ^ 32)) fun s =>
  (s.slow R.PSTEP_CMD (fun s => s.pstepApply v)).done

/-- A phase adjustment within its limits of ±2,500 ns (R62). -/
def phaseLimit (x : Int) : Int := max (-163840000) (min 163840000 x)

/-- One phase step taken at its boundary (R63, R68): a step above STEP_MAX is taken as a slew, and a slew adds to what remains of one in
progress. PHASE_ADJ, and where the slew will take it, are clipped to ±2,500 ns. -/
def State.phaseTake (s : State) (r : PhaseReq) : State :=
  let asSlew := r.step && decide (r.size.natAbs > s.get R.STEP_MAX_Ns * 65536)
  let now := r.step && !asSlew
  let goal := s.getI R.PHASE_ADJ_Adj + (if now then r.size else 0)
  let rest := s.reed.slewRem + (if now then 0 else r.size)
  let adj := phaseLimit goal
  let rem := phaseLimit (adj + rest) - adj
  let s := s.putSat R.PHASE_ADJ_Adj adj
  let s := { s with reed := { s.reed with slewRem := rem } }
  let s := s.putB R.PSTEP_STATUS_Slewing (decide (rem ≠ 0))
  if adj ≠ goal ∨ rem ≠ rest then (s.put R.PSTEP_STATUS_Result 1).bump R.CNT_PHASE_CLIP_Count
  else s.put R.PSTEP_STATUS_Result (if asSlew then 3 else 0)

/-- PHASE_STEP_APPLY (R63, R68): the waiting steps and slews take effect at the boundary, but not during a switch. -/
def execPhaseStepApply (s : State) : Host.Outcome State Fault Refusal := s.live fun s =>
  (if s.get R.RD_STATUS_State = 3 then s
   else
    let rs := s.reed.steps
    let s := { s with reed := { s.reed with steps := [] } }
    s.forL rs (fun r t => t.phaseTake r)).done

/-- FPO_INPUT_PULSE (R67): the error of the grid is measured at an input pulse and its removal begins. The error is in
units of 0.8 ns. -/
def execFpoInputPulse (j : Nat) (err : Int) (s : State) : Host.Outcome State Fault Refusal := s.accept (below j 4) fun s =>
  (if j < 4 ∧ s.get (R.FPO_CFG_Mode j) = 2 then
    let s := (s.putSat (R.FPO_ERR_Err j) err).put (R.FPO_STATUS_Flywheel j) 0
    let small := decide (err.natAbs * 4 ≤ s.get (R.FPO_ALIGN_AlignTol j) * 5)
    let steps := !small && s.is (R.FPO_CFG_StepAllowed j)
    let s := if small then s else s.bump (R.CNT_FPO_REALIGN_Count j)
    let s := (s.putB (R.FPO_STATUS_Aligned j) small).putB (R.FPO_STATUS_Realigning j) (!steps && decide (err ≠ 0))
    s.updFpo j (fun f => { f with step := if steps then some (err * fpoUnit) else none, slew := if steps then 0 else err * fpoUnit })
  else s).done

/-- FPO_STEP_APPLY (R67): the next pulse takes the step, and the grid is aligned. -/
def execFpoStepApply (j : Nat) (s : State) : Host.Outcome State Fault Refusal := s.accept (below j 4) fun s =>
  (match (s.fpoSt j).step with
   | some e =>
     (s.updFpo j (fun f => { f with step := none, corr := f.corr + e })).put (R.FPO_STATUS_Aligned j) 1
   | none => s).done

/-- A Rebase moves the build-out, or the holdover phase, by K picks' worth of time (R61, R68). -/
def State.reedRebase (s : State) (units : Int) : State :=
  s.put64I R.BUILDOUT_LO_Bo R.BUILDOUT_HI_Bo (s.get64I R.BUILDOUT_LO_Bo R.BUILDOUT_HI_Bo - units)

end Sys2Proof.Machine
end

