-- ==== Sys2Proof/Machine/Sdp.lean ====
section
/-!
DEFINITION. Session descriptions and their announcement (R163). Line ends, the header fields of SAP that R163 leaves to RFC 2974, and the
group's station address are the standards' (PRESUMED, notes/assumptions/29.md).
-/
namespace Sys2Proof.Machine

/-- Characters as bytes. -/
def textBytes (t : String) : List Byte := t.toList.map (fun c => BitVec.ofNat 8 c.toNat)

/-- The decimal digits of a number, least significant first, at most k. -/
def decDigits : Nat → Nat → List Byte
  | 0, _ => []
  | k + 1, n => BitVec.ofNat 8 (48 + n % 10) :: (if n < 10 then [] else decDigits k (n / 10))

/-- A number in decimal. -/
def decText (n : Nat) : List Byte := (decDigits 20 n).reverse

/-- A byte in two hexadecimal digits. -/
def hexText (b : Byte) : List Byte :=
  let d := fun (x : Nat) => BitVec.ofNat 8 (if x < 10 then 48 + x else 55 + x)
  [d (b.toNat / 16), d (b.toNat % 16)]

/-- Bytes in hexadecimal, separated by a hyphen. -/
def hyphened : List Byte → List Byte
  | [] => []
  | [b] => hexText b
  | b :: bs => hexText b ++ [0x2D#8] ++ hyphened bs

/-- An IPv4 address in dotted form. -/
def ipText (a : Nat) : List Byte :=
  decText (a / 2 ^ 24 % 256) ++ textBytes "." ++ decText (a / 2 ^ 16 % 256) ++ textBytes "." ++ decText (a / 2 ^ 8 % 256) ++ textBytes "."
    ++ decText (a % 256)

/-- P × 1,000 ÷ fs milliseconds to six decimals, with trailing zeros removed. -/
def msText (p fs : Nat) : List Byte :=
  let u := (2 * p * 1000000000 + fs) / (2 * fs)
  let frac := ((List.range 6).map (fun i => BitVec.ofNat 8 (48 + u % 1000000 / 10 ^ (5 - i) % 10))).reverse.dropWhile (fun b => decide (b = 0x30#8))
  decText (u / 1000000) ++ (if frac = [] then [] else textBytes "." ++ frac.reverse)

/-- The reference clock line's value: the selected PTP reference's grandmaster and domain, or the port's address. -/
def State.refClock (s : State) (port : Nat) : List Byte :=
  let r := s.get R.RD_STATUS_Selected
  if r < 4 then
    textBytes "ptp=IEEE1588-2008:" ++ hyphened (beBytes 8 (s.refSt r).gm) ++ textBytes ":" ++ decText (s.ptpDomain r)
  else textBytes "localmac=" ++ hyphened (beBytes 6 (s.station port 0))

/-- The lowest port of a mask. -/
def lowPort (m : Nat) : Nat := ((List.range 4).find? (fun n => bitOf m n)).getD 0

/-- The session description of stream i of these words, as sent from a port's address (R163). -/
def State.sdpOf (s : State) (i : Nat) (ws : List (BitVec 32)) (port : Nat) : List Byte :=
  let line := fun (b : List Byte) => b ++ [0x0D#8, 0x0A#8]
  let t := textBytes
  let pt := decText (txF ws R.TX_CTRL_PayloadType)
  let time := msText (txPeriod ws) s.fs
  let x := txF ws R.TX_SEQ_DigestExtId
  let da := txF ws R.TX_KEY0_Key0
  line (t "v=0")
  ++ line (t "o=wedirax " ++ decText (s.obj 0x1200 0 * 65536 + i) ++ t " " ++ decText (s.txs i).sdpVersion ++ t " IN IP4 " ++ ipText (s.get (R.PORT_IP_Addr port)))
  ++ line (t "s=" ++ s.blob (0x4130 + i / 128) (i % 128 + 1))
  ++ line (t "c=IN IP4 " ++ ipText da ++ (if 224 ≤ da / 2 ^ 24 ∧ da / 2 ^ 24 < 240 then t "/" ++ decText (txF ws R.TX_L3_Ttl) else []))
  ++ line (t "t=0 0")
  ++ line (t "m=audio " ++ decText (txF ws R.TX_KEY1_Key1 % 65536) ++ t " RTP/AVP " ++ pt)
  ++ line (t "a=rtpmap:" ++ pt ++ t " L" ++ decText (8 * fmtBytes (txF ws R.TX_CTRL_Format)) ++ t "/" ++ decText s.fs ++ t "/" ++ decText (txChans ws))
  ++ line (t "a=ptime:" ++ time) ++ line (t "a=maxptime:" ++ time)
  ++ line (t "a=framecount:" ++ decText (txPeriod ws))
  ++ line (t "a=ts-refclk:" ++ s.refClock port)
  ++ line (t "a=mediaclk:direct=" ++ decText (txF ws R.TX_CLKOFF_MediaClkOffset))
  ++ (if x = 0 then [] else line (t "a=extmap:" ++ decText x ++ t " urn:x-alaner:wedirax:digest"))
  ++ line (t "a=recvonly")

/-- TxSdp (R163): none for an entry that is not a valid RTP stream. -/
def State.txSdp (s : State) (i : Nat) : List Byte :=
  let ws := (s.txs i).cfg
  if (s.txs i).valid ∧ fmtRtp (txF ws R.TX_CTRL_Format) then s.sdpOf i ws (lowPort (txF ws R.TX_CTRL_PortMask)) else []

/-- The SAP frame of stream i of these words on a port: T = 1 where `bye`. -/
def State.sapFrame (s : State) (i : Nat) (ws : List (BitVec 32)) (port : Nat) (bye : Bool) : List Byte :=
  let da := s.obj 0x41F4 0
  let src := s.get (R.PORT_IP_Addr port)
  let sap := [if bye then 0x24#8 else 0x20#8, 0#8] ++ beBytes 2 ((s.txs i).sdpVersion % 65536) ++ beBytes 4 src ++ textBytes "application/sdp" ++ [0#8]
    ++ s.sdpOf i ws port
  let ul := 8 + sap.length
  let ip := [0x45#8, 0#8] ++ beBytes 2 (20 + ul) ++ [0#8, 0#8, 0x40#8, 0#8, 255#8, 17#8, 0#8, 0#8] ++ beBytes 4 src ++ beBytes 4 da
  let frame := beBytes 6 (0x01005E000000 + da % 2 ^ 23) ++ beBytes 6 (s.station port 0) ++ beBytes 2 0x0800 ++ ip
    ++ beBytes 2 9875 ++ beBytes 2 9875 ++ beBytes 2 ul ++ [0#8, 0#8] ++ sap
  txOwn frame (s.station port 0) src true

/-- An entry of these words is announced: a valid RTP stream with Announce = 1. -/
def sapTold (ws : List (BitVec 32)) : Bool :=
  decide (txF ws R.TX_CTRL_Valid = 1) && decide (txF ws R.TX_CTRL_Announce = 1) && fmtRtp (txF ws R.TX_CTRL_Format)

/-- The message of an announced stream of these words joins the firmware's frames on each port of its mask; of a pair, only the unit that holds
the lease announces (R163). -/
def State.sapSend (s : State) (i : Nat) (ws : List (BitVec 32)) (bye : Bool) : State :=
  if !sapTold ws ∨ (s.paired ∧ ¬ s.is R.LEASE_STATUS_Holding) then s
  else s.forN 4 (fun n u =>
    if bitOf (txF ws R.TX_CTRL_PortMask) n ∧ 2 ≤ u.portState n ∧ u.portState n < 5 then u.fwBytes n (u.sapFrame i ws n bye) else u)

end Sys2Proof.Machine
end

