-- ==== Sys2Proof/Machine/Shuttle.lean ====
section
/-!
DEFINITION. Shuttle: the transmit stream table, its checks, assembly and release of packets, the digests of packets, picks and
inputs, and their comparison with the partner's (07_stream_transmit.md).
-/
namespace Sys2Proof.Machine

-- ## Configuration checks (R156)

/-- Ports named by a mask. -/
def maskCount (m : Nat) : Nat := (List.range 4).foldl (fun c i => c + (if bitOf m i then 1 else 0)) 0

/-- The Range check of R156. -/
def txRangeOk (ws : List (BitVec 32)) : Bool :=
  let m := maskCount (txF ws R.TX_CTRL_PortMask)
  decide (fmtBytes (txF ws R.TX_CTRL_Format) ≠ 0) && decide (txF ws R.TX_CTRL_Period ≤ 8)
  && decide (96 ≤ txF ws R.TX_CTRL_PayloadType) && decide (m ≤ 2) && (decide (m ≠ 0) || decide (txF ws R.TX_CTRL_Valid = 0))
  && decide (txF ws R.TX_TIMING_StreamPhase < txPeriod ws) && decide (txF ws R.TX_SEQ_DigestExtId ≠ 15)
  && decide (txF ws R.TX_L3_Ttl ≠ 0)

/-- Two entries send to one address and key (R156 DupKey). -/
def txClash (a b : List (BitVec 32)) : Bool :=
  decide (txF a R.TX_DA_LO_Addr = txF b R.TX_DA_LO_Addr ∧ txF a R.TX_DA_HI_Addr = txF b R.TX_DA_HI_Addr
    ∧ txF a R.TX_KEY0_Key0 = txF b R.TX_KEY0_Key0 ∧ txF a R.TX_KEY1_Key1 = txF b R.TX_KEY1_Key1
    ∧ (¬ fmtRtp (txF a R.TX_CTRL_Format) ∨ ¬ fmtRtp (txF b R.TX_CTRL_Format) ∨ txF a R.TX_SSRC_Ssrc = txF b R.TX_SSRC_Ssrc))

/-- An entry's words with Valid, PortMask and Announce taken from another's (R156 Running). -/
def txFree (ws from_ : List (BitVec 32)) : List (BitVec 32) :=
  [R.TX_CTRL_Valid, R.TX_CTRL_PortMask, R.TX_CTRL_Announce].foldl (fun w f => wfSet w R.TX_CTRL f (txF from_ f)) ws

/-- The check of R156 on words for entry i: a result code, 0 where it passes. -/
def State.txCheck (s : State) (i : Nat) (ws : List (BitVec 32)) : Nat :=
  let old := s.txs i
  let others := s.tx.filter (fun e => e.2.valid && decide (e.1 ≠ i))
  let c := txChans ws
  let first := txF ws R.TX_SLOT_FirstSlot
  let hi := s.ratesFor.any highRate
  let slots := if hi then 2048 else 4096
  let f := txFrameLen ws
  let t := s.updTx i (fun e => { e with cfg := ws })
  let ports := (List.range 4).filter (fun n => bitOf (txF ws R.TX_CTRL_PortMask) n)
  if !txRangeOk ws then 1
  else if txF ws R.TX_CTRL_Valid = 0 then 0
  else if others.any (fun e => txClash ws e.2.cfg) then 2
  else if first + c > slots ∨ others.any (fun e => decide (first < txF e.2.cfg R.TX_SLOT_FirstSlot + txChans e.2.cfg)
      && decide (txF e.2.cfg R.TX_SLOT_FirstSlot < first + c)) then 3
  else if others.length + 1 > (if hi then 512 else 1024) ∨ others.foldl (fun n e => n + txChans e.2.cfg) c > slots
      ∨ (hi ∧ i ≥ 512) then 4
  else if !s.queueMeets (txF ws R.TX_SLOT_Queue) 1 (2 * ceilDiv (f + 12) 124 + 1) (f + 12) then 5
  else if ports.any (fun n => decide (f > s.get (R.MAX_FRAME_Bytes n))) then 6
  else if ports.any (fun n => s.ratesFor.any (fun fs => !t.burstOk n fs (relPt s.xPlan))) then 8
  else if ports.any (fun n => s.ratesFor.any (fun fs => !t.shareOk n fs)) then 9
  else if old.valid ∧ txFree ws old.cfg ≠ old.cfg then 7
  else 0

/-- The packet being assembled is discarded (R148). -/
def State.txAbort (s : State) (i : Nat) : State :=
  match (s.txs i).asm with
  | none => s
  | some _ =>
    let q := txF (s.txs i).eff R.TX_SLOT_Queue
    ((if ((s.queue q).openOf 0).isSome then s.qDrop q 0 4 else s)).updTx i (fun e => { e with asm := none })

/-- Readers of an assembly queue that a transmit entry names: the ports in its PortMask, at least one (R153, R173, R180). -/
def State.txReaders (s : State) (ws : List (BitVec 32)) : State :=
  let q := txF ws R.TX_SLOT_Queue
  if (s.queue q).cls = 1 then s.qSetReaders q (max 1 (maskCount (txF ws R.TX_CTRL_PortMask))) else s

/-- The words last written come into force at index n: a stream starts or stops at whole packets, and the assembly queue gets
its readers (R22, R148, R153). Words that change what only an entry with Valid = 0 may change stop the stream and start it again. -/
def State.txTake (s : State) (i n : Nat) : State :=
  let e := s.txs i
  if e.eff = e.cfg then s
  else
    let was := decide (txF e.eff R.TX_CTRL_Valid = 1) && decide (e.valid = false ∨ txFree e.cfg e.eff = e.eff)
    let s := if ¬ (was ∧ e.valid) then s.txAbort i else s
    let s := s.updTx i (fun e => { e with
      eff := e.cfg, since := if e.valid then (if was then e.since else some n) else none,
      running := e.running && e.valid })
    s.txReaders e.cfg

/-- Words that passed the check are stored in entry i. A change counts in the session's version; of a stream that was announced and is no
longer, the message with T = 1 is sent, as the stream was (R163). -/
def State.txStore (s : State) (i : Nat) (ws : List (BitVec 32)) : State :=
  let s := if sapTold ws then s else s.sapSend i (s.txs i).cfg true
  let s := s.updTx i (fun e => { e with cfg := ws, sdpVersion := if e.cfg = ws then e.sdpVersion else e.sdpVersion + 1 })
  let s := s.txReaders ws
  s.streamStatus

/-- Words checked and, where they pass, stored: the result code and the state. -/
def State.txWrite (s : State) (i : Nat) (ws : List (BitVec 32)) : Nat × State :=
  let c := s.txCheck i ws
  (c, if c = 0 then s.txStore i ws else s)

-- ## Frames (R40, R149 to R152)

/-- The sequence number of the packet that begins at index n0 (R40). -/
def txSeq (ws : List (BitVec 32)) (n0 : Nat) : Nat :=
  (n0 / txPeriod ws + txF ws R.TX_SEQ_SeqOffset) % (if fmtRtp (txF ws R.TX_CTRL_Format) then 65536 else 256)

/-- The frame of a packet, with source addresses and the checksums that cover them 0: the sending port fills those (R152). -/
def txFrame (ws : List (BitVec 32)) (fs unit n0 digest : Nat) (payload : List Byte) : List Byte :=
  let f := txF ws R.TX_CTRL_Format
  let len := txChans ws * txPeriod ws * fmtBytes f
  let da := beBytes 6 (addr48 (txF ws R.TX_DA_LO_Addr) (txF ws R.TX_DA_HI_Addr))
  let tag := if txF ws R.TX_L3_Tagged = 1 then beBytes 2 0x8100 ++ beBytes 2 (txF ws R.TX_L3_Pcp * 8192 + txF ws R.TX_L3_Vid) else []
  let eth := da ++ List.replicate 6 0#8 ++ tag
  let x := txF ws R.TX_SEQ_DigestExtId
  let ext := if x = 0 then [] else
    beBytes 2 0xBEDE ++ beBytes 2 2 ++ beBytes 1 (x * 16 + 5) ++ beBytes 4 digest ++ beBytes 2 unit ++ [0#8]
  if fmtRtp f then
    let rtp := beBytes 1 (0x80 + (if x = 0 then 0 else 0x10)) ++ beBytes 1 (txF ws R.TX_CTRL_PayloadType)
      ++ beBytes 2 (txSeq ws n0) ++ beBytes 4 ((n0 + txF ws R.TX_CLKOFF_MediaClkOffset) % 2 ^ 32)
      ++ beBytes 4 (txF ws R.TX_SSRC_Ssrc) ++ ext
    let ul := 8 + rtp.length + len
    let ip := [0x45#8] ++ beBytes 1 (txF ws R.TX_L3_Dscp * 4) ++ beBytes 2 (20 + ul) ++ [0#8, 0#8, 0x40#8, 0#8]
      ++ beBytes 1 (txF ws R.TX_L3_Ttl) ++ [17#8, 0#8, 0#8, 0#8, 0#8, 0#8, 0#8] ++ beBytes 4 (txF ws R.TX_KEY0_Key0)
    let k1 := txF ws R.TX_KEY1_Key1
    eth ++ beBytes 2 0x0800 ++ ip ++ beBytes 2 (k1 / 65536) ++ beBytes 2 (k1 % 65536) ++ beBytes 2 ul ++ [0#8, 0#8] ++ rtp ++ payload
  else
    eth ++ beBytes 2 0x22F0 ++ [2#8, 0x81#8] ++ beBytes 1 (txSeq ws n0) ++ [0#8]
      ++ beBytes 8 (addr48 (txF ws R.TX_KEY0_Key0) (txF ws R.TX_KEY1_Key1))
      ++ beBytes 4 (boundary fs (n0 + txF ws R.TX_TIMING_TxPresentPicks) / 65536 % 2 ^ 32)
      ++ beBytes 1 (aafFormat f) ++ beBytes 2 (nsrOf fs * 4096 + txChans ws) ++ beBytes 1 (8 * fmtBytes f) ++ beBytes 2 len
      ++ [0#8, 0#8] ++ payload

-- ## Assembly and release (R145 to R148, R153)

/-- The words of an assembly item after its length slot (R176). -/
def txItem (m digest stream : Nat) (frame : List Byte) : List (BitVec 32) :=
  [BitVec.ofNat 32 m, BitVec.ofNat 32 digest, BitVec.ofNat 32 stream]
    ++ wordsOf (frame ++ List.replicate ((4 - frame.length % 4) % 4) 0#8)

/-- The open item's words from the first after the slot on. -/
def Queue.patchOpen (v : Queue) (ws : List (BitVec 32)) : Queue :=
  match v.openOf 0 with
  | some i =>
    let k := i.start + 1 - v.base
    { v with data := v.data.take k ++ ws ++ v.data.drop (k + ws.length) }
  | none => v

/-- The samples of index n of an entry, as they are sent (R146). -/
def State.txSamples (s : State) (ws : List (BitVec 32)) : List Byte :=
  (List.range (txChans ws)).flatMap (fun k =>
    sampleBytes (fmtBytes (txF ws R.TX_CTRL_Format)) (tget 0#32 s.dst (txF ws R.TX_SLOT_FirstSlot + k)))

/-- A complete packet is committed and released in pick m to the ports that carry it (R147, R153); answers its digest. -/
def State.txRelease (s : State) (i n0 m : Nat) (payload : List Byte) : Nat × State :=
  let ws := (s.txs i).eff
  let q := txF ws R.TX_SLOT_Queue
  let digest := crc32c payload
  let frame := txFrame ws s.fs (s.get R.SH_UNIT_Unit) n0 digest payload
  let s := s.setQueue q ((s.queue q).patchOpen (txItem m digest i frame))
  let mask := txF ws R.TX_CTRL_PortMask
  let need := (List.range 4).foldl (fun w n => if bitOf mask n ∧ s.carries n then w + 2 ^ n else w) 0
  let down := (List.range 4).foldl (fun w n => if bitOf mask n ∧ ¬ s.carries n then w + 1 else w) 0
  let s := (s.qCommitFor q 0 (16 + frame.length) need).qFreeDone q 1
  let s := s.updTx i (fun e =>
    let e := { e.bump 0 with asm := none, running := true, lastSeq := txSeq ws n0, lastDigest := digest }
    (List.range down).foldl (fun e _ => e.bump 3) e)
  (digest, s)

/-- The index that the packet an entry is assembling takes next (R147). -/
def TxStream.wants (e : TxStream) : Option Nat :=
  e.asm.map (fun a => a.1 + a.2.length / max 1 (txChans e.eff * fmtBytes (txF e.eff R.TX_CTRL_Format)))

/-- One entry's part of a mix phase: the samples of index n are assembled, and the packet they complete is released in pick
n + 1. A packet holds consecutive indices only: one whose next index is not n, and one being assembled while Shuttle is disabled, is
discarded (R147). Answers the digest of a packet released. -/
def State.txEntry (s : State) (i n : Nat) : Option Nat × State :=
  let e := s.txs i
  let ws := e.eff
  let p := txPeriod ws
  if txF ws R.TX_CTRL_Valid = 0 ∨ p = 0 ∨ ¬ s.is R.SH_CTRL_Enable then (none, s.txAbort i)
  else
    let q := txF ws R.TX_SLOT_Queue
    let s := if e.wants = some n then s else s.txAbort i
    let begins := decide (n % p = txF ws R.TX_TIMING_StreamPhase) && (match e.since with
      | some k => decide (k ≤ n)
      | none => false)
    let s := if begins then
        match (s.txAbort i).qStart q 0 with
        | some t => t.updTx i (fun e => { e with asm := some (n, []) })
        | none => (s.txAbort i).updTx i (fun e => e.bump 2)
      else s
    match (s.txs i).asm with
    | none => (none, s)
    | some (n0, sofar) =>
      let payload := sofar ++ s.txSamples ws
      let whole := decide (n + 1 = n0 + p)
      let frame := txFrame ws s.fs (s.get R.SH_UNIT_Unit) n0 0 payload
      let item := txItem (n0 + p) 0 i (if whole then frame else frame.take (frame.length / 4 * 4))
      match (s.queue q).openOf 0 with
      | none => (none, s.updTx i (fun e => { e with asm := none }))
      | some j =>
        match s.qFill q 0 (16 + frame.length) (item.drop (j.words - 1)) with
        | (.ok, t) =>
          if whole then
            let (d, t) := t.txRelease i n0 (n + 1) payload
            (some d, t)
          else (none, t.updTx i (fun e => { e with asm := some (n0, payload) }))
        | (r, t) => (none, (t.qDropAs q 0 r).updTx i (fun e => { (if r = .noQuota then e.bump 2 else e) with asm := none }))

/-- The picks have been renumbered and k is the first index of the new numbers: partial packets are discarded, the next packet follows R40 at
the new numbers (R46, R47, R164), and digests that wait under old numbers are not compared. -/
def State.txRenumber (s : State) (k : Nat) : State :=
  let s := s.forL s.tx (fun x t => (t.txAbort x.1).updTx x.1 (fun e => { e with since := e.since.map (fun _ => k) }))
  let s := s.forN 4 (fun n t => t.updPort n (fun p => { p with ctPick := none }))
  { s with dig := { s.dig with ownOut := [], parOut := [], ownIn := [], parIn := [], asked := [] }, sv := { s.sv with since := k } }

-- ## Pair digests (R158 to R162)

/-- SELVEDGE is up and digests are exchanged (R160). -/
def State.pdRuns (s : State) : Bool := decide (s.get R.SV_STATUS_State = 2) && s.is R.PD_CTRL_Exchange

/-- PD_STATUS.Paused follows the link and PD_CTRL; a pause discards held values uncompared, and exchange resumes at the first pick after it
(R160, R164). -/
def State.pdUpdate (s : State) : State :=
  if s.pdRuns then
    if s.is R.PD_STATUS_Paused then { s.put R.PD_STATUS_Paused 0 with sv := { s.sv with since := s.time.pick + 1 } } else s
  else { s.put R.PD_STATUS_Paused 1 with dig := { s.dig with ownOut := [], parOut := [], ownIn := [], parIn := [], asked := [] } }

/-- A record for the pair mismatch log; the newest is dropped where it is full (R161). -/
def State.pmRecord (s : State) (r : PmRec) : State :=
  if s.pmLog.length ≥ 16 then s.bump R.CNT_PMLOG_LOST_Count else { s with pmLog := s.pmLog ++ [r] }

/-- The comparison restarts from agreement (R162). -/
def State.agreePoint (s : State) : State := { s with dig := { s.dig with judged := false, inSeen := [] } }

/-- A receiver has found copies of this pair's streams to differ, by the unit numbers they carry, while no Output record has come since the
point of agreement: the pick digests are equal, so the cause is Transport (R162). -/
def State.judgeTransport (s : State) (units : List Nat) : State :=
  let mine := units.any (fun u => decide (u = s.get R.SH_UNIT_Unit ∨ u = s.get R.SV_PARTNER_Unit))
  if s.pdRuns ∧ mine ∧ ¬ s.dig.judged ∧ s.dig.asked = [] ∧ s.obj 0x41F7 0 = 0 then s.setObj 0x41F7 0 3 else s

/-- DivergenceCause at the first Output record after a period of agreement (R162). -/
def State.judge (s : State) (m : Nat) : State :=
  if s.dig.judged then s
  else { s.setObj 0x41F7 0 (if s.dig.inSeen.any (fun n => decide (n + 1 ≤ m)) then 1 else 2) with dig := { s.dig with judged := true } }

/-- Own and partner's pick digests of pick m, where both are present (R160). -/
def State.pairOut (s : State) (m : Nat) : State :=
  let a := s.dig.ownOut.find? (fun e => decide (e.1 = m))
  let b := s.dig.parOut.find? (fun e => decide (e.1 = m))
  match a, b with
  | some (_, x), some (_, y) =>
    let d := { s.dig with ownOut := s.dig.ownOut.filter (fun e => decide (e.1 ≠ m)), parOut := s.dig.parOut.filter (fun e => decide (e.1 ≠ m)) }
    if x = y then { s with dig := d }
    else ({ s with dig := { d with asked := d.asked ++ [m] } }.bump R.CNT_PAIR_OUT_MM_Count).send (.svCtrl (.digestAsk m))
  | _, _ => s

/-- Own and partner's input digests of index n, where both are present (R160). -/
def State.pairIn (s : State) (n : Nat) : State :=
  match s.dig.ownIn.find? (fun e => decide (e.1 = n)), s.dig.parIn.find? (fun e => decide (e.1 = n)) with
  | some (_, xs), some (_, ys) =>
    let d := { s.dig with ownIn := s.dig.ownIn.filter (fun e => decide (e.1 ≠ n)), parIn := s.dig.parIn.filter (fun e => decide (e.1 ≠ n)) }
    let diff := (List.range 105).filter (fun b => match xs.find? (fun e => decide (e.1 = b)), ys.find? (fun e => decide (e.1 = b)) with
      | some x, some y => decide (x.2 ≠ y.2)
      | _, _ => false)
    match diff with
    | [] => { s with dig := d }
    | b :: _ => ({ s with dig := { d with inSeen := d.inSeen ++ [n] } }.bump R.CNT_PAIR_IN_MM_Count).pmRecord
        { input := true, block := b, pick := n, first := 0, count := 0 }
  | _, _ => s

/-- The partner's packet digests of pick m complete an Output record (R160, R162). -/
def State.pairAnswer (s : State) (m : Nat) (theirs : Option (List (Nat × Nat))) : State :=
  if !s.dig.asked.contains m then s
  else
    let s := { s with dig := { s.dig with asked := s.dig.asked.filter (fun k => decide (k ≠ m)) } }
    let mine := s.dig.hist.find? (fun e => decide (e.1 = m))
    match theirs, mine with
    | some ys, some (_, xs) =>
      let ids := (List.range 1024).filter (fun i => decide (xs.find? (fun e => decide (e.1 = i)) ≠ ys.find? (fun e => decide (e.1 = i))))
      (s.pmRecord { input := false, block := 0, pick := m, first := ids.headD 0xFFFF, count := ids.length }).judge m
    | _, _ => (s.pmRecord { input := false, block := 0, pick := m, first := 0xFFFF, count := 0 }).judge m

/-- The input digest of block b: CRC-32C over its 64 slot values (R159). -/
def State.inputDigest (s : State) (b : Nat) : Nat :=
  crc32c ((List.range 64).flatMap (fun k => beBytes 4 (tget 0#32 s.src (64 * b + k)).toNat))

/-- The input digests of index n (R159): those of every block go into the Beat of pick n, those of the blocks of IDIG_MASK are
compared with the partner's (R160, R301). -/
def State.inputPass (s : State) (n : Nat) : State :=
  if s.get R.SV_STATUS_State = 0 then s
  else
    let all := (List.range 105).map (fun b => (b, s.inputDigest b))
    let s := { s with dig := { s.dig with last := some (n, all) } }
    if !s.pdRuns ∨ n < s.sv.since then s
    else
      let ds := all.filter (fun e => bitOf (s.get (R.IDIG_MASK_Mask (e.1 / 32))) (e.1 % 32))
      ({ s with dig := { s.dig with ownIn := s.dig.ownIn ++ [(n, ds)] } } : State).pairIn n

/-- The packets released in pick m, by stream, with their digests (R158): history, pick digest, exchange. -/
def State.outputPass (s : State) (m : Nat) (ps : List (Nat × Nat)) : State :=
  let tw := ps.filter (fun p => decide (txF (s.txs p.1).eff R.TX_CTRL_TwillTx = 1))
  if tw = [] then s
  else
    let s := { s with dig := { s.dig with hist := ((m, tw) :: s.dig.hist).take 16 } }
    if !s.pdRuns ∨ m < s.sv.since then s
    else
      let d := crc32c (tw.flatMap (fun p => beBytes 2 p.1 ++ beBytes 4 p.2))
      ({ s with dig := { s.dig with ownOut := s.dig.ownOut ++ [(m, d)] } } : State).pairOut m

/-- Shuttle's part of the mix phase of pick n + 1, which computed index n: words in force, assembly in ascending stream number,
digests (R22, R145 to R148, R158). -/
def State.shuttlePass (s : State) (n : Nat) : State :=
  let (ps, s) := s.tx.foldl (fun (acc : List (Nat × Nat) × State) x =>
    let t := acc.2.txTake x.1 n
    match t.txEntry x.1 n with
    | (some d, u) => (acc.1 ++ [(x.1, d)], u)
    | (none, u) => (acc.1, u)) ([], s)
  s.outputPass (n + 1) ps

/-- DIGEST_MISSING: one side of a pick or index is absent after 64 picks (R160). -/
def execDigestMissing (pick : Nat) (s : State) : Host.Outcome State Fault Refusal := s.live fun s =>
  let d := s.dig
  let keep := fun {α : Type} (l : List (Nat × α)) => l.filter (fun e => decide (e.1 ≠ pick))
  let held := (d.ownOut.length + d.parOut.length + d.ownIn.length + d.parIn.length)
  let d' := { d with ownOut := keep d.ownOut, parOut := keep d.parOut, ownIn := keep d.ownIn, parIn := keep d.parIn }
  let left := (d'.ownOut.length + d'.parOut.length + d'.ownIn.length + d'.parIn.length)
  (if left < held ∧ pick + 64 ≤ s.time.pick then { s with dig := d' }.bump R.CNT_DIG_MISSING_Count else s).done

-- ## The window (R156, R165)

/-- ST_CMD.Read: the windows are loaded from the selected entry. -/
def State.stLoad (s : State) : State :=
  let e := s.txs (s.get R.ST_SEL_Stream)
  let s := s.wrWords R.TX_CTRL e.cfg
  let s := s.put R.ST_STATE_State (if e.valid then (if e.running then 2 else 1) else 0)
  let s := (s.put R.ST_LAST_SEQ_Seq e.lastSeq).put R.ST_LAST_DIGEST_Digest e.lastDigest
  s.forN 6 (fun k t => t.put (R.ST_CNT_Count k) (tget 0 e.cnt k))

/-- A result of a ST_CMD command. -/
def State.stResult (s : State) (c : Nat) : State := s.resultErr R.ST_RESULT_Code R.ST_RESULT_Seq R.ST_CMD c

/-- ST_CMD.Write. -/
def State.stStoreCmd (s : State) : State :=
  let (c, s) := s.txWrite (s.get R.ST_SEL_Stream) (s.rdWords R.TX_CTRL 16)
  (if c = 0 then s.mark (tableKey 1 (s.get R.ST_SEL_Stream)) else s).stResult c

/-- ST_CMD.ClearCnt. -/
def State.stClearCmd (s : State) : State := (s.updTx (s.get R.ST_SEL_Stream) (fun e => { e with cnt := [] })).stResult 0

/-- ST_READ. -/
def execStRead (s : State) : Host.Outcome State Fault Refusal := s.live fun s => (s.stLoad.stResult 0).done

/-- ST_WRITE. -/
def execStWrite (s : State) : Host.Outcome State Fault Refusal := s.live fun s => s.stStoreCmd.done

/-- ST_CLEAR_CNT. -/
def execStClearCnt (s : State) : Host.Outcome State Fault Refusal := s.live fun s => s.stClearCmd.done

/-- A read of PM_INFO: the word read, and the state after the pop (R161). -/
def State.pmPop (s : State) : Nat × State :=
  match s.pmLog with
  | [] => (0, s)
  | r :: rs =>
    let s := { s with pmLog := rs }
    let s := s.put64 R.PM_PICK_LO_Pick R.PM_PICK_HI_Pick r.pick
    (1 + (if r.input then 2 else 0) + r.block * 4,
     (s.put R.PM_STREAMS_FirstStream r.first).put R.PM_STREAMS_Count r.count)

/-- PM_INFO_POP. -/
def execPmInfoPop (s : State) : Host.Outcome State Fault Refusal := s.live fun s =>
  let (w, s) := s.pmPop
  (s.send (.readData R.PM_INFO w)).done

end Sys2Proof.Machine
end

