-- ==== Sys2Proof/Machine/Warp.lean ====
section
/-!
DEFINITION. Warp: the receive stream table, its checks, placing and merging received copies, the Twill check, concealment and
measurements (06_stream_receive.md).
-/
namespace Sys2Proof.Machine

-- ## Configuration checks (R139, R140)

/-- E: the cells an item of the entry takes (R140). -/
def seItemCells (ws : List (BitVec 32)) : Nat := ceilDiv (16 + 4 * seChans ws * sePeriod ws) 124

/-- The least quota of an entry's jitter queue: I × E + 1 (R140). -/
def seQuota (ws : List (BitVec 32)) : Nat :=
  ((seF ws R.SE_TIMING_PresentOffset + seF ws R.SE_TIMING_EarlyTol) / sePeriod ws + 2) * seItemCells ws + 1

/-- The Range check of R139. -/
def seRangeOk (ws : List (BitVec 32)) : Bool :=
  let f := seF ws R.SE_CTRL_Format
  let x := seF ws R.SE_TWILL_DigestExtId
  let v := decide (seF ws R.SE_TWILL_VerifyDigest = 1)
  decide (fmtBytes f ≠ 0) && decide (seF ws R.SE_CTRL_Period ≤ 8) && decide (seF ws R.SE_CTRL_ConcealMode ≠ 3)
  && decide (seF ws R.SE_TIMING_ConcealLen ≠ 0) && decide (x ≠ 15)
  && (if fmtRtp f then decide (seF ws R.SE_KEY1_Key1 < 65536) else decide (seF ws R.SE_CLKOFF_Offset < 4096))
  && !(v && (decide (x = 0) || !fmtRtp f))

/-- Two entries could match one frame (R139 DupKey). -/
def seClash (a b : List (BitVec 32)) : Bool :=
  decide (seF a R.SE_DA_LO_Addr = seF b R.SE_DA_LO_Addr ∧ seF a R.SE_DA_HI_Addr = seF b R.SE_DA_HI_Addr
    ∧ seF a R.SE_KEY0_Key0 = seF b R.SE_KEY0_Key0 ∧ seF a R.SE_KEY1_Key1 = seF b R.SE_KEY1_Key1
    ∧ (seF a R.SE_CTRL_SsrcMatch = 0 ∨ seF b R.SE_CTRL_SsrcMatch = 0 ∨ seF a R.SE_SSRC_Ssrc = seF b R.SE_SSRC_Ssrc))

/-- Two slot ranges overlap. -/
def overlap (a n b m : Nat) : Bool := decide (a < b + m ∧ b < a + n)

/-- An entry's words with the fields that may change while it is valid taken from another's (R139 Running). -/
def seFree (ws from_ : List (BitVec 32)) : List (BitVec 32) :=
  [R.SE_CTRL_PortMask, R.SE_TIMING_PresentOffset, R.SE_TIMING_EarlyTol, R.SE_CTRL_ConcealMode, R.SE_TIMING_ConcealLen,
   R.SE_TWILL_TwillEnable, R.SE_TWILL_ExpectPair, R.SE_MARK_Absent].foldl (fun w f => wfSet w R.SE_CTRL f (seF from_ f)) ws

/-- The check of R139 on words for entry i: a result code, 0 where it passes. -/
def State.seCheck (s : State) (i : Nat) (ws : List (BitVec 32)) : Nat :=
  let old := s.rxs i
  let others := s.rx.filter (fun e => e.2.valid && decide (e.1 ≠ i))
  let c := seChans ws
  let first := seF ws R.SE_SLOT_FirstSlot
  let hi := s.ratesFor.any highRate
  let slots := if hi then 2048 else 4096
  let len := 16 + 4 * c * sePeriod ws
  let wire := c * sePeriod ws * fmtBytes (seF ws R.SE_CTRL_Format) + (if fmtRtp (seF ws R.SE_CTRL_Format) then 82 else 46)
  if !seRangeOk ws then 1
  else if seF ws R.SE_CTRL_Valid = 0 then 0
  else if others.any (fun e => seClash ws e.2.cfg) then 2
  else if first + c > slots ∨ others.any (fun e => overlap first c (seF e.2.cfg R.SE_SLOT_FirstSlot) (seChans e.2.cfg)) then 3
  else if others.length + 1 > (if hi then 512 else 1024) ∨ others.foldl (fun n e => n + seChans e.2.cfg) c > slots
      ∨ (hi ∧ i ≥ 512) then 4
  else if !s.queueMeets (seF ws R.SE_SLOT_Queue) 0 (seQuota ws) len then 5
  else if (List.range 4).any (fun n => bitOf (seF ws R.SE_CTRL_PortMask) n && decide (wire > s.get (R.MAX_FRAME_Bytes n))) then 6
  else if old.valid ∧ seFree ws old.cfg ≠ old.cfg then 7
  else 0

-- ## Taking a configuration into force (R22, R136, R137)

/-- The placement index of a jitter item (R176). -/
def Queue.itemIndex (v : Queue) (j : QItem) : Int := toSigned 64 ((v.word (j.start + 1)).toNat + (v.word (j.start + 2)).toNat * 2 ^ 32)

/-- Held items are placed again with the offset moved by d (R137). -/
def Queue.shift (v : Queue) (d : Int) : Queue :=
  v.items.foldl (fun v j =>
    if !QItem.done j then v
    else
      let n := ofSigned 64 (v.itemIndex j + d)
      (v.setWord (j.start + 1) (BitVec.ofNat 32 n)).setWord (j.start + 2) (BitVec.ofNat 32 (n / 2 ^ 32))) v

/-- The entry's run state is forgotten (R136). -/
def RxStream.clear (e : RxStream) (state : Nat) : RxStream :=
  { e with state := state, high := none, win := [], last := none, got := none, gotIdx := [], lossRun := 0, noMiss := 0 }

/-- The jitter queue of an entry's words is flushed (R136). -/
def State.jitterFlush (s : State) (ws : List (BitVec 32)) : State :=
  let q := seF ws R.SE_SLOT_Queue
  if (s.queue q).state ≠ 0 then s.qFlush q 5 else s

/-- The words last written come into force with the pass that fills index n (R22, R137), after the cues of that strobe: a change by a cue for
pick n - 1 therefore acts from index n on, because index n - 1 was filled before its commit (DESIGN CHOICE, notes/assumptions/39.md). With the
offset raised by D, indices n to n + D - 1 get no samples. Words that change what only an entry with Valid = 0 may change start it afresh. -/
def State.rxWordsTake (s : State) (i n : Nat) : State :=
  let e := s.rxs i
  if e.eff = e.cfg then s
  else
    let d : Int := (seF e.cfg R.SE_TIMING_PresentOffset : Int) - seF e.eff R.SE_TIMING_PresentOffset
    let both := decide (seF e.eff R.SE_CTRL_Valid = 1) && e.valid
    let fresh := both && decide (seFree e.cfg e.eff ≠ e.eff)
    let moved := both && !fresh && decide (d ≠ 0)
    let s := if moved then s.setQueue (seF e.cfg R.SE_SLOT_Queue) ((s.queue (seF e.cfg R.SE_SLOT_Queue)).shift d) else s
    let s := if fresh then (s.jitterFlush e.eff).updRx i (fun e => e.clear 1) else s
    s.updRx i (fun e =>
      let e := { e with eff := e.cfg }
      if moved then { e.bump 14 with noMiss := if d > 0 then n + d.toNat else e.noMiss } else e)

/-- Words that passed the check are stored in entry i: the entry goes to Waiting when Valid is written 1, and to Off with its
jitter queue flushed when it is written 0 (R136), its measurements begun again; its queue has one reader (R180). -/
def State.seStore (s : State) (i : Nat) (ws : List (BitVec 32)) : State :=
  let old := s.rxs i
  let s := s.updRx i (fun e => { e with cfg := ws })
  let now := (s.rxs i).valid
  let s := if now ∧ ¬ old.valid then s.updRx i (fun e => { e.clear 1 with meas := none, skew := 0 })
    else if old.valid ∧ ¬ now then (s.jitterFlush old.cfg).updRx i (fun e => { e.clear 0 with meas := none, skew := 0 })
    else s
  let q := seF ws R.SE_SLOT_Queue
  let s := if (s.queue q).cls = 0 then s.qSetReaders q 1 else s
  s.streamStatus

/-- Words checked and, where they pass, stored: the result code and the state. -/
def State.seWrite (s : State) (i : Nat) (ws : List (BitVec 32)) : Nat × State :=
  let c := s.seCheck i ws
  (c, if c = 0 then s.seStore i ws else s)

-- ## Reading a copy (R122 to R125)

/-- What Warp takes from a frame that matches an entry: the payload, the sequence number, the digest element, and the RTP or
AVTP timestamp, where it is valid. -/
structure RxCopy where
  payload : List Byte
  seq     : Nat
  digest  : Option (Nat × Nat)
  stamp   : Option Nat
deriving DecidableEq, Repr

/-- A frame matches an entry's words (R122). -/
def seMatch (ws : List (BitVec 32)) (n : Nat) (e : EthInfo) : Bool :=
  decide (seF ws R.SE_CTRL_Valid = 1) && bitOf (seF ws R.SE_CTRL_PortMask) n
  && decide (e.da = addr48 (seF ws R.SE_DA_LO_Addr) (seF ws R.SE_DA_HI_Addr))
  && (if fmtRtp (seF ws R.SE_CTRL_Format) then
        match udpInfo e with
        | some u => decide (u.dst = seF ws R.SE_KEY0_Key0) && decide (u.dport = seF ws R.SE_KEY1_Key1)
            && (decide (seF ws R.SE_CTRL_SsrcMatch = 0) || decide (beAt u.payload 8 4 = seF ws R.SE_SSRC_Ssrc))
        | none => false
      else decide (e.typ = 0x22F0) && decide (beAt e.body 0 1 = 2)
            && decide (avtpStreamId e.body = addr48 (seF ws R.SE_KEY0_Key0) (seF ws R.SE_KEY1_Key1)))

/-- The entry a frame on port n matches, if any, by the words in force (R142). -/
def State.seFind (s : State) (n : Nat) (e : EthInfo) : Option Nat :=
  (s.rx.find? (fun x => seMatch x.2.eff n e)).map (fun x => x.1)

/-- The checks of R124; none where the copy is bad. -/
def readCopy (ws : List (BitVec 32)) (fs : Nat) (e : EthInfo) : Option RxCopy :=
  let f := seF ws R.SE_CTRL_Format
  let size := seChans ws * sePeriod ws * fmtBytes f
  if fmtRtp f then
    match udpInfo e with
    | none => none
    | some u =>
      if !u.ipOk ∨ u.frag ∨ !u.lenOk ∨ !u.csumOk then none
      else match rtpInfo u.payload with
        | none => none
        | some r =>
          if r.version ≠ 2 ∨ (seF ws R.SE_CTRL_PtCheck = 1 ∧ r.pt ≠ seF ws R.SE_CTRL_PayloadType) ∨ r.payload.length ≠ size then none
          else some { payload := r.payload, seq := r.seq, stamp := some r.time,
                      digest := if seF ws R.SE_TWILL_DigestExtId = 0 then none else digestElem (seF ws R.SE_TWILL_DigestExtId) r.exts }
  else
    let b := e.body
    if b.length < 24 + size ∨ ¬ bitOf (beAt b 1 1) 7 ∨ bitsOf (beAt b 1 1) 4 3 ≠ 0 ∨ beAt b 16 1 ≠ aafFormat f
        ∨ beAt b 17 1 / 16 ≠ nsrOf fs ∨ beAt b 17 2 % 1024 ≠ seChans ws ∨ (f = 5 ∧ beAt b 19 1 ≠ 24) ∨ beAt b 20 2 ≠ size then none
    else some { payload := sliceB b 24 size, seq := beAt b 2 1, digest := none,
                stamp := if bitOf (beAt b 1 1) 0 then some (beAt b 12 4) else none }

/-- The value congruent to u modulo 2^32 that lies nearest to c. -/
def nearest32 (u c : Int) : Int := c + toSigned 32 (ofSigned 32 (u - c))

/-- The timestamp index of a copy (R125), `c` the pick and `ns` the TAI time in ns of the FCS result; none where an AAF copy
without timestamp follows no packet. -/
def copyIndex (ws : List (BitVec 32)) (fs : Nat) (last : Option (Nat × Int)) (x : RxCopy) (c ns : Nat) : Option Int :=
  if fmtRtp (seF ws R.SE_CTRL_Format) then
    some (nearest32 ((x.stamp.getD 0 : Nat) - (seF ws R.SE_CLKOFF_Offset : Nat)) c)
  else match x.stamp with
    | some st =>
      let tns := nearest32 st ns
      some (-(-(tns * fs) / 1000000000) - (seF ws R.SE_CLKOFF_Offset % 4096 : Nat))
    | none => match last with
      | some (q, t) => some (t + sePeriod ws * toSigned 8 (ofSigned 8 ((x.seq : Int) - q)))
      | none => none

-- ## Merge (R129 to R132)

/-- The sequence width of a format. -/
def seqBits (ws : List (BitVec 32)) : Nat := if fmtRtp (seF ws R.SE_CTRL_Format) then 16 else 8

/-- d = q − h as a signed difference in the sequence width (R129). -/
def seqDiff (w q h : Nat) : Int := toSigned w (ofSigned w ((q : Int) - h))

/-- The Twill check runs on the entry (R131). -/
def seTwill (ws : List (BitVec 32)) : Bool :=
  decide (seF ws R.SE_TWILL_TwillEnable = 1) && decide (seF ws R.SE_TWILL_DigestExtId ≠ 0) && fmtRtp (seF ws R.SE_CTRL_Format)

/-- A record for the mismatch log; the newest is dropped where it is full (R133). -/
def State.mmRecord (s : State) (r : MmRec) : State :=
  if s.mmLog.length ≥ 16 then s.bump R.CNT_MMLOG_LOST_Count else { s with mmLog := s.mmLog ++ [r] }

/-- A later copy of a marked position: its skew (R138), and the comparison of its digest where it comes from another unit
(R131). -/
def State.laterCopy (s : State) (i : Nat) (x : RxCopy) (t : Int) (arr : Nat) : State :=
  let e := s.rxs i
  match e.win.find? (fun p => decide (p.seq = x.seq)) with
  | none => s
  | some p =>
    let s := s.updRx i (fun e => { e with skew := max e.skew ((arr - p.arr) / 65536) })
    match p.digest, x.digest with
    | some (d0, u0), some (d1, u1) =>
      if !seTwill e.eff ∨ u0 = u1 ∨ p.second then s
      else
        let s := s.updRx i (fun e => { e with win := e.win.map (fun y => if WinPos.seq y = x.seq then { y with second := true } else y) })
        if d0 = d1 ∧ p.t = t then s.updRx i (fun e => e.bump 9)
        else (((s.updRx i (fun e => e.bump 10)).bump R.CNT_TWILL_MM_Count).mmRecord
          { stream := i, seq := x.seq, first := u0, second := u1, timestamp := decide (d0 = d1) }).judgeTransport [u0, u1]
    | _, _ => s

/-- Positions leave the window when h rises to q; each that saw one unit only is counted where the entry expects a pair
(R132). -/
def State.winAdvance (s : State) (i q : Nat) : State :=
  let e := s.rxs i
  match e.high with
  | none => s.updRx i (fun e => { e with high := some q })
  | some h =>
    let w := seqBits e.eff
    let up := seqDiff w q h
    let out := fun (p : WinPos) => decide (seqDiff w p.seq h - up < -63)
    let single := if seTwill e.eff ∧ seF e.eff R.SE_TWILL_ExpectPair = 1 then (e.win.filter (fun p => out p && !p.second)).length else 0
    let s := s.updRx i (fun e => { e with high := some q, win := e.win.filter (fun p => !out p) })
    s.forN single (fun _ t => (t.updRx i (fun e => e.bump 11)).bump R.CNT_TWILL_SINGLE_Count)

-- ## Placing (R126, R128, R134)

/-- Values put into source slots from a first slot on. -/
def State.srcPut (s : State) (slot : Nat) : List (BitVec 32) → State
  | [] => s
  | v :: vs => ({ s with src := tput 0#32 slot v s.src }).srcPut (slot + 1) vs

/-- Samples of index n reach an entry's slots. -/
def State.rxGot (s : State) (i n : Nat) (vs : List (BitVec 32)) : State :=
  let e := s.rxs i
  (s.srcPut (seF e.eff R.SE_SLOT_FirstSlot) vs).updRx i (fun e =>
    { e with got := some (n, vs), gotIdx := n :: (e.gotIdx.filter (fun k => decide (n < k + 64))) })

/-- A concealment value (R134): `k` picks after the sample x. -/
def conceal (mode len k : Nat) (x : BitVec 32) : BitVec 32 :=
  if k = 0 ∨ len < k ∨ mode = 0 then 0#32
  else if mode = 1 then x
  else BitVec.ofInt 32 (divRoundAway (x.toInt * ((len : Int) - k)) len)

/-- The samples of index n in a jitter item of a queue. -/
def Queue.itemFrame (v : Queue) (j : QItem) (chans period : Nat) (n : Nat) : Option (List (BitVec 32)) :=
  let k := (n : Int) - v.itemIndex j
  if 0 ≤ k ∧ k < period then some ((v.data.drop (j.start - v.base + 4 + k.toNat * chans)).take chans) else none

/-- End of index n − 1 for an entry in Running: the run of lost indices (R136) and the block check (R135). -/
def RxStream.endIndex (e : RxStream) (n1 : Nat) : RxStream :=
  if e.state ≠ 2 then e
  else
    let p := sePeriod e.eff
    let run := if e.gotIdx.contains n1 then 0 else e.lossRun + 1
    let e := { e with lossRun := run }
    if p ≠ 0 ∧ (n1 + 1) % p = e.phase % p ∧ p ≤ n1 + 1 ∧ e.noMiss ≤ n1 + 1 - p
        ∧ ¬ (List.range p).any (fun k => e.gotIdx.contains (n1 - k)) then e.bump 4 else e

/-- Words that the datapath reads with an error at a strobe have these numbers: channel k of stream i in a jitter queue; word w of a cell of
queue q, a structural one; a corrected word of a bank. Other numbers are ring words (mixDest) and delay words of the decimators. -/
def badSample (i k : Nat) : Nat := 0x40000 + 256 * i + k
def badWord (q w : Nat) : Nat := 0x80000 + 32 * q + w
def badBank (b : Nat) : Nat := 0x100000 + b

/-- Held samples of an entry, those that read with an uncorrectable error as 0 (R32, R142, R189). -/
def State.heldRead (s : State) (i q : Nat) (bad : List Nat) (vs : List (BitVec 32)) : List (BitVec 32) × State :=
  let hit := (List.range vs.length).filter (fun k => bad.contains (badSample i k))
  (hit.foldl (fun l k => setAt l k 0#32) vs, s.forL hit (fun _ t => t.qPoison q))

/-- Warp's pass after strobe n for one entry (R128): end of index n − 1, the words in force, then held samples or concealment. -/
def State.warpEntry (s : State) (i n : Nat) (bad : List Nat) : State :=
  let s := (s.updRx i (fun e => e.endIndex (n - 1))).rxWordsTake i n
  let e := s.rxs i
  if seF e.eff R.SE_CTRL_Valid = 0 then s
  else
    let q := seF e.eff R.SE_SLOT_Queue
    let v := s.queue q
    let c := seChans e.eff
    let p := sePeriod e.eff
    let held := if n < e.noMiss then [] else v.items.filterMap (fun j => if QItem.done j then v.itemFrame j c p n else none)
    let old := v.items.filter (fun j => QItem.done j && decide (v.itemIndex j + p ≤ (n : Int) + 1))
    let s := s.forL old (fun j t => match (t.queue q).items.find? (fun k => QItem.done k && decide ((t.queue q).itemIndex k = v.itemIndex j)) with
      | some k => t.qRelease q k.start
      | none => t)
    if e.state ≠ 2 then s
    else match held.getLast? with
      | some vs =>
        let (vs, s) := s.heldRead i q bad vs
        s.rxGot i n vs
      | none => match e.got with
        | some (m, xs) => s.srcPut (seF e.eff R.SE_SLOT_FirstSlot)
            (xs.map (conceal (seF e.eff R.SE_CTRL_ConcealMode) (seF e.eff R.SE_TIMING_ConcealLen) (n - m)))
        | none => s

/-- Words that Warp reads with an error in the pass: a corrected one counts for its bank, and structural ones reset their jitter queue (R188). -/
def State.warpEcc (s : State) (bad : List Nat) : State :=
  let s := s.forL (bad.filter (fun b => decide (0x100000 ≤ b ∧ b < 0x100010))) (fun b t => t.eccCorr (b - 0x100000))
  let str := (bad.filter (fun b => decide (0x80000 ≤ b ∧ b < 0xA0000))).map (fun b => ((b - 0x80000) / 32, b % 32))
  s.forL (str.map Prod.fst).eraseDups (fun q t =>
    if (t.queue q).cls = 0 ∧ (t.queue q).chain ≠ [] then t.qReset q ((str.filter (fun x => decide (x.1 = q))).map Prod.snd) else t)

/-- Warp's pass after strobe n (R128); WARP_CTRL.Enable = 0 stops it. -/
def State.warpPass (s : State) (n : Nat) (bad : List Nat) : State :=
  let s := s.warpEcc bad
  s.forL s.rx (fun x t => if t.is R.WARP_CTRL_Enable then t.warpEntry x.1 n bad else t.rxWordsTake x.1 n)

-- ## A received copy (R129, R455)

/-- Warp takes frames: enabled, and the pick counter runs (R455). -/
def State.warpRuns (s : State) : Bool :=
  s.is R.WARP_CTRL_Enable && s.time.running && s.is R.TIME_STATUS_TodValid && !s.is R.TIME_STATUS_RateSwitching

/-- Index k is in time for a copy whose FCS result falls `cclk` CCLK into pick c: no later than 15 CCLK before strobe k + 1
(R126). -/
def State.inTime (s : State) (c cclk : Nat) (k : Int) : Bool :=
  decide (k > c) || (decide (k = c) && decide (5 * boundary s.fs c + (cclk + 15) * 524288 ≤ 5 * boundary s.fs (c + 1)))

/-- An accepted copy (R126, R128, R129, R135, R136, R138): stored, marked, placed and measured. `fresh`: the window is cleared
first; `ns` and `arr` are the FCS result's time in ns and 2^-16 ns. -/
def State.rxAccept (s : State) (i : Nat) (x : RxCopy) (t a : Int) (c cclk arr : Nat) (fresh resync : Bool) : State :=
  let e := s.rxs i
  let ws := e.eff
  let p := sePeriod ws
  let chans := seChans ws
  let b := fmtBytes (seF ws R.SE_CTRL_Format)
  let vals := samplesOf b x.payload (chans * p)
  let unit := match x.digest with
    | some (_, u) => u
    | none => 0xFFFF
  let an := ofSigned 64 a
  let item := [BitVec.ofNat 32 an, BitVec.ofNat 32 (an / 2 ^ 32), BitVec.ofNat 32 (x.seq + unit * 65536)] ++ vals
  let (res, s) := if a + p - 1 > c then s.qPut (seF ws R.SE_SLOT_Queue) 0 item (16 + 4 * chans * p) 1 else (PutResult.ok, s)
  if res ≠ PutResult.ok then s.updRx i (fun e => e.bump 13)
  else
    let s := if fresh then s.updRx i (fun e => { e with win := [], high := some x.seq }) else s
    let s := if resync then s.updRx i (fun e => e.bump 6) else s
    let up := match (s.rxs i).high with
      | some h => decide (seqDiff (seqBits ws) x.seq h > 0)
      | none => true
    let s := if up then s.winAdvance i x.seq else s
    let mark : WinPos := { seq := x.seq, digest := if seTwill ws then x.digest else none, t := t, arr := arr }
    let run := decide (e.state = 2)
    let m := a % p
    let s := s.updRx i (fun e =>
      let e := { e with win := e.win ++ [mark], last := some (x.seq, t), lastSeq := (e.high.getD 0) }
      let e := e.bump 0
      let e := if s.inTime c cclk a then e else e.bump 2
      if !run then { e with state := 2, phase := m.toNat, got := none, gotIdx := [], lossRun := 0 }
      else if e.phase = m.toNat then e
      else { e.bump 12 with phase := m.toNat })
    let arrOff := ((arr : Int) - boundary s.fs t.toNat) / 65536
    let head := ((5 * boundary s.fs (a + 1).toNat : Int) - 15 * 524288 - 5 * arr) / (5 * 65536)
    let s := s.updRx i (fun e => { e with meas := match e.meas with
      | none => some { arrMin := arrOff, arrMax := arrOff, head := head }
      | some k => some { arrMin := min k.arrMin arrOff, arrMax := max k.arrMax arrOff, head := min k.head head } })
    if a ≤ c ∧ (c : Int) < a + p ∧ e.noMiss ≤ c ∧ s.inTime c cclk c then
      s.rxGot i c ((vals.drop ((c - a).toNat * chans)).take chans)
    else s

/-- STREAM_COPY_RX: a frame that matched entry i (R124 to R131), its FCS result `cclk` CCLK into the current pick. -/
def State.streamCopy (s : State) (i : Nat) (f : EthInfo) (cclk : Nat) : State :=
  let e := s.rxs i
  let ws := e.eff
  let c := s.time.pick
  let arr := boundary s.fs c + cclk * 524288 / 5
  if e.state = 0 then s
  else match readCopy ws s.fs f with
  | none => s.updRx i (fun e => e.bump 7)
  | some x =>
    let bad : Bool := match x.digest with
      | some (d, _) => decide (d ≠ crc32c x.payload)
      | none => true
    if seF ws R.SE_TWILL_VerifyDigest = 1 ∧ bad then s.updRx i (fun e => e.bump 8)
    else match copyIndex ws s.fs e.last x c (arr / 65536) with
      | none => s.updRx i (fun e => e.bump 7)
      | some t =>
        let po := seF ws R.SE_TIMING_PresentOffset
        let a := t + po
        if a - c > po + seF ws R.SE_TIMING_EarlyTol then s.updRx i (fun e => e.bump 3)
        else
          let any := s.inTime c cclk (a + sePeriod ws - 1)
          match e.high with
          | none => if any then s.rxAccept i x t a c cclk arr true false else s.updRx i (fun e => e.bump 2)
          | some h =>
            let d := seqDiff (seqBits ws) x.seq h
            if d > 0 then
              if any then s.rxAccept i x t a c cclk arr false false else s.updRx i (fun e => e.bump 2)
            else if -63 ≤ d then
              if e.win.any (fun p => decide (p.seq = x.seq)) then
                (s.updRx i (fun e => e.bump 1)).laterCopy i x t arr
              else if any then s.rxAccept i x t a c cclk arr false false else s.updRx i (fun e => e.bump 2)
            else if any then s.rxAccept i x t a c cclk arr true true else s.updRx i (fun e => e.bump 5)

/-- STREAM_LOST: a stream in Running that has passed LossPicks indices with no in-time sample is Lost (R136): the index that is being filled
reads 0. -/
def execStreamLost (i : Nat) (s : State) : Host.Outcome State Fault Refusal := s.accept (below i 1024) fun s =>
  let e := s.rxs i
  (if e.state = 2 ∧ max 1 (s.get R.LOSS_PICKS_Picks) ≤ e.lossRun ∧ !e.gotIdx.contains s.time.pick then
     ((s.srcPut (seF e.eff R.SE_SLOT_FirstSlot) (List.replicate (seChans e.eff) 0#32)).updRx i (fun e => { e with state := 3, high := none, win := [] })).bump
       R.WARP_CNT_LOST_Count
   else s).done

/-- Every valid entry goes to Waiting with its jitter queue cleared (R46, R47, R136). -/
def State.warpRestart (s : State) : State :=
  s.forL s.rx (fun x t =>
    if x.2.valid then (t.jitterFlush x.2.cfg).updRx x.1 (fun e => e.clear 1) else t)

-- ## Measurements (R138)

/-- The status registers' values at the end of an interval, and the measurement started again. -/
def RxStream.endWindow (e : RxStream) : RxStream :=
  match e.meas with
  | none => { e with stat := [0, 0, 0, 0, 0], skew := 0 }
  | some m => { e with
      stat := [ofSigned 32 m.arrMin, ofSigned 32 m.arrMax, ofSigned 32 (m.arrMax - m.arrMin), min e.skew (2 ^ 32 - 1), ofSigned 32 m.head]
      skew := 0, meas := none }

/-- What Temple keeps of an interval of a Running entry with an accepted copy: ArrMax and Headroom over the last PlanWindow (R332,
R337). -/
def State.planSeen (s : State) (i : Nat) (m : RxMeas) : State :=
  if !s.is R.TP_CTRL_Enable then s
  else
    let now := s.time.tai / unitsPerSec
    let old := (tget [] s.temple.seen i).filter (fun x => decide (now < x.1 + s.obj 0xA030 2))
    { s with temple := { s.temple with seen := tput [] i ((now, m.arrMax, m.head) :: old) s.temple.seen } }

/-- PDV_WINDOW_END: for every entry (R138); one that is not valid has accepted no copy and reports 0. -/
def execPdvWindowEnd (s : State) : Host.Outcome State Fault Refusal := s.live fun s =>
  (s.forL s.rx (fun x t =>
    let t := match x.2.meas with | some m => (if x.2.state = 2 then t.planSeen x.1 m else t) | none => t
    t.updRx x.1 RxStream.endWindow)).done

-- ## The window (R139, R143)

/-- SE_CMD.Read: the windows are loaded from the selected entry. -/
def State.seLoad (s : State) : State :=
  let e := s.rxs (s.get R.SE_SEL_Stream)
  let s := s.wrWords R.SE_CTRL e.cfg
  let s := (s.put R.SE_STATE_State e.state).put R.SE_STATE_Phase e.phase
  let s := s.wrWords R.SE_ARR_MIN (e.stat.map (BitVec.ofNat 32))
  let s := s.put R.SE_LAST_SEQ_Seq e.lastSeq
  s.forN 15 (fun k t => t.put (R.SE_CNT_Count k) (tget 0 e.cnt k))

/-- A result of a SE_CMD command. -/
def State.seResult (s : State) (c : Nat) : State := s.resultErr R.SE_RESULT_Code R.SE_RESULT_Seq R.SE_CMD c

/-- SE_CMD.Write. -/
def State.seStoreCmd (s : State) : State :=
  let (c, s) := s.seWrite (s.get R.SE_SEL_Stream) (s.rdWords R.SE_CTRL 16)
  (if c = 0 then s.mark (tableKey 0 (s.get R.SE_SEL_Stream)) else s).seResult c

/-- SE_CMD.ClearCnt. -/
def State.seClearCmd (s : State) : State := (s.updRx (s.get R.SE_SEL_Stream) (fun e => { e with cnt := [] })).seResult 0

/-- SE_READ. -/
def execSeRead (s : State) : Host.Outcome State Fault Refusal := s.live fun s => (s.seLoad.seResult 0).done

/-- SE_WRITE. -/
def execSeWrite (s : State) : Host.Outcome State Fault Refusal := s.live fun s => s.seStoreCmd.done

/-- SE_CLEAR_CNT. -/
def execSeClearCnt (s : State) : Host.Outcome State Fault Refusal := s.live fun s => s.seClearCmd.done

/-- A read of MM_INFO: the word read, and the state after the pop (R133). -/
def State.mmPop (s : State) : Nat × State :=
  match s.mmLog with
  | [] => (0, s)
  | r :: rs =>
    let s := { s with mmLog := rs }
    (r.stream + 1024 + (if r.timestamp then 2048 else 0),
     ((s.put R.MM_SEQ_Seq r.seq).put R.MM_UNITS_First r.first).put R.MM_UNITS_Second r.second)

/-- MM_INFO_POP. -/
def execMmInfoPop (s : State) : Host.Outcome State Fault Refusal := s.live fun s =>
  let (w, s) := s.mmPop
  (s.send (.readData R.MM_INFO w)).done

end Sys2Proof.Machine
end

