-- ==== Sys2Proof/Machine/BobbinCmd.lean ====
section
/-!
DEFINITION. Bobbin's commands: the queue window and its checks (R174, R185 to R187), the queue ports (R190, R191, R456), the
POOL target (R192), and Bobbin's register writes (R169 to R171, R194).
-/
namespace Sys2Proof.Machine

-- ## Requirements (R186)

/-- The requirements registered for a queue, in cells (R140, R156, R101, R109). -/
def State.queueReqs (s : State) (q : Nat) : List Nat :=
  (s.rx.filterMap (fun e => if e.2.valid ∧ seF e.2.cfg R.SE_SLOT_Queue = q then some (seQuota e.2.cfg) else none))
  ++ (s.tx.filterMap (fun e => if e.2.valid ∧ txF e.2.cfg R.TX_SLOT_Queue = q
        then some (2 * ceilDiv (txFrameLen e.2.cfg + 12) 124 + 1) else none))
  ++ ((List.range 32).filterMap (fun i => if s.is (R.PRI_CFG_UseQueue (i / 8) (i % 8)) ∧ s.get (R.PRI_CFG_RxQueue (i / 8) (i % 8)) = q
        then some (s.get (R.PFC_WM_HighCells (i / 8) (i % 8))) else none))
  ++ ((List.range 64).filterMap (fun i => if s.is (R.CT_RULE_DA_HI_Valid (i / 16) (i % 16)) ∧ s.get (R.CT_RULE_ACT_Queue (i / 16) (i % 16)) = q
        then some 0 else none))

/-- Q_OWNMIN: the largest registered requirement. -/
def State.ownMin (s : State) (q : Nat) : Nat := (s.queueReqs q).foldl max 0

/-- A cut-through rule names the queue: it is a transit queue (R173). -/
def State.isTransit (s : State) (q : Nat) : Bool :=
  (List.range 64).any (fun i => decide (s.get (R.CT_RULE_ACT_EgressMask (i / 16) (i % 16)) ≠ 0)
    && decide (s.get (R.CT_RULE_ACT_Queue (i / 16) (i % 16)) = q))

/-- The class that each requirement registered for a queue needs, and whether it needs a transit queue's CutThrough mode (R173, R186). -/
def State.queueNeeds (s : State) (q : Nat) : List (Nat × Bool) :=
  (if s.rx.any (fun e => e.2.valid && decide (seF e.2.cfg R.SE_SLOT_Queue = q)) then [(0, false)] else [])
  ++ (if s.tx.any (fun e => e.2.valid && decide (txF e.2.cfg R.TX_SLOT_Queue = q)) then [(1, false)] else [])
  ++ (if (List.range 32).any (fun i => s.is (R.PRI_CFG_UseQueue (i / 8) (i % 8)) && decide (s.get (R.PRI_CFG_RxQueue (i / 8) (i % 8)) = q))
      then [(2, false)] else [])
  ++ (if (List.range 64).any (fun i => s.is (R.CT_RULE_DA_HI_Valid (i / 16) (i % 16)) && decide (s.get (R.CT_RULE_ACT_Queue (i / 16) (i % 16)) = q))
      then [(2, true)] else [])

/-- The ports that read a queue by the entries and rules that name it; reader 0 elsewhere. -/
def State.queuePorts (s : State) (q : Nat) : Nat :=
  let tx := s.tx.filter (fun e => decide (txF e.2.cfg R.TX_SLOT_Queue = q))
  let ct := (List.range 64).filter (fun i => decide (s.get (R.CT_RULE_ACT_Queue (i / 16) (i % 16)) = q))
  if (s.queue q).cls = 1 then tx.foldl (fun w e => w ||| txF e.2.cfg R.TX_CTRL_PortMask) 0
  else if (s.queue q).cls = 2 then ct.foldl (fun w i => w ||| s.get (R.CT_RULE_ACT_EgressMask (i / 16) (i % 16))) 0
  else 0

/-- Reader 0 of a queue (Q_DEPTH): the first port that reads an Assembly or a transit queue. -/
def State.firstReader (s : State) (q : Nat) : Nat := ((List.range 4).find? (fun n => bitOf (s.queuePorts q) n)).getD 0

-- ## The queue window (R185)

/-- The descriptor that four configuration words (0x140 to 0x14C) state, over the one in force. -/
def Queue.ofWords (v : Queue) (ws : List (BitVec 32)) : Queue :=
  { v with
    enable := decide (wf ws R.Q_CFG R.Q_CFG_Enable = 1), cls := wf ws R.Q_CFG R.Q_CFG_Class,
    cutThru := decide (wf ws R.Q_CFG R.Q_CFG_Mode = 1), readers := wf ws R.Q_CFG R.Q_CFG_Readers,
    quota := wf ws R.Q_CFG R.Q_QUOTA_Quota, maxItem := wf ws R.Q_CFG R.Q_MAXITEM_Bytes, thresh := wf ws R.Q_CFG R.Q_THRESH_Words }

/-- A descriptor's configuration words. -/
def Queue.words (v : Queue) : List (BitVec 32) :=
  [BitVec.ofNat 32 ((if v.enable then 1 else 0) + v.cls * 2 + (if v.cutThru then 8 else 0) + v.readers * 16),
   BitVec.ofNat 32 v.quota, BitVec.ofNat 32 v.maxItem, BitVec.ofNat 32 v.thresh]

/-- Q_CMD acts only after the initialisation; Write and Flush only while Bobbin is enabled (R170, R185). -/
def State.bobReady (s : State) : Bool := s.is R.BOB_STATUS_InitDone && s.is R.BOB_CTRL_Enable

/-- The check of R185 on a descriptor for queue q: a result code, 0 where it passes. -/
def State.qCheck (s : State) (q : Nat) (n : Queue) : Nat :=
  let v := s.queue q
  let others := s.quotaSum - (if v.enable then v.quota else 0)
  let maxReaders := if n.cls = 1 then 2 else if n.cls = 2 then 3 else 1
  if !s.bobReady then 7
  else if n.readers = 0 ∨ maxReaders < n.readers ∨ n.maxItem < 4 ∨ 9616 < n.maxItem ∨ n.thresh = 0 ∨ 2404 < n.thresh then 1
  else if n.quota < ceilDiv n.maxItem 124 + 1 then 2
  else if others + (if n.enable then n.quota else 0) > s.linkedCells then 3
  else if n.quota < v.cells ∨ n.quota < s.ownMin q ∨ (¬ n.enable ∧ s.queueReqs q ≠ [])
      ∨ (s.queueNeeds q).any (fun e => decide (n.cls ≠ e.1) || (e.2 && !n.cutThru)) then 4
  else if n.cutThru ∧ ¬ (n.cls = 2 ∧ s.isTransit q) then 5
  else if v.enable ∧ (n.cls ≠ v.cls ∨ n.cutThru ≠ v.cutThru ∨ n.maxItem ≠ v.maxItem ∨ n.readers ≠ v.readers) then 6
  else 0

/-- A descriptor write, checked and applied (R174, R185): the result code and the state. -/
def State.qWrite (s : State) (q : Nat) (ws : List (BitVec 32)) : Nat × State :=
  let v := s.queue q
  let n := v.ofWords ws
  let c := s.qCheck q n
  if c ≠ 0 then (c, s)
  else if n.enable then (0, s.setQueue q { n with state := if v.state = 0 then 1 else v.state })
  else if v.state = 0 then (0, s.setQueue q n)
  else (0, (s.setQueue q n).qFlushAll q 5)

/-- A Flush command (R187). -/
def State.qFlushCmd (s : State) (q : Nat) : Nat × State :=
  if !s.bobReady then (7, s) else if (s.queue q).state = 0 then (0, s.setQueue q ((s.queue q).bump 5)) else (0, s.qFlushAll q 5)

/-- The windows of a queue loaded: configuration, status and counters. -/
def State.qLoad (s : State) (q : Nat) : State :=
  let v := s.queue q
  let s := s.wrWords R.Q_CFG v.words
  let s := (s.put R.Q_STATE_State v.state).putB R.Q_STATE_Open v.isOpen
  let s := (s.put R.Q_DEPTH_Words (v.depth (s.firstReader q))).put R.Q_CELLS_Cells v.cells
  let s := (s.put R.Q_ITEMS_Items (v.items.filter QItem.done).length).put R.Q_OWNMIN_Cells (s.ownMin q)
  s.forN 9 (fun k t => t.put (R.Q_CNT_Count k) (tget 0 v.cnt k))

/-- A result of a Q_CMD command. -/
def State.qResult (s : State) (c : Nat) : State :=
  s.resultErr R.Q_RESULT_Code R.Q_RESULT_Seq R.Q_CMD c (s.get R.Q_SEL_Queue)

/-- Q_CMD.Read. -/
def State.qReadCmd (s : State) : State :=
  if !s.is R.BOB_STATUS_InitDone then s.qResult 7 else (s.qLoad (s.get R.Q_SEL_Queue)).qResult 0

/-- Q_CMD.Write. -/
def State.qWriteCmd (s : State) : State :=
  let (c, s) := s.qWrite (s.get R.Q_SEL_Queue) (s.rdWords R.Q_CFG 4)
  s.pfcAll.qResult c

/-- Q_CMD.Flush. -/
def State.qFlushCommand (s : State) : State :=
  let (c, s) := s.qFlushCmd (s.get R.Q_SEL_Queue)
  s.qResult c

/-- Q_CMD.ClearCnt. -/
def State.qClearCmd (s : State) : State :=
  if !s.is R.BOB_STATUS_InitDone then s.qResult 7
  else
    let q := s.get R.Q_SEL_Queue
    (s.setQueue q { s.queue q with cnt := [] }).qResult 0

/-- Q_READ. -/
def execQRead (s : State) : Host.Outcome State Fault Refusal := s.live fun s => s.qReadCmd.done

/-- Q_WRITE. -/
def execQWrite (s : State) : Host.Outcome State Fault Refusal := s.live fun s => s.qWriteCmd.done

/-- Q_FLUSH. -/
def execQFlush (s : State) : Host.Outcome State Fault Refusal := s.live fun s => s.qFlushCommand.done

/-- Q_CLEAR_CNT. -/
def execQClearCnt (s : State) : Host.Outcome State Fault Refusal := s.live fun s => s.qClearCmd.done

/-- POOL_INIT_DONE: every word of the pool is 0 with a valid check code, and InitDone is 1 (R170). -/
def execPoolInitDone (s : State) : Host.Outcome State Fault Refusal := s.live fun s =>
  (if s.is R.BOB_STATUS_InitDone then s else { s.put R.BOB_STATUS_InitDone 1 with pool := [] }).done

/-- The end of a queue's owner scan (R174). `errs` has the link words that the scan read with an error, by cell, and whether each is
uncorrectable: a corrected one counts for its bank, and an uncorrectable one resets the queue, whose scan restarts (R188). -/
def State.qScanned (s : State) (q : Nat) (errs : List (Nat × Bool)) : State :=
  if (s.queue q).state ≠ 2 then s
  else
    let here := errs.filter (fun e => (s.queue q).reclaim.contains e.1)
    let s := s.forL (here.filter (fun e => !e.2)) (fun e t => t.eccCorr e.1)
    let bad := here.filter (fun e => e.2)
    if bad = [] then s.qReclaimed q else s.qReset q (bad.map (fun _ => 31))

/-- RECLAIM_DONE (R174). -/
def execReclaimDone (e : ScanEnd) (s : State) : Host.Outcome State Fault Refusal := s.accept (below e.q 4096) fun s =>
  ((s.qScanned e.q e.errs).pfcAll).done

-- ## Queue ports (R190, R191, R456)

/-- The queue in which a port holds its open item. -/
def State.qpHeld (s : State) (k : Nat) : Option Nat := tget none s.portOpen k

/-- A port's held item set. -/
def State.setHeld (s : State) (k : Nat) (q : Option Nat) : State := { s with portOpen := tput none k q s.portOpen }

/-- A push result in QPk_RESULT. -/
def State.qpResult (s : State) (k c : Nat) : State := s.result (R.QP_RESULT_Code k) (R.QP_RESULT_Seq k) c

/-- A write of QPk_SEL (R456). -/
def State.qpSel (s : State) (k v : Nat) : State :=
  if (s.qpHeld k).isSome then s.ignored (R.QP_SEL k) else s.put (R.QP_SEL_Queue k) v

/-- QP_SEL_WRITE. -/
def execQpSelWrite (k v : Nat) (s : State) : Host.Outcome State Fault Refusal := s.accept (below k 4 && below v (2 ^ 32)) fun s => (s.qpSel k v).done

/-- The queue a push command reaches: that of the open item, or the bound one. -/
def State.qpQueue (s : State) (k : Nat) : Nat := (s.qpHeld k).getD (s.get (R.QP_SEL_Queue k))

/-- The mark of port k's items in a queue. -/
def qpBy (k : Nat) : Nat := 8 + k

/-- Op Start (R190): one port's item at a time is open in a queue. -/
def State.qpStart (s : State) (k : Nat) : State :=
  let q := s.qpQueue k
  let v := s.queue q
  if v.cls < 2 then s.qpResult k 4
  else if v.state = 0 then s.qpResult k 5
  else if (s.qpHeld k).isSome ∨ v.items.any (fun i => !QItem.done i && decide (8 ≤ i.by_)) then s.qpResult k 3
  else match s.qStart q (qpBy k) with
    | some t => (t.setHeld k (some q)).qpResult k 0
    | none => (s.setQueue q (v.bump 2)).qpResult k 1

/-- One data word (R183, R184, R190). -/
def State.qpData (s : State) (k w : Nat) : State :=
  let q := s.qpQueue k
  let v := s.queue q
  if v.cls < 2 then s.qpResult k 4
  else if (s.qpHeld k).isNone then s.qpResult k 3
  else match v.openOf (qpBy k) with
    | none => (s.setHeld k none).qpResult k 3
    | some i =>
      if i.words + 1 > ceilDiv v.maxItem 4 then ((s.qDrop q (qpBy k) 3).setHeld k none).qpResult k 2
      else match s.qPush q (qpBy k) (BitVec.ofNat 32 w) with
        | some t => t.qpResult k 0
        | none => (s.setQueue q (v.bump 2)).qpResult k 1

/-- Op End with LastBytes (R184, R190). -/
def State.qpEnd (s : State) (k last : Nat) : State :=
  let q := s.qpQueue k
  let v := s.queue q
  if v.cls < 2 then s.qpResult k 4
  else match s.qpHeld k, v.openOf (qpBy k) with
    | some _, some i =>
      let len := if last = 0 then 4 * i.words else 4 * i.words - (4 - last)
      if len > v.maxItem then ((s.qDrop q (qpBy k) 3).setHeld k none).qpResult k 2
      else ((s.qCommit q (qpBy k) len).setHeld k none).qpResult k 0
    | _, _ => s.qpResult k 3

/-- Op Abort (R179, R190). -/
def State.qpAbort (s : State) (k : Nat) : State :=
  let q := s.qpQueue k
  if (s.queue q).cls < 2 then s.qpResult k 4
  else if (s.qpHeld k).isNone then s.qpResult k 3
  else ((s.qDrop q (qpBy k) 4).setHeld k none).qpResult k 0

/-- A write of QPk_PUSH_CMD: Op 3 is refused with a record (R190). -/
def State.qpCommand (s : State) (k v : Nat) : State :=
  let op := bitsOf v 0 2
  if op = 0 then s.qpStart k
  else if op = 1 then s.qpEnd k (bitsOf v 2 2)
  else if op = 2 then s.qpAbort k
  else (s.qpResult k 6).refusedAt (R.QP_PUSH_CMD k) 6

/-- QP_PUSH_START. -/
def execQpPushStart (k : Nat) (s : State) : Host.Outcome State Fault Refusal := s.accept (below k 4) fun s => (s.qpStart k).pfcAll.done

/-- QP_PUSH_DATA. -/
def execQpPushData (k v : Nat) (s : State) : Host.Outcome State Fault Refusal := s.accept (below k 4 && below v (2 ^ 32)) fun s => (s.qpData k v).pfcAll.done

/-- QP_PUSH_END. -/
def execQpPushEnd (k last : Nat) (s : State) : Host.Outcome State Fault Refusal := s.accept (below k 4 && below last 4) fun s => (s.qpEnd k last).done

/-- QP_PUSH_ABORT. -/
def execQpPushAbort (k : Nat) (s : State) : Host.Outcome State Fault Refusal := s.accept (below k 4) fun s => (s.qpAbort k).pfcAll.done

/-- The word a pop comes to: its number, and whether it is a length slot. -/
def Queue.atHead (v : Queue) (r : Nat) : Nat × Bool := match v.current r with
  | some i => (i.start + tget 0 v.pos r, decide (tget 0 v.pos r = 0))
  | none => (0, false)

/-- A read of QPk_POP_LO: the word read, and the state after the pop, with its tag latched (R181, R188, R189, R191). An uncorrectable length slot
or link word resets the queue and pops nothing. -/
def State.qpPop (s : State) (k : Nat) (ecc : Ecc) : Nat × State :=
  let q := s.get (R.QP_SEL_Queue k)
  let nv := fun (t : State) => (0, t.put (R.QP_POP_HI_Tag k) 0x80)
  if (s.queue q).cls < 2 then nv (s.refusedAt (R.QP_POP_LO k) 4)
  else match s.qPop q 0 with
    | none => nv s
    | some (w, tag, at_, t) =>
      let cell := (s.queue q).cellAt at_
      match ecc with
      | .clean => (w.toNat, (t.put (R.QP_POP_HI_Tag k) tag).pfcAll)
      | .corrected => (w.toNat, ((t.eccCorr cell.1).put (R.QP_POP_HI_Tag k) tag).pfcAll)
      | .bad =>
        if ((s.queue q).atHead 0).2 then nv ((s.qReset q [cell.2]).pfcAll)
        else (w.toNat, ((t.qPoison q).put (R.QP_POP_HI_Tag k) (tag + 0x10)).pfcAll)
      | .link => nv ((s.qReset q [31]).pfcAll)

/-- QP_POP. -/
def execQpPop (k : Nat) (ecc : Ecc) (s : State) : Host.Outcome State Fault Refusal := s.accept (below k 4) fun s =>
  let (w, s) := s.qpPop k ecc
  (s.send (.readData (R.QP_POP_LO k) w)).done

-- ## The POOL target (R192)

/-- The number of BUSMX in an error record (R388). -/
def busBlock : Nat := 4

/-- An access error: a record of the access (R388, R389). -/
def State.accErr (s : State) (a : BusAcc) (code detail : Nat) (block : Nat := busBlock) : State :=
  s.report { code := code, block := block, write := a.write, addr := a.addr, detail := detail, master := some (a.master, a.id) }

/-- The response to an access. -/
def State.reply (s : State) (a : BusAcc) (err : Bool) (data : Nat := 0) : State := s.send (.busReply a.master a.id err data)

/-- The position of an element. -/
def posOf (x : Nat) : List Nat → Nat → Option Nat
  | [], _ => none
  | y :: ys, i => if x = y then some i else posOf x ys (i + 1)

/-- The queue that holds a cell in its chain, and the cell's place there. -/
def State.cellHome (s : State) (cell : Nat) : Option (Nat × Nat) :=
  s.queues.findSome? (fun e => (posOf cell e.2.chain 0).map (fun k => (e.1, k)))

/-- A cell that a Host queue holds, in its chain or awaiting reclaim (R183, R192). -/
def State.hostCell (s : State) (cell : Nat) : Bool :=
  s.queues.any (fun e => decide (e.2.cls = 3) && (e.2.chain.contains cell || e.2.reclaim.contains cell))

/-- A word of the pool: payload words of a held cell are in its queue, and its link word is the chain's, or the word that the POOL target has
written there; a tail's undefined Next is a free value (R168, R192). -/
def State.poolWord (s : State) (cell w : Nat) : BitVec 32 × State :=
  match s.cellHome cell with
  | some (q, k) =>
    let v := s.queue q
    if w < 31 then
      ((if 31 * k + w < v.data.length then v.data.getD (31 * k + w) 0#32 else Memory.readWord s.pool (cell * 128 + 4 * w)), s)
    else
      let next := v.chain[k + 1]?
      if next.isSome then (v.linkOf cell next 0, s)
      else
        let (f, t) := s.free
        (v.linkOf cell none f.toNat, t)
  | none => (Memory.readWord s.pool (cell * 128 + 4 * w), s)

/-- A word of the pool written by the POOL target (R192): a free linked cell, or a cell a Host queue holds; none where the write is denied.
A link word written into a cell of a chain reads back, and the chain stays as Bobbin keeps it (DESIGN CHOICE, notes/assumptions/44.md). -/
def State.poolPut (s : State) (cell w : Nat) (x : BitVec 32) : Option State :=
  if ¬ s.hostCell cell ∧ (cell ≥ s.linkedCells ∨ s.heldCells.contains cell) then none
  else match s.cellHome cell with
  | some (q, k) =>
    let v := s.queue q
    if w = 31 then some (s.setQueue q { v with links := (cell, x) :: v.links.filter (fun e => decide (e.1 ≠ cell)) })
    else if 31 * k + w < v.data.length then some (s.setQueue q { v with data := setAt v.data (31 * k + w) x })
    else some { s with pool := Memory.writeWord s.pool (cell * 128 + 4 * w) x }
  | none => some { s with pool := Memory.writeWord s.pool (cell * 128 + 4 * w) x }

/-- The words of a pool read. -/
def State.poolWords (s : State) (a : Nat) : Nat → Nat × State
  | 0 => (0, s)
  | n + 1 =>
    let (w, s) := s.poolWord (a / 128) (a % 128 / 4)
    let (r, s) := s.poolWords (a + 4) n
    (w.toNat + r * 2 ^ 32, s)

/-- The words of a pool write; none where one is denied. -/
def State.poolPuts (s : State) (a data : Nat) : Nat → Option State
  | 0 => some s
  | n + 1 => match s.poolPut (a / 128) (a % 128 / 4) (BitVec.ofNat 32 data) with
    | some t => t.poolPuts (a + 4) (data / 2 ^ 32) n
    | none => none

/-- A transaction at the POOL target (R170, R192), its address in the POOL window: whether it gets an error response, the data of a read,
and the state after it. -/
def State.poolAccess (s : State) (a : BusAcc) (ecc : Ecc) : Bool × Nat × State :=
  let o := a.addr % 2 ^ 25
  let bytes := a.width * a.beats
  if !s.bobReady then (true, 0, s.accErr a 0x05 0)
  else if a.write then
    if a.width < 4 then (true, 0, s.accErr a 0x05 0)
    else match s.poolPuts o a.data (bytes / 4) with
      | some t => (false, 0, t)
      | none => (true, 0, s.accErr a 0x05 0)
  else match ecc with
    | .clean | .corrected =>
      let s := if ecc = .corrected then s.eccCorr (o / 128) else s
      let (w, s) := s.poolWords (o / 4 * 4) (max 1 (bytes / 4))
      (false, (if a.width < 4 then w / 2 ^ (8 * (o % 4)) % 2 ^ (8 * a.width) else w), s)
    | _ => (true, 0, s.accErr a 0x0B 2)

-- ## Register writes (R169 to R171, R194)

/-- The cells of the ring region up to the end of the last ring that is allocated (R4, R172). -/
def State.ringEnd (s : State) : Nat := s.heddle.dests.foldl (fun m e => max m (max (e.2.ring.1 + e.2.ring.2) ((e.2.next.getD (0, 0)).1 + (e.2.next.getD (0, 0)).2))) 0

/-- A write of BOBBIN register offset r (within the block), `v` the word with unwritten bytes kept; Q_CMD acts on its set bits. -/
def State.bobRegWrite (s : State) (r v : Nat) : State :=
  let a := R.BOB_CTRL + r
  if r = 0 then
    if bitOf v 0 then (if s.is R.BOB_STATUS_InitDone then s.wrRW a v else s.ignored a)
    else if s.queues.any (fun e => decide (e.2.state ≠ 0)) then s.ignored a else s.wrRW a v
  else if r = 8 then
    let n := bitsOf v 0 18
    if s.is R.BOB_CTRL_Enable ∨ 131072 < n ∨ n % 16 ≠ 0 ∨ n < s.ringEnd then s.ignored a else s.wrRW a v
  else if r = 12 then (if bitsOf v 0 5 = 0 ∨ 16 < bitsOf v 0 5 then s.refusedAt a else s.wrRW a v)
  else if r = 0x104 then
    let s := if bitOf v 0 then s.qReadCmd else s
    let s := if bitOf v 1 then s.qWriteCmd else s
    let s := if bitOf v 2 then s.qFlushCommand else s
    if bitOf v 3 then s.qClearCmd else s
  else if 0x200 ≤ r ∧ r < 0x280 then
    let k := (r - 0x200) / 0x20
    let o := r % 0x20
    if o = 0 then s.qpSel k v
    else if o = 4 then (s.qpData k v).pfcAll
    else if o = 8 then (s.qpCommand k v).pfcAll
    else s
  else s.wrRW a v

end Sys2Proof.Machine
end

