-- ==== Sys2Proof/Machine/Sha.lean ====
section
/-!
DEFINITION. SHA-256 and HMAC-SHA-256, as the tags of R317, R324 and R356 use them.
-/
namespace Sys2Proof.Machine

/-- The first prime numbers up to a bound, by trial division; 64 of them lie below 312. -/
def primesTo (n : Nat) : List Nat :=
  (List.range (n + 1)).filter (fun p => decide (2 ≤ p) && (List.range p).all (fun d => decide (d < 2) || decide (p % d ≠ 0)))

/-- Floor of the cube root of n below 2^(3k), by bitwise search. -/
def icbrtBits (n : Nat) : Nat → Nat → Nat
  | 0, r => r
  | k + 1, r => if (r + 2 ^ k) ^ 3 ≤ n then icbrtBits n k (r + 2 ^ k) else icbrtBits n k r

/-- Round constants: the first 32 bits of the fractions of the cube roots of the first 64 primes. -/
def shaK : List Nat := (primesTo 311).map (fun p => icbrtBits (p * 2 ^ 96) 36 0 % 2 ^ 32)

/-- Initial hash: the first 32 bits of the fractions of the square roots of the first eight primes. -/
def shaInit : List Nat := (primesTo 19).map (fun p => isqrtBits (p * 2 ^ 64) 36 0 % 2 ^ 32)

/-- Rotation right of a 32-bit number. -/
def rotr (x k : Nat) : Nat := (x / 2 ^ k + x * 2 ^ (32 - k)) % 2 ^ 32

/-- The message schedule extended by one word; newest first. -/
def schedStep (w : List Nat) : List Nat :=
  let x15 := w.getD 14 0
  let x2 := w.getD 1 0
  let s0 := rotr x15 7 ^^^ rotr x15 18 ^^^ (x15 / 8)
  let s1 := rotr x2 17 ^^^ rotr x2 19 ^^^ (x2 / 1024)
  (w.getD 15 0 + s0 + w.getD 6 0 + s1) % 2 ^ 32 :: w

/-- The 64 words of a block's schedule, oldest first. -/
def schedule (block : List Byte) : List Nat :=
  let w0 := ((List.range 16).map (fun i => beNat ((block.drop (4 * i)).take 4))).reverse
  ((List.range 48).foldl (fun w _ => schedStep w) w0).reverse

/-- One round on the eight working words. -/
def shaRound (v : List Nat) (kw : Nat) : List Nat := match v with
  | [a, b, c, d, e, f, g, h] =>
    let s1 := rotr e 6 ^^^ rotr e 11 ^^^ rotr e 25
    let ch := (e &&& f) ^^^ ((2 ^ 32 - 1 - e) &&& g)
    let t1 := h + s1 + ch + kw
    let s0 := rotr a 2 ^^^ rotr a 13 ^^^ rotr a 22
    let mj := (a &&& b) ^^^ (a &&& c) ^^^ (b &&& c)
    [(t1 + s0 + mj) % 2 ^ 32, a, b, c, (d + t1) % 2 ^ 32, e, f, g]
  | _ => v

/-- One block. -/
def shaBlock (h : List Nat) (block : List Byte) : List Nat :=
  let v := ((shaK.zip (schedule block)).map (fun p => (p.1 + p.2) % 2 ^ 32)).foldl shaRound h
  (h.zip v).map (fun p => (p.1 + p.2) % 2 ^ 32)

/-- The padded message's blocks, at most n of them. -/
def shaBlocks (h : List Nat) : Nat → List Byte → List Nat
  | 0, _ => h
  | n + 1, bs => if bs.length < 64 then h else shaBlocks (shaBlock h (bs.take 64)) n (bs.drop 64)

/-- SHA-256. -/
def sha256 (bs : List Byte) : List Byte :=
  let z := (119 - bs.length % 64) % 64
  let m := bs ++ [0x80#8] ++ List.replicate z 0#8 ++ beBytes 8 (8 * bs.length)
  (shaBlocks shaInit (m.length / 64) m).flatMap (beBytes 4)

/-- HMAC-SHA-256 under a key of at most 64 bytes. -/
def hmac (key msg : List Byte) : List Byte :=
  let k := key ++ List.replicate (64 - key.length) 0#8
  sha256 (k.map (fun b => b ^^^ 0x5C#8) ++ sha256 (k.map (fun b => b ^^^ 0x36#8) ++ msg))

end Sys2Proof.Machine
end

