-- ==== Sys2Proof/Machine/Ecdsa.lean ====
section
/-!
DEFINITION. The signature of a firmware image (R412): ECDSA over the curve P-256. The spec names the standard and does not print its
constants; they are the standard's (PRESUMED, notes/assumptions/28.md).
-/
namespace Sys2Proof.Machine

/-- The prime of the field. -/
def p256P : Nat := 2 ^ 256 - 2 ^ 224 + 2 ^ 192 + 2 ^ 96 - 1

/-- The order of the base point. -/
def p256N : Nat := 0xFFFFFFFF00000000FFFFFFFFFFFFFFFFBCE6FAADA7179E84F3B9CAC2FC632551

/-- The curve's constant b; its other constant is -3. -/
def p256B : Nat := 0x5AC635D8AA3A93E7B3EBBD55769886BC651D06B0CC53B0F63BCE3C3E27D2604B

/-- The base point. -/
def p256G : Nat × Nat :=
  (0x6B17D1F2E12C4247F8BCE6E563A440F277037D812DEB33A0F4A13945D898C296, 0x4FE342E2FE1A7F9B8EE7EB4A7C0F9E162BCE33576B315ECECBB6406837BF51F5)

/-- b to the power e modulo m, over the low k bits of e. -/
def powMod (m b e : Nat) : Nat → Nat
  | 0 => 1 % m
  | k + 1 =>
    let r := powMod m b (e / 2) k
    let r := r * r % m
    if e % 2 = 1 then r * b % m else r

/-- The inverse modulo a prime below 2^256. -/
def invMod (m a : Nat) : Nat := powMod m a (m - 2) 256

/-- The sum of two points; none is the point at infinity. -/
def p256Add (a b : Option (Nat × Nat)) : Option (Nat × Nat) :=
  let p := p256P
  match a, b with
  | none, y => y
  | x, none => x
  | some (x1, y1), some (x2, y2) =>
    if x1 = x2 ∧ (y1 + y2) % p = 0 then none
    else
      let l := if x1 = x2 then (3 * x1 * x1 + (p - 3)) % p * invMod p (2 * y1) % p
        else (y2 + p - y1) % p * invMod p ((x2 + p - x1) % p) % p
      let x3 := (l * l + 2 * p - x1 - x2) % p
      some (x3, (l * (x1 + p - x3) + p - y1) % p)

/-- A point times the low k bits of e. -/
def p256Mul (a : Option (Nat × Nat)) (e : Nat) : Nat → Option (Nat × Nat)
  | 0 => none
  | k + 1 =>
    let d := p256Mul a (e / 2) k
    let d := p256Add d d
    if e % 2 = 1 then p256Add d a else d

/-- A key of 64 bytes (Qx, Qy) verifies a signature of 64 bytes (r, s) over a message (R412); all big-endian. -/
def ecdsaOk (key sig msg : List Byte) : Bool :=
  let p := p256P
  let n := p256N
  let x := beNat (key.take 32)
  let y := beNat (key.drop 32)
  let r := beNat (sig.take 32)
  let s := beNat (sig.drop 32)
  let e := beNat (sha256 msg)
  let w := invMod n s
  decide (x < p ∧ y < p ∧ y * y % p = (x * x * x + (p - 3) * x + p256B) % p ∧ 0 < r ∧ r < n ∧ 0 < s ∧ s < n)
  && match p256Add (p256Mul (some p256G) (e * w % n) 256) (p256Mul (some (x, y)) (r * w % n) 256) with
    | some q => decide (q.1 % n = r)
    | none => false

end Sys2Proof.Machine
end

