-- ==== Sys2Proof/Machine/Synth.lean ====
section
/-!
DEFINITION. The synthesizers MCS0 and MCS1, their ramps and relocks, the clock outputs CKO0 to CKO11 and LOCK_A
(04_synthesis_clock_outputs.md).
-/
namespace Sys2Proof.Machine

/-- The enable of MCSm. -/
def State.mcsEn (s : State) (m : Nat) : Bool := if m = 0 then s.is R.SYN_CTRL_Mcs0En else s.is R.SYN_CTRL_Mcs1En

/-- MCSm's state: 0 Off or Stopped, 1 Acquire, 2 Locked, 3 Glide. -/
def State.mcsState (s : State) (m : Nat) : Nat := s.get (R.MCS_STATUS_State m)

/-- A synthesizer is Stopped (R74): enabled with State Off. -/
def State.mcsStopped (s : State) (m : Nat) : Bool := s.mcsEn m && decide (s.mcsState m = 0)

/-- MCS0's plan frequency in a family (R70). -/
def familyHz (fam : Nat) : Nat := if fam = 0 then 98304000 else 90316800

/-- The M code of MCS1 at an output frequency given as Hz × 1,001 (R70): the smallest M that brings FIN into 5 to 25 MHz. -/
def mulCode (hz1001 : Nat) : Nat :=
  if hz1001 ≤ 25000000 * 4 * 1001 then 0 else if hz1001 ≤ 25000000 * 8 * 1001 then 1 else 2

/-- MCS1's output frequency times 1,001 (R70). -/
def State.mcs1Hz1001 (s : State) : Nat :=
  s.get (R.MCS_FREQ_Hz 1) * (if s.is (R.MCS_FREQ_Pulldown 1) then 1000 else 1001)

/-- What the synthesizers hold of CKOi. -/
def State.cko (s : State) (i : Nat) : CkoSt := tget {} s.synth.ckos i

/-- What the synthesizers hold of CKOi, changed. -/
def State.updCko (s : State) (i : Nat) (f : CkoSt → CkoSt) : State :=
  { s with synth := { s.synth with ckos := tupd {} i f s.synth.ckos } }

/-- The ramp running on MCSm. -/
def State.ramp (s : State) (m : Nat) : Option RampSt := tget none s.synth.ramps m

/-- The ramp of MCSm set or cleared, with RAMP_STATUS.Running. -/
def State.setRamp (s : State) (m : Nat) (r : Option RampSt) : State :=
  { s with synth := { s.synth with ramps := tput none m r s.synth.ramps } }.putB (R.RAMP_STATUS_Running m) r.isSome

/-- Whole milliseconds MCSm's ramp has spent in its current segment (R78). -/
def State.rampMs (s : State) (m : Nat) : Nat := match s.ramp m with
  | some r => min ((r.segs.map Prod.snd).headD 0) ((s.xref - r.start) / cclkMs)
  | none => 0

/-- XREF-derived time brought to ms milliseconds into the segments that ramps are in, as far as they reach. -/
def State.rampAge (s : State) (ms : Nat) : State := s.forN 2 (fun m t => match t.ramp m with
  | some r => t.xrefTo (r.start + min ((r.segs.map Prod.snd).headD 0) ms * cclkMs)
  | none => t)

/-- The offset of MCSm that RAMP_OFFSET shows, in ppb: it changes once per millisecond by the slope (R78), and the last millisecond of a
ramp to an exact end is held to that end (R79). -/
def State.rampOff (s : State) (m : Nat) : Int :=
  let off := s.getI (R.RAMP_OFFSET_Ppb m)
  match s.ramp m with
  | some { segs := (sl, _) :: rest, endAt := e, .. } =>
    let x := off + sl * (s.rampMs m : Nat)
    match rest, e with
    | [], some y => if 0 ≤ sl then min x y else max x y
    | _, _ => x
  | _ => off

/-- The fractional offset of MCSm's NCD from its plan, in 0.001 ppb (R71, R78): Reed's for MCS0 and, with Track, for MCS1, and the ramp's.
Without Track MCS1 ignores Reed and runs at its plan against XREF. -/
def State.ncdOffset (s : State) (m : Nat) : Int :=
  (if m = 0 ∨ s.is (R.MCS_CFG_Track 1) = true then s.getI R.DPLL_FREQ_Freq else 0) + 1000 * s.rampOff m

/-- The outputs that take MCSm toggle if they are on, or are held low. -/
def State.ckoDrive (s : State) (m : Nat) (run : Bool) : State :=
  s.forN 12 (fun i t => if t.get (R.CKO_CFG_Source i) = m ∧ (t.cko i).on then t.putB (R.CKO_STATUS_Running i) run else t)

/-- The plan of MCSm is taken (R70): M, and for MCS0 the family of the rate and its frequency. -/
def State.mcsPlan (s : State) (m : Nat) : State :=
  if m = 0 then
    let fam := rateFamily (s.get R.TIME_STATUS_RateNow)
    ((s.put (R.MCS_STATUS_MulM 0) 1).put (R.MCS_STATUS_Family 0) fam).put (R.MCS_FREQ_Hz 0) (familyHz fam)
  else s.put (R.MCS_STATUS_MulM 1) (mulCode s.mcs1Hz1001)

/-- SYNTH_RELOCK (R75): the NCD moves to its target and the state becomes Acquire; with HoldOutputs the outputs are held. -/
def State.relock (s : State) (m : Nat) : State :=
  let s := (s.mcsPlan m).put (R.MCS_STATUS_State m) 1
  if s.is (R.MCS_CFG_HoldOutputs m) then (s.put (R.MCS_STATUS_Held m) 1).ckoDrive m false
  else (s.put (R.MCS_STATUS_Held m) 0).ckoDrive m true

/-- MCS0 reports the end of a retune (R46, R79): RateSwitching ends and the counter waits for the next whole second. -/
def State.retuneDone (s : State) (m : Nat) : State :=
  if m = 0 ∧ s.is R.TIME_STATUS_RateSwitching then
    { s.put R.TIME_STATUS_RateSwitching 0 with time := { s.time with resume := true } }
  else s

/-- SYNTH_UNLOCK (R74, R77, R89): an enabled synthesizer becomes unlocked, counts it and relocks; a glide stops and MCS0
relocks at the new plan. -/
def execSynthUnlock (m : Nat) (s : State) : Host.Outcome State Fault Refusal := s.accept (below m 2) fun s =>
  (if m < 2 ∧ s.mcsEn m ∧ s.mcsState m ≥ 2 then
    let s := s.bump (R.MCS_CNT_UNLOCK_Count m)
    let s := if s.mcsState m = 3 then (s.setRamp m none).put (R.RAMP_OFFSET_Ppb m) 0 else s
    s.relock m
  else s).done

/-- SYNTH_LOCKED (R74): within ±15 ps for 1,024 input cycles. -/
def execSynthLocked (m : Nat) (s : State) : Host.Outcome State Fault Refusal := s.accept (below m 2) fun s =>
  (if m < 2 ∧ s.mcsState m = 1 then (s.put (R.MCS_STATUS_State m) 2).retuneDone m else s).done

/-- SYNTH_OUTPUT_RESTART (R75): held outputs restart 64 input cycles after Locked. -/
def execSynthOutputRestart (m : Nat) (s : State) : Host.Outcome State Fault Refusal := s.accept (below m 2) fun s =>
  (if m < 2 ∧ s.mcsState m = 2 ∧ s.is (R.MCS_STATUS_Held m) then (s.put (R.MCS_STATUS_Held m) 0).ckoDrive m true else s).done

/-- SYNTH_STOPPED (R74): the NCD edges have stayed absent for 1 ms. -/
def execSynthStopped (m : Nat) (s : State) : Host.Outcome State Fault Refusal := s.accept (below m 2) fun s =>
  (if m < 2 ∧ s.mcsEn m then (s.put (R.MCS_STATUS_State m) 0).ckoDrive m false else s).done

/-- SYNTH_NCD_RETURN (R75): the NCD edges return to a Stopped synthesizer. -/
def execSynthNcdReturn (m : Nat) (s : State) : Host.Outcome State Fault Refusal := s.accept (below m 2) fun s =>
  (if m < 2 ∧ s.mcsStopped m then s.relock m else s).done

/-- MCSm follows its enable: off, or a relock (R75). The spec does not say what a ramp does meanwhile; it runs on here, and RAMP_STATUS with it
(DESIGN CHOICE, notes/assumptions/20.md). -/
def State.mcsFollow (s : State) (m : Nat) (was : Bool) : State :=
  if s.mcsEn m = was then s
  else if was then ((s.put (R.MCS_STATUS_State m) 0).put (R.MCS_STATUS_Held m) 0).ckoDrive m false
  else s.relock m

/-- A write of SYN_CTRL as the block applies it (R75). -/
def State.synCtrlApply (s : State) (v : Nat) : State :=
  let e0 := s.mcsEn 0
  let e1 := s.mcsEn 1
  let s := ((s.wrRW R.SYN_CTRL v).mcsFollow 0 e0).mcsFollow 1 e1
  { s with life := { s.life with lockOff := false } }

/-- PD8 comes up after a reset: each enabled synthesizer relocks (R75). -/
def State.pd8Up (s : State) : State :=
  if s.life.pd8 then s
  else
    let s := s.forN 2 (fun m t => if t.mcsStopped m then t.relock m else t)
    { s with life := { s.life with pd8 := true } }

/-- SYN_CTRL_WRITE (R75). -/
def execSynCtrlWrite (v : Nat) (s : State) : Host.Outcome State Fault Refusal := s.accept (below v (2 ^ 32)) fun s =>
  (s.slow R.SYN_CTRL (fun s => s.synCtrlApply v)).done

-- ## Ramps (R78, R79)

/-- The profile in the segment registers: slopes and durations up to the first duration of 0. -/
def State.profile (s : State) (m : Nat) : Nat → List (Int × Nat)
  | 0 => []
  | n + 1 =>
    let k := 7 - n
    let d := s.get (R.RAMP_SEG_DUR_Ms m k)
    if d = 0 then [] else (s.getI (R.RAMP_SEG_SLOPE_Slope m k), d) :: s.profile m n

/-- The checks of R78 on a profile, from the offset in force. -/
def profileOk : Int → List (Int × Nat) → Bool
  | _, [] => true
  | off, (sl, d) :: r =>
    let e := off + sl * d
    decide (e.natAbs ≤ 100000000 ∧ sl.natAbs ≤ 100000) && profileOk e r

/-- A ramp may start (R78). -/
def State.rampFree (s : State) (m : Nat) : Bool := (s.ramp m).isNone && !(decide (m = 0) && s.is R.TIME_CTRL_Run)

/-- A profile is started, or refused with a record (R78). -/
def State.rampBegin (s : State) (m : Nat) (segs : List (Int × Nat)) (endAt : Option Int) : State :=
  if s.rampFree m && profileOk (s.getI (R.RAMP_OFFSET_Ppb m)) (if endAt.isSome then [] else segs) then
    ((s.put (R.RAMP_STATUS_Result m) 0).put (R.RAMP_STATUS_Segment m) 0).setRamp m
      (if segs = [] then none else some { segs := segs, endAt := endAt, start := s.xref })
  else (s.put (R.RAMP_STATUS_Result m) 1).refusedAt (R.RAMP_CTRL m) 1

/-- RAMP_CTRL.Start (R78). -/
def State.rampStart (s : State) (m : Nat) : State := s.rampBegin m (s.profile m 8) none

/-- RAMP_CTRL.Zero (R78): one segment back to offset 0 at ZeroSlope. -/
def State.rampZero (s : State) (m : Nat) : State :=
  let off := s.getI (R.RAMP_OFFSET_Ppb m)
  let sl := max 1 (s.get (R.RAMP_CTRL_ZeroSlope m))
  let n := ceilDiv off.natAbs sl
  s.rampBegin m (if n = 0 then [] else [((if off > 0 then -(sl : Int) else sl), n)]) (some 0)

/-- RAMP_CTRL.Abort (R78), ms milliseconds into the current segment: the offset stays where it stands. Of an abort during a glide the spec says
nothing more: the glide is dropped, State stays Glide and GLIDE_END still takes the new plan (DESIGN CHOICE, notes/assumptions/20.md). -/
def State.rampAbort (s : State) (m ms : Nat) : State :=
  match s.ramp m with
  | some r =>
    match r.segs with
    | (sl, d) :: _ => (s.putSat (R.RAMP_OFFSET_Ppb m) (s.getI (R.RAMP_OFFSET_Ppb m) + sl * (min ms d : Nat))).setRamp m none
    | [] => s.setRamp m none
  | none => s

/-- A write of RAMP_CTRL as the block applies it: ZeroSlope is stored, then Abort, Start and Zero act in that order. -/
def State.rampCtrlApply (s : State) (m v : Nat) : State :=
  let z := bitsOf v 8 24
  if z = 0 ∨ z > 100000 then s.ignored (R.RAMP_CTRL m)
  else
    let s := s.put (R.RAMP_CTRL_ZeroSlope m) z
    let s := if bitOf v 1 then s.rampAbort m (s.rampMs m) else s
    let s := if bitOf v 0 then s.rampStart m else s
    if bitOf v 2 then s.rampZero m else s

/-- RAMP_START (R78). -/
def execRampStart (m : Nat) (s : State) : Host.Outcome State Fault Refusal := s.accept (below m 2) fun s =>
  (if m < 2 then s.slow (R.RAMP_CTRL m) (fun s => s.rampStart m) else s).done

/-- RAMP_ABORT (R78). -/
def execRampAbort (m ms : Nat) (s : State) : Host.Outcome State Fault Refusal := s.accept (below m 2) fun s =>
  (if m < 2 then s.slow (R.RAMP_CTRL m) (fun s => s.rampAbort m ms) else s).done

/-- RAMP_ZERO (R78). -/
def execRampZero (m : Nat) (s : State) : Host.Outcome State Fault Refusal := s.accept (below m 2) fun s =>
  (if m < 2 then s.slow (R.RAMP_CTRL m) (fun s => s.rampZero m) else s).done

/-- RAMP_SEGMENT_END (R78): the offset stands at the segment's end; the next segment or the end of the profile follows. -/
def execRampSegmentEnd (m : Nat) (s : State) : Host.Outcome State Fault Refusal := s.accept (below m 2) fun s =>
  (match s.ramp m with
   | some r =>
     if m < 2 ∧ !r.glide then
       match r.segs with
       | (sl, d) :: rest =>
         let off := match rest, r.endAt with
           | [], some e => e
           | _, _ => s.getI (R.RAMP_OFFSET_Ppb m) + sl * d
         let ends := r.start + d * cclkMs
         let s := (s.xrefTo ends).putSat (R.RAMP_OFFSET_Ppb m) off
         if rest = [] then s.setRamp m none
         else (s.put (R.RAMP_STATUS_Segment m) (s.get (R.RAMP_STATUS_Segment m) + 1)).setRamp m (some { r with segs := rest, start := ends })
       | [] => s.setRamp m none
     else s
   | none => s).done

/-- MCS0 follows a change of the rate from one code to another (R79, R89): where the family changes, a running ramp is aborted at its offset;
then the plan changes and MCS0 relocks, or it glides from that offset to the new plan's frequency, which a glide under way may have as its own
plan still. A Stopped or disabled MCS0 only takes the plan (R74). With Method 1 an MCS0 in Acquire glides without completing its relock
(DESIGN CHOICE, notes/assumptions/20.md). -/
def State.familyChange (s : State) (was : Nat) : State :=
  let fam := rateFamily (s.get R.TIME_STATUS_RateNow)
  if rateFamily was = fam then s
  else
    let s := s.rampAbort 0 (s.rampMs 0)
    if !s.mcsEn 0 ∨ s.mcsState 0 = 0 then (s.put (R.RAMP_OFFSET_Ppb 0) 0).mcsPlan 0
    else if s.is (R.MCS_CFG_Method 0) then
      let slope := s.get (R.MCS_RETUNE_RetuneSlope 0)
      let tgt : Int := if s.get (R.MCS_STATUS_Family 0) = fam then 0 else if fam = 1 then -81250000 else 88435375
      let off := s.getI (R.RAMP_OFFSET_Ppb 0)
      let n := ceilDiv (tgt - off).natAbs (max 1 slope)
      (s.put (R.MCS_STATUS_State 0) 3).setRamp 0
        (some { segs := [((if tgt > off then (slope : Int) else -(slope : Int)), n)], endAt := some tgt, glide := true, start := s.xref })
    else (s.put (R.RAMP_OFFSET_Ppb 0) 0).relock 0

/-- Run goes to 1 (R79): no MCS0 ramp but the glide of a RateChange runs then. The spec does not say what ends one that does: a ramp is aborted
at its offset, and a glide ends as at an unlock, in a relock at the new plan (DESIGN CHOICE, notes/assumptions/20.md). -/
def State.rampStop (s : State) : State :=
  if s.is R.TIME_STATUS_RateSwitching then s
  else if s.mcsState 0 = 3 then ((s.setRamp 0 none).put (R.RAMP_OFFSET_Ppb 0) 0).relock 0
  else s.rampAbort 0 (s.rampMs 0)

/-- GLIDE_END (R79): the plan changes to the new family, the offset returns to 0 and MCS0 reports the end of the retune. -/
def execGlideEnd (s : State) : Host.Outcome State Fault Refusal := s.live fun s =>
  (if s.mcsState 0 = 3 then
    let s := match s.ramp 0 with
      | some { segs := (_, d) :: _, start := t, .. } => s.xrefTo (t + d * cclkMs)
      | _ => s
    ((((s.setRamp 0 none).put (R.RAMP_OFFSET_Ppb 0) 0).mcsPlan 0).put (R.MCS_STATUS_State 0) 2).retuneDone 0
  else s).done

-- ## Clock outputs (R80 to R85)

/-- The configuration of an output is one the device accepts (R80, R81): its frequency limit, and Align only where the
synthesizer's cycles per second are a whole multiple of the division. -/
def State.ckoOk (s : State) (source : Nat) (align lvds : Bool) (div : Nat) : Bool :=
  let d := div + 1
  let hz := if source = 0 then s.get (R.MCS_FREQ_Hz 0) * 1001 else s.mcs1Hz1001
  let lim := if lvds then 200000000 else 100000000
  decide (hz ≤ lim * d * 1001) &&
  (!align || (if source = 0 then decide (s.get (R.MCS_FREQ_Hz 0) % d = 0)
    else s.is (R.MCS_CFG_Track 1) && !s.is (R.MCS_FREQ_Pulldown 1) && decide (s.get (R.MCS_FREQ_Hz 1) % d = 0)))

/-- Every output that takes MCS1 keeps R80 and R81 with MCS1 as configured. -/
def State.mcs1Ok (s : State) : Bool := (List.range 12).all (fun i =>
  decide (s.get (R.CKO_CFG_Source i) ≠ 1) || s.ckoOk 1 (s.is (R.CKO_CFG_Align i)) (s.is (R.CKO_CFG_Lvds i)) (s.get (R.CKO_DIV_Div i)))

/-- A write of MCS1_CFG or MCS1_FREQ as the block applies it: refused where an output that takes MCS1 would break R80 or R81; a changed plan
makes an MCS1 that is on and not Stopped relock (R70, R74, R75). -/
def State.mcs1Apply (s : State) (a v : Nat) : State :=
  let t := s.wrRW a v
  if !t.mcs1Ok then s.refusedAt a
  else if t.mcs1Hz1001 = s.mcs1Hz1001 then t
  else if t.mcsState 1 = 0 then t.mcsPlan 1
  else t.relock 1

/-- A write of CKOi_CFG as the block applies it (R80 to R84, R89). An output counts as enabled from the accepted write of its Enable to that of
its disable, which the spec leaves open while the boundary is awaited (DESIGN CHOICE, notes/assumptions/20.md). -/
def State.ckoCfgApply (s : State) (i v : Nat) : State :=
  let v := if i ≥ 4 then setBits v 3 1 0 else v
  let en := s.is (R.CKO_CFG_Enable i)
  let src := bitsOf v 1 1
  let al := bitOf v 2
  if en ∧ (src ≠ s.get (R.CKO_CFG_Source i) ∨ al ≠ s.is (R.CKO_CFG_Align i)) then s.refusedAt (R.CKO_CFG i)
  else if !s.ckoOk src al (bitOf v 3) (s.get (R.CKO_DIV_Div i)) then s.refusedAt (R.CKO_CFG i)
  else
    let s := s.wrRW (R.CKO_CFG i) v
    if bitOf v 0 ≠ (s.cko i).on then s.updCko i (fun c => { c with pend := some (bitOf v 0) })
    else s.updCko i (fun c => { c with pend := none })

/-- CKO_CFG_WRITE (R82). -/
def execCkoCfgWrite (i v : Nat) (s : State) : Host.Outcome State Fault Refusal := s.accept (below i 12 && below v (2 ^ 32)) fun s =>
  (if i < 12 then s.slow (R.CKO_CFG i) (fun s => s.ckoCfgApply i v) else s).done

/-- A write of CKOi_DIV as the block applies it (R80, R81, R89). -/
def State.ckoDivApply (s : State) (i v : Nat) : State :=
  if s.is (R.CKO_CFG_Enable i) ∨ !s.ckoOk (s.get (R.CKO_CFG_Source i)) (s.is (R.CKO_CFG_Align i)) (s.is (R.CKO_CFG_Lvds i)) (bitsOf v 0 16) then
    s.refusedAt (R.CKO_DIV i)
  else s.wrRW (R.CKO_DIV i) v

/-- The phase of an output goes to its target, or walks towards it (R83). -/
def State.ckoPhaseTake (s : State) (i : Nat) : State :=
  if (s.cko i).on then s.putB (R.CKO_STATUS_Walking i) (decide (s.get (R.CKO_STATUS_Phase i) ≠ s.get (R.CKO_PHASE_Target i)))
  else (s.put (R.CKO_STATUS_Phase i) (s.get (R.CKO_PHASE_Target i))).put (R.CKO_STATUS_Walking i) 0

/-- CKO_ENABLE_APPLY (R82): at the boundary the waiting enables and disables take effect. -/
def State.ckoEnable (s : State) (i : Nat) : State :=
  match (s.cko i).pend with
  | none => s
  | some true =>
    let m := s.get (R.CKO_CFG_Source i)
    let early := s.is (R.CKO_CFG_Align i) && (!s.is R.TIME_STATUS_TodValid || !s.is R.TIME_CTRL_Run)
    let s := s.updCko i (fun _ => { on := true, pend := none, realign := early, base := s.time.tai })
    s.putB (R.CKO_STATUS_Running i) (decide (s.mcsState m ≠ 0) && !s.is (R.MCS_STATUS_Held m))
  | some false => ((s.updCko i (fun _ => {})).put (R.CKO_STATUS_Running i) 0).ckoPhaseTake i

/-- CKO_ENABLE_APPLY (R82). -/
def execCkoEnableApply (s : State) : Host.Outcome State Fault Refusal := s.live fun s => (s.forN 12 (fun i t => t.ckoEnable i)).done

/-- A write of CKOi_PHASE as the block applies it (R83). -/
def State.ckoPhaseApply (s : State) (i v : Nat) : State := (s.wrRW (R.CKO_PHASE i) v).ckoPhaseTake i

/-- CKO_PHASE_WRITE (R83). -/
def execCkoPhaseWrite (i v : Nat) (s : State) : Host.Outcome State Fault Refusal := s.accept (below i 12 && below v (2 ^ 32)) fun s =>
  (if i < 12 then s.slow (R.CKO_PHASE i) (fun s => s.ckoPhaseApply i v) else s).done

/-- CKO_WALK_STEP (R83): the phase moves one fine code towards Target. -/
def execCkoWalkStep (i : Nat) (s : State) : Host.Outcome State Fault Refusal := s.accept (below i 12) fun s =>
  (if i < 12 ∧ (s.cko i).on then
    let p := s.get (R.CKO_STATUS_Phase i)
    let t := s.get (R.CKO_PHASE_Target i)
    (s.put (R.CKO_STATUS_Phase i) (if p < t then p + 1 else if p > t then p - 1 else p)).ckoPhaseTake i
  else s).done

/-- CKO_SECOND_REALIGN (R82): an Align output started before Run is re-aligned at the first whole second after Run goes to 1. -/
def execCkoSecondRealign (s : State) : Host.Outcome State Fault Refusal := s.live fun s =>
  (if s.is R.TIME_CTRL_Run ∧ s.is R.TIME_STATUS_TodValid then
     s.forN 12 (fun i t => if (t.cko i).realign then t.updCko i (fun c => { c with realign := false }) else t)
   else s).done

/-- MCSm's output frequency of its plan times 1,001. -/
def State.mcsHz1001 (s : State) (m : Nat) : Nat := if m = 0 then s.get (R.MCS_FREQ_Hz 0) * 1001 else s.mcs1Hz1001

/-- The time at which CKOi's divider count was 0 (R81), as the output stands at time t, on the media timeline: the last whole second, or the
boundary at which the output was enabled. -/
def State.ckoZero (s : State) (i t : Nat) : Nat :=
  if s.is (R.CKO_CFG_Align i) && !(s.cko i).realign then s.media t / unitsPerSec * unitsPerSec else s.media (s.cko i).base

/-- Fine codes, 256 to a cycle of its synthesizer at its plan frequency, from CKOi's reference at time t to time u. -/
def State.ckoCodes (s : State) (i t u : Nat) : Int :=
  ((s.media u : Int) - s.ckoZero i t) * 256 * s.mcsHz1001 (s.get (R.CKO_CFG_Source i)) / (1001 * unitsPerSec)

/-- The level of CKOi at time t of TAI (R80 to R84): from its start edge, the first count 0 after its enable took effect, it is high for the
first half of each D cycles, delayed by its phase; while its gate is closed it is low; Invert inverts it after the gate. -/
def State.ckoLevel (s : State) (i t : Nat) : Bool :=
  let per : Int := 256 * (s.get (R.CKO_DIV_Div i) + 1)
  let p := s.ckoCodes i t t - s.get (R.CKO_STATUS_Phase i)
  let first := -(-(s.ckoCodes i t (s.cko i).base) / per) * per
  (s.is (R.CKO_STATUS_Running i) && decide (first ≤ p ∧ 2 * (p % per) < per)) != s.is (R.CKO_CFG_Invert i)

/-- The level of DSM_CLKk at time t of TAI (R85): that of the chosen output, or low. -/
def State.dsmClk (s : State) (k t : Nat) : Bool :=
  let i := bitsOf (s.get R.DSMCLK_SEL_Srck) (4 * k) 4
  decide (i < 12) && s.ckoLevel i t

/-- A selection of DSM_CLK sources is one the device accepts (R85): each field 12 to 15, or an output of MCS0 with Align
whose frequency is 64, 128 or 256 times the rate. -/
def State.dsmSelOk (s : State) (v : Nat) : Bool :=
  (List.range 4).all (fun k =>
    let i := bitsOf v (4 * k) 4
    decide (i ≥ 12) ||
    (decide (s.get (R.CKO_CFG_Source i) = 0) && s.is (R.CKO_CFG_Align i) &&
      (let d := s.get (R.CKO_DIV_Div i) + 1
       let hz := s.get (R.MCS_FREQ_Hz 0)
       [64, 128, 256].any (fun x => decide (hz = x * s.fs * d)))))

/-- LOCK_A's duty cycle in sixteenths (R87); 0 from a reset until firmware enables it (R406). -/
def State.lockA (s : State) : Nat :=
  let sel := (List.range 2).filter (fun m => bitOf (s.get R.LOCKA_CFG_Mask) m)
  if !bitOf (s.get R.PWR_STATUS_On) 8 ∨ s.life.lockOff ∨ sel = [] then 0
  else if sel.any s.mcsStopped then 1
  else if sel.any (fun m => s.mcsEn m && decide (s.mcsState m = 1)) then 8
  else 15

end Sys2Proof.Machine
end

