-- ==== Sys2Proof/Machine/Decim.lean ====
section
/-!
DEFINITION. Modulator inputs and decimators: groups and their clocks, the decimation chain, synchronisation and supervision
(10_decimators.md).
-/
namespace Sys2Proof.Machine

-- ## The ROM (R229)

/-- A final FIR's table is one R229 allows: it sums to 2^30, its absolute values sum to less than 2^31, and Linear's is symmetric. -/
def romFits (profile : Nat) (t : List Int) : Bool :=
  decide (t.foldl (· + ·) 0 = 2 ^ 30) && decide (t.foldl (fun n h => n + h.natAbs) 0 < 2 ^ 31) && (decide (profile = 0) || decide (t.reverse = t))

/-- A profile's taps. -/
def romTaps (profile : Nat) : Nat := if profile = 0 then 48 else 81

/-- A coefficient of the decimator ROM: any table that R229 allows, the spec giving no values (notes/assumptions/47.md). -/
def decRom (profile k : Nat) : BitVec 32 :=
  if romFits profile ((List.range (romTaps profile)).map (fun i => (Config.decRom profile i).toInt)) then Config.decRom profile k
  else if k = romTaps profile / 2 then BitVec.ofNat 32 (2 ^ 30) else 0#32

-- ## Clocks (R221)

/-- MCLK cycles per pick at a rate. -/
def mclkPerPick (fs : Nat) : Nat := if fs ≤ 48000 then 2048 else if fs ≤ 96000 then 1024 else 512

/-- The oversampling ratio of group k where its clock is valid; MCS0 stays Locked throughout a glide (R79, R221). -/
def State.decOsr (s : State) (k : Nat) : Option Nat :=
  let i := bitsOf (s.get R.DSMCLK_SEL_Srck) (4 * k) 4
  let d := s.get (R.CKO_DIV_Div i) + 1
  let osr := mclkPerPick s.fs / d
  if i < 12 ∧ s.is (R.CKO_STATUS_Running i) ∧ s.get (R.CKO_CFG_Source i) = 0 ∧ s.is (R.CKO_CFG_Align i)
      ∧ (s.get (R.MCS_STATUS_State 0) = 2 ∨ s.get (R.MCS_STATUS_State 0) = 3) ∧ s.is R.TIME_CTRL_Run ∧ mclkPerPick s.fs % d = 0
      ∧ (osr = 64 ∨ osr = 128 ∨ osr = 256) then some osr
  else none

/-- DEC_GSTAT.Osr as the clock stands. -/
def osrCode : Option Nat → Nat
  | some 64 => 0
  | some 128 => 1
  | some 256 => 2
  | _ => 3

/-- Group k's state. -/
def State.decState (s : State) (k : Nat) : Nat := s.get (R.DEC_GSTAT_State k)

/-- A group enters a state; its Osr is shown afresh. -/
def State.setDec (s : State) (k st : Nat) : State :=
  (s.put (R.DEC_GSTAT_State k) st).put (R.DEC_GSTAT_Osr k) (osrCode (s.decOsr k))

/-- An input's chain. -/
def State.din (s : State) (k : Nat) : DinSt := tget {} s.dec.dins k

/-- An input's chain changed. -/
def State.updDin (s : State) (k : Nat) (f : DinSt → DinSt) : State :=
  { s with dec := { s.dec with dins := tupd {} k f s.dec.dins } }

/-- DEC_STATUS.Settling: an input of a Running group is not yet Settled. -/
def State.decStatus (s : State) : State :=
  let open_ := (List.range 64).any (fun k => decide (s.decState (k / 16) = 3) && !s.is (R.DIN_STATUS_Settled k))
  (s.putB R.DEC_STATUS_Settling open_).putB R.DEC_STATUS_ClearPending s.dec.clear.isSome

/-- DEC_CLOCK_FAULT: a clock that has ceased to be valid (R224). -/
def execDecClockFault (k : Nat) (s : State) : Host.Outcome State Fault Refusal := s.accept (below k 4) fun s =>
  (if s.decState k ≥ 2 ∧ (s.decOsr k).isNone then ((s.setDec k 1).bump R.CNT_DEC_CLKFAULT_Count).decStatus else s).done

/-- DEC_CLOCK_VALID: a clock that is valid again (R224). -/
def execDecClockValid (k : Nat) (s : State) : Host.Outcome State Fault Refusal := s.accept (below k 4) fun s =>
  (if s.decState k = 1 ∧ (s.decOsr k).isSome then (s.setDec k 2).decStatus else s).done

/-- A write of DEC_GRPk (R224, R239). -/
def State.decGrpWrite (s : State) (k v : Nat) : State :=
  let a := R.DEC_GRP k
  let was := s.is (R.DEC_GRP_Enable k)
  if s.decState k = 3 ∧ bitOf v 1 ≠ s.is (R.DEC_GRP_Profile k) then s.refusedAt a
  else
    let s := s.wrRW a v
    (if ¬ was ∧ bitOf v 0 then s.setDec k (if (s.decOsr k).isSome then 2 else 1)
     else if was ∧ ¬ bitOf v 0 then s.setDec k 0 else s).decStatus

/-- DEC_GRP_WRITE. -/
def execDecGrpWrite (k v : Nat) (s : State) : Host.Outcome State Fault Refusal := s.accept (below k 4 && below v (2 ^ 32)) fun s => (s.decGrpWrite k v).done

-- ## The chain (R226 to R231)

/-- One bit through the five integrators (R227). -/
def integrate : List Nat → Nat → List Nat
  | [], _ => []
  | i :: r, x =>
    let y := (i + x) % 2 ^ 32
    y :: integrate r y

/-- One value through the five combs: the output, and the combs' new contents (R227). -/
def comb : List Nat → Nat → Nat × List Nat
  | [], x => (x, [])
  | c :: r, x =>
    let (y, t) := comb r ((x + 2 ^ 32 - c) % 2 ^ 32)
    (y, x :: t)

/-- Bits through the CIC, an output after every v bits (R227): the integrators, the combs, and the outputs oldest first. -/
def cicRun (v : Nat) : Nat → List Int → List Nat → List Nat → List Nat × List Nat × List Int
  | _, [], is, cs => (is, cs, [])
  | k, p :: ps, is, cs =>
    let is := integrate is (ofSigned 32 p)
    if k = 0 then
      let (y, cs) := comb cs (is.getLast?.getD 0)
      let (a, b, ys) := cicRun v (v - 1) ps is cs
      (a, b, toSigned 32 y :: ys)
    else cicRun v (k - 1) ps is cs

/-- The sum of a FIR: coefficients against a history, newest first (R228). -/
def firSum : List Int → List Int → Int
  | h :: hs, x :: xs => h * x + firSum hs xs
  | _, _ => 0

/-- HB1's coefficients in Q2.30 (R228). -/
def hb1 : List Int := [-33554432, 0, 301989888, 536870912, 301989888, 0, -33554432]

/-- HB2's coefficients in Q2.30 (R228). -/
def hb2 : List Int := [6291456, 0, -52428800, 0, 314572800, 536870912, 314572800, 0, -52428800, 0, 6291456]

/-- The final FIR's coefficients of a profile (R229). -/
def finalFir (profile : Nat) : List Int :=
  (List.range (romTaps profile)).map (fun k => (decRom profile k).toInt)

/-- A decimating FIR over inputs oldest first (R228): the history, the outputs oldest first, and whether one saturated. -/
def firDecimate (h : List Int) (sh : Nat) : List Int → List Int → List Int × List Int × Bool
  | hist, a :: b :: r =>
    let hist := (b :: a :: hist).take h.length
    let y := (firSum h hist + 2 ^ (sh - 1)) / 2 ^ sh
    let c := satSigned 32 y
    let (g, ys, sat) := firDecimate h sh hist r
    (g, c :: ys, sat || decide (c ≠ y))
  | hist, _ => (hist, [], false)

/-- SettleLen of a profile (R233). -/
def settleLen (profile : Nat) : Nat := if profile = 0 then 31 else 47

/-- log2 of the integrator ratio. -/
def log2V (osr : Nat) : Nat := if osr = 64 then 3 else if osr = 128 then 4 else 5

/-- The chain of one input over the bits of a pick, bit j of `word` being bit j (R225 to R230): the chain output, whether a stage
saturated, and the chain. -/
def chainRun (d : DinSt) (osr frac profile : Nat) (invert : Bool) (word : Nat) : Int × Bool × DinSt :=
  let ps : List Int := (List.range osr).map (fun j => if bitOf word j = invert then -1 else 1)
  let f := frac * osr / 64
  let old := (d.bits ++ List.replicate (252 - d.bits.length) 0).reverse
  let delayed := ((old ++ ps).drop (252 - f)).take osr
  let (is, cs, c8) := cicRun (osr / 8) (osr / 8 - 1) delayed d.ints d.combs
  let u := c8.map (fun c => c * 2 ^ (30 - 5 * log2V osr))
  let (g1, y1, s1) := firDecimate hb1 30 d.h1 u
  let (g2, y2, s2) := firDecimate hb2 30 d.h2 y1
  let (g3, y3, s3) := firDecimate (finalFir profile) 29 d.h3 y2
  (y3.headD 0, s1 || s2 || s3,
   { d with ints := is, combs := cs, h1 := g1, h2 := g2, h3 := g3, bits := (ps.reverse ++ d.bits).take 252 })

/-- The DC blocker (R230): the output, whether it saturated, and the chain. -/
def dcBlock (d : DinSt) (on : Bool) (sh : Nat) (x : Int) : Int × Bool × DinSt :=
  if !on then (x, false, { d with x1 := 0, acc := 0 })
  else
    let y0 := (x - d.x1) * 2 ^ 16 + d.acc - d.acc / 2 ^ sh
    let y := satSigned 52 y0
    let o := (y + 2 ^ 15) / 2 ^ 16
    let c := satSigned 32 o
    (c, decide (y ≠ y0) || decide (c ≠ o), { d with x1 := x, acc := y })

/-- Supervision of an input over the bits of a whole pick (R238): four picks of one value make it stuck, and a pick of both clears it. -/
def State.dinWatch (s : State) (k osr word : Nat) : State :=
  let ones := (List.range osr).foldl (fun c j => if bitOf word j then c + 1 else c) 0
  let s := s.put (R.DIN_ONES_Ones k) ones
  let same := if ones = 0 then some false else if ones = osr then some true else none
  let run := match same, (s.din k).same with
    | some b, some (c, n) => if b = c then some (b, min (n + 1) 4) else some (b, 1)
    | some b, none => some (b, 1)
    | none, _ => none
  let s := s.updDin k (fun d => { d with same := run })
  let stuck := match run with
    | some (_, n) => decide (4 ≤ n) || s.is (R.DIN_STATUS_Stuck k)
    | none => false
  let rises := stuck && !s.is (R.DIN_STATUS_Stuck k)
  let s := (s.putB (R.DIN_STATUS_Stuck k) stuck).putB ⟨if k < 32 then R.DEC_STUCK_LO else R.DEC_STUCK_HI, k % 32, 1⟩ stuck
  if rises then s.bump R.CNT_DEC_STUCK_Count else s

/-- Supervision of every input whose group has a clock, at the end of a pick (R238). -/
def State.decWatch (s : State) (bits : List (Nat × Nat)) : State :=
  s.forN 64 (fun k t => match t.decOsr (k / 16) with
    | some osr => if t.decState (k / 16) ≥ 2 then t.dinWatch k osr (tget 0 bits k) else t
    | none => t)

/-- The oversampling ratio of each group. -/
def State.decOsrs (s : State) : List (Option Nat) := (List.range 4).map s.decOsr

/-- One input over the bits of pick n − 1: its value of index n before trim and mute; a word that its integer delay reads with an uncorrectable
error is 0 and counted (R225 to R234). -/
def State.dinPass (s : State) (k n osr word : Nat) (bad : Bool) : State :=
  let g := k / 16
  if s.decState g ≠ 3 then s
  else
    let profile := s.get (R.DEC_GRP_Profile g)
    let (x, c1, d) := chainRun (s.din k) osr (s.get (R.DIN_STATUS_PhaseFracNow k)) profile (s.is (R.DIN_CFG_Invert k)) word
    let live := match s.dec.pick with
      | some p => decide (p + settleLen profile ≤ n)
      | none => false
    let (y, c2, d) := dcBlock d (s.is (R.DIN_CFG_DcBlock k)) (s.get (R.DIN_CFG_DcShift k)) (if live then x else 0)
    let line := BitVec.ofInt 32 y :: d.delay
    let v := if bad then 0#32 else line.getD (s.get (R.DIN_STATUS_IntDelayNow k)) 0#32
    let s := s.updDin k (fun e => { d with delay := line.take 255, same := e.same })
    let s := if bad then s.bump R.CNT_DEC_POISON_Count else s
    let s := if c1 || c2 then s.bump R.CNT_DEC_CLIP_Count else s
    { s with dec := { s.dec with vals := s.dec.vals ++ [(k, v, c1 || c2)] } }

/-- The decimators after strobe n: `bits` has the bits of pick n − 1 of the inputs the modulators drive, sampled under the ratios `osrs`; `bad`
names 8,192 + k where a word of input k's integer delay reads with an uncorrectable error (R232). -/
def State.decPass (s : State) (n : Nat) (osrs : List (Option Nat)) (bits : List (Nat × Nat)) (bad : List Nat) : State :=
  ({ s with dec := { s.dec with vals := [] } } : State).forN 64 (fun k t => match osrs.getD (k / 16) none with
    | some osr => t.dinPass k n osr (tget 0 bits k) (bad.contains (8192 + k))
    | none => t)

/-- A decimator output after mute and trim, and whether the trim saturates (R231). -/
def State.dinTrim (s : State) (k : Nat) (v : BitVec 32) : BitVec 32 × Bool :=
  let o := divRoundAway (v.toInt * s.getI (R.DIN_TRIM_Trim k)) (2 ^ 28)
  if s.is (R.DIN_CFG_Mute k) then (0#32, false) else (BitVec.ofInt 32 (satSigned 32 o), decide (satSigned 32 o ≠ o))

/-- The decimator slots of the half that Heddle reads for index n, with the Trim and Mute in force for that index (R45, R231). Slots of groups
whose last sync is for the index read 0 (R234), and so do all while DEC_CTRL.Enable is 0 (R224). -/
def State.decSlots (s : State) (n : Nat) : State :=
  s.forL s.dec.vals (fun e t =>
    if (t.dec.pick = some n ∧ t.decState (e.1 / 16) = 3) ∨ ¬ t.is R.DEC_CTRL_Enable then t
    else
      let (o, sat) := t.dinTrim e.1 e.2.1
      let t := if sat && !e.2.2 then t.bump R.CNT_DEC_CLIP_Count else t
      { t with src := tput 0#32 (6656 + e.1) o t.src })

-- ## Synchronisation (R234, R235)

/-- A sync for pick p acts on every group in WaitSync or Running. -/
def State.decSync (s : State) (p : Nat) : State :=
  if !s.is R.DEC_CTRL_Enable then s
  else
    let s := s.forN 4 (fun g t =>
      if t.decState g < 2 then t
      else
        let t := t.setDec g 3
        t.forN 16 (fun i u =>
          let k := 16 * g + i
          let u := (u.put (R.DIN_STATUS_PhaseFracNow k) (u.get (R.DIN_CFG_PhaseFrac k))).put (R.DIN_STATUS_IntDelayNow k) (u.get (R.DIN_CFG_IntDelay k))
          let u := (u.put (R.DIN_STATUS_Pending k) 0).put (R.DIN_STATUS_Settled k) 0
          let u := u.updDin k (fun d => { d with x1 := 0, acc := 0, delay := [] })
          u))
    let s := { s with dec := { s.dec with pick := some p, clear := some (p + 2) } }
    ((s.put64 R.DEC_SYNC_PICK_LO_Pick R.DEC_SYNC_PICK_HI_Pick p).bump R.CNT_DEC_SYNC_Count).decStatus

/-- The syncs that commit at strobe p + 1 in one, `cues` of them by cue; those beyond the first are counted merged (R239). -/
def State.decCommit (s : State) (p cues : Nat) : State :=
  let n := cues + (if s.dec.syncNow then 1 else 0) + (if s.dec.pin.contains p then 1 else 0)
  let s := { s with dec := { s.dec with syncNow := false, pin := s.dec.pin.filter (fun q => decide (p < q)) } }
  if n = 0 ∨ ¬ s.is R.DEC_CTRL_Enable then s
  else (s.decSync p).add R.CNT_DEC_MERGED_Count (n - 1)

/-- DEC_SYNC_NOW. -/
def execDecSyncNow (s : State) : Host.Outcome State Fault Refusal := s.live fun s =>
  ({ s with dec := { s.dec with syncNow := true } } : State).done

/-- DSM_SYNC_EDGE: an edge sampled in the current pick asks for a sync for the next (R235). -/
def execDsmSyncEdge (falling : Bool) (s : State) : Host.Outcome State Fault Refusal := s.live fun s =>
  (if s.is R.DEC_CTRL_SyncPinEn ∧ falling = s.is R.DEC_CTRL_SyncPol ∧ s.time.running then
     { s with dec := { s.dec with pin := if s.dec.pin.contains (s.time.pick + 1) then s.dec.pin else s.dec.pin ++ [s.time.pick + 1] } }
   else s).done

/-- From boundary B(s + 2) on, the chains start from cleared state (R234). -/
def State.decClear (s : State) : State :=
  match s.dec.clear with
  | some c =>
    if s.time.pick < c then s
    else
      let s := s.forN 64 (fun k t =>
        if t.decState (k / 16) = 3 then
          t.updDin k (fun d => { d with ints := [0, 0, 0, 0, 0], combs := [0, 0, 0, 0, 0], bits := [], h1 := [], h2 := [], h3 := [] })
        else t)
      ({ s with dec := { s.dec with clear := none } } : State).decStatus
  | none => s

/-- DEC_CLEAR_POINT. -/
def execDecClearPoint (s : State) : Host.Outcome State Fault Refusal := s.live fun s => s.decClear.done

/-- The counter starts at pick n: a SyncNow written before acts for the pick before (R235), a clear point that has passed while no strobe fell has
cleared the chains (R237), and no bits of a whole pick before are there (R238). -/
def State.decStart (s : State) (n : Nat) : State :=
  let s := (s.decCommit (n - 1) 0).decClear
  { s with dec := { s.dec with vals := [], dins := s.dec.dins.map (fun e => (e.1, { e.2 with same := none })) } }

/-- DEC_SETTLED: an input of a Running group SettleLen and IntDelay picks after the sync (R234). -/
def execDecSettled (k : Nat) (s : State) : Host.Outcome State Fault Refusal := s.accept (below k 64) fun s =>
  (match s.dec.pick with
   | some p =>
     if s.decState (k / 16) = 3 ∧ p + settleLen (s.get (R.DEC_GRP_Profile (k / 16))) + s.get (R.DIN_STATUS_IntDelayNow k) ≤ s.time.pick then
       (s.put (R.DIN_STATUS_Settled k) 1).decStatus
     else s
   | none => s).done

/-- A RateChange commit for pick n acts as a sync; a group whose clock is then not valid goes to ClockFault (R237). -/
def State.decRate (s : State) (n : Nat) : State :=
  let s := s.forN 4 (fun g t =>
    if t.decState g ≥ 2 ∧ (t.decOsr g).isNone then (t.setDec g 1).bump R.CNT_DEC_CLKFAULT_Count
    else t.setDec g (t.decState g))
  s.decSync n

/-- After the index of a Rebase's strobe, the sync pick, its clear point and the picks asked for move by k (R237). -/
def State.decMove (s : State) (k : Int) : State :=
  let mv := fun (p : Nat) => ((p : Int) + k).toNat
  let s := { s with dec := { s.dec with pick := s.dec.pick.map mv, clear := s.dec.clear.map mv, pin := s.dec.pin.map mv } }
  match s.dec.pick with
  | some p => s.put64 R.DEC_SYNC_PICK_LO_Pick R.DEC_SYNC_PICK_HI_Pick p
  | none => s

-- ## Register writes

/-- DEC_ROM_DATA: the coefficient DEC_ROM_SEL names; 0 beyond the table (R229). -/
def State.decRomData (s : State) : BitVec 32 :=
  let t := s.get R.DEC_ROM_SEL_Table
  let k := s.get R.DEC_ROM_SEL_Tap
  if k < romTaps t then decRom t k else 0#32

/-- An input's configuration word written (R230, R234). -/
def State.dinCfgWrite (s : State) (k v : Nat) : State :=
  let a := R.DIN_CFG k
  if bitsOf v 2 5 < 8 ∨ 20 < bitsOf v 2 5 then s.refusedAt a
  else
    let s := s.wrRW a v
    s.putB (R.DIN_STATUS_Pending k) (decide (s.get (R.DIN_CFG_PhaseFrac k) ≠ s.get (R.DIN_STATUS_PhaseFracNow k)
      ∨ s.get (R.DIN_CFG_IntDelay k) ≠ s.get (R.DIN_STATUS_IntDelayNow k)))

/-- A write of DEC register offset r (within the block), `v` the word with unwritten bytes kept. -/
def State.decRegWrite (s : State) (r v : Nat) : State :=
  let a := R.DEC_CTRL + r
  if r = 8 then (if bitOf v 0 then { s with dec := { s.dec with syncNow := true } } else s)
  else if 0x10 ≤ r ∧ r < 0x20 then s.decGrpWrite ((r - 0x10) / 4) v
  else if 0x400 ≤ r ∧ r < 0x800 ∧ r % 16 = 0 then s.dinCfgWrite ((r - 0x400) / 16) v
  else s.wrRW a v

end Sys2Proof.Machine
end

