-- ==== Sys2Proof/Machine/Detect.lean ====
section
/-!
DEFINITION. Detectors and limiters: peak, RMS, envelope, alert and gain (11_filters_detectors.md).
-/
namespace Sys2Proof.Machine

/-- A detector entry. -/
def State.detEnt (s : State) (e : Nat) : Det := tget {} s.det.ents e

/-- A detector entry changed. -/
def State.updDet (s : State) (e : Nat) (f : Det → Det) : State :=
  { s with det := { s.det with ents := tupd {} e f s.det.ents } }

/-- A field of an entry's configuration words. -/
def dtF (ws : List (BitVec 32)) (f : Fld) : Nat := wf ws R.DT_CFG f

/-- The checks on words for entry e (R256 to R261): the result code. -/
def dtCheck (e : Nat) (ws : List (BitVec 32)) : Nat :=
  if 8255 < e ∨ dtF ws R.DT_CFG_AlertSrc = 3 ∨ dtF ws R.DT_CFG_RmsShift = 0 ∨ 24 < dtF ws R.DT_CFG_RmsShift
    ∨ 2 ^ 30 < dtF ws R.DT_DECAY_Decay ∨ 2 ^ 30 < dtF ws R.DT_ATTACK_Attack ∨ 2 ^ 30 < dtF ws R.DT_RELEASE_Release
    ∨ (dtF ws R.DT_CFG_LimitEn = 1 ∧ (dtF ws R.DT_CFG_EnvEn = 0 ∨ dtF ws R.DT_THRESH_Threshold = 0 ∨ 8191 < e)) then 1
  else 0

-- ## One index (R257 to R262)

/-- The peak detector (R257). -/
def DetVal.peak (v : DetVal) (hold decay a : Nat) : DetVal :=
  let w := if v.p ≤ a then { v with p := a, h := hold } else if 0 < v.h then { v with h := v.h - 1 } else { v with p := v.p * decay / 2 ^ 30 }
  if w.p = 0 then { w with h := 0 } else w

/-- The RMS detector (R258). -/
def DetVal.rms (v : DetVal) (sh : Nat) (x : Int) : DetVal := { v with m := ((v.m : Int) + (x * x - v.m) / 2 ^ sh).toNat }

/-- The envelope detector (R259). -/
def DetVal.env (v : DetVal) (attack release a : Nat) : DetVal :=
  let d : Int := (a : Int) * 65536 - v.e
  { v with e := ((v.e : Int) + divRoundAway (d * (if 0 < d then attack else release)) (2 ^ 30)).toNat }

/-- The value the alert watches (R260). -/
def DetVal.watched (v : DetVal) (src : Nat) : Nat := if src = 0 then v.p else if src = 1 then isqrt v.m else v.e / 65536

/-- The Over bit after an index (R260). -/
def DetVal.alert (v : DetVal) (src level : Nat) : DetVal :=
  let w := v.watched src
  { v with ovr := if level = 0 then false else if v.ovr then decide (level - level / 16 < w) else decide (level < w) }

/-- The limiter's gain (R261). -/
def DetVal.gain (v : DetVal) (on : Bool) (thr : Nat) : DetVal :=
  { v with g := if !on ∨ v.e ≤ thr * 65536 then 2 ^ 28 else thr * 2 ^ 44 / v.e }

/-- An entry's measurements at one index: peak, RMS, envelope, alert, limiter (R256). -/
def DetVal.step (v : DetVal) (ws : List (BitVec 32)) (x : Int) : DetVal :=
  let a := x.natAbs
  let v := if dtF ws R.DT_CFG_PeakEn = 1 then v.peak (dtF ws R.DT_CFG_HoldPicks) (dtF ws R.DT_DECAY_Decay) a else v
  let v := if dtF ws R.DT_CFG_RmsEn = 1 then v.rms (dtF ws R.DT_CFG_RmsShift) x else v
  let v := if dtF ws R.DT_CFG_EnvEn = 1 then v.env (dtF ws R.DT_ATTACK_Attack) (dtF ws R.DT_RELEASE_Release) a else v
  let v := v.alert (dtF ws R.DT_CFG_AlertSrc) (dtF ws R.DT_ALERT_AlertLevel)
  v.gain (decide (dtF ws R.DT_CFG_LimitEn = 1)) (dtF ws R.DT_THRESH_Threshold)

/-- An onset goes to the over log (R260). -/
def State.overLog (s : State) (e n : Nat) : State :=
  let s := s.bump R.CNT_DET_OVER_Count
  if s.det.log.length < 16 then { s with det := { s.det with log := s.det.log ++ [(e, n)] } } else s.bump R.CNT_OVLOG_LOST_Count

/-- Entry e at index n with value x: the update, its shadow's, and what they count (R256 to R262). -/
def State.detect (s : State) (e n : Nat) (x : BitVec 32) : State :=
  if !s.is R.DET_CTRL_Enable then s
  else
    let d := s.detEnt e
    let v := d.val.step d.eff x.toInt
    let sh := if s.det.period.isSome then d.sh.step d.eff x.toInt else d.sh
    let s := s.updDet e (fun t => { t with val := v, top := max t.top v.p, sh := sh })
    let s := if v.ovr ∧ ¬ d.val.ovr then s.overLog e n else s
    if v.g < 2 ^ 28 ∧ d.val.g = 2 ^ 28 then s.bump R.CNT_LIMIT_ON_Count else s

/-- The limited value of destination d (R261). -/
def State.limit (s : State) (d : Nat) (y : BitVec 32) : BitVec 32 :=
  if s.is R.DET_CTRL_Enable then BitVec.ofInt 32 (divRoundAway (y.toInt * (s.detEnt d).val.g) (2 ^ 28)) else y

-- ## Strobe, Realign, rate change and rebase

/-- Configuration words come into force; an AlertLevel of 0 clears Over (R22, R260); while DET is disabled the gain is unity. -/
def State.detTake (s : State) : State :=
  let on := s.is R.DET_CTRL_Enable
  let fix := fun (ws : List (BitVec 32)) (v : DetVal) =>
    { v with ovr := v.ovr && decide (dtF ws R.DT_ALERT_AlertLevel ≠ 0), g := if on then v.g else 2 ^ 28 }
  { s with det := { s.det with ents := s.det.ents.map (fun x => (x.1, { x.2 with eff := x.2.cfg, val := fix x.2.cfg x.2.val, sh := fix x.2.cfg x.2.sh })) } }

/-- Words checked and, where they pass, stored: the result code and the state. -/
def State.dtWrite (s : State) (e : Nat) (ws : List (BitVec 32)) : Nat × State :=
  let c := dtCheck e ws
  if c ≠ 0 then (c, s)
  else
    (0, s.updDet e (fun d => { d with cfg := ws }))

/-- The detectors' part of a Realign cue for pick n: shadows start from zero values (R30, R256). -/
def State.detRealign (s : State) (n picks : Nat) : State :=
  { s with det := { s.det with period := some (n, picks), ents := s.det.ents.map (fun x => (x.1, { x.2 with sh := {} })) } }

/-- The end of a Realign period: each shadow replaces its live instance (R30, R260). -/
def State.detRealignEnd (s : State) : State :=
  { s with det := { s.det with period := none, ents := s.det.ents.map (fun x => (x.1, { x.2 with val := x.2.sh, sh := {} })) } }

/-- A RateChange or Rebase commit: every value is 0 and the gain is unity; Over and PeakMax stay; a Realign period ends
(R46, R47, R256). -/
def State.detClear (s : State) : State :=
  { s with det := { s.det with period := none, ents := s.det.ents.map (fun x => (x.1, { x.2 with val := { ovr := x.2.val.ovr }, sh := {} })) } }

-- ## Windows and registers

/-- DET_OVER_w: the Over bits of entries 32w to 32w + 31. -/
def State.detOver (s : State) (w : Nat) : Nat :=
  (List.range 32).foldl (fun n i => if (s.detEnt (32 * w + i)).val.ovr then n + 2 ^ i else n) 0

/-- The status window's words (DetLevels). -/
def Det.levels (d : Det) : List (BitVec 32) :=
  [BitVec.ofNat 32 d.val.p, BitVec.ofNat 32 d.top, BitVec.ofNat 32 (isqrt d.val.m), BitVec.ofNat 32 (d.val.e / 65536), BitVec.ofNat 32 d.val.g,
   BitVec.ofNat 32 ((if d.val.ovr then 1 else 0) + (if d.val.g < 2 ^ 28 then 2 else 0))]

/-- A DT command's result (R256). -/
def State.dtResult (s : State) (c : Nat) : State := s.resultErr R.DT_RESULT_Code R.DT_RESULT_Seq R.DT_CMD c (s.get R.DT_SEL_Entry)

/-- DT_CMD.Read. -/
def State.dtReadCmd (s : State) : State :=
  let e := s.get R.DT_SEL_Entry
  if 8255 < e then s.dtResult 1
  else (((s.wrWords R.DT_CFG (s.detEnt e).cfg).wrWords R.DT_PEAK (s.detEnt e).levels)).dtResult 0

/-- DT_CMD.Write. -/
def State.dtWriteCmd (s : State) : State :=
  let e := s.get R.DT_SEL_Entry
  let (c, s) := s.dtWrite e (s.rdWords R.DT_CFG 6)
  (if c = 0 then s.mark (tableKey 5 e) else s).dtResult c

/-- DT_CMD.ClearMax (R257). -/
def State.dtClearCmd (s : State) : State :=
  let e := s.get R.DT_SEL_Entry
  if 8255 < e then s.dtResult 1 else (s.updDet e (fun d => { d with top := d.val.p })).dtResult 0

/-- DT_READ. -/
def execDtRead (s : State) : Host.Outcome State Fault Refusal := s.live fun s => s.dtReadCmd.done

/-- DT_WRITE. -/
def execDtWrite (s : State) : Host.Outcome State Fault Refusal := s.live fun s => s.dtWriteCmd.done

/-- DT_CLEAR_MAX. -/
def execDtClearMax (s : State) : Host.Outcome State Fault Refusal := s.live fun s => s.dtClearCmd.done

/-- A read of OV_INFO that includes byte 3 pops the oldest over record and latches its pick (R260). -/
def State.ovPop (s : State) : Nat × State := match s.det.log with
  | [] => (0, (s.wr R.OV_INFO 0#32).put64 R.OV_PICK_LO_Pick R.OV_PICK_HI_Pick 0)
  | (e, n) :: r =>
    let s := { s with det := { s.det with log := r } }
    let s := ((s.put R.OV_INFO_Entry e).put R.OV_INFO_Valid 1).put64 R.OV_PICK_LO_Pick R.OV_PICK_HI_Pick n
    ((s.rd R.OV_INFO).toNat, s)

/-- OV_INFO_POP. -/
def execOvInfoPop (s : State) : Host.Outcome State Fault Refusal := s.live fun s =>
  let (v, s) := s.ovPop
  (s.send (.readData R.OV_INFO v)).done

/-- A write of DET register offset r (within the block), `v` the word with unwritten bytes kept; DT_CMD acts on its set bits. -/
def State.detRegWrite (s : State) (r v : Nat) : State :=
  if r = 0xC then
    let s := if bitOf v 0 then s.dtReadCmd else s
    let s := if bitOf v 1 then s.dtWriteCmd else s
    if bitOf v 2 then s.dtClearCmd else s
  else s.wrRW (R.DET_CTRL + r) v

end Sys2Proof.Machine
end

