-- ==== Sys2Proof/Machine/Filt.lean ====
section
/-!
DEFINITION. The filter engine: chains and banks, coefficient memory, arithmetic, budgets, swaps and fades, Realign shadows
(11_filters_detectors.md).
-/
namespace Sys2Proof.Machine

-- ## Chains

/-- A chain. -/
def State.chain (s : State) (j : Nat) : Chain := tget {} s.filt.chains j

/-- The filter engine's state changed. -/
def State.updF (s : State) (f : Filt → Filt) : State := { s with filt := f s.filt }

/-- A chain changed. -/
def State.updChain (s : State) (j : Nat) (f : Chain → Chain) : State :=
  s.updF (fun e => { e with chains := tupd {} j f e.chains })

/-- A field of a chain's configuration words. -/
def fcF (ws : List (BitVec 32)) (f : Fld) : Nat := wf ws R.FC_CFG f

/-- The chain is enabled by its words. -/
def fcOn (ws : List (BitVec 32)) : Bool := decide (fcF ws R.FC_CFG_Enable = 1)

/-- The chain is a FIR by its words. -/
def fcFir (ws : List (BitVec 32)) : Bool := decide (fcF ws R.FC_CFG_Type = 1)

/-- Words in a bank's block, which is the chain's cost (R243, R249). -/
def fcCost (ws : List (BitVec 32)) : Nat := if fcFir ws then fcF ws R.FC_CFG_Length else 5 * fcF ws R.FC_CFG_Length

/-- A bank's Base. -/
def fcBase (ws : List (BitVec 32)) (bank : Nat) : Nat := (ws.getD (1 + bank) 0#32).toNat % 2 ^ 18

/-- Chains at a rate (R241). -/
def chainsAt (fs : Nat) : Nat := if highRate fs then 512 else 1024

/-- The schedulable budget and the steady share (R26). -/
def macBudget (fs : Nat) : Nat := 24000000000 / fs
/-- The steady share (R26). -/
def macShare (fs : Nat) : Nat := 19200000000 / fs

-- ## Costs (R245, R249)

/-- Configuration words of the enabled chains. -/
def enabledOf (t : List (Nat × List (BitVec 32))) : List (List (BitVec 32)) := (t.map Prod.snd).filter fcOn

/-- The chains' words as last accepted, chain j's replaced. -/
def State.fcView (s : State) (j : Nat) (ws : List (BitVec 32)) : List (List (BitVec 32)) :=
  enabledOf (tput chainReset j ws (s.filt.chains.map (fun e => (e.1, e.2.cfg))))

/-- Steady cost. -/
def steadyOf (es : List (List (BitVec 32))) : Nat := es.foldl (fun c w => c + fcCost w) 0
/-- cmax. -/
def cmaxOf (es : List (List (BitVec 32))) : Nat := es.foldl (fun c w => max c (fcCost w)) 0
/-- Sbq. -/
def sbqOf (es : List (List (BitVec 32))) : Nat := es.foldl (fun c w => if fcFir w then c else c + fcCost w) 0
/-- FIR history in use. -/
def histOf (es : List (List (BitVec 32))) : Nat := es.foldl (fun c w => if fcFir w then c + fcCost w else c) 0

/-- A Realign cue is pending, a period runs, or a closing cross-fade runs (R251). -/
def State.realignBusy (s : State) : Bool :=
  s.cues.any (fun c => decide (c.action = 8)) || s.filt.period.isSome || s.filt.chains.any (fun e => e.2.closing.isSome)

/-- The sum of R251 is within the budget. -/
def State.realignFits (s : State) (es : List (List (BitVec 32))) (maxFades : Nat) : Bool :=
  decide (steadyOf es + sbqOf es + maxFades * cmaxOf es ≤ macBudget s.fs)

/-- The budget checks of R250 on a set of enabled chains: Steady, Fade, Realign. -/
def State.fcBudget (s : State) (es : List (List (BitVec 32))) (maxFades : Nat) : Nat :=
  if s.ratesFor.any (fun fs => decide (macShare fs < steadyOf es)) then 3
  else if s.ratesFor.any (fun fs => decide (macBudget fs < steadyOf es + maxFades * cmaxOf es)) then 4
  else if s.realignBusy ∧ ¬ s.realignFits es maxFades then 5
  else 0

/-- A bank is in use, counting accepted changes (R244, R451). -/
def Chain.inUse (c : Chain) (bank : Nat) : Bool := (fcOn c.cfg && decide (bank = c.active)) || c.fade.isSome

/-- The checks of R250 on words for chain j: the result code, 0 where they pass. -/
def State.fcCheck (s : State) (j : Nat) (ws : List (BitVec 32)) : Nat :=
  let len := fcF ws R.FC_CFG_Length
  let old := s.chain j
  let es := s.fcView j ws
  let b := s.fcBudget es (s.get R.FADE_CFG_MaxFades)
  if len = 0 ∨ (if fcFir ws then 1024 else 16) < len ∨ fcF ws R.FC_CFG_FadeLen = 0 then 1
  else if s.ratesFor.any (fun fs => decide (chainsAt fs ≤ j)) then 2
  else if b ≠ 0 then b
  else if 262144 < fcBase ws 0 + fcCost ws ∨ 262144 < fcBase ws 1 + fcCost ws then 6
  else if 262144 < histOf es then 7
  else if fcOn old.cfg ∧ (fcFir ws ≠ fcFir old.cfg ∨ len ≠ fcF old.cfg R.FC_CFG_Length) then 8
  else if fcBase ws old.active ≠ fcBase old.cfg old.active ∧ old.inUse old.active then 9
  else 0

/-- A value for MaxFades: the result code (R250). -/
def State.maxFadesCheck (s : State) (v : Nat) : Nat :=
  if v = 0 ∨ 64 < v then 1 else s.fcBudget (enabledOf (s.filt.chains.map (fun e => (e.1, e.2.cfg)))) v

/-- A block put into a list of blocks, first words rising. -/
def blockInsert (b : Nat × Nat) : List (Nat × Nat) → List (Nat × Nat)
  | [] => [b]
  | x :: xs => if b.1 ≤ x.1 then b :: x :: xs else x :: blockInsert b xs

/-- Words that blocks (first word, end), first words rising, cover from word lo on, each counted once. -/
def blockWords : Nat → List (Nat × Nat) → Nat
  | _, [] => 0
  | lo, b :: bs => (b.2 - max lo b.1) + blockWords (max lo b.2) bs

/-- Fade slots in use (R253). -/
def State.slotsUsed (s : State) : Nat := s.filt.chains.foldl (fun n e => n + (match e.2.fade with | some f => f.slots | none => 0)) 0

/-- The status registers of FILT. -/
def State.filtStatus (s : State) : State :=
  let es := enabledOf (s.filt.chains.map (fun e => (e.1, e.2.eff)))
  let bs := (es.flatMap (fun w => [(fcBase w 0, fcBase w 0 + fcCost w), (fcBase w 1, fcBase w 1 + fcCost w)])).foldr blockInsert []
  let s := (s.put R.FILT_STATUS_Chains es.length).put R.FILT_STATUS_Fading s.slotsUsed
  let s := s.putB R.FILT_STATUS_Realigning s.filt.period.isSome
  let s := (s.put R.FILT_SHARE_Mac (macShare s.fs)).put R.FILT_BUDGET_Mac (macBudget s.fs)
  let s := (s.put R.FILT_STEADY_Mac (steadyOf es)).put R.FILT_FADECOST_Mac (s.get R.FADE_CFG_MaxFades * cmaxOf es)
  let s := (s.put R.FILT_BQCOST_Mac (sbqOf es)).put R.FILT_HIST_USED_Words (histOf es)
  s.put R.FILT_COEF_REF_Words (blockWords 0 bs)

-- ## Configuration in force (R22, R242, R244, R457)

/-- From zero state, with nothing in progress. -/
def Chain.fresh (c : Chain) : Chain :=
  { c with eff := c.cfg, secs := [], hist := [], fade := none, pend := none, wait := false, shadow := none, closing := none, ran := none }

/-- The words in force follow those accepted; a changed Base of the outgoing bank is held while the chain fades (R244); an enable
starts from zero state, a disable ends what runs (R242, R263). -/
def Chain.take (c : Chain) : Chain :=
  if fcOn c.eff = fcOn c.cfg then
    { c with eff := if c.fade.isSome then setAt c.cfg (2 - c.active) (c.eff.getD (2 - c.active) 0#32) else c.cfg }
  else c.fresh

/-- A held Base awaits the fade's end. -/
def Chain.held (c : Chain) : Bool := c.fade.isSome && decide (c.eff.getD (2 - c.active) 0#32 ≠ c.cfg.getD (2 - c.active) 0#32)

/-- The end of a fade: the outgoing bank is inactive, a held Base is applied (R254). -/
def Chain.fadeEnd (c : Chain) : Chain := { c with fade := none, eff := c.cfg }

/-- A fade whose last index lies before index n ends. -/
def Chain.fadeDue (c : Chain) (n : Nat) : Chain := match c.fade with
  | some f => if f.s + f.n ≤ n then c.fadeEnd else c
  | none => c

/-- The shadow of a closing cross-fade becomes the live instance (R30, R255). -/
def Chain.closeEnd (c : Chain) : Chain :=
  { c with secs := c.shadow.getD c.secs, shadow := none, closing := none,
           fade := c.fade.map (fun f => { f with out := f.shOut, shOut := none }) }

/-- A closing cross-fade whose last index lies before index n ends. -/
def Chain.closeDue (c : Chain) (n : Nat) : Chain := match c.closing with
  | some (c0, len) => if c0 + len ≤ n then c.closeEnd else c
  | none => c

/-- Host writes come into force at a strobe: chain words and FILT_CTRL.Enable (R22, R457). -/
def State.filtTake (s : State) : State :=
  let en := s.is R.FILT_CTRL_Enable
  let turn := decide (en ≠ s.filt.on)
  s.updF (fun e => { e with
    on := en
    period := if turn then none else e.period
    chains := e.chains.map (fun x => (x.1, if turn then x.2.fresh else x.2.take)) })

/-- Words that passed the check are stored for chain j. -/
def State.fcStore (s : State) (j : Nat) (ws : List (BitVec 32)) : State :=
  let s := s.updChain j (fun c => { c with cfg := ws })
  s.filtStatus

/-- Words checked and, where they pass, stored: the result code and the state. -/
def State.fcWrite (s : State) (j : Nat) (ws : List (BitVec 32)) : Nat × State :=
  let c := s.fcCheck j ws
  (c, if c = 0 then s.fcStore j ws else s)

/-- A write of MaxFades (R250): the result code and the state. -/
def State.maxFades (s : State) (v : Nat) : Nat × State :=
  let c := s.maxFadesCheck v
  (c, if c = 0 then (s.put R.FADE_CFG_MaxFades v).filtStatus else s)

-- ## Coefficient memory (R243 to R245)

/-- Chain j's bank blocks in use, as (first word, end): by the words in force, and by those accepted for the next strobe (R244, R451). -/
def Chain.locks (c : Chain) : List (Nat × Nat) :=
  let one := fun (ws : List (BitVec 32)) (bank : Nat) => (fcBase ws bank, fcBase ws bank + fcCost ws)
  if c.fade.isSome then [one c.eff 0, one c.eff 1]
  else (if fcOn c.eff then [one c.eff c.active] else []) ++ (if fcOn c.cfg then [one c.cfg c.active] else [])

/-- A coefficient word is locked. -/
def State.coefLocked (s : State) (w : Nat) : Bool :=
  s.filt.chains.any (fun e => e.2.locks.any (fun b => decide (b.1 ≤ w) && decide (w < b.2)))

/-- A coefficient word. -/
def State.coefAt (s : State) (w : Nat) : BitVec 32 := tget 0#32 s.filt.coef w

/-- A coefficient word written: it is no longer uncorrectable, and a chain poisoned by it restarts from zero state (R245). -/
def State.coefPut (s : State) (w : Nat) (v : BitVec 32) : State :=
  s.updF (fun e => { e with
    coef := tput 0#32 w v e.coef
    bad := e.bad.filter (fun x => decide (x ≠ w))
    chains := e.chains.map (fun x => (x.1, if x.2.poison = some (some w) then { x.2 with poison := none } else x.2)) })

/-- A bus write of one coefficient word: refused where it is locked and not poisoned (R244, R245). -/
def State.coefStore (s : State) (w : Nat) (v : BitVec 32) : Bool × State :=
  if s.coefLocked w ∧ ¬ s.filt.bad.contains w then (false, s.bump R.CNT_COEF_LOCKED_Count) else (true, s.coefPut w v)

/-- Words of a CoefImage write from word address w: whether one was refused (R244). -/
def State.coefImage (s : State) (w : Nat) : List (BitVec 32) → Bool × State
  | [] => (false, s)
  | v :: vs =>
    let keep := s.coefLocked w && !s.filt.bad.contains w
    let bad := keep && decide (s.coefAt w ≠ v)
    let s := if bad then s.bump R.CNT_COEF_LOCKED_Count else if keep then s else s.coefPut w v
    let (r, t) := s.coefImage (w + 1) vs
    (bad || r, t)

/-- The CoefImage object (OD 0x6070) written: 4-byte word address, then words. The item status: 0 done, 1 refused, 2 range. -/
def State.coefImageWrite (s : State) (data : List Byte) : Nat × State :=
  let w := leNat (data.take 4)
  let ws := wordsOf (data.drop 4)
  if data.length < 4 ∨ data.length % 4 ≠ 0 ∨ 262144 < w + ws.length then (2, s)
  else
    let (bad, t) := s.coefImage w ws
    if bad then (1, t.report { code := 0x10, block := 17, detail := 9 }) else (0, t)

/-- COEF_IMAGE_WRITE. -/
def execCoefImageWrite (data : List Byte) (s : State) : Host.Outcome State Fault Refusal := s.live fun s =>
  let (c, t) := s.coefImageWrite data
  (t.send (.opResult 0x6070 0 c)).done

-- ## Arithmetic (R246 to R248)

/-- The product term q (R246). -/
def qTerm (c v : Int) : Int := (c * v + 128) / 256

/-- An addition into the 56-bit accumulator; the flag says whether anything saturated so far. -/
def acc56 (a : Int × Bool) (t : Int) : Int × Bool := (satSigned 56 (a.1 + t), a.2 || decide (satSigned 56 (a.1 + t) ≠ a.1 + t))

/-- The output of an accumulator: y, and whether anything saturated. -/
def accOut (a : Int × Bool) : Int × Bool :=
  let y := (a.1 + 2 ^ 21) / 2 ^ 22
  (satSigned 32 y, a.2 || decide (satSigned 32 y ≠ y))

/-- One section at one index (R246). -/
def secRun (b0 b1 b2 a1 a2 : Int) (v : Sec) (x : Int) : Int × Bool × Sec :=
  let a := acc56 (acc56 (acc56 (acc56 (acc56 (v.e, false) (qTerm b0 x)) (qTerm b1 v.x1)) (qTerm b2 v.x2)) (qTerm (-a1) v.y1)) (qTerm (-a2) v.y2)
  let y0 := (a.1 + 2 ^ 21) / 2 ^ 22
  let y := satSigned 32 y0
  (y, a.2 || decide (y ≠ y0), { x1 := x, x2 := v.x1, y1 := y, y2 := v.y1, e := if y = y0 then a.1 - y * 2 ^ 22 else 0 })

/-- A cascade over coefficients in block order; sections beyond the list are zero. -/
def biquadRun : List Int → List Sec → Int → Int × Bool × List Sec
  | b0 :: b1 :: b2 :: a1 :: a2 :: cs, vs, x =>
    let (y, c, v) := secRun b0 b1 b2 a1 a2 (vs.headD {}) x
    let (z, d, r) := biquadRun cs vs.tail y
    (z, c || d, v :: r)
  | _, _, x => (x, false, [])

/-- A FIR over the history, newest first (R247). -/
def firRun (cs hist : List Int) : Int × Bool := accOut ((cs.zip hist).foldl (fun a t => acc56 a (qTerm t.1 t.2)) (0, false))

/-- The coefficients of a bank's block. -/
def State.coefs (s : State) (ws : List (BitVec 32)) (bank : Nat) : List Int :=
  (List.range (fcCost ws)).map (fun i => (s.coefAt (fcBase ws bank + i)).toInt)

/-- The blend of R252 at k. -/
def blend (yo yi : Int) (k n : Nat) : Int := if n ≤ k then yi else divRoundAway (yo * ((n : Int) - k) + yi * k) n

/-- A biquad instance at index n: its output, whether anything saturated, the instance and its outgoing instance (R252). -/
def State.instRun (s : State) (c : Chain) (n : Nat) (x : Int) (secs : List Sec) (out : Option (List Sec)) : Int × Bool × List Sec × Option (List Sec) :=
  let (yi, ci, vi) := biquadRun (s.coefs c.eff c.active) secs x
  match c.fade, out with
  | some f, some o =>
    if n - f.s + 1 < f.n then
      let (yo, co, vo) := biquadRun (s.coefs c.eff (1 - c.active)) o x
      (blend yo yi (n - f.s + 1) f.n, ci || co, vi, some vo)
    else (yi, ci, vi, out)
  | _, _ => (yi, ci, vi, out)

/-- A chain's response at index n to input x: output, whether anything saturated, the chain (R241, R246, R247, R252, R255). -/
def State.chainOut (s : State) (c : Chain) (n : Nat) (x : Int) : Int × Bool × Chain :=
  if fcFir c.eff then
    let h := (x :: c.hist).take (fcF c.eff R.FC_CFG_Length)
    let (yi, ci) := firRun (s.coefs c.eff c.active) h
    let c := { c with hist := h }
    match c.fade with
    | some f =>
      if n - f.s + 1 < f.n then
        let (yo, co) := firRun (s.coefs c.eff (1 - c.active)) h
        (blend yo yi (n - f.s + 1) f.n, ci || co, c)
      else (yi, ci, c)
    | none => (yi, ci, c)
  else
    let (yl, cl, vl, ol) := s.instRun c n x c.secs (c.fade.bind ChFade.out)
    match c.shadow with
    | none => (yl, cl, { c with secs := vl, fade := c.fade.map (fun f => { f with out := ol }) })
    | some sh =>
      let (ys, cs, vs, os) := s.instRun c n x sh (c.fade.bind ChFade.shOut)
      let y := match c.closing with
        | some (c0, len) => blend yl ys (n - c0 + 1) len
        | none => yl
      (y, cl || cs, { c with secs := vl, shadow := some vs, fade := c.fade.map (fun f => { f with out := ol, shOut := os }) })

/-- The first uncorrectable coefficient word a chain reads at index n. -/
def State.chainBad (s : State) (c : Chain) : Option Nat :=
  let blocks := if c.fade.isSome then [c.active, 1 - c.active] else [c.active]
  s.filt.bad.find? (fun w => blocks.any (fun b => decide (fcBase c.eff b ≤ w) && decide (w < fcBase c.eff b + fcCost c.eff)))

/-- Every state word of a chain is 0. -/
def Chain.zero (c : Chain) : Chain :=
  { c with secs := [], hist := [], shadow := c.shadow.map (fun _ => []), fade := c.fade.map (fun f => { f with out := f.out.map (fun _ => []), shOut := f.shOut.map (fun _ => []) }) }

/-- CHAIN_POISON (R245). -/
def State.chainPoison (s : State) (j : Nat) (w : Option Nat) : State :=
  ((s.updChain j (fun c => { c.zero with poison := some w })).bump R.CNT_FILT_POISON_Count).report
    { code := 0x14, block := 17, write := false, aux := j }

/-- The engine runs chain j for index n, if it has not: it reads destination slot 6,720 + j and writes source slot 6,720 + j of the
half that is filling (R20, R241, R245, R248). A state word that was reset is rewritten, so its chain restarts here. -/
def State.chainRun (s : State) (j n : Nat) (ecc : ChainEcc) : State :=
  let c := s.chain j
  if !s.filt.on ∨ ¬ fcOn c.eff ∨ c.ran = some n then s
  else
    let s := match ecc with
      | .coef w => s.updF (fun e => { e with bad := if e.bad.contains w then e.bad else e.bad ++ [w] })
      | _ => s
    let s := s.updChain j (fun c => { c with ran := some n, poison := if c.poison = some none then none else c.poison })
    let c := s.chain j
    if c.poison.isSome then s
    else if ecc = .chainState then s.chainPoison j none
    else match s.chainBad c with
      | some w => s.chainPoison j (some w)
      | none =>
        let (y, sat, c) := s.chainOut c n (tget 0#32 s.dst (6720 + j)).toInt
        let s := s.updChain j (fun _ => c)
        let s := { s with src := tput 0#32 (6720 + j) (BitVec.ofInt 32 y) s.src }
        if sat then s.bump R.CNT_FILT_SAT_Count else s

/-- The filter phase runs to its end: every chain that has not run for the index mixed last runs (R20). -/
def State.filterPhase (s : State) : State := match s.heddle.last with
  | some n => s.forL s.filt.chains (fun e t => t.chainRun e.1 n .clean)
  | none => s

/-- FILTER_CHAIN_START (R20): the chain's input is written once the mix phase of the pick is done. -/
def execFilterChainStart (j : Nat) (ecc : ChainEcc) (s : State) : Host.Outcome State Fault Refusal := s.accept (below j 1024) fun s =>
  (match s.heddle.last with
   | some n => if s.time.running then s.chainRun j n ecc else s
   | none => s).done

-- ## Swaps (R252 to R254)

/-- A swap of chain j with fade length len starts at index n. -/
def State.swapStart (s : State) (j len n : Nat) : State :=
  let run := s.filt.on && fcOn (s.chain j).eff
  (s.updChain j (fun c => { c with
    active := 1 - c.active
    pend := none
    wait := false
    fade := if run && decide (1 < len) then
        some { s := n, n := len, slots := if c.shadow.isSome then 2 else 1, out := if fcFir c.eff then none else some c.secs, shOut := c.shadow }
      else c.fade })).bump R.CNT_SWAP_Count

/-- A due swap starts if enough slots are free, else it stays pending and waits (R253). -/
def State.swapTry (s : State) (j len n : Nat) : State :=
  let need := if len ≤ 1 then 0 else if (s.chain j).shadow.isSome then 2 else 1
  if s.slotsUsed + need ≤ s.get R.FADE_CFG_MaxFades ∨ need = 0 then s.swapStart j len n
  else (s.updChain j (fun c => { c with pend := some len, wait := true })).bump R.CNT_FADE_WAIT_Count

/-- A request made at index n for chain j (R252, R253, R457). -/
def State.swapRequest (s : State) (j len n : Nat) : State :=
  let c := s.chain j
  let len := if len = 0 then fcF c.eff R.FC_CFG_FadeLen else len
  if !s.filt.on ∨ ¬ fcOn c.eff then s.swapStart j len n
  else if c.fade.isNone ∧ c.pend.isNone then s.swapTry j len n
  else
    let s := s.updChain j (fun c => { c with pend := some len })
    if c.pend.isSome then s.bump R.CNT_SWAP_REPLACED_Count else s

/-- The swaps of chain j due at index n: its pending swap, then cues' requests, then the host's (R253, R263). -/
def State.swapChain (s : State) (reqs : List (Nat × Nat)) (n j : Nat) : State :=
  let s := s.updChain j (fun c => { c with wait := false })
  let s := match (s.chain j).pend with
    | some len => if (s.chain j).fade.isNone then s.swapTry j len n else s
    | none => s
  s.forL (reqs.filter (fun r => decide (r.1 = j))) (fun r t => t.swapRequest j r.2 n)

/-- SWAP_START (R253): the swaps due at index n start in ascending chain number. -/
def State.swapPass (s : State) (n : Nat) : State :=
  let reqs := s.filt.cueReqs ++ s.filt.reqs
  let s := s.updF (fun e => { e with cueReqs := [], reqs := [] })
  let js := (List.range 1024).filter (fun j => reqs.any (fun r => decide (r.1 = j)) || (s.chain j).pend.isSome)
  (js.foldl (fun t j => t.swapChain reqs n j) s).filtStatus

/-- A host's swap request, made at the first index computed after it (R22, R252). -/
def State.hostSwap (s : State) (j len : Nat) : State := s.updF (fun e => { e with reqs := e.reqs ++ [(j, len)] })

-- ## Ends of fades, Realign (R30, R32, R254, R255)

/-- What has ended before index n: fades, then closing cross-fades. -/
def State.filtDue (s : State) (n : Nat) : State :=
  s.updF (fun e => { e with chains := e.chains.map (fun x => (x.1, (x.2.fadeDue n).closeDue n)) })

/-- The engine's part of a Realign cue for pick n: shadows of the enabled biquad chains start from zero state; an earlier period's
shadows are discarded, and closing cross-fades end (R30, R32, R255). -/
def State.filtRealign (s : State) (n picks : Nat) : State :=
  s.updF (fun e => { e with
    period := some (n, picks)
    chains := e.chains.map (fun x =>
      let c := if x.2.closing.isSome then x.2.closeEnd else { x.2 with shadow := none, fade := x.2.fade.map (fun f => { f with shOut := none }) }
      (x.1, if e.on && fcOn c.eff && !fcFir c.eff then { c with shadow := some [] } else c)) })

/-- The end of a Realign period: the closing cross-fades start at index n (R30, R255). -/
def State.filtRealignEnd (s : State) (n : Nat) : State :=
  s.updF (fun e => { e with
    period := none
    chains := e.chains.map (fun x => (x.1, if x.2.shadow.isSome ∧ x.2.closing.isNone then { x.2 with closing := some (n, fcF x.2.eff R.FC_CFG_FadeLen) } else x.2)) })

/-- A RateChange or Rebase commit (R46, R47, R263): chain histories are cleared, fades end on the incoming bank, the Realign period
ends; pending swaps stay for the index. -/
def State.filtClear (s : State) : State :=
  s.updF (fun e => { e with period := none, chains := e.chains.map (fun x => (x.1, { x.2.fresh with pend := x.2.pend })) })

-- ## Windows and registers

/-- FC_CMD.Read: the windows of the selected chain. -/
def State.fcLoad (s : State) : State :=
  let c := s.chain (s.get R.FC_SEL_Chain)
  let s := (s.wrWords R.FC_CFG c.cfg).put R.FC_STATE_ActiveBank c.active
  let s := ((s.putB R.FC_STATE_Fading c.fade.isSome).putB R.FC_STATE_Pending c.pend.isSome).putB R.FC_STATE_Waiting c.wait
  let s := ((s.putB R.FC_STATE_Shadow c.shadow.isSome).putB R.FC_STATE_Poisoned c.poison.isSome).putB R.FC_STATE_BaseHeld c.held
  s.put R.FC_STATE_FadeK (match c.fade, c.ran with
    | some f, some n => if f.s ≤ n then n - f.s + 1 else 0
    | _, _ => 0)

/-- A result of an FC command. -/
def State.fcResult (s : State) (c : Nat) : State := s.resultErr R.FC_RESULT_Code R.FC_RESULT_Seq R.FC_CMD c (s.get R.FC_SEL_Chain)

/-- FC_CMD.Write. -/
def State.fcStoreCmd (s : State) : State :=
  let j := s.get R.FC_SEL_Chain
  let (c, s) := s.fcWrite j (s.rdWords R.FC_CFG 3)
  (if c = 0 then s.mark (tableKey 4 j) else s).fcResult c

/-- FC_CMD.Swap. -/
def State.fcSwapCmd (s : State) (fade : Nat) : State := (s.hostSwap (s.get R.FC_SEL_Chain) fade).fcResult 0

/-- FC_READ. -/
def execFcRead (s : State) : Host.Outcome State Fault Refusal := s.live fun s => (s.fcLoad.fcResult 0).done

/-- FC_WRITE. -/
def execFcWrite (s : State) : Host.Outcome State Fault Refusal := s.live fun s => s.fcStoreCmd.done

/-- FC_SWAP. -/
def execFcSwap (fade : Nat) (s : State) : Host.Outcome State Fault Refusal := s.accept (below fade 65536) fun s => (s.fcSwapCmd (fade % 2 ^ 16)).done

/-- A write of FADE_CFG (R250). -/
def State.fadeCfgWrite (s : State) (v : Nat) : State :=
  let (c, t) := s.maxFades (bitsOf v 0 7)
  if c = 0 then t else t.refusedAt R.FADE_CFG c

/-- FADE_CFG_WRITE. -/
def execFadeCfgWrite (v : Nat) (s : State) : Host.Outcome State Fault Refusal := s.accept (below v (2 ^ 32)) fun s => (s.fadeCfgWrite v).done

/-- A write of FILT_CTRL: Enable acts at the first strobe after it (R457). -/
def State.filtCtrlWrite (s : State) (v : Nat) : State := s.wrRW R.FILT_CTRL v

/-- FILT_CTRL_WRITE. -/
def execFiltCtrlWrite (v : Nat) (s : State) : Host.Outcome State Fault Refusal := s.accept (below v (2 ^ 32)) fun s => (s.filtCtrlWrite v).done

/-- A write of FILT register offset r (within the block), `v` the word with unwritten bytes kept; FC_CMD acts on its set bits. -/
def State.filtRegWrite (s : State) (r v : Nat) : State :=
  if r = 0 then s.filtCtrlWrite v
  else if r = 8 then s.fadeCfgWrite v
  else if r = 0x34 then
    let s := if bitOf v 0 then s.fcLoad.fcResult 0 else s
    let s := if bitOf v 1 then s.fcStoreCmd else s
    if bitOf v 2 then s.fcSwapCmd (bitsOf v 16 16) else s
  else s.wrRW (R.FILT_CTRL + r) v

end Sys2Proof.Machine
end

