-- ==== Sys2Proof/Machine/Reals.lean ====
section
/-!
DEFINITION. Real functions rounded once, as R199 and R207 ask: the sine, the binary logarithm and the binary power, evaluated in
integers with 2^-256 resolution, far below the distance of any value they can take from a rounding boundary
(notes/assumptions/24.md).
-/
namespace Sys2Proof.Machine

/-- Resolution of the fixed-point values below. -/
def fixOne : Nat := 2 ^ 256

/-- π in units of 2^-256. -/
def fixPi : Nat := 363771576891766324280234942777729862653393377328392429958772151117938894466185

/-- ln 2 in units of 2^-256. -/
def fixLn2 : Nat := 80260960185991308862233904206310070533990667611589946606122867505419956976171

/-- The alternating series x − x³/3! + x⁵/5! − … in fixed point: `term` is the current term, `k` its order. -/
def sinSeries (x2 : Nat) : Nat → Nat → Nat → Int
  | 0, _, _ => 0
  | fuel + 1, term, k => (term : Int) - sinSeries x2 fuel (term * x2 / fixOne / ((k + 1) * (k + 2))) (k + 2)

/-- The sine of 2π × φ ÷ 2^32 for φ at most 2^30 (a quarter turn), in units of 2^-256. -/
def sinQuarter (phi : Nat) : Nat :=
  let x := 2 * fixPi * phi / 2 ^ 32
  (sinSeries (x * x / fixOne) 40 x 1).toNat

/-- A × sin(2π × φ ÷ 2^32) rounded to nearest, halves away from zero (R199). -/
def sineWave (a phi : Nat) : Int :=
  let p := phi % 2 ^ 31
  let q := if p ≤ 2 ^ 30 then p else 2 ^ 31 - p
  let v : Int := (2 * a * sinQuarter q + fixOne : Nat) / (2 * fixOne : Nat)
  if phi % 2 ^ 32 < 2 ^ 31 then v else -v

/-- Fraction bits of a binary logarithm by squaring: the value m in [1, 2) in units of 2^-256, most significant bit first. -/
def log2Bits : Nat → Nat → Nat → Nat
  | 0, _, acc => acc
  | k + 1, m, acc =>
    let s := m * m / fixOne
    if s ≥ 2 * fixOne then log2Bits k (s / 2) (2 * acc + 1) else log2Bits k s (2 * acc)

/-- round(2^24 × log2(n)) for n ≥ 1. -/
def log2Round (n : Nat) : Nat :=
  let e := Nat.log2 n
  let f := log2Bits 100 (n * fixOne / 2 ^ e) 0
  (e * 2 ^ 100 + f + 2 ^ 75) / 2 ^ 76

/-- The series 1 + x + x²/2! + … in fixed point. -/
def expSeries (x : Nat) : Nat → Nat → Nat → Nat
  | 0, _, _ => 0
  | fuel + 1, term, k => term + expSeries x fuel (term * x / fixOne / (k + 1)) (k + 1)

/-- round(2^(l ÷ 2^24)) for l ≥ 0. -/
def exp2Round (l : Nat) : Nat :=
  let e := l / 2 ^ 24
  let x := fixLn2 * (l % 2 ^ 24) / 2 ^ 24
  (2 * 2 ^ e * expSeries x 64 fixOne 0 + fixOne) / (2 * fixOne)

end Sys2Proof.Machine
end

