-- ==== Sys2Proof/Machine/Heddle.lean ====
section
/-!
DEFINITION. Heddle: crosspoints, gain ramps and groups, edit transactions, patches, delay lines, test generators and the
requantiser (09_heddle_matrix.md).
-/
namespace Sys2Proof.Machine

-- ## Slots (R197, R198)

/-- A source slot that is not marked None; 8,191 is silence. -/
def srcSlot (k : Nat) : Bool := decide (k < 7760) || decide (k = 8191)

/-- A destination slot that is not marked None. -/
def dstSlot (d : Nat) : Bool := decide (d < 6656) || (decide (6720 ≤ d) && decide (d < 7744))

-- ## Mix and the test generators (R199, R200)

/-- Mix (R200). -/
def mix64 (w : Nat) : Nat :=
  let m := 2 ^ 64
  let w := (w + 0x9E3779B97F4A7C15) % m
  let w := (w ^^^ (w / 2 ^ 30)) * 0xBF58476D1CE4E5B9 % m
  let w := (w ^^^ (w / 2 ^ 27)) * 0x94D049BB133111EB % m
  w ^^^ (w / 2 ^ 31)

/-- The value of test generator g at index n (R199). -/
def State.testGen (s : State) (g n : Nat) : BitVec 32 :=
  let a := s.get (R.TG_LEVEL_Level g)
  let phi := n * s.get (R.TG_INC_Inc g) % 2 ^ 32
  match s.get (R.TG_CFG_Wave g) with
  | 1 => BitVec.ofInt 32 (sineWave a phi)
  | 2 => if phi < 2 ^ 31 then BitVec.ofNat 32 a else BitVec.ofInt 32 (-(a : Int))
  | 3 => BitVec.ofInt 32 (((a : Int) * toSigned 32 (mix64 ((n * 2 ^ 13 + 7744 + g) % 2 ^ 64))) / 2 ^ 31)
  | _ => 0#32

-- ## Ramps (R205 to R208)

/-- λ of an endpoint of a dB ramp: 2^24 × log2(|g| ÷ 2^28), an endpoint of 0 taken as 2^8 (R207). -/
def lambda (g : Int) : Int := (log2Round (if g = 0 then 256 else g.natAbs) : Int) - 28 * 2 ^ 24

/-- The gain k picks into a ramp (R205 to R207). -/
def Ramp.at_ (r : Ramp) (k : Nat) : Int :=
  if k ≥ r.n then r.g1
  else if k = 0 then r.g0
  else if r.db ∧ ¬ (r.g0 = 0 ∧ r.g1 = 0) ∧ ¬ (r.g0 < 0 ∧ 0 < r.g1) ∧ ¬ (0 < r.g0 ∧ r.g1 < 0) then
    let l := lambda r.g0 + divRoundAway ((lambda r.g1 - lambda r.g0) * k) r.n
    let m : Int := min (2 ^ 31 - 1) (exp2Round (28 * 2 ^ 24 + l).toNat)
    if (if r.g1 ≠ 0 then r.g1 else r.g0) < 0 then -m else m
  else r.g0 + divRoundAway ((r.g1 - r.g0) * k) r.n

/-- The gain for an index (R205). -/
def Ramp.gain (r : Ramp) (n : Int) : Int := if r.done then r.g1 else if n < r.s then r.g0 else r.at_ (n - r.s + 1).toNat

/-- A ramp from where the previous one stands before index s (R205). -/
def Ramp.retarget (r : Ramp) (g1 : Int) (s n : Nat) (db : Bool) : Ramp :=
  { g0 := r.gain ((s : Int) - 1), g1 := g1, s := s, n := n, db := db, done := false }

/-- The ramp runs at an index: its position lies before its end (XQ_INFO.Ramping). -/
def Ramp.runs (r : Ramp) (n : Int) : Bool := !r.done && decide (n - r.s + 1 < r.n)

/-- A ramp whose position moves with the pick count (R219). -/
def Ramp.move (r : Ramp) (k : Int) : Ramp := { r with s := r.s + k }

/-- The gain a ramp shows after the last index computed. -/
def Ramp.shown (r : Ramp) (last : Option Nat) : Int := match last with
  | some n => r.gain n
  | none => r.gain (r.s - 1)

/-- Group g's ramp; group 0 is unity (R203, R208). -/
def State.group (s : State) (g : Nat) : Ramp := if g = 0 then {} else tget {} s.heddle.groups g

/-- Heddle's state changed. -/
def State.updH (s : State) (f : Heddle → Heddle) : State := { s with heddle := f s.heddle }

/-- A group gain at index n: the ramp starts there (R205, R208). -/
def State.groupSet (s : State) (g : Nat) (target : Int) (len : Nat) (db : Bool) (n : Nat) : State :=
  if g = 0 then s
  else s.updH (fun h => { h with groups := tput {} g ((tget {} h.groups g).retarget target n len db) h.groups })

/-- GroupGain shows what was last written (R220): target, ramp length and law. -/
def State.groupNote (s : State) (g : Nat) (target : Int) (len : Nat) (db : Bool) : State :=
  s.setObj (0x5140 + g / 128) (g % 128 + 1) (ofSigned 32 target + len % 65536 * 2 ^ 32 + (if db then 2 ^ 48 else 0))

/-- A group gain for the next strobe (R22). -/
def State.groupLater (s : State) (g : Nat) (target : Int) (len : Nat) (db : Bool) : State :=
  if g = 0 then s
  else (s.updH (fun h => { h with goes := tput none g (some (target, len, db)) h.goes })).groupNote g target len db

/-- GRP_CMD.Go (R208). -/
def State.grpGo (s : State) : State :=
  s.groupLater (s.get R.GRP_SEL_Group) (toSigned 32 (s.get R.GRP_TARGET_Gain)) (s.get R.GRP_RAMP_Picks) (s.is R.GRP_RAMP_Law)

/-- GRP_GO. -/
def execGrpGo (s : State) : Host.Outcome State Fault Refusal := s.live fun s => s.grpGo.done

-- ## The table (R202, R209, R213)

/-- Canonical order (R202). -/
def xpBefore (a b : Xp) : Bool := decide (a.dst < b.dst) || (decide (a.dst = b.dst) && decide (a.src < b.src))

/-- An entry put into a table at its rank; an entry of the same key is replaced. -/
def xpInsert (e : Xp) : List Xp → List Xp
  | [] => [e]
  | x :: xs => if x.dst = e.dst ∧ x.src = e.src then e :: xs else if xpBefore e x then e :: x :: xs else x :: xpInsert e xs

/-- The entry of a key. -/
def xpFind (xs : List Xp) (dst src : Nat) : Option Xp := xs.find? (fun x => decide (x.dst = dst) && decide (x.src = src))

/-- An entry removed. -/
def xpRemove (dst src : Nat) (xs : List Xp) : List Xp := xs.filter (fun x => !(decide (x.dst = dst) && decide (x.src = src)))

/-- The fields of an edit record (R209). -/
def Edit.dst (e : Edit) : Nat := bitsOf e.w0 0 13
/-- Src. -/
def Edit.src (e : Edit) : Nat := bitsOf e.w0 13 13
/-- Op: 0 Set, 1 Delete, 2 PatchSet. -/
def Edit.op (e : Edit) : Nat := bitsOf e.w0 26 2
/-- Law. -/
def Edit.db (e : Edit) : Bool := bitOf e.w0 28
/-- The target gain of a Set. -/
def Edit.gain (e : Edit) : Int := toSigned 32 e.w1
/-- N of a Set. -/
def Edit.ramp (e : Edit) : Nat := bitsOf e.w2 0 16
/-- The group of a Set. -/
def Edit.group (e : Edit) : Nat := bitsOf e.w2 16 8

/-- The fields of an edit record are in range (R198, R211). -/
def Edit.rangeOk (e : Edit) : Bool :=
  decide (e.op < 3) && dstSlot e.dst && decide (e.w0 < 2 ^ 29) && decide (e.w2 < 2 ^ 24)
  && (if e.op = 0 then srcSlot e.src && decide (e.ramp ≠ 0)
      else if e.op = 1 then srcSlot e.src
      else srcSlot (bitsOf e.w1 0 13) && decide (e.w1 < 2 ^ 14))

/-- Two edits share a key (R209). -/
def Edit.sameKey (a b : Edit) : Bool :=
  decide (a.dst = b.dst) && (if a.op = 2 then decide (b.op = 2) else decide (b.op ≠ 2) && decide (a.src = b.src))

/-- A destination. -/
def State.dest (s : State) (d : Nat) : Dest := tget {} s.heddle.dests d

/-- A destination changed. -/
def State.updDest (s : State) (d : Nat) (f : Dest → Dest) : State :=
  s.updH (fun h => { h with dests := tupd {} d f h.dests })

/-- A field of a destination's configuration words. -/
def dsF (ws : List (BitVec 32)) (f : Fld) : Nat := wf ws R.DS_PATCH f

/-- A destination's patch word, as written and in force. -/
def Dest.setPatch (d : Dest) (w : Nat) : Dest :=
  { d with cfg := setAt d.cfg 0 (BitVec.ofNat 32 (w % 2 ^ 14)), eff := setAt d.eff 0 (BitVec.ofNat 32 (w % 2 ^ 14)) }

/-- A host has written a destination's patch since the latest strobe: by its window, by its object, or with the whole table, which then waits
for the strobe (R49, R213). -/
def State.patchWrote (s : State) (d : Nat) : Bool :=
  s.heddle.next.isSome || s.marks.contains (tableKey 3 d) || s.marks.contains (objKey (0x5000 + d / 128) (d % 128 + 1))

/-- An edit applied to the table and the patches at index n (R205, R209); a patch that a host has written keeps the host's value (R219). -/
def State.applyEdit (s : State) (e : Edit) (n : Nat) : State :=
  if e.op = 0 then
    let r := match xpFind s.heddle.xps e.dst e.src with
      | some x => x.ramp
      | none => { g0 := 0, g1 := 0 }
    s.updH (fun h => { h with xps := xpInsert { dst := e.dst, src := e.src, group := e.group, ramp := r.retarget e.gain n e.ramp e.db } h.xps })
  else if e.op = 1 then s.updH (fun h => { h with xps := xpRemove e.dst e.src h.xps })
  else if s.patchWrote e.dst then s
  else s.updDest e.dst (fun d => d.setPatch e.w1)

/-- The registers that show the table: count, limit, RelPt (R25, R155). -/
def State.xpStatus (s : State) : State :=
  let x := s.heddle.xps.length
  let s := (s.put R.HD_STATUS_Xcount x).put R.SH_RELPT_RelPt (relPt x)
  s.put R.HD_XLIMIT_Limit (if highRate s.fs then 8192 else 16384)

-- ## Transactions (R210 to R212)

/-- XT_STATE registers, HD_XRESERVED and the staging bit follow the transactions. -/
def State.xtStatus (s : State) : State :=
  let ts := s.heddle.trans
  let s := s.forN 8 (fun k t => match ts.find? (fun x => decide (x.slot = k)) with
    | some x => ((t.put (R.XT_STATE_Id k) x.id).put (R.XT_STATE_State k) x.state).put (R.XT_STATE_Edits k) x.edits.length
    | none => t.wr (R.XT_STATE k) 0#32)
  s.put R.HD_XRESERVED_Cells (ts.foldl (fun c x => if x.state ≥ 2 then c + x.growth else c) 0)

/-- The transaction that holds an ID. -/
def State.trans (s : State) (id : Nat) : Option Trans := s.heddle.trans.find? (fun x => decide (x.id = id))

/-- The transaction that holds an ID changed. -/
def State.updTrans (s : State) (id : Nat) (f : Trans → Trans) : State :=
  (s.updH (fun h => { h with trans := h.trans.map (fun x => if x.id = id then f x else x) })).xtStatus

/-- Open (R210): a result code and the state. -/
def State.xtOpen (s : State) (id : Nat) : Nat × State :=
  match (List.range 8).find? (fun k => !s.heddle.trans.any (fun x => decide (x.slot = k))) with
  | none => (7, s)
  | some k =>
    if id = 0 ∨ (s.trans id).isSome then (9, s)
    else (0, (s.updH (fun h => { h with trans := h.trans ++ [{ slot := k, id := id }] })).xtStatus)

/-- An edit pushed (R210). -/
def State.xePush (s : State) (id : Nat) (e : Edit) : Nat × State :=
  match s.trans id with
  | none => (9, s)
  | some x =>
    if x.state ≠ 1 then (10, s)
    else if x.edits.length ≥ 1024 ∨ s.heddle.trans.foldl (fun n y => n + y.edits.length) 0 ≥ 4096 then (8, s)
    else (0, s.updTrans id (fun x => { x with edits := x.edits ++ [e] }))

/-- Two edits of one list share a key. -/
def dupEdit : List Edit → Bool
  | [] => false
  | e :: es => es.any (fun f => e.sameKey f) || dupEdit es

/-- The checks of a seal (R211): a result code, and the growth to reserve. A table that has passed its check counts as in force already (R451). -/
def State.sealCheck (s : State) (x : Trans) : Nat × Nat :=
  let tab := s.heddle.next.getD s.heddle.xps
  let has := fun (e : Edit) => (xpFind tab e.dst e.src).isSome
  let adds := (x.edits.filter (fun e => decide (e.op = 0) && !has e)).length
  let dels := (x.edits.filter (fun e => decide (e.op = 1) && has e)).length
  let grow := adds - dels
  let others := s.heddle.trans.filter (fun y => decide (y.id ≠ x.id) && decide (y.state ≥ 2))
  let x' := tab.length + s.get R.HD_XRESERVED_Cells + grow
  if x.edits.any (fun e => !e.rangeOk) then (1, 0)
  else if dupEdit x.edits then (2, 0)
  else if x.edits.any (fun e => decide (e.op = 1) && !has e) then (3, 0)
  else if others.any (fun y => y.edits.any (fun f => x.edits.any (fun e => e.sameKey f))) then (4, 0)
  else if x' > (if s.ratesFor.any highRate then 8192 else 16384) then (5, 0)
  else if !s.budgetOk (relPt x') then (6, 0)
  else (0, grow)

/-- Seal (R210, R211). -/
def State.xtSeal (s : State) (id : Nat) : Nat × State :=
  match s.trans id with
  | none => (9, s)
  | some x =>
    if x.state ≠ 1 then (10, s)
    else
      let (c, g) := s.sealCheck x
      if c ≠ 0 then (c, s.bump R.CNT_XT_REFUSED_Count)
      else (0, s.updTrans id (fun x => { x with state := 2, growth := g }))

/-- Abandon (R210). -/
def State.xtAbandon (s : State) (id : Nat) : Nat × State :=
  match s.trans id with
  | none => (9, s)
  | some x => if x.state = 3 then (10, s)
    else (0, (s.updH (fun h => { h with trans := h.trans.filter (fun y => decide (y.id ≠ id)) })).xtStatus)

/-- CommitNow (R210). -/
def State.xtCommitNow (s : State) (id : Nat) : Nat × State :=
  match s.trans id with
  | none => (9, s)
  | some x => if x.state ≠ 2 then (10, s) else (0, s.updTrans id (fun x => { x with state := 3, direct := true }))

/-- The commit of a transaction at index n (R212). -/
def State.xtCommit (s : State) (id n : Nat) : State :=
  match s.trans id with
  | none => s
  | some x =>
    let s := s.forL x.edits (fun e t => t.applyEdit e n)
    let s := s.updH (fun h => { h with trans := h.trans.filter (fun y => decide (y.id ≠ id)) })
    (s.xtStatus.xpStatus).bump R.CNT_XT_COMMIT_Count

/-- A result of an XT command. -/
def State.xtResult (r : Nat × State) (off : Nat) : State := r.2.resultErr R.XT_RESULT_Code R.XT_RESULT_Seq off r.1

/-- XT_OPEN. -/
def execXtOpen (id : Nat) (s : State) : Host.Outcome State Fault Refusal := s.accept (below id 65536) fun s => (State.xtResult (s.xtOpen id) R.XT_CMD).done

/-- The record held in XE_W0 to XE_W2. -/
def State.xeRecord (s : State) : Edit := { w0 := s.get R.XE_W0_Word, w1 := s.get R.XE_W1_Word, w2 := s.get R.XE_W2_Word }

/-- XE_PUSH. -/
def execXePush (id : Nat) (s : State) : Host.Outcome State Fault Refusal := s.accept (below id 65536) fun s => (State.xtResult (s.xePush id s.xeRecord) R.XE_PUSH).done

/-- XT_SEAL. -/
def execXtSeal (id : Nat) (s : State) : Host.Outcome State Fault Refusal := s.accept (below id 65536) fun s => (State.xtResult (s.xtSeal id) R.XT_CMD).done

/-- XT_ABANDON. -/
def execXtAbandon (id : Nat) (s : State) : Host.Outcome State Fault Refusal := s.accept (below id 65536) fun s => (State.xtResult (s.xtAbandon id) R.XT_CMD).done

/-- XT_COMMIT_NOW. -/
def execXtCommitNow (id : Nat) (s : State) : Host.Outcome State Fault Refusal := s.accept (below id 65536) fun s => (State.xtResult (s.xtCommitNow id) R.XT_CMD).done

/-- The records of a byte string, 12 bytes each (R209). -/
def editsOf : Nat → List Byte → List Edit
  | 0, _ => []
  | n + 1, bs => { w0 := leNat (bs.take 4), w1 := leNat ((bs.drop 4).take 4), w2 := leNat ((bs.drop 8).take 4) } :: editsOf n (bs.drop 12)

/-- Pushes one after another, until one is refused. -/
def State.xePushes (s : State) (id : Nat) : List Edit → Nat × State
  | [] => (0, s)
  | e :: es => match s.xePush id e with
    | (0, t) => t.xePushes id es
    | r => r

/-- An XpTransaction write (R210): Open, each push and Seal; where one is refused the transaction is abandoned. A length that is
no whole number of records is out of range. -/
def State.xpTransaction (s : State) (data : List Byte) : Nat × State :=
  let id := leNat (data.take 2)
  if data.length < 2 ∨ (data.length - 2) % 12 ≠ 0 then (1, s)
  else match s.xtOpen id with
    | (0, t) =>
      match t.xePushes id (editsOf ((data.length - 2) / 12) (data.drop 2)) with
      | (0, u) => match u.xtSeal id with
        | (0, v) => (0, v)
        | (c, v) => (c, (v.xtAbandon id).2)
      | (c, u) => (c, (u.xtAbandon id).2)
    | r => r

/-- XP_TRANSACTION_WRITE. -/
def execXpTransactionWrite (data : List (BitVec 8)) (s : State) : Host.Outcome State Fault Refusal := s.live fun s =>
  let (c, s) := s.xpTransaction data
  (s.send (.opResult 0x5180 0 c)).done

-- ## XpTable (R213)

/-- A table whose gains stand at their targets (R213). -/
def tableOf (es : List Edit) : List Xp :=
  es.foldl (fun t e =>
    let r : Ramp := { g0 := e.gain, g1 := e.gain, n := e.ramp, db := e.db }
    xpInsert { dst := e.dst, src := e.src, group := e.group, ramp := r } t) []

/-- A table comes into force. -/
def State.tableTake (s : State) : State :=
  match s.heddle.next with
  | none => s
  | some t => (s.updH (fun h => { h with xps := t, next := none })).xpStatus

/-- A patch word of destination d is in range; a patch in use at a slot marked None is not (R198). -/
def patchOk (d w : Nat) : Bool := srcSlot (w % 2 ^ 13) && decide (w < 2 ^ 14) && (dstSlot d || decide (w < 2 ^ 13))

/-- An XpTable write: entries as Set records, then 8,192 patch words; the table comes into force at the next strobe (R22, R213, R220). -/
def State.xpTable (s : State) (data : List Byte) : Nat × State :=
  let n := (data.length - 32768) / 12
  let es := editsOf n data
  let ps := wordsOf (data.drop (12 * n))
  if data.length < 32768 ∨ (data.length - 32768) % 12 ≠ 0 then (1, s)
  else if es.any (fun e => decide (e.op ≠ 0) || !e.rangeOk) then (1, s)
  else if ((List.range 8192).zip ps).any (fun p => !patchOk p.1 p.2.toNat) then (1, s)
  else if dupEdit es then (2, s)
  else if s.heddle.trans.any (fun x => decide (x.state ≥ 2)) then (4, s)
  else if n > (if s.ratesFor.any highRate then 8192 else 16384) then (5, s)
  else if !s.budgetOk (relPt n) then (6, s)
  else
    let s := s.updH (fun h => { h with next := some (tableOf es) })
    let s := s.forN 8192 (fun d t =>
      let w := ps.getD d 8191#32
      if (t.dest d).cfg.headD 0#32 = w then t else t.updDest d (fun x => { x with cfg := setAt x.cfg 0 w }))
    (0, s)

/-- XP_TABLE_WRITE. -/
def execXpTableWrite (data : List (BitVec 8)) (s : State) : Host.Outcome State Fault Refusal := s.live fun s =>
  let (c, s) := s.xpTable data
  (s.send (.opResult 0x5183 0 c)).done

-- ## Delay lines (R214 to R217)

/-- Cells of a ring (R172). -/
def ringCells (cap : Nat) : Nat := ceilDiv cap 32

/-- The ring cells a destination holds, those allocated for the next strobe in place of those in force. -/
def Dest.alloc (d : Dest) : Nat × Nat := d.next.getD d.ring

/-- Ring allocations of every destination but d, in rising order of their first cell. -/
def State.ringUse (s : State) (d : Nat) : List (Nat × Nat) :=
  let l := (s.heddle.dests.filter (fun e => decide (e.1 ≠ d) && decide (e.2.alloc.2 ≠ 0))).map (fun e => e.2.alloc)
  l.foldl (fun t a => tins a.1 a.2 t) []

/-- Free runs of the ring region between allocations: first cell and length. -/
def freeRuns (size : Nat) : Nat → List (Nat × Nat) → List (Nat × Nat)
  | lo, [] => if lo < size then [(lo, size - lo)] else []
  | lo, (b, n) :: r => (if lo < b then [(lo, b - lo)] else []) ++ freeRuns size (b + n) r

/-- RING_USED and RING_FREE_RUN follow the allocations. -/
def State.ringStatus (s : State) : State :=
  let used := s.heddle.dests.foldl (fun n e => n + e.2.alloc.2) 0
  let runs := freeRuns (s.get R.POOL_SPLIT_RingCells) 0 (s.ringUse 8192)
  (s.put R.RING_USED_Cells used).put R.RING_FREE_RUN_Cells (runs.foldl (fun m r => max m r.2) 0)

/-- A ring of n cells for destination d (R217): one of the free runs that hold it, which one being a free value. -/
def State.ringAlloc (s : State) (d n : Nat) : Option (Nat × State) :=
  let fit := (freeRuns (s.get R.POOL_SPLIT_RingCells) 0 (s.ringUse d)).filter (fun r => decide (n ≤ r.2))
  if n = 0 then some (0, s)
  else match fit with
    | [] => none
    | f :: fs =>
      let (w, t) := s.free
      some (((f :: fs).getD (w.toNat % (fs.length + 1)) f).1, t)

/-- The check of R217 and R218 on words for destination d: a result code, 0 where it passes. -/
def State.dsCheck (s : State) (d : Nat) (ws : List (BitVec 32)) : Nat :=
  let cap := dsF ws R.DS_DCAP_DelayCap
  let old := s.dest d
  let n := ringCells cap
  let used := s.heddle.dests.foldl (fun k e => if e.1 = d then k else k + e.2.alloc.2) 0
  let p := dsF ws R.DS_PATCH_Source
  if !dstSlot d ∨ dsF ws R.DS_OUT_OutBits = 3 ∨ dsF ws R.DS_DELAY_Delay > cap ∨ ¬ srcSlot p then 1
  else if cap = dsF old.cfg R.DS_DCAP_DelayCap then 0
  else if used + n > s.get R.POOL_SPLIT_RingCells then 2
  else if (s.ringAlloc d n).isNone then 3
  else 0

/-- A destination's words come into force at index n (R216, R217): a DelayCap change takes its new ring and Delay at once; a Delay
change starts a fade, or is held while one runs. -/
def Dest.take (d : Dest) (n : Nat) : Bool × Dest :=
  if d.eff = d.cfg ∧ d.next = none then (false, d)
  else
    let delay := dsF d.cfg R.DS_DELAY_Delay
    let f := dsF d.cfg R.DS_DFADE_Fade
    match d.next with
    | some r => (false, { d with eff := d.cfg, ring := r, next := none, now := delay, fade := none, held := none, z := some n })
    | none =>
      let moved := decide (dsF d.eff R.DS_DELAY_Delay ≠ delay)
      let d := { d with eff := d.cfg }
      if !moved then (false, d)
      else match d.fade with
        | some _ => (d.held.isSome, { d with held := some delay })
        | none => (false, if f ≤ 1 then { d with now := delay } else { d with now := delay, fade := some { old := d.now, s := (n : Int), f := f } })

/-- A destination's words come into force; a held change that is replaced is counted (R216). -/
def State.destTake (s : State) (d n : Nat) : State :=
  let (rep, v) := (s.dest d).take n
  let s := s.updDest d (fun _ => v)
  (if rep then s.bump R.CNT_DELAY_REPLACED_Count else s)

/-- Words that passed the check are stored for destination d, for the next strobe; a DelayCap change allocates its ring (R216, R217). -/
def State.dsStore (s : State) (d : Nat) (ws : List (BitVec 32)) : State :=
  let cap := dsF ws R.DS_DCAP_DelayCap
  let s := if cap = dsF (s.dest d).cfg R.DS_DCAP_DelayCap then s
    else match s.ringAlloc d (ringCells cap) with
      | some (b, t) => t.updDest d (fun x => { x with next := some (b, ringCells cap) })
      | none => s
  let s := s.updDest d (fun x => { x with cfg := ws })
  s.ringStatus

/-- Words checked and, where they pass, stored: the result code and the state. -/
def State.dsWrite (s : State) (d : Nat) (ws : List (BitVec 32)) : Nat × State :=
  let c := s.dsCheck d ws
  (c, if c = 0 then s.dsStore d ws else s)

/-- A ring word's address in the pool: position p of a destination's ring. -/
def State.ringAddr (s : State) (d : Dest) (p : Nat) : Nat := (s.linkedCells + d.ring.1) * 128 + 4 * p

/-- The value read from a ring for index i; 0 below Z (R215). -/
def State.ringRead (s : State) (d : Dest) (i : Int) : BitVec 32 :=
  let cw := 32 * d.ring.2
  match d.z with
  | some z => if i < z ∨ cw = 0 then 0#32 else Memory.readWord s.pool (s.ringAddr d (i.toNat % cw))
  | none => 0#32

/-- The delay line of a destination at index n (R201, R214 to R216): the delayed value, y written to the ring after the read. A word
that reads with an uncorrectable error gives 0 and is counted (R189, R215): `badNow` that of the delay in force, `badOld` that of the
delay a fade leaves. -/
def State.delayLine (s : State) (d n : Nat) (y : BitVec 32) (badNow badOld : Bool) : BitVec 32 × State :=
  let v := s.dest d
  if v.ring.2 = 0 then (y, s)
  else
    let s := if v.z = none then s.updDest d (fun x => { x with z := some n }) else s
    let v := s.dest d
    let tap := fun (dl : Nat) (bad : Bool) => if dl = 0 then y else if bad then 0#32 else s.ringRead v ((n : Int) - dl)
    let lost := fun (dl : Nat) (bad : Bool) => if dl ≠ 0 ∧ bad then 1 else 0
    let now := tap v.now badNow
    let (out, k) := match v.fade with
      | some f =>
        let k : Int := n - f.s + 1
        if k < f.f then (BitVec.ofInt 32 (divRoundAway ((tap f.old badOld).toInt * (f.f - k) + now.toInt * k) f.f), lost f.old badOld) else (now, 0)
      | none => (now, 0)
    let s := (s.add R.CNT_RING_POISON_Count (lost v.now badNow + k)).add R.ECC_UNCORR_DATA_Count (lost v.now badNow + k)
    let s := { s with pool := Memory.writeWord s.pool (s.ringAddr v (n % (32 * v.ring.2))) y }
    (out, s)

/-- A fade that has run to its last index before n ends, and a held change is applied (R216). -/
def Dest.fadeEnd (d : Dest) (n : Nat) : Dest :=
  match d.fade with
  | none => d
  | some f =>
    if (n : Int) < f.s + f.f then d
    else match d.held with
      | none => { d with fade := none }
      | some x =>
        let g := dsF d.eff R.DS_DFADE_Fade
        if g ≤ 1 then { d with fade := none, held := none, now := x }
        else { d with fade := some { old := d.now, s := (n : Int), f := g }, held := none, now := x }

-- ## Sum and requantiser (R203, R204, R218)

/-- The value of a source slot at the index being mixed; test generators and silence are formed here (R197 to R199). -/
def State.srcAt (s : State) (half : List (Nat × BitVec 32)) (k n : Nat) : BitVec 32 :=
  if 7744 ≤ k ∧ k < 7760 then s.testGen (k - 7744) n else if k < 7744 then tget 0#32 half k else 0#32

/-- One crosspoint term into the accumulator; the flag says whether anything saturated so far (R203, R204). -/
def State.xpTerm (s : State) (half : List (Nat × BitVec 32)) (n : Nat) (acc : Int × Bool) (x : Xp) : Int × Bool :=
  let raw := divRoundAway (x.ramp.gain n * (s.group x.group).gain n) (2 ^ 28)
  let g := satSigned 32 raw
  let q := ((s.srcAt half x.src n).toInt * g + 2 ^ 15) / 2 ^ 16
  let a := satSigned 48 (acc.1 + q)
  (a, acc.2 || decide (g ≠ raw) || decide (a ≠ acc.1 + q))

/-- y of a destination at index n, and whether anything saturated (R204). -/
def State.mixSum (s : State) (half : List (Nat × BitVec 32)) (d n : Nat) : BitVec 32 × Bool :=
  let v := s.dest d
  let p := if dsF v.eff R.DS_PATCH_PatchEn = 1 then (s.srcAt half (dsF v.eff R.DS_PATCH_Source) n).toInt * 2 ^ 12 else 0
  let (a, sat) := (s.heddle.xps.filter (fun x => decide (x.dst = d))).foldl (s.xpTerm half n) (p, false)
  let y := (a + 2 ^ 11) / 2 ^ 12
  (BitVec.ofInt 32 (satSigned 32 y), sat || decide (satSigned 32 y ≠ y))

/-- The requantiser (R218): the output, and whether it saturated. -/
def requant (ws : List (BitVec 32)) (d n : Nat) (y : BitVec 32) : BitVec 32 × Bool :=
  let bits := dsF ws R.DS_OUT_OutBits
  if bits = 0 then (y, false)
  else
    let q : Nat := if bits = 1 then 256 else 65536
    let z := mix64 ((n * 2 ^ 13 + d) % 2 ^ 64)
    let v : Int := if dsF ws R.DS_OUT_Dither = 1 then (z % 2 ^ 32 % q : Nat) - (z / 2 ^ 32 % q : Nat) else 0
    let o := q * ((y.toInt + v + q / 2) / q)
    let c := max (-(2 ^ 31)) (min o (2 ^ 31 - q))
    (BitVec.ofInt 32 c, decide (c ≠ o))

-- ## Strobe, rate change and rebase (R205, R212, R213, R219)

/-- Host writes come into force at index n: the table, destinations, group gains and CommitNow transactions (R22, R212). -/
def State.heddleTake (s : State) (n : Nat) : State :=
  let s := s.tableTake
  let s := s.forL s.heddle.dests (fun e t => (t.updDest e.1 (fun d => d.fadeEnd n)).destTake e.1 n)
  let s := s.forL s.heddle.goes (fun e t => match e.2 with
    | some (g, len, db) => t.groupSet e.1 g len db n
    | none => t)
  let s := s.updH (fun h => { h with goes := [] })
  s.forL (s.heddle.trans.filter (fun x => decide (x.state = 3) && x.direct)) (fun x t => t.xtCommit x.id n)

/-- Every Z restarts at the first index computed from now on (R215). -/
def State.ringsRestart (s : State) : State := s.updH (fun h => { h with dests := h.dests.map (fun e => (e.1, { e.2 with z := none })) })

/-- A RateChange commit: ramps end at their targets, fades end and held changes apply, every Z restarts (R46, R219). -/
def State.heddleRate (s : State) : State :=
  (s.updH (fun h => { h with
    xps := h.xps.map (fun x => { x with ramp := { x.ramp with done := true } })
    groups := h.groups.map (fun e => (e.1, { e.2 with done := true }))
    dests := h.dests.map (fun e => (e.1, { e.2 with fade := none, held := none, now := e.2.held.getD e.2.now })) })).ringsRestart

/-- After the index of a Rebase's strobe, which is `last` in the new numbering, ramps and fades move with the pick count by k (R219). The index
after it does not follow that one in the rings, so every Z restarts there once more (DESIGN CHOICE, notes/assumptions/46.md). -/
def State.heddleMove (s : State) (k : Int) (last : Nat) : State :=
  (s.updH (fun h => { h with
    last := some last
    xps := h.xps.map (fun x => { x with ramp := x.ramp.move k })
    groups := h.groups.map (fun e => (e.1, e.2.move k))
    dests := h.dests.map (fun e => (e.1, { e.2 with fade := e.2.fade.map (fun f => { f with s := f.s + k }) })) })).ringsRestart

-- ## Windows

/-- DS_CMD.Read: the windows are loaded from the selected destination. -/
def State.dsLoad (s : State) : State :=
  let d := s.dest (s.get R.DS_SEL_Dest)
  let s := s.wrWords R.DS_PATCH d.cfg
  let s := (s.put R.DS_RING_Base d.ring.1).put R.DS_DSTATE_DelayNow d.now
  (s.putB R.DS_DSTATE_Fading d.fade.isSome).putB R.DS_DSTATE_Held d.held.isSome

/-- A result of a DS command. -/
def State.dsResult (s : State) (c : Nat) : State := s.resultErr R.DS_RESULT_Code R.DS_RESULT_Seq R.DS_CMD c (s.get R.DS_SEL_Dest)

/-- DS_CMD.Write. -/
def State.dsStoreCmd (s : State) : State :=
  let (c, s) := s.dsWrite (s.get R.DS_SEL_Dest) (s.rdWords R.DS_PATCH 5)
  (if c = 0 then s.mark (tableKey 3 (s.get R.DS_SEL_Dest)) else s).dsResult c

/-- DS_READ. -/
def execDsRead (s : State) : Host.Outcome State Fault Refusal := s.live fun s => (s.dsLoad.dsResult 0).done

/-- DS_WRITE. -/
def execDsWrite (s : State) : Host.Outcome State Fault Refusal := s.live fun s => s.dsStoreCmd.done

/-- HD_CMD.Repack: accepted only while TIME_CTRL.Run = 0 (R217). -/
def State.repack (s : State) : State := if s.is R.TIME_CTRL_Run then s.ignored R.HD_CMD else s.put R.HD_STATUS_Repacking 1

/-- HD_REPACK. -/
def execHdRepack (s : State) : Host.Outcome State Fault Refusal := s.live fun s => s.repack.done

/-- REPACK_DONE: every ring is contiguous in ascending destination order with a fresh Z (R217). -/
def execRepackDone (s : State) : Host.Outcome State Fault Refusal := s.live fun s =>
  (if s.is R.HD_STATUS_Repacking then
    let (_, ds) := s.heddle.dests.foldl (fun (acc : Nat × List (Nat × Dest)) e =>
      let n := e.2.alloc.2
      let ring := if e.2.next = none ∧ n ≠ 0 then (acc.1, n) else e.2.ring
      let next := e.2.next.map (fun _ => (acc.1, n))
      (acc.1 + n, acc.2 ++ [(e.1, { e.2 with ring := ring, next := next, z := none })])) (0, [])
    (((s.updH (fun h => { h with dests := ds })).put R.HD_STATUS_Repacking 0).ringStatus)
  else s).done

/-- XQ_CMD.Lookup: the gain and state of a key are latched (R205). -/
def State.xqLookup (s : State) : State :=
  let f := xpFind s.heddle.xps (s.get R.XQ_KEY_Dest) (s.get R.XQ_KEY_Src)
  let s := s.bump R.XQ_INFO_Seq
  match f with
  | none => (((((s.put R.XQ_GAIN_Gain 0).put R.XQ_TARGET_Gain 0).put R.XQ_INFO_Found 0).put R.XQ_INFO_Ramping 0).put R.XQ_INFO_Group 0).put R.XQ_INFO_Law 0
  | some x =>
    let run := match s.heddle.last with
      | some n => x.ramp.runs n
      | none => !x.ramp.done
    let s := (s.putI R.XQ_GAIN_Gain (x.ramp.shown s.heddle.last)).putI R.XQ_TARGET_Gain x.ramp.g1
    (((s.put R.XQ_INFO_Found 1).putB R.XQ_INFO_Ramping run).put R.XQ_INFO_Group x.group).putB R.XQ_INFO_Law x.ramp.db

/-- XQ_LOOKUP. -/
def execXqLookup (s : State) : Host.Outcome State Fault Refusal := s.live fun s => s.xqLookup.done

/-- A write of HEDDLE register offset r (within the block), `v` the word with unwritten bytes kept; command registers act on
their set bits. -/
def State.heddleRegWrite (s : State) (r v : Nat) : State :=
  let a := R.HD_CTRL + r
  if r = 0x10 then (if bitOf v 0 then s.repack else s)
  else if r = 0x20 then
    let id := bitsOf v 16 16
    let s := if bitOf v 0 then State.xtResult (s.xtOpen id) a else s
    let s := if bitOf v 1 then State.xtResult (s.xtSeal id) a else s
    let s := if bitOf v 2 then State.xtResult (s.xtAbandon id) a else s
    if bitOf v 3 then State.xtResult (s.xtCommitNow id) a else s
  else if r = 0x3C then State.xtResult (s.xePush (bitsOf v 0 16) s.xeRecord) a
  else if r = 0x84 then
    let s := if bitOf v 0 then s.dsLoad.dsResult 0 else s
    if bitOf v 1 then s.dsStoreCmd else s
  else if r = 0x100 then (if bitsOf v 0 8 = 0 then s.refusedAt a else s.wrRW a v)
  else if r = 0x108 then (if bitsOf v 0 16 = 0 then s.ignored a else s.wrRW a v)
  else if r = 0x10C then (if bitOf v 0 then s.grpGo else s)
  else if r = 0x124 then (if bitOf v 0 then s.xqLookup else s)
  else s.wrRW a v

end Sys2Proof.Machine
end

