-- ==== Sys2Proof/Machine/Fades.lean ====
section
/-!
DEFINITION. The ends of fades and of a Realign period as events of their own (R30, R216, R254, R255). Each comes about at the latest
at the strobe of the index that follows, which applies whatever has ended by then.
-/
namespace Sys2Proof.Machine

/-- The Realign period whose last index lies before index n ends: detectors and limiters are replaced, and the closing cross-fades
start (R30, R255). -/
def State.realignDue (s : State) (n : Nat) : State :=
  let s := match s.filt.period with
    | some (s0, k) => if s0 + k ≤ n then s.filtRealignEnd (s0 + k) else s
    | none => s
  match s.det.period with
  | some (s0, k) => if s0 + k ≤ n then s.detRealignEnd else s
  | none => s

/-- FADE_END (R254). -/
def execFadeEnd (j : Nat) (s : State) : Host.Outcome State Fault Refusal := s.accept (below j 1024) fun s =>
  (match s.heddle.last with
   | some n =>
     match (s.chain j).fade with
     | some f => if f.s + f.n ≤ n + 1 then ((s.chainRun j n .clean).updChain j (fun c => c.fadeDue (n + 1))).filtStatus else s
     | none => s
   | none => s).done

/-- REALIGN_PERIOD_END (R30, R255). -/
def execRealignPeriodEnd (s : State) : Host.Outcome State Fault Refusal := s.live fun s =>
  (match s.heddle.last, s.filt.period, s.det.period with
   | some n, some (s0, k), _ => if s0 + k ≤ n + 1 then (s.filterPhase.realignDue (n + 1)).filtStatus else s
   | some n, none, some (s0, k) => if s0 + k ≤ n + 1 then s.realignDue (n + 1) else s
   | _, _, _ => s).done

/-- CLOSING_CROSSFADE_END (R255). -/
def execClosingCrossfadeEnd (j : Nat) (s : State) : Host.Outcome State Fault Refusal := s.accept (below j 1024) fun s =>
  (match s.heddle.last with
   | some n =>
     match (s.chain j).closing with
     | some (c0, len) => if c0 + len ≤ n + 1 then (s.chainRun j n .clean).updChain j (fun c => c.closeDue (n + 1)) else s
     | none => s
   | none => s).done

/-- DELAY_FADE_END (R216). -/
def execDelayFadeEnd (d : Nat) (s : State) : Host.Outcome State Fault Refusal := s.accept (below d 8192) fun s =>
  (match s.heddle.last with
   | some n => s.updDest d (fun v => v.fadeEnd (n + 1))
   | none => s).done

end Sys2Proof.Machine
end

