-- ==== Sys2Proof/Machine/Local.lean ====
section
/-!
DEFINITION. TDM ports and local links (12_local_audio.md).
-/
namespace Sys2Proof.Machine

-- ## TDM: format and checks (R266 to R268)

/-- What a TDM port holds. -/
def State.tdmSt (s : State) (k : Nat) : TdmSt := tget {} s.tdm k

/-- What a TDM port holds, changed. -/
def State.updTdm (s : State) (k : Nat) (f : TdmSt → TdmSt) : State := { s with tdm := tupd {} k f s.tdm }

/-- A SlotBits or DataBits code. -/
def tdmBits (c : Nat) : Nat := [16, 24, 32].getD c 0

/-- N of a port. -/
def State.tdmN (s : State) (k : Nat) : Nat := if s.get (R.TDM_FMT_Format k) = 2 then s.get (R.TDM_FMT_Slots k) + 1 else 2

/-- MCLK cycles per pick (R221, R267). -/
def mclkCycles (fs : Nat) : Nat := if fs ≤ 48000 then 2048 else if fs ≤ 96000 then 1024 else 512

/-- Slots per port at a rate (R3). -/
def tdmSlotMax (fs : Nat) : Nat := if fs ≤ 48000 then 32 else if fs ≤ 96000 then 16 else 8

/-- The configuration check of R268 at a rate: the result code. -/
def State.tdmCheck (s : State) (k fs : Nat) : Nat :=
  let fmt := s.get (R.TDM_FMT_Format k)
  let n := s.tdmN k
  let sb := tdmBits (s.get (R.TDM_FMT_SlotBits k))
  let db := tdmBits (s.get (R.TDM_FMT_DataBits k))
  let fb := s.get (R.TDM_FMT_FrameBits k)
  let duty := fmt < 2 ∨ s.is (R.TDM_FMT_FsShape k)
  if fmt = 3 ∨ sb = 0 ∨ db = 0 ∨ sb < db ∨ n < 2 ∨ fb < 32 ∨ (fb % 2 = 1 ∧ duty) then 1
  else if tdmSlotMax fs < n ∨ 49152000 < fb * fs then 2
  else if s.is (R.TDM_CTRL_Master k) ∧ (mclkCycles fs % fb ≠ 0 ∨ mclkCycles fs / fb < 2) then 3
  else if (if fmt = 2 then fb < s.get (R.TDM_FMT_DataDelay k) + n * sb else fb / 2 < 1 + sb) then 4
  else 0

/-- Every enabled port passes its check at a rate (R268). -/
def State.tdmFits (s : State) (fs : Nat) : Bool :=
  (List.range 16).all (fun k => !s.is (R.TDM_CTRL_Enable k) || decide (s.tdmCheck k fs = 0))

-- ## TDM: drivers and states (R265, R270, R271)

/-- The drivers may be on (R265, R271). -/
def State.tdmMayDrive (s : State) (k : Nat) : Bool :=
  decide (s.get (R.TDM_STATUS_State k) ≠ 0) && (s.is (R.TDM_CTRL_TxEn k) || s.is (R.TDM_CTRL_Master k))
  && (!s.is (R.TDM_CTRL_LeaseDrive k) || s.is R.LEASE_STATUS_DriveOk)

/-- A port's drivers go to high impedance, in mid-frame (R271). -/
def State.tdmReleaseOne (s : State) (k : Nat) : State := (s.put (R.TDM_STATUS_Driving k) 0).bump (R.CNT_TDM_DRIVEOFF_Count k)

/-- Permission withdrawn: the lease-gated ports release their balls (R271). -/
def State.tdmRelease (s : State) : State :=
  s.forN 16 (fun k t => if t.is (R.TDM_STATUS_Driving k) ∧ t.is (R.TDM_CTRL_LeaseDrive k) then t.tdmReleaseOne k else t)

/-- A frame start: permitted drivers turn on (R271). -/
def State.tdmDriveOn (s : State) (k : Nat) : State := s.putB (R.TDM_STATUS_Driving k) (s.tdmMayDrive k)

-- ## TDM: the bits of a frame (R266)

/-- The bit of a frame at which the MSB of slot c lies. -/
def State.tdmMsb (s : State) (k c : Nat) : Nat :=
  let fb := s.get (R.TDM_FMT_FrameBits k)
  match s.get (R.TDM_FMT_Format k) with
  | 0 => 1 + c * (fb / 2)
  | 1 => c * (fb / 2)
  | _ => s.get (R.TDM_FMT_DataDelay k) + c * tdmBits (s.get (R.TDM_FMT_SlotBits k))

/-- FS over the bits of a frame. -/
def State.tdmFsLine (s : State) (k : Nat) : List Bool :=
  let fb := s.get (R.TDM_FMT_FrameBits k)
  (List.range fb).map (fun b => match s.get (R.TDM_FMT_Format k) with
    | 0 => decide (fb / 2 ≤ b)
    | 1 => decide (b < fb / 2)
    | _ => (if s.is (R.TDM_FMT_FsShape k) then decide (b < fb / 2) else decide (b = 0)) != s.is (R.TDM_FMT_FsPol k))

/-- The active FS edge is the falling one. -/
def State.tdmFsFalls (s : State) (k : Nat) : Bool :=
  decide (s.get (R.TDM_FMT_Format k) = 0) || (decide (s.get (R.TDM_FMT_Format k) = 2) && s.is (R.TDM_FMT_FsPol k))

/-- The time of a frame's active FS edge. -/
def State.tdmFsTime (s : State) (k : Nat) (f : TdmFrame) : Nat := if s.tdmFsFalls k then f.fall else f.rise

/-- The word of slot c of a frame that came in, MSB first, from the level of DIN at the edge that samples it. -/
def State.tdmWord (s : State) (k : Nat) (f : TdmFrame) (c : Nat) : Nat :=
  ((f.din.drop (s.tdmMsb k c)).take (tdmBits (s.get (R.TDM_FMT_DataBits k)))).foldl
    (fun w b => 2 * w + (if (if s.is (R.TDM_FMT_BclkInv k) then b.2 else b.1) then 1 else 0)) 0

/-- DOUT over the bits of a frame, from the DataBits word of each slot that is driven: the word, MSB first, then 0 to the slot's end; high impedance
in the bits of slots that are not driven and in those outside every slot (R269). -/
def State.tdmLine (s : State) (k : Nat) (word : Nat → Option Nat) : List (Option Bool) :=
  let db := tdmBits (s.get (R.TDM_FMT_DataBits k))
  let sb := tdmBits (s.get (R.TDM_FMT_SlotBits k))
  (List.range (s.get (R.TDM_FMT_FrameBits k))).map (fun b =>
    match (List.range (s.tdmN k)).find? (fun c => decide (s.tdmMsb k c ≤ b ∧ b < s.tdmMsb k c + sb)) with
    | none => none
    | some c => (word c).map (fun w => let i := b - s.tdmMsb k c; decide (i < db) && bitOf w (db - 1 - i)))

/-- The frame a port drives: DOUT where TxEn is 1, and FS of a master. -/
def State.tdmSend (s : State) (k m : Nat) (dout : List (Option Bool)) : State :=
  if !s.is (R.TDM_STATUS_Driving k) then s
  else
    s.send (.tdmOut k m (if s.is (R.TDM_CTRL_TxEn k) then dout else dout.map (fun _ => none))
      (if s.is (R.TDM_CTRL_Master k) then s.tdmFsLine k else []) (s.is (R.TDM_FMT_BclkInv k)))

/-- The frame a master repeats while the pick counter does not run (R270): 0 in every driven slot. -/
def State.tdmIdleOne (s : State) (k : Nat) : State :=
  if s.is (R.TDM_CTRL_Master k) ∧ s.get (R.TDM_STATUS_State k) = 2 ∧ ¬ s.time.running then
    s.tdmSend k s.time.pick (s.tdmLine k (fun c => if bitOf (s.get (R.TDM_TXMASK_Mask k)) c then some 0 else none))
  else s

/-- The pick counter stops: masters go on with frames of 0 (R270; notes/assumptions/51.md). -/
def State.tdmIdle (s : State) : State := s.forN 16 (fun k t => t.tdmIdleOne k)

/-- TDM_DRIVE_ON (R271). -/
def execTdmDriveOn (k : Nat) (s : State) : Host.Outcome State Fault Refusal := s.accept (below k 16) fun s =>
  (if k < 16 ∧ s.tdmMayDrive k then (s.tdmDriveOn k).tdmIdleOne k else s).done

/-- The port is Off: balls at high impedance, inputs read 0 (R265, R270, R283). -/
def State.tdmOff (s : State) (k : Nat) : State :=
  ((s.put (R.TDM_STATUS_State k) 0).put (R.TDM_STATUS_Driving k) 0).updTdm k (fun t => { t with start := false, last := none, ok := none, wait := [] })

/-- The configuration passes at every rate that counts. -/
def State.tdmVerdict (s : State) (k : Nat) : Nat := s.ratesFor.foldl (fun c fs => if c = 0 then s.tdmCheck k fs else c) 0

/-- A write of TDM_CTRL (R265, R268, R270). -/
def State.tdmCtrlWrite (s : State) (k v : Nat) : State :=
  let was := s.is (R.TDM_CTRL_Enable k)
  let s := s.wrRW (R.TDM_CTRL k) v
  let now := s.is (R.TDM_CTRL_Enable k)
  if now ∧ ¬ was then
    let c := s.tdmVerdict k
    let s := s.put (R.TDM_STATUS_LastResult k) c
    if c ≠ 0 then (s.put (R.TDM_CTRL_Enable k) 0).refusedAt (R.TDM_CTRL k) c
    else
      let s := s.updTdm k (fun t => { t with start := false, last := none, ok := none, wait := [] })
      if !s.is (R.TDM_CTRL_Master k) then s.put (R.TDM_STATUS_State k) 1
      else if s.time.running then s.updTdm k (fun t => { t with start := true })
      else ((s.put (R.TDM_STATUS_State k) 2).tdmDriveOn k).tdmIdleOne k
  else if was ∧ ¬ now then s.tdmOff k
  else if s.is (R.TDM_STATUS_Driving k) ∧ s.is (R.TDM_CTRL_LeaseDrive k) ∧ ¬ s.is R.LEASE_STATUS_DriveOk then s.tdmReleaseOne k
  else s

/-- TDM_ENABLE (R268). -/
def execTdmEnable (k v : Nat) (s : State) : Host.Outcome State Fault Refusal := s.accept (below k 16 && below v (2 ^ 32)) fun s =>
  (if k < 16 then s.tdmCtrlWrite k v else s).done

/-- A write of TDM_FMT: taken only while the port is disabled (R268). -/
def State.tdmFmtWrite (s : State) (k v : Nat) : State :=
  if s.is (R.TDM_CTRL_Enable k) then (s.put (R.TDM_STATUS_LastResult k) 5).refusedAt (R.TDM_FMT k) 5 else s.wrRW (R.TDM_FMT k) v

/-- TDM_FMT_WRITE (R268). -/
def execTdmFmtWrite (k v : Nat) (s : State) : Host.Outcome State Fault Refusal := s.accept (below k 16 && below v (2 ^ 32)) fun s =>
  (if k < 16 then s.tdmFmtWrite k v else s).done

/-- A slave port goes to Waiting. -/
def State.tdmWaiting (s : State) (k : Nat) : State :=
  (s.put (R.TDM_STATUS_State k) 1).updTdm k (fun t => { t with ok := none })

/-- TDM_CLOCK_LOSS (R270). -/
def execTdmClockLoss (k : Nat) (s : State) : Host.Outcome State Fault Refusal := s.accept (below k 16) fun s =>
  (if k < 16 ∧ s.get (R.TDM_STATUS_State k) = 2 ∧ ¬ s.is (R.TDM_CTRL_Master k) then
     (s.tdmWaiting k).bump (R.CNT_TDM_CLKLOSS_Count k) else s).done

-- ## TDM: frames (R267, R269, R270)

/-- The pick in whose window a time falls (R267). -/
def tdmPick (fs t : Nat) : Option Nat :=
  let n := pickOf fs t
  [n, n + 1].find? (fun m =>
    let d : Int := 4 * fs * ((t : Int) - boundary fs m)
    decide (-(unitsPerSec : Int) ≤ d) && decide (d < unitsPerSec))

/-- A slave frame advances the port's state: the pick of the frame, and whether it is taken in Running (R270). -/
def State.tdmSlave (s : State) (k : Nat) (f : TdmFrame) : Option Nat × Bool × State :=
  let s := s.put (R.TDM_STATUS_MeasBits k) f.bits
  let n := tdmPick s.fs (s.media (s.tdmFsTime k f))
  let t := s.tdmSt k
  let good := decide (f.bits = s.get (R.TDM_FMT_FrameBits k))
  let u := s.updTdm k (fun t => { t with last := n })
  if s.get (R.TDM_STATUS_State k) = 2 then
    if n = none ∨ n ≠ t.last.map (· + 1) then (n, false, (u.tdmWaiting k).bump (R.CNT_TDM_SLIP_Count k))
    else if !good then (n, false, (u.tdmWaiting k).bump (R.CNT_TDM_FRAMEERR_Count k))
    else (n, true, u)
  else if n ≠ none ∧ good = true then
    if t.ok.map (· + 1) = n then (n, true, (u.put (R.TDM_STATUS_State k) 2).updTdm k (fun t => { t with ok := none }))
    else (n, false, u.updTdm k (fun t => { t with ok := n }))
  else (n, false, u.updTdm k (fun t => { t with ok := none }))

/-- The slots of an input frame of pick n as source values (R269). -/
def State.tdmValues (s : State) (k n : Nat) (f : TdmFrame) : List (Nat × BitVec 32) :=
  let db := tdmBits (s.get (R.TDM_FMT_DataBits k))
  let mask := if s.time.pick = n then (s.tdmSt k).rxMask else (s.tdmSt k).rxPrev
  (List.range (s.tdmN k)).filterMap (fun c =>
    if bitOf mask c then some (6144 + 32 * k + c, BitVec.ofNat 32 (s.tdmWord k f c * 2 ^ (32 - db))) else none)

/-- Source values put into the half that fills. -/
def State.srcPuts (s : State) (vs : List (Nat × BitVec 32)) : State :=
  { s with src := vs.foldl (fun t v => tput 0#32 v.1 v.2 t) s.src }

/-- The input frame of pick n supplies index n + 1 (R17, R269): it waits for that half, or goes into it while it fills. -/
def State.tdmTake (s : State) (k n : Nat) (f : TdmFrame) : State :=
  let vs := s.tdmValues k n f
  if s.time.pick = n + 1 then s.srcPuts vs
  else if s.time.pick = n then s.updTdm k (fun t => { t with wait := [(n + 1, vs)] })
  else s

/-- TDM_FRAME_RX (R269, R270). -/
def State.tdmFrameRx (s : State) (k : Nat) (f : TdmFrame) : State :=
  if s.get (R.TDM_STATUS_State k) = 0 then s
  else
    let (n, ok, s) := if s.is (R.TDM_CTRL_Master k) then (tdmPick s.fs (s.media (s.tdmFsTime k f)), decide (s.get (R.TDM_STATUS_State k) = 2), s) else s.tdmSlave k f
    match n with
    | some p => if ok ∧ s.is (R.TDM_CTRL_RxEn k) ∧ s.time.running then s.tdmTake k p f else s
    | none => s

/-- TDM_FRAME_RX. -/
def execTdmFrameRx (k : Nat) (f : TdmFrame) (s : State) : Host.Outcome State Fault Refusal := s.accept (below k 16) fun s =>
  (if k < 16 then s.tdmFrameRx k f else s).done

/-- The frame that starts at the boundary of pick m, from the values written in pick m - 1; DOUT of a slave in Waiting holds 0 (R21, R269 to R271). -/
def State.tdmFrameStart (s : State) (m k : Nat) : State :=
  if !s.is (R.TDM_CTRL_Enable k) then s
  else
    let s := if (s.tdmSt k).start then (s.put (R.TDM_STATUS_State k) 2).updTdm k (fun t => { t with start := false }) else s
    let s := s.tdmDriveOn k
    let s := s.updTdm k (fun t => { t with rxPrev := t.rxMask, rxMask := s.get (R.TDM_RXMASK_Mask k), txMask := s.get (R.TDM_TXMASK_Mask k) })
    let db := tdmBits (s.get (R.TDM_FMT_DataBits k))
    s.tdmSend k m (if s.get (R.TDM_STATUS_State k) = 1 then List.replicate (s.get (R.TDM_FMT_FrameBits k)) (some false)
      else s.tdmLine k (fun c => if bitOf (s.tdmSt k).txMask c then some ((tget 0#32 s.dst (6144 + 32 * k + c)).toNat / 2 ^ (32 - db)) else none))

/-- At strobe m: every port's frame starts (R267). -/
def State.tdmStrobe (s : State) (m : Nat) : State := s.forN 16 (fun k t => t.tdmFrameStart m k)

/-- After strobe m: input slots that waited for index m go into the half that fills. -/
def State.tdmFill (s : State) (m : Nat) : State :=
  s.forN 16 (fun k t => (t.srcPuts (((t.tdmSt k).wait.filter (fun w => decide (w.1 = m))).flatMap Prod.snd)).updTdm k (fun v => { v with wait := [] }))

/-- Input slots that wait are part of the source buffer that a RateChange or a Rebase clears (R46). -/
def State.tdmClear (s : State) : State := { s with tdm := s.tdm.map (fun e => (e.1, { e.2 with wait := [] })) }

/-- The picks of a slave's latest frames after a jump of the pick count. -/
def State.tdmMove (s : State) (f : Nat → Nat) : State := { s with tdm := s.tdm.map (fun e => (e.1, { e.2 with last := e.2.last.map f, ok := e.2.ok.map f })) }

/-- A write of TDMn register offset r (within the block), `v` the word with unwritten bytes kept. -/
def State.tdmRegWrite (s : State) (k r v : Nat) : State :=
  if r = 0 then s.tdmCtrlWrite k v else if r = 4 then s.tdmFmtWrite k v else s.wrRW (R.TDM_CTRL k + r) v

-- ## Local links: the line (R272 to R276)

/-- What a link holds. -/
def State.llSt (s : State) (k : Nat) : LlSt := tget {} s.ll k

/-- What a link holds, changed. -/
def State.updLl (s : State) (k : Nat) (f : LlSt → LlSt) : State := { s with ll := tupd {} k f s.ll }

/-- W at a rate (R274). -/
def linkWords (fs : Nat) : Nat := if highRate fs then 256 else 512

/-- The scrambler (R273) over the next bits of a byte, least significant first, from the bit of weight w and the mask so far: the mask and
the state. Bit i of the state is s(i + 1). -/
def scrambleByte (st : Nat) : Nat → Nat → Nat → Nat × Nat
  | 0, _, m => (m, st)
  | k + 1, w, m =>
    if bitOf st 57 != bitOf st 38 then scrambleByte (st * 2 % 2 ^ 58 + 1) k (2 * w) (m + w) else scrambleByte (st * 2 % 2 ^ 58) k (2 * w) m

/-- Bytes scrambled, or descrambled: the scrambler is additive (R273). -/
def scramble : Nat → List Byte → List Byte
  | _, [] => []
  | st, b :: bs =>
    let (m, st) := scrambleByte st 8 1 0
    (b ^^^ BitVec.ofNat 8 m) :: scramble st bs

/-- The scrambler's state at the SOF: all ones. -/
def scrambleInit : Nat := 2 ^ 58 - 1

/-- A byte string cut into blocks of eight. -/
def blocks8 : Nat → List Byte → List (List Byte)
  | 0, _ => []
  | k + 1, bs => bs.take 8 :: blocks8 k (bs.drop 8)

/-- The Mark block's bytes, never scrambled (R273, R274). -/
def linkMark : List Byte := [0xF6#8, 0xF6#8, 0xF6#8, 0x28#8, 0x28#8, 0x28#8, 0x5A#8, 0xC3#8]

/-- The control-header bits of the blocks after the Mark (R274). -/
def linkHeaders (w : Nat) : List Bool := true :: (List.replicate (w / 2 + 4) false ++ [true])

-- ## Local links: identity and control cells (R275, R280, R281)

/-- The unit's number for a frame; 0xFFFF where it has none (R275). -/
def State.unitOr (s : State) : Nat := if s.get R.SH_UNIT_Unit = 0 then 0xFFFF else s.get R.SH_UNIT_Unit

/-- PairId in bit 0, Paired in bit 1. -/
def State.pairSide (s : State) : Nat := s.get R.SYS_STRAPS_PairId + (if s.paired then 2 else 0)

/-- A control cell's words as its 32 bytes: type, seq, ack, length, payload (R280). -/
def cellBytes (ws : List (BitVec 32)) (seq ack : Nat) : List Byte :=
  let w0 := (ws.getD 0 0#32).toNat
  [BitVec.ofNat 8 w0, BitVec.ofNat 8 seq, BitVec.ofNat 8 ack, BitVec.ofNat 8 (w0 / 2 ^ 24)] ++ bytesOf ((ws.drop 1).take 7)

/-- A Hello's words (R281). -/
def State.helloCell (s : State) (k w : Nat) : List (BitVec 32) :=
  wordsOf ([0x01#8, 0#8, 0#8, 16#8, 0x01#8, BitVec.ofNat 8 k] ++ beBytes 2 s.unitOr ++ beBytes 2 (s.obj 0x1200 0)
    ++ [BitVec.ofNat 8 s.pairSide, 0xB0#8] ++ beBytes 2 w ++ beBytes 2 w ++ List.replicate 16 0#8)

/-- The cell of a frame with PickLo p (R280): its words, and the state. -/
def State.nextCell (s : State) (k p w : Nat) : List (BitVec 32) × State :=
  match (s.llSt k).mbox with
  | some ws => (ws, (s.updLl k (fun t => { t with mbox := none })).put (R.LL_STATUS_CcPending k) 0)
  | none => (if s.is (R.LL_CTRL_HelloEn k) ∧ p % 64 = 0 then s.helloCell k w else List.replicate 8 0#32, s)

/-- CC_TX_CMD.Send (R280, R283). -/
def State.ccSend (s : State) (k : Nat) : State :=
  let ws := s.rdWords (R.CC_TX_W k 0) 8
  if (s.llSt k).mbox.isSome ∨ 28 < (ws.getD 0 0#32).toNat / 2 ^ 24 then s.refusedAt (R.CC_TX_CMD k)
  else (s.updLl k (fun t => { t with mbox := some ws })).put (R.LL_STATUS_CcPending k) 1

/-- CC_TX_SEND. -/
def execCcTxSend (k : Nat) (s : State) : Host.Outcome State Fault Refusal := s.accept (below k 4) fun s => (if k < 4 then s.ccSend k else s).done

/-- A read of CC_RX_INFO that includes byte 3 pops the oldest received cell (R280). -/
def State.ccPop (s : State) (k : Nat) : Nat × State :=
  let f := (s.llSt k).fifo
  let s := s.updLl k (fun t => { t with fifo := t.fifo.drop 1 })
  let s := match f with
    | [] => s
    | ws :: _ => s.wrWords (R.CC_RX_W k 0) ws
  let s := (s.putB (R.CC_RX_INFO_Valid k) (!f.isEmpty)).put (R.CC_RX_INFO_Count k) f.length
  ((s.rd (R.CC_RX_INFO k)).toNat, s)

/-- CC_RX_POP. -/
def execCcRxPop (k : Nat) (s : State) : Host.Outcome State Fault Refusal := s.accept (below k 4) fun s =>
  (if k < 4 then
    let (v, s) := s.ccPop k
    s.send (.readData (R.CC_RX_INFO k) v)
  else s).done

/-- A control cell of a good frame is taken (R280, R281). -/
def State.cellIn (s : State) (k : Nat) (c : List Byte) : State :=
  if beAt c 0 1 = 0 then s
  else
    let ws := wordsOf ([c.getD 0 0#8, c.getD 1 0#8, 0#8, c.getD 3 0#8] ++ c.drop 4)
    let full := decide (16 ≤ (s.llSt k).fifo.length)
    let s := s.updLl k (fun t => { t with ack := beAt c 1 1, fifo := if full then t.fifo else t.fifo ++ [ws] })
    let s := if full then s.bump (R.CNT_LL_CC_LOST_Count k) else s
    if beAt c 0 1 = 1 then
      let s := ((s.put (R.LL_PEER_DeviceKind k) (beAt c 4 1)).put (R.LL_PEER_LinkNo k) (beAt c 5 1)).put (R.LL_PEER_PairSide k) (beAt c 10 1)
      let s := ((s.put (R.LL_PEER_Revision k) (beAt c 11 1)).put (R.LL_PEER_ID_DomainId k) (beAt c 8 2)).put (R.LL_PEER_ID_WordsIn k) (beAt c 12 2)
      (s.updLl k (fun t => { t with hello := some s.time.pick })).put (R.LL_STATUS_PartnerSeen k) 1
    else s

-- ## Local links: transmit (R277)

/-- The frame of the current pick on link k (R274 to R277). -/
def State.linkSend (s : State) (k : Nat) : State := match s.heddle.last with
  | none => s
  | some n =>
    let t := s.llSt k
    if !s.is (R.LL_CTRL_Enable k) ∨ ¬ s.is (R.LL_CTRL_TxEn k) ∨ ¬ s.time.running ∨ t.sent then s
    else
      let w := linkWords s.fs
      let p := n % 2 ^ 16
      let (ws, s) := s.nextCell k p w
      let seq := if (ws.getD 0 0#32).toNat % 256 = 0 then t.seq else (t.seq + 1) % 256
      let s := s.updLl k (fun t => { t with seq := seq, sent := true })
      let flags := (if t.mute then 0 else 1) + (if s.is R.LEASE_STATUS_Holding then 2 else 0)
      let sof := [0x78#8] ++ beBytes 2 p ++ [BitVec.ofNat 8 flags, BitVec.ofNat 8 (s.get R.TIME_STATUS_RateNow + 16 * k)]
        ++ beBytes 2 s.unitOr ++ [BitVec.ofNat 8 s.pairSide]
      let words := (List.range w).flatMap (fun c => beBytes 4 (if t.mute then 0 else (tget 0#32 s.dst (4096 + 512 * k + c)).toNat))
      let body := cellBytes ws seq t.ack ++ words
      let crc := crc32 (sof.drop 1 ++ body)
      let line := sof ++ body ++ [0x87#8] ++ beBytes 4 crc ++ [0#8, 0#8, 0#8]
      s.send (.linkFrame k ((true, linkMark) :: (linkHeaders w).zip (blocks8 (w / 2 + 6) (scramble scrambleInit line))))

/-- LL_FRAME_TX (R277). -/
def execLlFrameTx (k : Nat) (s : State) : Host.Outcome State Fault Refusal := s.accept (below k 4) fun s => (if k < 4 then s.linkSend k else s).done

-- ## Local links: receive (R278, R279)

/-- Why a frame is not good: none where it is good, otherwise whether it is the CRC (R278). -/
def State.linkBad (s : State) (f : LlFrame) (line : List Byte) : Option Bool :=
  let w := linkWords s.fs
  let n := 8 * (w / 2 + 6)
  if f.blocks.map Prod.fst ≠ (linkHeaders w).map some ∨ line.length ≠ n ∨ beAt line 0 1 ≠ 0x78 ∨ beAt line (n - 8) 1 ≠ 0x87 then some false
  else if beAt line (n - 7) 4 ≠ crc32 ((line.drop 1).take (n - 9)) then some true
  else if beAt line 4 1 % 8 ≠ s.get R.TIME_STATUS_RateNow then some false
  else none

/-- The index of a good frame in pick c (R278). -/
def linkIndex (c p : Nat) : Int := (c : Int) + toSigned 16 ((p + 2 ^ 16 - c % 2 ^ 16) % 2 ^ 16)

/-- A frame's last bit at a time lies at least 41 CCLK before strobe m (R278, R283). -/
def linkInTime (fs m t : Nat) : Bool := decide (5 * t + 41 * 524288 ≤ 5 * boundary fs m)

/-- A good frame is placed (R278). -/
def State.linkPlace (s : State) (k : Nat) (line : List Byte) (time : Nat) : State :=
  let c := s.time.pick
  let n := linkIndex c (beAt line 1 2)
  if n > c then s.bump (R.CNT_LL_EARLY_Count k)
  else if n < c ∨ ¬ linkInTime s.fs (c + 1) (s.media time) then s.bump (R.CNT_LL_LATE_Count k)
  else if (s.llSt k).wrote then s.bump (R.CNT_LL_FORMAT_Count k)
  else if s.get (R.LL_STATUS_State k) ≠ 2 ∨ ¬ s.is (R.LL_CTRL_RxEn k) then s
  else
    let s := s.updLl k (fun t => { t with wrote := true })
    if beAt line 3 1 % 2 = 0 then s.bump (R.CNT_LL_NOTOK_Count k)
    else
      (s.bump (R.CNT_LL_GOOD_Count k)).srcPuts
        ((List.range (linkWords s.fs)).map (fun i => (4096 + 512 * k + i, BitVec.ofNat 32 (beAt line (40 + 4 * i) 4))))

/-- LL_FRAME_RX (R278 to R281). -/
def State.linkRx (s : State) (k : Nat) (f : LlFrame) : State :=
  if s.get (R.LL_STATUS_State k) = 0 then s
  else
    let line := scramble scrambleInit (f.blocks.flatMap Prod.snd)
    match s.linkBad f line with
    | some true => s.bump (R.CNT_LL_CRC_Count k)
    | some false => s.bump (R.CNT_LL_FORMAT_Count k)
    | none =>
      let s := (s.put (R.LL_STATUS_PeerFlags k) (beAt line 3 1)).put (R.LL_STATUS_PeerUnit k) (beAt line 5 2)
      let s := s.cellIn k ((line.drop 8).take 32)
      if !s.time.running then s
      else
        let s := s.updLl k (fun t => { t with good := true })
        let s := s.linkPlace k line f.time
        if s.get (R.LL_STATUS_State k) = 1 ∧ 7 ≤ (s.llSt k).run then (s.put (R.LL_STATUS_State k) 2).updLl k (fun t => { t with dry := 0 }) else s

/-- LL_FRAME_RX. -/
def execLlFrameRx (k : Nat) (f : LlFrame) (s : State) : Host.Outcome State Fault Refusal := s.accept (below k 4) fun s => (if k < 4 then s.linkRx k f else s).done

/-- Up and 16 consecutive picks with no good frame: Hunt (R279). -/
def State.linkDown (s : State) (k : Nat) : State :=
  if s.get (R.LL_STATUS_State k) = 2 ∧ 16 ≤ (s.llSt k).dry then
    ((s.put (R.LL_STATUS_State k) 1).bump (R.CNT_LL_DOWN_Count k)).updLl k (fun t => { t with run := 0, dry := 0 })
  else s

/-- LL_LINK_DOWN. -/
def execLlLinkDown (k : Nat) (s : State) : Host.Outcome State Fault Refusal := s.accept (below k 4) fun s => (if k < 4 then s.linkDown k else s).done

/-- No Hello within the last 256 picks (R281). -/
def State.linkUnseen (s : State) (k : Nat) : State := match (s.llSt k).hello with
  | some h => if h + 256 ≤ s.time.pick ∨ s.time.pick < h then (s.updLl k (fun t => { t with hello := none })).put (R.LL_STATUS_PartnerSeen k) 0 else s
  | none => s

/-- LL_PARTNER_SEEN_TIMEOUT. -/
def execLlPartnerSeenTimeout (k : Nat) (s : State) : Host.Outcome State Fault Refusal := s.accept (below k 4) fun s => (if k < 4 then s.linkUnseen k else s).done

/-- What lane k carries outside its frames: the bit of number i after a frame's last (R272); none where the transmitter is off (R277). -/
def State.linkFill (s : State) (k i : Nat) : Option Bool := if s.is (R.LL_CTRL_Enable k) then some (decide (i % 2 = 0)) else none

/-- At a strobe, before the halves swap: the pick that ends closes its index on every link (R278, R279). -/
def State.linkStrobe (s : State) : State :=
  s.forN 4 (fun k t =>
    let t := t.linkSend k
    if t.get (R.LL_STATUS_State k) = 0 then t
    else
      let v := t.llSt k
      let t := if t.get (R.LL_STATUS_State k) = 2 ∧ ¬ v.wrote then t.bump (R.CNT_LL_MISSING_Count k) else t
      let t := t.linkDown k
      t.updLl k (fun v => { v with run := if v.good then v.run + 1 else 0, dry := if v.good then 0 else v.dry + 1, good := false, wrote := false }))

/-- After a strobe: TxMute comes into force, each link owes a frame, and PartnerSeen is brought up to date (R277, R281). -/
def State.linkTake (s : State) : State :=
  s.forN 4 (fun k t => (t.updLl k (fun v => { v with mute := t.is (R.LL_CTRL_TxMute k), sent := false })).linkUnseen k)

/-- A write of LL_CTRL (R279). -/
def State.llCtrlWrite (s : State) (k v : Nat) : State :=
  let was := s.is (R.LL_CTRL_Enable k)
  let s := (s.wrRW (R.LL_CTRL k) v).mark (regKey (R.LL_CTRL k))
  let now := s.is (R.LL_CTRL_Enable k)
  if was = now then s
  else (s.put (R.LL_STATUS_State k) (if now then 1 else 0)).updLl k (fun t => { t with run := 0, dry := 0, good := false, wrote := false })

/-- A write of LLINKn register offset r (within the block), `v` the word with unwritten bytes kept. -/
def State.llRegWrite (s : State) (k r v : Nat) : State :=
  if r = 0 then s.llCtrlWrite k v else if r = 0x60 then (if bitOf v 0 then s.ccSend k else s) else s.wrRW (R.LL_CTRL k + r) v

end Sys2Proof.Machine
end

