-- ==== Sys2Proof/Machine/Lease.lean ====
section
/-!
DEFINITION. The lease logic and the firmware that runs it in a unit: levels, timers, drivers, lease messages
(13_pair_redundancy.md). Times are in CCLK of XREF-derived time, 625 to the microsecond.
-/
namespace Sys2Proof.Machine

/-- The lease logic's state changed. -/
def State.updL (s : State) (f : LeaseSt → LeaseSt) : State := { s with lease := f s.lease }

-- ## Levels (R285, R288 to R290, R295, R296, R301, R303, R304)

/-- Fault as Beats carry it (R301); MCS0 stays Locked throughout a glide (R79). -/
def State.faultNow (s : State) : Bool :=
  s.is R.LEASE_CTRL_Fault || (decide (s.get (R.MCS_STATUS_State 0) ≠ 2) && decide (s.get (R.MCS_STATUS_State 0) ≠ 3)) || decide (s.get R.RD_STATUS_State = 0)

/-- The references of a pair follow the roles (R303): REF9 is enabled at rank 0 with BoDecay at the standby, and disabled at the
holder. -/
def State.roleRefs (s : State) : State :=
  if !s.paired then s
  else
    let v := (s.rd (R.REF_CFG 9)).toNat
    if s.is R.LEASE_STATUS_Holding then s.refCfgApply 9 (setBits v 0 1 0)
    else s.refCfgApply 9 (setBits (setBits v 0 5 1) 9 1 1)

/-- This unit is the epoch sender (R304, R320). -/
def State.senderNow (s : State) : Bool :=
  s.is R.LEASE_STATUS_Holding || s.is R.LEASE_STATUS_RosterAbsent
  || (s.svUp && !s.is R.SV_STATUS_PartnerHolding && decide (s.get R.LEASE_STATUS_PairId < s.get R.SV_STATUS_PartnerPairId))

/-- EpochSender follows the levels; a unit that has just become the sender owes a full epoch (R304, R308). -/
def State.senderEval (s : State) : State :=
  let now := s.senderNow
  let s := if now ∧ ¬ s.sv.sender then { s with sv := { s.sv with full := true } } else s
  { s.putB R.SV_STATUS_EpochSender now with sv := { s.sv with sender := now } }

/-- ReserveActive (R296): RESERVE_ACTIVATE. -/
def State.reserveEval (s : State) : State :=
  let was := s.is R.LEASE_STATUS_ReserveActive
  let now := s.is R.LEASE_STATUS_ReserveValid && (was || (!s.is R.LEASE_STATUS_LeaseIn && !s.svUp && s.is R.LEASE_STATUS_RosterAbsent))
  let s := s.putB R.LEASE_STATUS_ReserveActive now
  if now ∧ ¬ was then s.bump R.CNT_RESERVE_ACT_Count else s

/-- Holding and LEASE_OUT (R289). -/
def State.holdEval (s : State) : State :=
  let mode := s.get R.LEASE_CTRL_Mode
  let was := s.is R.LEASE_STATUS_Holding
  let now := decide (mode = 3) || (decide (mode ≠ 0) && (s.is R.LEASE_STATUS_LeaseValid || s.is R.LEASE_STATUS_ReserveActive))
  let s := (s.putB R.LEASE_STATUS_Holding now).putB R.LEASE_STATUS_LeaseOut now
  if now = was then s else s.roleRefs

/-- PartnerAsserted and Collision, each onset counted (R289): COLLISION. -/
def State.collisionEval (s : State) : State :=
  let pa := s.is R.LEASE_STATUS_LeaseIn || (s.svUp && s.is R.SV_STATUS_PartnerLeaseOut)
  let coll := s.is R.LEASE_STATUS_Holding && pa
  let was := s.is R.LEASE_STATUS_Collision
  let s := (s.putB R.LEASE_STATUS_PartnerAsserted pa).putB R.LEASE_STATUS_Collision coll
  if coll ∧ ¬ was then s.bump R.CNT_COLLISION_Count else s

/-- DriveOk falls when a condition fails, and its arm delay starts when all hold (R288, R289): DRIVE_RELEASE. -/
def State.driveEval (s : State) : State :=
  let s := if s.get R.LEASE_CTRL_Mode = 1 then s else s.put R.LEASE_STATUS_Fenced 0
  if s.is R.LEASE_STATUS_Holding ∧ ¬ s.is R.LEASE_STATUS_PartnerAsserted ∧ ¬ s.is R.LEASE_STATUS_Fenced then
    s.updL (fun l => { l with armAt := some (l.armAt.getD s.xref) })
  else
    let was := s.is R.LEASE_STATUS_DriveOk
    let s := (s.put R.LEASE_STATUS_DriveOk 0).updL (fun l => { l with armAt := none })
    if was then s.tdmRelease else s

/-- The levels are evaluated anew (R289). -/
def State.leaseEval (s : State) : State :=
  let s := s.reserveEval.holdEval.collisionEval.driveEval
  let s := s.putB R.LEASE_STATUS_PairIdClash (s.svUp && decide (s.get R.SV_STATUS_PartnerPairId = s.get R.LEASE_STATUS_PairId))
  (s.putB R.LEASE_STATUS_FaultNow s.faultNow).senderEval

/-- The level GPOj drives; none at high impedance (R288, R406). -/
def State.gpo (s : State) (j : Nat) : Option Bool :=
  if ¬ s.life.gpoOff ∧ bitOf (s.get R.LEASE_GPO_Enable) j ∧ (¬ bitOf (s.get R.LEASE_GPO_LeaseDrive) j ∨ s.is R.LEASE_STATUS_DriveOk) then
    some (bitOf (s.get R.LEASE_GPO_Value) j) else none

/-- DSM_CLKk drives its output (R223, R288). -/
def State.dsmClkOn (s : State) (k : Nat) : Bool := !s.is (R.DEC_GRP_LeaseDrive k) || s.is R.LEASE_STATUS_DriveOk

/-- LEASE_IN_CHANGE (R289): the level the 250 ns filter passes. -/
def execLeaseInChange (level : Bool) (s : State) : Host.Outcome State Fault Refusal :=
  ((s.putB R.LEASE_STATUS_LeaseIn level).leaseEval).done

/-- DriveOk rises once its conditions have held for 1 µs. -/
def State.driveArm (s : State) : State := match s.lease.armAt with
  | some t => if t + 625 ≤ s.xref then s.put R.LEASE_STATUS_DriveOk 1 else s
  | none => s

/-- DRIVEOK_ARM (R289). -/
def execDriveokArm (s : State) : Host.Outcome State Fault Refusal := s.live fun s =>
  (match s.lease.armAt with
   | some t => (s.xrefTo (t + 625)).driveArm
   | none => s).done

-- ## Timers and LEASE_CMD (R291, R295, R296)

/-- Capture. -/
def State.leaseCapture (s : State) : State := s.updL (fun l => { l with cap := some s.xref })

/-- ReserveCapture. -/
def State.reserveCapture (s : State) : State := s.updL (fun l => { l with resCap := some s.xref })

/-- When a grant of ms after a capture at tc ends: GrantMs at most DurationMs, less 2 parts in 10,000 (R291). -/
def State.grantEnd (s : State) (tc ms : Nat) : Nat := tc + min ms (s.get R.LEASE_TIME_DurationMs) * 624875

/-- Grant. -/
def State.leaseGrant (s : State) (ms : Nat) : State := match s.lease.cap with
  | none => s.refusedAt R.LEASE_CMD
  | some tc =>
    let s := s.updL (fun l => { l with cap := none })
    let e := s.grantEnd tc ms
    if e ≤ s.xref then s
    else ((s.updL (fun l => { l with endAt := e, gotAt := s.xref })).put R.LEASE_STATUS_LeaseValid 1).leaseEval

/-- ReserveGrant. -/
def State.reserveGrant (s : State) (ms : Nat) : State := match s.lease.resCap with
  | none => s.refusedAt R.LEASE_CMD
  | some tc =>
    let s := s.updL (fun l => { l with resCap := none })
    let e := s.grantEnd tc ms
    if e ≤ s.xref then s
    else ((s.updL (fun l => { l with resEnd := e })).put R.LEASE_STATUS_ReserveValid 1).leaseEval

/-- Release. -/
def State.leaseRelease (s : State) : State := (s.put R.LEASE_STATUS_LeaseValid 0).leaseEval

/-- ReleaseReserve. -/
def State.reserveRelease (s : State) : State :=
  ((s.put R.LEASE_STATUS_ReserveValid 0).put R.LEASE_STATUS_ReserveActive 0).leaseEval

/-- PulseAck (R295). -/
def State.pulseAck (s : State) : State :=
  ((s.updL (fun l => { l with ackAt := s.xref })).put R.LEASE_STATUS_Fenced 0).leaseEval

/-- SetRosterAbsent and ClearRosterAbsent (R296). -/
def State.rosterAbsent (s : State) (b : Bool) : State := (s.putB R.LEASE_STATUS_RosterAbsent b).leaseEval

/-- LEASE_CAPTURE. -/
def execLeaseCapture (s : State) : Host.Outcome State Fault Refusal := s.live fun s => s.leaseCapture.done
/-- LEASE_GRANT. -/
def execLeaseGrant (ms : Nat) (s : State) : Host.Outcome State Fault Refusal := s.live fun s => (s.leaseGrant ms).done
/-- RESERVE_CAPTURE. -/
def execReserveCapture (s : State) : Host.Outcome State Fault Refusal := s.live fun s => s.reserveCapture.done
/-- RESERVE_GRANT. -/
def execReserveGrant (ms : Nat) (s : State) : Host.Outcome State Fault Refusal := s.live fun s => (s.reserveGrant ms).done
/-- LEASE_RELEASE. -/
def execLeaseRelease (s : State) : Host.Outcome State Fault Refusal := s.live fun s => s.leaseRelease.done
/-- RELEASE_RESERVE. -/
def execReleaseReserve (s : State) : Host.Outcome State Fault Refusal := s.live fun s => s.reserveRelease.done
/-- PULSE_ACK. -/
def execPulseAck (s : State) : Host.Outcome State Fault Refusal := s.live fun s => s.pulseAck.done
/-- SET_ROSTER_ABSENT. -/
def execSetRosterAbsent (s : State) : Host.Outcome State Fault Refusal := s.live fun s => (s.rosterAbsent true).done
/-- CLEAR_ROSTER_ABSENT. -/
def execClearRosterAbsent (s : State) : Host.Outcome State Fault Refusal := s.live fun s => (s.rosterAbsent false).done

/-- The lease timer runs out (R291). -/
def State.leaseExpire (s : State) : State :=
  ((s.put R.LEASE_STATUS_LeaseValid 0).bump R.CNT_LEASE_EXPIRE_Count).leaseEval

/-- LEASE_EXPIRE. -/
def execLeaseExpire (s : State) : Host.Outcome State Fault Refusal := s.live fun s =>
  (if s.is R.LEASE_STATUS_LeaseValid then (s.xrefTo s.lease.endAt).leaseExpire else s).done

/-- The reserve timer runs out (R291). -/
def State.reserveExpire (s : State) : State :=
  ((s.put R.LEASE_STATUS_ReserveValid 0).put R.LEASE_STATUS_ReserveActive 0).leaseEval

/-- RESERVE_EXPIRE. -/
def execReserveExpire (s : State) : Host.Outcome State Fault Refusal := s.live fun s =>
  (if s.is R.LEASE_STATUS_ReserveValid then (s.xrefTo s.lease.resEnd).reserveExpire else s).done

/-- When no PulseAck has been written for 2 × PulseUs (R295). -/
def State.fenceAt (s : State) : Nat := s.lease.ackAt + 2 * s.get R.PULSE_CFG_PulseUs * 625

/-- The unit fences itself (R295). -/
def State.fence (s : State) : State :=
  if s.get R.LEASE_CTRL_Mode = 1 ∧ ¬ s.svUp ∧ ¬ s.is R.LEASE_STATUS_Fenced ∧ s.fenceAt ≤ s.xref then
    ((s.put R.LEASE_STATUS_Fenced 1).bump R.CNT_FENCE_Count).leaseEval
  else s

/-- FENCE_TIMEOUT. -/
def execFenceTimeout (s : State) : Host.Outcome State Fault Refusal := s.live fun s =>
  (if s.get R.LEASE_CTRL_Mode = 1 ∧ ¬ s.svUp then (s.xrefTo s.fenceAt).fence else s).done

/-- What the lease timers bring about as time passes (R289, R291, R295). -/
def State.leaseTimers (s : State) : State :=
  let s := if s.is R.LEASE_STATUS_LeaseValid ∧ s.lease.endAt ≤ s.xref then s.leaseExpire else s
  let s := if s.is R.LEASE_STATUS_ReserveValid ∧ s.lease.resEnd ≤ s.xref then s.reserveExpire else s
  s.fence.driveArm

/-- LEASE_REMAIN and RESERVE_REMAIN: microseconds until the end, rounded up. -/
def State.remainUs (s : State) (valid : Bool) (e : Nat) : Nat := if valid then ceilDiv (e - s.xref) 625 else 0

-- ## Lease messages of a unit (R292 to R297, R309, R310)

/-- Flags of a lease message. -/
def State.leaseFlags (s : State) : Nat :=
  (if s.is R.LEASE_STATUS_Holding then 1 else 0) + (if s.faultNow then 2 else 0)
  + (if s.is R.LEASE_STATUS_PinMismatch then 4 else 0) + (if s.svUp then 8 else 0)

/-- A lease message of this unit. -/
def State.leaseMsg (s : State) (kind seq ms : Nat) : LeaseMsg :=
  { kind := kind, unit := s.get R.SH_UNIT_Unit, partner := s.get R.SV_PARTNER_Unit, seq := seq, grantMs := ms, flags := s.leaseFlags }

/-- The next sequence number of this unit's lease messages. -/
def State.leaseSeq (s : State) : Nat × State :=
  let n := (s.lease.seq + 1) % 2 ^ 32
  (n, s.updL (fun l => { l with seq := n }))

/-- A message to the manager followed. -/
def State.leaseSend (s : State) (kind : Nat) : State :=
  let (n, s) := s.leaseSeq
  s.send (.lease (s.obj 0x1204 0) (s.leaseMsg kind n 0))

/-- PULSE_TX (R295). -/
def execPulseTx (s : State) : Host.Outcome State Fault Refusal := s.live fun s =>
  (if s.get R.LEASE_CTRL_Mode = 1 ∧ (s.is R.LEASE_STATUS_Holding ∨ s.is R.LEASE_STATUS_ReserveValid) then s.leaseSend 6 else s).done

/-- A Request with its Capture in the same pass, to the manager or to the partner (R291, R294, R309, R310). -/
def State.leaseAsk (s : State) (partner : Bool) : State :=
  let (n, s) := s.leaseCapture.leaseSeq
  let s := s.updL (fun l => { l with reqSeq := some n })
  if partner then s.send (.svCtrl (.lease (s.leaseMsg 1 n 0))) else s.send (.lease (s.obj 0x1204 0) (s.leaseMsg 1 n 0))

/-- A ReserveRequest with its ReserveCapture. -/
def State.reserveAsk (s : State) : State :=
  let (n, s) := s.reserveCapture.leaseSeq
  (s.updL (fun l => { l with resSeq := some n })).send (.lease (s.obj 0x1204 0) (s.leaseMsg 4 n 0))

/-- LEASE_RENEW_TX (R294, R309): a Request or a ReserveRequest; in SelfArb a Request to the partner, and a holder whose link is down
renews itself unless SilentTakeover is set. -/
def execLeaseRenewTx (reserve : Bool) (s : State) : Host.Outcome State Fault Refusal := s.live fun s =>
  (match s.get R.LEASE_CTRL_Mode with
   | 1 => if reserve then s.reserveAsk else s.leaseAsk false
   | 2 =>
     if reserve then s
     else if s.svUp then s.leaseAsk true
     else if s.is R.LEASE_STATUS_LeaseValid ∧ ¬ s.is R.LEASE_CTRL_SilentTakeover then s.leaseCapture.leaseGrant (s.get R.LEASE_TIME_DurationMs)
     else s
   | _ => s).done

/-- ABSENCE_REPORT_TX (R296). -/
def execAbsenceReportTx (s : State) : Host.Outcome State Fault Refusal := s.live fun s =>
  (if s.get R.LEASE_CTRL_Mode = 1 ∧ ¬ s.is R.LEASE_STATUS_LeaseIn ∧ ¬ s.svUp then s.leaseSend 8 else s).done

/-- A grant over Selvedge was sent within the last DurationMs + GuardMs (R309, R310). -/
def State.gaveLately (s : State) : Bool := match s.lease.gaveAt with
  | some g => decide (s.xref < g + (s.get R.LEASE_TIME_DurationMs + s.get R.LEASE_TIME_GuardMs) * cclkMs)
  | none => false

/-- LEASE_GRANT_MSG (R291, R297, R310): a Grant that answers the last Request. -/
def State.grantMsg (s : State) (m : LeaseMsg) : State :=
  if s.get R.LEASE_CTRL_Mode ≠ 1 ∨ m.kind ≠ 2 ∨ s.lease.reqSeq ≠ some m.seq then s
  else if s.gaveLately then s.send (.lease (s.obj 0x1204 0) (s.leaseMsg 3 m.seq 0))
  else
    let s := (s.leaseGrant m.grantMs).put R.LEASE_STATUS_InFallback 0
    if s.is R.LEASE_STATUS_ReserveActive ∧ s.is R.LEASE_STATUS_LeaseValid then s.reserveRelease else s

/-- LEASE_GRANT_MSG. -/
def execLeaseGrantMsg (m : LeaseMsg) (s : State) : Host.Outcome State Fault Refusal := s.live fun s => (s.grantMsg m).done

/-- RESERVE_GRANT_MSG (R291): a ReserveGrant that answers the last ReserveRequest. -/
def execReserveGrantMsg (m : LeaseMsg) (s : State) : Host.Outcome State Fault Refusal := s.live fun s =>
  (if s.get R.LEASE_CTRL_Mode = 1 ∧ m.kind = 5 ∧ s.lease.resSeq = some m.seq then
     (s.reserveGrant m.grantMs).put R.LEASE_STATUS_InFallback 0 else s).done

/-- PULSE_ACK_MSG (R295). -/
def execPulseAckMsg (m : LeaseMsg) (s : State) : Host.Outcome State Fault Refusal := s.live fun s =>
  (if s.get R.LEASE_CTRL_Mode = 1 ∧ m.kind = 7 then s.pulseAck else s).done

/-- ABSENT_CONFIRM (R296). -/
def execAbsentConfirm (m : LeaseMsg) (s : State) : Host.Outcome State Fault Refusal := s.live fun s =>
  (if s.get R.LEASE_CTRL_Mode = 1 ∧ m.kind = 9 then s.rosterAbsent true else s).done

/-- DENY (R297): the report is denied and nothing changes. -/
def execDeny (_m : LeaseMsg) (s : State) : Host.Outcome State Fault Refusal := s.live fun s => s.done

/-- FALLBACK_REQUEST (R310): no grant has come for three RenewMs while the link is Up. -/
def execFallbackRequest (s : State) : Host.Outcome State Fault Refusal := s.live fun s =>
  (if s.get R.LEASE_CTRL_Mode = 1 ∧ s.is R.LEASE_CTRL_Fallback ∧ s.is R.LEASE_STATUS_Holding ∧ s.svUp then
     (s.xrefTo (s.lease.gotAt + 3 * s.get R.LEASE_TIME_RenewMs * cclkMs)).leaseTimers.leaseAsk true
   else s).done

/-- The unit that asks, whose Beat reports `fault`, wins the lease of a SelfArb pair when neither holds (R309). -/
def State.askerWins (s : State) (fault : Bool) : Bool :=
  if s.get R.SV_STATUS_PartnerPairId < s.get R.LEASE_STATUS_PairId then !fault || s.faultNow else s.faultNow && !fault

/-- A grant to the partner. -/
def State.giveGrant (s : State) (seq : Nat) : State :=
  (s.updL (fun l => { l with gaveAt := some s.xref })).send (.svCtrl (.lease (s.leaseMsg 2 seq (s.get R.LEASE_TIME_DurationMs))))

/-- A lease message in a Ctrl frame (R309, R310). -/
def State.svLease (s : State) (m : LeaseMsg) : State :=
  let mode := s.get R.LEASE_CTRL_Mode
  let fault := bitOf m.flags 1
  if m.kind = 1 then
    if mode = 2 then
      if s.is R.LEASE_STATUS_PairIdClash ∨ s.is R.LEASE_STATUS_Holding then s
      else if (if bitOf m.flags 0 then !fault else s.askerWins (s.is R.SV_STATUS_PartnerFault)) then s.giveGrant m.seq else s
    else if mode = 1 ∧ ¬ s.is R.LEASE_STATUS_Holding ∧ ¬ s.is R.LEASE_STATUS_ReserveActive then
      (s.giveGrant m.seq).put R.LEASE_STATUS_InFallback 1
    else s
  else if m.kind = 2 ∧ s.lease.reqSeq = some m.seq ∧ (mode = 1 ∨ mode = 2) then
    let s := s.leaseGrant m.grantMs
    if mode = 1 then s.put R.LEASE_STATUS_InFallback 1 else s.updL (fun l => { l with gaveAt := none })
  else s

/-- SILENT_TAKEOVER (R309): DurationMs + GuardMs after the last grant sent, with LEASE_IN low. -/
def execSilentTakeover (s : State) : Host.Outcome State Fault Refusal := s.live fun s =>
  (match s.lease.gaveAt with
   | some g =>
     if s.get R.LEASE_CTRL_Mode = 2 ∧ s.is R.LEASE_CTRL_SilentTakeover ∧ ¬ s.svUp ∧ ¬ s.is R.LEASE_STATUS_Holding ∧ ¬ s.is R.LEASE_STATUS_LeaseIn then
       let s := s.xrefTo (g + (s.get R.LEASE_TIME_DurationMs + s.get R.LEASE_TIME_GuardMs) * cclkMs)
       ((s.updL (fun l => { l with gaveAt := none })).leaseCapture).leaseGrant (s.get R.LEASE_TIME_DurationMs)
     else s
   | none => s).done

-- ## Registers

/-- LEASE_CMD: the commands of its set bits, lowest first. -/
def State.leaseCmd (s : State) (v : Nat) : State :=
  let ms := bitsOf v 16 16
  let s := if bitOf v 0 then s.leaseCapture else s
  let s := if bitOf v 1 then s.leaseGrant ms else s
  let s := if bitOf v 2 then s.reserveCapture else s
  let s := if bitOf v 3 then s.reserveGrant ms else s
  let s := if bitOf v 4 then s.leaseRelease else s
  let s := if bitOf v 5 then s.reserveRelease else s
  let s := if bitOf v 6 then s.pulseAck else s
  let s := if bitOf v 7 then s.rosterAbsent true else s
  if bitOf v 8 then s.rosterAbsent false else s

/-- LEASE_TIME is in its ranges (R294). -/
def leaseTimeOk (v : Nat) : Bool :=
  let d := bitsOf v 0 7
  let r := bitsOf v 8 7
  let g := bitsOf v 16 5
  decide (5 ≤ d ∧ d ≤ 60 ∧ 1 ≤ r ∧ r ≤ d / 2 ∧ 1 ≤ g ∧ g ≤ 20)

/-- A write of LEASE register offset r (within the block), `v` the word with unwritten bytes kept; LEASE_CMD acts on its set bits. -/
def State.leaseRegWrite (s : State) (r v : Nat) : State :=
  let a := R.LEASE_CTRL + r
  if r = 0 then
    let t := (s.wrRW a v).leaseEval
    if t.paired ∧ ¬ s.paired then t.roleRefs else t
  else if r = 8 then (if leaseTimeOk v then s.wrRW a v else s.refusedAt a)
  else if r = 0xC then (if bitsOf v 0 13 < 250 ∨ 5000 < bitsOf v 0 13 then s.ignored a else s.wrRW a v)
  else if r = 0x10 then s.leaseCmd v
  else if r = 0x1C then ({ s.wrRW a v with life := { s.life with gpoOff := false } } : State).mark (regKey a)
  else s.wrRW a v

end Sys2Proof.Machine
end

