-- ==== Sys2Proof/Machine/TimeCtl.lean ====
section
/-!
DEFINITION. The timekeeper's commands: setting and capturing the time, the latching reads, and the PTP protocol engine
(02_media_timeline.md).
-/
namespace Sys2Proof.Machine

/-- TIME_SET (R35): Set loads the time to set while TodValid is 0; otherwise, or with more than 999,999,999 ns, it loads
nothing and a record is written. -/
def State.timeSet (s : State) : State :=
  if s.is R.TIME_STATUS_TodValid ∨ s.get R.SET_NS_Ns > 999999999 then s.ignored R.TIME_SET_CMD
  else
    let sec := s.get R.SET_SEC_LO_Sec + s.get R.SET_SEC_HI_Sec * 2 ^ 32
    { s.put R.TIME_STATUS_TodValid 1 with
      time := { s.time with tai := sec * unitsPerSec + s.get R.SET_NS_Ns * 65536, taiRem := 0 } }

-- ## The end of the firmware's start-up (R415)

/-- A port carries streams: a valid stream entry names it. -/
def State.streamPort (s : State) (n : Nat) : Bool :=
  s.rx.any (fun e => decide (seF e.2.cfg R.SE_CTRL_Valid = 1) && bitOf (seF e.2.cfg R.SE_CTRL_PortMask) n)
  || s.tx.any (fun e => decide (txF e.2.cfg R.TX_CTRL_Valid = 1) && bitOf (txF e.2.cfg R.TX_CTRL_PortMask) n)

/-- Step 5 of the start-up (R415): once the pick counter is started and the unit is in its domain, or Standalone, the ports in Startup that
carry streams go to Service. -/
def State.startService (s : State) : State :=
  let d := s.obj 0x1203 0
  if !s.life.wantSvc ∨ s.life.wantTime ∨ d < 2 then s
  else ({ s with life := { s.life with wantSvc := false } } : State).forN 4 (fun n t =>
    if t.portState n = 2 ∧ t.streamPort n then t.macCtrlWrite n (setBits (t.rd (R.MAC_CTRL n)).toNat 2 2 1) else t)

/-- Step 4 of the start-up (R415): with the first time there is, which a source may give as its offset from the timekeeper, the firmware sets the
time, where it is not yet valid, and starts the pick counter. -/
def State.startTime (s : State) (off : Option Int) : State :=
  if !s.life.wantTime then s
  else
    let s := match off with
      | some d =>
        if s.is R.TIME_STATUS_TodValid then s
        else
          let t := ((s.time.tai + d) % (2 ^ 48 * unitsPerSec : Nat)).toNat
          let sec := t / unitsPerSec
          (((s.put R.SET_SEC_LO_Sec (sec % 2 ^ 32)).put R.SET_SEC_HI_Sec (sec / 2 ^ 32)).put R.SET_NS_Ns (t % unitsPerSec / 65536)).timeSet
      | none => s
    if !s.is R.TIME_STATUS_TodValid then s
    else
      let s : State := { s with life := { s.life with wantTime := false } }
      (if s.is R.TIME_CTRL_Run then s else (s.put R.TIME_CTRL_Run 1).rampStop).startService

/-- TIME_SET (R35): a time that a starting unit waits for starts its pick counter (R415). -/
def execTimeSet (s : State) : Host.Outcome State Fault Refusal := s.live fun s => (s.timeSet.startTime none).done

/-- TIME_CAPTURE: time and pick count into the snapshot registers in one cycle. -/
def State.timeCapture (s : State) : State :=
  let t := s.time.tai
  let sec := t / unitsPerSec
  let s := (s.put R.SNAP_NS_Ns (t % unitsPerSec / 65536)).put R.SNAP_FRAC_Frac (t % 65536)
  let s := (s.put R.SNAP_SEC_LO_Sec (sec % 2 ^ 32)).put R.SNAP_SEC_HI_Sec (sec / 2 ^ 32)
  s.put64 R.SNAP_PICK_LO_Pick R.SNAP_PICK_HI_Pick s.time.pick

/-- TIME_CAPTURE (R50). -/
def execTimeCapture (s : State) : Host.Outcome State Fault Refusal := s.live fun s => s.timeCapture.done

/-- A read of PICK_LO that includes byte 3 latches PICK_HI (R9). -/
def State.pickLoRead (s : State) : Nat × State :=
  (s.time.pick % 2 ^ 32, s.put R.PICK_HI_Pick (s.time.pick / 2 ^ 32))

/-- PICK_LO_READ (R9). -/
def execPickLoRead (s : State) : Host.Outcome State Fault Refusal := s.live fun s =>
  let (v, s) := s.pickLoRead
  (s.send (.readData R.PICK_LO v)).done

/-- A read of SYS_CYCLES_LO that includes byte 3 latches SYS_CYCLES_HI (R9). -/
def State.cyclesRead (s : State) : Nat × State :=
  (s.time.cycles % 2 ^ 32, s.put R.SYS_CYCLES_HI_Cycles (s.time.cycles / 2 ^ 32))

/-- SYS_CYCLES_READ (R9). -/
def execSysCyclesRead (s : State) : Host.Outcome State Fault Refusal := s.live fun s =>
  let (v, s) := s.cyclesRead
  (s.send (.readData R.SYS_CYCLES_LO v)).done

-- ## PTP (R33, R34, R36)

/-- The device acts as master on a port: it is master capable there and does not follow that port (R33). -/
def State.ptpMaster (s : State) (n : Nat) : Bool :=
  decide (s.ptpProfile n ≠ 0xFF ∧ s.ptpRole n = 1 ∧ s.get R.RD_STATUS_Selected ≠ n) && s.is R.TIME_STATUS_TodValid

/-- TIME_JUMP_DETECT (R36): the selected PTP reference's time differs from the timekeeper by TIME_STEP_LIMIT or more. -/
def State.timeJump (s : State) (n : Nat) (offset : Int) : State :=
  if !s.is R.TIME_STATUS_TodValid ∨ s.get R.RD_STATUS_Selected ≠ n then s
  else if offset.natAbs ≥ max 1 (s.get R.TIME_STEP_LIMIT_LimitNs) * 65536 then
    let s := s.put64I R.TIME_JUMP_OFFSET_LO_Offset R.TIME_JUMP_OFFSET_HI_Offset (divRoundAway offset 65536)
    if s.is R.TIME_STATUS_JumpPending then s else (s.put R.TIME_STATUS_JumpPending 1).bump R.CNT_JUMP_Count
  else s.put R.TIME_STATUS_JumpPending 0

/-- A PTP reference is present once Announce and Sync arrive from the master in use (R51). -/
def State.ptpSeen (s : State) (n : Nat) : State := s.updRef n (fun r => { r with present := r.announce && r.sync })

/-- A measured offset of a PTP reference; one of a qualifying port gives a starting unit the time (R415). -/
def State.ptpOffset (s : State) (n : Nat) (offset : Int) : State :=
  let s := ((s.updRef n (fun r => { r with off := offset, sync := true })).ptpSeen n).timeJump n offset
  if (s.refState n = 2 ∨ s.refState n = 3 ∨ s.refState n = 5) ∧ s.mayQualify n then s.startTime (some offset) else s

/-- The timestamp of a frame whose timestamp point passed a time ago, with the port's correction (R106). -/
def State.rxStamp (s : State) (n ago : Nat) : Nat := ((s.time.tai : Int) - ago + s.getI (R.RX_TS_ADJ_Adj n)).toNat

/-- PTP_MESSAGE_RX (R33, R34, R36, R51). Where several ports hear a best master, UtcOffset (OD 0x2003:00) is that of the latest best Announce of
any port, whether or not the port's reference is selected (DESIGN CHOICE, notes/assumptions/16.md). Where a port acts as master, what it
answers joins the firmware's frames. -/
def execPtpMessageRx (port : Nat) (msg : PtpMsg) (s : State) : Host.Outcome State Fault Refusal := s.accept (below port 4) fun s =>
  (if port ≥ 4 ∨ s.ptpProfile port = 0xFF then s
   else match msg with
    | .announce best timescale utc gm =>
      if best then
        let s := if s.get R.RD_STATUS_Selected = port ∧ (s.refSt port).gm ≠ gm then s.sdpBump else s
        ((s.updRef port (fun r => { r with announce := true, timescale := timescale, gm := gm })).ptpSeen port).setObj 0x2003 0 (ofSigned 32 utc)
      else s
    | .sync best oneStep offset =>
      if best then (if oneStep then s.ptpOffset port offset else (s.updRef port (fun r => { r with sync := true })).ptpSeen port) else s
    | .followUp best offset => if best then s.ptpOffset port offset else s
    | .delayReq id ago =>
      if s.ptpMaster port ∧ s.ptpProfile port ≠ 3 then s.fwPtp port 9 (s.rxStamp port ago) id else s
    | .pdelayReq id ago =>
      if s.ptpProfile port = 3 then s.fwPtp port 3 (s.rxStamp port ago) id else s
    | .other => s).done

/-- The messages the engine sends of itself: by a master 0 Sync and 11 Announce, 1 Delay_Req, 2 Pdelay_Req, the messageType codes of
IEEE 1588. -/
def State.ptpSends (s : State) (port kind : Nat) : Bool :=
  decide (s.ptpProfile port ≠ 0xFF) &&
    (if kind = 0 ∨ kind = 11 then s.ptpMaster port
     else if kind = 1 then decide (s.ptpProfile port ≠ 3) && !s.ptpMaster port
     else decide (kind = 2) && decide (s.ptpProfile port = 3))

/-- PTP_MESSAGE_TX (R33): a message joins the firmware's frames; an event message is followed by its follow-up when it starts (two-step). -/
def execPtpMessageTx (port kind : Nat) (s : State) : Host.Outcome State Fault Refusal := s.accept (below port 4) fun s =>
  (if s.ptpSends port kind then s.fwPtp port kind s.time.tai 0 else s).done

end Sys2Proof.Machine
end

