-- ==== Sys2Proof/Machine/Selvedge.lean ====
section
/-!
DEFINITION. The Selvedge link: states, frames, Beats and Time frames (13_pair_redundancy.md).
-/
namespace Sys2Proof.Machine

/-- Selvedge's state changed. -/
def State.updSv (s : State) (f : SvSt → SvSt) : State := { s with sv := f s.sv }

-- ## Frames (R299, R300)

/-- What a frame's CRC covers: start bytes 1 to 7 and the payload (R300). -/
def svBody (typ seq : Nat) (payload : List Byte) : List Byte := [BitVec.ofNat 8 typ] ++ beBytes 2 payload.length ++ beBytes 4 seq ++ payload

/-- A frame's blocks from its type, sequence number and payload: the start block, the payload padded with 0 to whole blocks, and the terminate
block with the CRC-32C (R300). -/
def svFrame (typ seq : Nat) (payload : List Byte) : List Byte :=
  [0x78#8] ++ svBody typ seq payload ++ List.replicate (ceilDiv payload.length 8 * 8 - payload.length) 0#8
    ++ [0x87#8] ++ beBytes 4 (crc32c (svBody typ seq payload)) ++ [0#8, 0#8, 0#8]

/-- The type and payload of a frame; none where its blocks are not of R300's form or its CRC fails (R299). -/
def svParse (bs : List Byte) : Option (Nat × List Byte) :=
  let n := beAt bs 2 2
  let e := ceilDiv n 8 * 8 + 8
  if beAt bs 0 1 ≠ 0x78 ∨ 1024 < n ∨ bs.length ≠ e + 8 ∨ beAt bs e 1 ≠ 0x87 ∨ beAt bs (e + 1) 4 ≠ crc32c ((bs.take (8 + n)).drop 1) then none
  else some (beAt bs 1 1, (bs.take (8 + n)).drop 8)

/-- A frame sent, with its type's next sequence number. -/
def State.svSend (s : State) (typ : Nat) (payload : List Byte) : State :=
  let n := tget 0 s.sv.seqs typ
  (s.updSv (fun v => { v with seqs := tput 0 typ ((n + 1) % 2 ^ 32) v.seqs })).send (.selvedge (svFrame typ n payload))

/-- A received frame of a type: `f` acts on its payload; one whose CRC fails is counted, one of another type has no part here. -/
def State.svTake (s : State) (typ : Nat) (bs : List Byte) (f : List Byte → State → State) : State :=
  if s.get R.SV_STATUS_State = 0 then s
  else match svParse bs with
    | none => s.bump R.CNT_SV_CRC_Count
    | some (t, p) => if t = typ then f p s else s

-- ## States (R299, R302, R307)

/-- A partial epoch is discarded (R307). -/
def State.partDrop (s : State) : State :=
  if s.sv.part.isSome then ((s.updSv (fun v => { v with part := none })).put R.SV_STATUS_Receiving 0).bump R.CNT_EPOCH_DISCARD_Count else s

/-- The link is not Up: its master resets if it was (R378), digests pause, a partial epoch is discarded, Time frames start afresh,
PinMismatch is compared no more. -/
def State.svLeave (s : State) (st : Nat) : State :=
  let s := if s.svUp then s.masterReset 5 0 else s
  let s := (s.put R.SV_STATUS_State st).put R.SV_STATUS_Silent 1
  let s := s.updSv (fun v => { v with tIn := none, tod := none, aligned := false })
  let s := s.updL (fun l => { l with differ := 0 })
  (s.partDrop.put R.LEASE_STATUS_PinMismatch 0).pdUpdate.leaseEval

/-- Training ends: the link is Up, and a sender owes a full epoch (R299, R308). -/
def State.svRise (s : State) : State :=
  let s := ((s.put R.SV_STATUS_State 2).put R.SV_STATUS_Silent 0).updSv (fun v => { v with full := true, aligned := false })
  s.pdUpdate

/-- SELVEDGE_DOWN (R299). -/
def execSelvedgeDown (s : State) : Host.Outcome State Fault Refusal := s.live fun s =>
  (if s.svUp then (s.bump R.CNT_SV_DOWN_Count).svLeave 1 else s).done

/-- A write of SV_CTRL (R299). -/
def State.svCtrlWrite (s : State) (v : Nat) : State :=
  let was := s.is R.SV_CTRL_Enable
  let s := s.wrRW R.SV_CTRL v
  let now := s.is R.SV_CTRL_Enable
  if now ∧ ¬ was then (s.put R.SV_STATUS_State 1).put R.SV_STATUS_Silent 1
  else if was ∧ ¬ now then s.svLeave 0
  else s

-- ## Beats (R290, R301)

/-- Picks are counted and strobes fall (R301). -/
def State.picksRun (s : State) : Bool := s.time.running && s.is R.TIME_CTRL_Run && !s.is R.TIME_STATUS_RateSwitching

/-- The pick digest of release pick m (R158). -/
def State.pickDigest (s : State) (m : Nat) : Option Nat :=
  (s.dig.hist.find? (fun e => decide (e.1 = m))).map (fun e => crc32c (e.2.flatMap (fun p => beBytes 2 p.1 ++ beBytes 4 p.2)))

/-- A Beat's payload (R301). -/
def State.beatBytes (s : State) (pick : Nat) (dig : Option Nat) (ins : List (Nat × Nat)) : List Byte :=
  let flag := fun (b : Bool) (i : Nat) => if b then 2 ^ i else 0
  let flags := flag (s.is R.LEASE_STATUS_LeaseOut) 0 + flag (s.is R.LEASE_STATUS_Holding) 1 + flag (s.is R.LEASE_STATUS_ReserveValid) 2
    + flag s.faultNow 3 + flag (decide (s.get R.RD_STATUS_State = 2)) 4 + flag dig.isSome 5 + flag s.senderNow 6
    + flag (s.is R.SYS_STRAPS_PairId) 7
  beBytes 8 pick ++ [BitVec.ofNat 8 flags, 0#8] ++ beBytes 2 (s.get R.SH_UNIT_Unit) ++ beBytes 4 (dig.getD 0)
    ++ (List.range 105).flatMap (fun b => beBytes 4 (tget 0 ins b))

/-- A Beat for the pick that ended at the latest strobe, or one with no pick (R301). -/
def State.beatSend (s : State) : State :=
  if s.get R.SV_STATUS_State = 0 then s
  else
    let s := s.putB R.LEASE_STATUS_FaultNow s.faultNow
    if s.picksRun then
      match s.dig.last with
      | some (m, ins) =>
        if s.sv.beat = some m then s
        else (s.updSv (fun v => { v with beat := some m })).svSend 1 (s.beatBytes m (s.pickDigest m) ins)
      | none => s
    else s.svSend 1 (s.beatBytes (2 ^ 64 - 1) none [])

/-- SELVEDGE_BEAT_TX. -/
def execSelvedgeBeatTx (s : State) : Host.Outcome State Fault Refusal := s.live fun s => s.beatSend.done

/-- LeaseIn against the partner's LeaseOut at a Beat (R290): PIN_MISMATCH; a unit that holds and cannot drive releases. -/
def State.pinCheck (s : State) (out : Bool) : State :=
  let n := if out = s.is R.LEASE_STATUS_LeaseIn then 0 else s.lease.differ + 1
  let was := s.is R.LEASE_STATUS_PinMismatch
  let now := decide (2 ≤ n)
  let s := (s.updL (fun l => { l with differ := min n 2 })).putB R.LEASE_STATUS_PinMismatch now
  if now ∧ ¬ was then
    let s := s.bump R.CNT_PIN_MISMATCH_Count
    if s.is R.LEASE_STATUS_Holding ∧ ¬ s.is R.LEASE_STATUS_DriveOk ∧ s.get R.LEASE_CTRL_Mode = 1 then s.leaseRelease.leaseSend 3 else s
  else s

/-- The digests of a Beat (R160, R301): the partner's values of pick m are held and compared. -/
def State.beatDigests (s : State) (m : Nat) (p : List Byte) : State :=
  if !s.pdRuns ∨ m < s.sv.since then s
  else
    let ins := (List.range 105).map (fun b => (b, beAt p (16 + 4 * b) 4))
    let s := ({ s with dig := { s.dig with parIn := s.dig.parIn ++ [(m, ins)] } } : State).pairIn m
    if bitOf (beAt p 8 1) 5 then ({ s with dig := { s.dig with parOut := s.dig.parOut ++ [(m, beAt p 12 4)] } } : State).pairOut m else s

/-- A good Beat (R290, R299, R301). -/
def State.beatTake (p : List Byte) (s : State) : State :=
  if p.length ≠ 436 then s
  else
    let s := if s.get R.SV_STATUS_State = 1 then s.svRise else s
    let m := beAt p 0 8
    let f := beAt p 8 1
    let s := ((s.putB R.SV_STATUS_PartnerLocked (bitOf f 4)).putB R.SV_STATUS_PartnerFault (bitOf f 3)).putB R.SV_STATUS_PartnerHolding (bitOf f 1)
    let s := (s.putB R.SV_STATUS_PartnerLeaseOut (bitOf f 0)).putB R.SV_STATUS_PartnerPairId (bitOf f 7)
    let s := (s.put R.SV_PARTNER_Unit (beAt p 10 2)).lldpSince s
    let s := (s.pinCheck (bitOf f 0)).leaseEval
    if m = 2 ^ 64 - 1 then s
    else
      let s := if s.picksRun ∧ m + 1 ≠ s.time.pick then s.bump R.CNT_TIME_MISMATCH_Count else s
      s.beatDigests m p

/-- SELVEDGE_BEAT_RX. -/
def execSelvedgeBeatRx (bytes : List (BitVec 8)) (s : State) : Host.Outcome State Fault Refusal := s.live fun s =>
  (s.svTake 1 bytes State.beatTake).done

-- ## Time frames (R302)

/-- A timestamp of a Time frame. -/
def timeStamp (t : Nat) : List Byte := beBytes 6 (t / unitsPerSec) ++ beBytes 4 (t % unitsPerSec / 65536) ++ beBytes 2 (t % 65536)

/-- A timestamp's time. -/
def timeAt (p : List Byte) (off : Nat) : Nat := beAt p off 6 * unitsPerSec + beAt p (off + 6) 4 * 65536 + beAt p (off + 10) 2

/-- The next whole multiple of 10 µs of a time. -/
def next10us (t : Nat) : Nat := (t / 655360000 + 1) * 655360000

/-- TIME_FRAME_TX: the frame leaves as the timekeeper passes the next whole multiple of 10 µs (R302). -/
def State.timeSend (s : State) : State :=
  if s.get R.SV_STATUS_State = 0 ∨ ¬ s.is R.SV_CTRL_TimeEnable then s
  else
    let s := s.taiTo (next10us s.time.tai)
    let (t1, t2) := s.sv.tIn.getD (0, 0)
    let flags := (if s.is R.TIME_STATUS_TodValid then 1 else 0) + (if s.get R.RD_STATUS_State = 2 then 2 else 0)
    s.svSend 2 (timeStamp s.time.tai ++ timeStamp t2 ++ timeStamp t1 ++ [BitVec.ofNat 8 flags, 0#8, 0#8, 0#8])

/-- TIME_FRAME_TX. -/
def execTimeFrameTx (s : State) : Host.Outcome State Fault Refusal := s.live fun s => s.timeSend.done

/-- A Time frame that arrives at time t4 (R302): the one-way delay, the phase sample of REF9, and the partner's time of day,
which a starting unit may take (R415). -/
def State.timeTake (t4 : Nat) (p : List Byte) (s : State) : State :=
  if p.length ≠ 40 then s
  else
    let t3 := timeAt p 0
    let t2 := timeAt p 12
    let t1 := timeAt p 24
    let s := s.updSv (fun v => { v with tIn := some (t3, t4) })
    if t1 = 0 ∧ t2 = 0 then s
    else
      let delay : Int := (((t2 : Int) - t1) + ((t4 : Int) - t3)) / 2
      let off : Int := (t3 : Int) + delay - t4
      let s := s.putI R.SV_DELAY_Delay delay
      let s := s.updRef 9 (fun r => { r with off := off })
      if bitOf (beAt p 36 1) 0 then (s.updSv (fun v => { v with tod := some off })).startTime (some off) else s

/-- TIME_FRAME_RX. -/
def execTimeFrameRx (bytes : List (BitVec 8)) (arrival : Nat) (s : State) : Host.Outcome State Fault Refusal := s.live fun s =>
  (s.svTake 2 bytes (State.timeTake arrival)).done

end Sys2Proof.Machine
end

