-- ==== Sys2Proof/Machine/RegApply.lean ====
section
/-!
DEFINITION. A write of one register word, by every block's rules (R9, R10, R379, R452): what each RW register accepts, and the
commands that act inside one block. Commands that reach further (cues, mailboxes, resets, fuses, epochs) are laid over it in Bus.lean.
-/
namespace Sys2Proof.Machine

-- ## Ranges (R452)

/-- The fields of the register at an offset that its table bounds: lowest bit, width, least and greatest value. -/
def rangesOf (a : Nat) : List (Nat × Nat × Nat × Nat) :=
  if a = R.AGREE_WIN then [(0, 16, 1, 65535)]
  else if a = R.FREQ_RANGE then [(0, 8, 1, 200)]
  else if a = R.SLEW_RATE then [(0, 16, 1, 50000)]
  else if a = R.STEP_MAX then [(0, 8, 0, 200)]
  else if R.LOOP_CFG 0 ≤ a ∧ a < R.LOOP_CFG 5 then
    let b := [(10, 2000), (500, 100000), (100, 10000), (5, 500), (100, 20000)].getD ((a - R.LOOP_CFG 0) / 4) (0, 0)
    [(0, 24, b.1, b.2), (24, 3, 0, 3)]
  else if a = R.HOLD_CFG then [(0, 12, 1, 3600), (12, 6, 0, 60)]
  else if R.REF_CFG 0 ≤ a ∧ a < R.REF_CFG 10 then
    let r := (a - R.REF_CFG 0) % 0x40
    if r = 4 then [(0, 24, 10, 10000000)] else if r = 0xC then [(0, 12, 0, 3600)] else if r = 0x10 then [(18, 10, 1, 1001)] else []
  else if R.FPO_CFG 0 ≤ a ∧ a < R.FPO_CFG 4 then (if (a - R.FPO_CFG 0) % 0x20 = 4 then [(18, 10, 1, 1001)] else [])
  else if a = R.MCS_CFG 0 ∨ a = R.MCS_CFG 1 then [(3, 13, 10, 5000)]
  else if a = R.MCS_FREQ 1 then [(0, 28, 20000000, 200000000)]
  else if a = R.MCS_RETUNE 0 then [(0, 17, 1000, 100000)]
  else if a = R.STAGE_LEAD then [(0, 13, 8, 4096)]
  else if a = R.PDV_WINDOW then [(0, 16, 10, 60000)]
  else if R.PORT_TX 0 ≤ a ∧ a < R.PORT_TX 4 then [(0, 7, 10, 95)]
  else if a = R.EPOCH_CFG then [(0, 10, 1, 1000), (16, 10, 10, 1000)]
  else if a = R.AGE_CFG then [(0, 9, 7, 365)]
  else if a = R.AVS_CFG then [(0, 5, 0, 16), (8, 5, 0, 16)]
  else if a = R.EYE_WIN then [(0, 11, 0, 1439), (11, 11, 0, 1440)]
  else if a = R.EYE_PERIOD then [(0, 12, 10, 3600)]
  else if a = R.AON_PAT_SEL then [(2, 6, 0, 35)]
  else if a = R.AON_WDOG_CFG then [(0, 14, 0, 10000)]
  else if R.BUSMX_MCFG 0 ≤ a ∧ a < R.BUSMX_MCFG 7 then [(4, 5, 1, [16, 16, 16, 1, 16, 16, 2].getD ((a - R.BUSMX_MCFG 0) / 4) 16)]
  else []

/-- A word keeps every bounded field of its register in range. -/
def inRanges (a v : Nat) : Bool :=
  (rangesOf a).all (fun r => decide (r.2.2.1 ≤ bitsOf v r.1 r.2.1 ∧ bitsOf v r.1 r.2.1 ≤ r.2.2.2)) &&
  (!(a == R.AVS_CFG) || decide (bitsOf v 0 5 ≤ bitsOf v 8 5 ∧ bitsOf v 16 8 < bitsOf v 24 8))

-- ## Blocks that have no write function of their own

/-- A write of WARP register offset r; SE_CMD acts on its set bit (R139, R143). -/
def State.warpRegWrite (s : State) (r v : Nat) : State :=
  let a := R.WARP_CTRL + r
  if a = R.SE_CMD then
    let s := if bitOf v 0 then s.seLoad.seResult 0 else s
    let s := if bitOf v 1 then s.seStoreCmd else s
    if bitOf v 2 then s.seClearCmd else s
  else s.wrRW a v

/-- A write of SHUTTLE register offset r; ST_CMD acts on its set bit (R156, R157, R160). -/
def State.shuttleRegWrite (s : State) (r v : Nat) : State :=
  let a := R.SH_CTRL + r
  if a = R.ST_CMD then
    let s := if bitOf v 0 then s.stLoad.stResult 0 else s
    let s := if bitOf v 1 then s.stStoreCmd else s
    if bitOf v 2 then s.stClearCmd else s
  else if R.PORT_TX 0 ≤ a ∧ a < R.PORT_TX 4 then
    let t := s.wrRW a v
    if t.budgetNow then t.streamStatus else s.refusedAt a
  else if a = R.PD_CTRL then (s.wrRW a v).pdUpdate
  else if a = R.IDIG_MASK 3 then s.wrRW a (v % 512)
  else s.wrRW a v

/-- A write of FPO_CFG, FPO_RATE, FPO_OFFSET, FPO_WIDTH or REF6_RATE (R66): a configuration that breaks R66 is refused, and a width of a
period or more is ignored. An output that enters Aligned mode starts on the grid of its Free times. -/
def State.fpoApply (s : State) (a : Nat) (t : State) : State :=
  if (List.range 4).any (fun j => !t.fpoOk j) then s.refusedAt a
  else t.forN 4 (fun j u => if u.get (R.FPO_CFG_Mode j) = 2 ∧ s.get (R.FPO_CFG_Mode j) ≠ 2 then
      u.updFpo j (fun _ => { corr := s.getI (R.FPO_OFFSET_Offset j) * fpoUnit }) else u)

/-- A write of REED register offset r, applied (R55, R63, R66, R68, R381). LOOP_CFG5 is fixed. -/
def State.reedRegApply (s : State) (r v : Nat) : State :=
  let a := R.RD_CTRL + r
  if r = 0 then s.rdCtrlApply v
  else if R.LOOP_CFG 0 ≤ a ∧ a < R.LOOP_CFG 6 then
    let t := (a - R.LOOP_CFG 0) / 4
    if t = 5 then s else if s.loopTop t < bitsOf v 0 24 then s.ignored a else s.wrRW a v
  else if a = R.PSTEP_CMD then (if bitOf v 0 then s.pstepApply v else s)
  else if R.REF_CFG 0 ≤ a ∧ a < R.REF_CFG 10 then
    let k := (a - R.REF_CFG 0) / 0x40
    if a = R.REF_CFG k then s.refCfgApply k v
    else if a = R.REF_RATE k ∧ ¬ (4 ≤ k ∧ k ≤ 6) then s.put (R.REF_RATE_RateDen k) (bitsOf v 18 10)
    else if a = R.REF_RATE 6 then s.fpoApply a (s.wrRW a v)
    else s.wrRW a v
  else if R.FPO_CFG 0 ≤ a ∧ a < R.FPO_CFG 4 then
    let j := (a - R.FPO_CFG 0) / 0x20
    if a = R.FPO_CFG j then (if bitsOf v 0 2 = 3 then s.refusedAt a else s.fpoApply a (s.wrRW a v))
    else if a = R.FPO_RATE j then s.fpoApply a (s.wrRW a v)
    else if a = R.FPO_OFFSET j then (if 625000000 < (toSigned 32 (v % 2 ^ 32)).natAbs then s.refusedAt a else s.wrRW a v)
    else if a = R.FPO_WIDTH j ∧ s.get (R.FPO_RATE_RateDen j) * 1250000000 ≤ bitsOf v 0 28 * s.get (R.FPO_RATE_RateNum j) then s.ignored a
    else s.wrRW a v
  else s.wrRW a v

/-- A write of SYNTH register offset r, applied (R70, R75, R78, R80 to R85, R381). -/
def State.synthRegApply (s : State) (r v : Nat) : State :=
  let a := R.SYN_CTRL + r
  if r = 0 then s.synCtrlApply v
  else if a = R.DSMCLK_SEL then (if s.dsmSelOk v then s.wrRW a v else s.refusedAt a)
  else if a = R.MCS_FREQ 0 then s
  else if a = R.MCS_FREQ 1 ∨ a = R.MCS_CFG 1 then s.mcs1Apply a v
  else if a = R.LOCKA_CFG then
    let s := s.wrRW a v
    { s with life := { s.life with lockOff := false } }
  else if a = R.RAMP_CTRL 0 then s.rampCtrlApply 0 v
  else if a = R.RAMP_CTRL 1 then s.rampCtrlApply 1 v
  else if R.CKO_CFG 0 ≤ a ∧ a < R.CKO_CFG 12 then
    let i := (a - R.CKO_CFG 0) / 0x10
    let o := (a - R.CKO_CFG 0) % 0x10
    if o = 0 then s.ckoCfgApply i v else if o = 4 then s.ckoDivApply i v else if o = 8 then s.ckoPhaseApply i v else s
  else s.wrRW a v

/-- A write of SELVEDGE register offset r, but for EPOCH_CMD. -/
def State.svRegWrite (s : State) (r v : Nat) : State := if r = 0 then s.svCtrlWrite v else s.wrRW (R.SV_CTRL + r) v

/-- A write of AON_PAT_DATA: the selected word of the selected pattern; those beyond the 36th do not exist. -/
def patKey (pat w : Nat) : Nat := objKey 0xA111 (pat + 1) * 64 + w

/-- A wake pattern's 144 bytes: 128 pattern bytes, then 16 mask bytes (R118). -/
def State.wakePattern (s : State) (j : Nat) : List Byte := s.blob 0xA111 (j + 1)

/-- A word of a wake pattern. -/
def State.patWord (s : State) : Nat := leNat (sliceB (s.wakePattern (s.get R.AON_PAT_SEL_Pattern)) (4 * s.get R.AON_PAT_SEL_Word) 4)

/-- A word of a wake pattern replaced; a pattern of zeros is the reset one. -/
def State.patPut (s : State) (v : Nat) : State :=
  let j := s.get R.AON_PAT_SEL_Pattern
  let w := s.get R.AON_PAT_SEL_Word
  let old := sliceB (s.wakePattern j) 0 144
  let new := old.take (4 * w) ++ leBytes 4 v ++ old.drop (4 * w + 4)
  s.setBlob 0xA111 (j + 1) (if new.all (fun b => decide (b = 0#8)) then [] else new)

/-- A domain of PWR_CTRL may be switched off (R403): bit b of PWR_CTRL. -/
def State.domainFree (s : State) (b : Nat) : Bool :=
  if b < 2 then !(s.is (R.PCS_CTRL_Enable (2 * b)) || s.is (R.PCS_CTRL_Enable (2 * b + 1)))
  else if b = 2 then !s.is R.DEC_CTRL_Enable
  else if b = 3 then !s.is R.PCIE_STATUS_LinkUp
  else !s.is R.SV_CTRL_Enable

/-- The domain of a bit of PWR_CTRL. -/
def pwrDomain (b : Nat) : Nat := [3, 4, 7, 10, 11].getD b 3

/-- A write of PWR_CTRL (R403): refused whole where a domain it clears may not be switched off. -/
def State.pwrCtrlWrite (s : State) (v : Nat) : State :=
  let old := (s.rd R.PWR_CTRL).toNat
  if (List.range 5).any (fun b => bitOf old b && !bitOf v b && !s.domainFree b) then s.refusedAt R.PWR_CTRL
  else (s.wrRW R.PWR_CTRL v).forN 5 (fun b t => if bitOf v b then t else t.put ⟨R.PWR_STATUS, pwrDomain b, 1⟩ 0)

/-- The power domain of a register offset's block (R398). -/
def domainOf (a : Nat) : Nat :=
  if 0x10000 ≤ a ∧ a < 0x12000 ∨ 0x18000 ≤ a ∧ a < 0x1A000 then 3
  else if 0x12000 ≤ a ∧ a < 0x14000 ∨ 0x1A000 ≤ a ∧ a < 0x1C000 then 4
  else if 0x38000 ≤ a ∧ a < 0x3C000 then 7
  else if 0x70000 ≤ a ∧ a < 0x74000 then 11
  else if 0x84000 ≤ a ∧ a < 0x88000 then 10
  else 1

/-- A block whose domain is on. -/
def State.powered (s : State) (a : Nat) : Bool := bitOf (s.get R.PWR_STATUS_On) (domainOf a)

/-- The watchdog's count starts from TimeoutMs; a timeout of 0 stops it (R409). -/
def State.wdogStart (s : State) : State :=
  { s with life := { s.life with wdog := if s.get R.AON_WDOG_CFG_TimeoutMs = 0 then none else some (s.xref, false) } }

/-- A watchdog timeout written: a nonzero one starts the count (R409). -/
def State.wdogWrite (s : State) (v : Nat) : State := (s.wrRW R.AON_WDOG_CFG v).wdogStart

/-- A write of AON_WDOG_KICK (R409). -/
def State.wdogKick (s : State) (v : Nat) : State := if v % 65536 = 0x5A5A then s.wdogStart else s

/-- The watchdog's timeout in CCLK. -/
def State.wdogSpan (s : State) : Nat := s.get R.AON_WDOG_CFG_TimeoutMs * cclkMs

/-- AON_WDOG_REMAIN: milliseconds to expiry, rounded up; 0 while the count stands. -/
def State.wdogRemain (s : State) : Nat := match s.life.wdog with
  | some (t, _) => ceilDiv (t + s.wdogSpan - s.xref) cclkMs
  | none => 0

-- ## The pick counter's control (R38, R46)

/-- The configuration in force fits the capacities of R3 and its budgets at the rate of a code (R4, R46). -/
def State.rateFits (s : State) (code : Nat) : Bool :=
  let fs := rateHz code
  let t : State := { s with cues := s.cues.filter (fun c => decide (c.action ≠ 9)) ++ [{ action := 9, arg0 := code }] }
  t.rx.all (fun e => !e.2.valid || decide (t.seCheck e.1 e.2.cfg = 0))
  && t.tx.all (fun e => !e.2.valid || decide (t.txCheck e.1 e.2.cfg = 0))
  && t.filt.chains.all (fun e => !fcOn e.2.cfg || decide (t.fcCheck e.1 e.2.cfg = 0))
  && t.tdmFits fs
  && decide (t.xPlan ≤ (if highRate fs then 8192 else 16384))
  && t.budgetNow

/-- Every waiting change of a host goes into force for index n (R22); those of the receive streams do so in Warp's pass, which fills the next. -/
def State.takeAll (s : State) (n : Nat) : State :=
  let s := s.heddleTake n
  let s := s.forL s.tx (fun e t => t.txTake e.1 n)
  s.filtTake.detTake.linkTake

/-- A write of TIME_CTRL (R38): a rate that may not be taken leaves Rate as it is; a stop raises no further strobe. -/
def State.timeCtrlWrite (s : State) (v : Nat) : State :=
  let run := s.is R.TIME_CTRL_Run
  let old := s.get R.TIME_CTRL_Rate
  let new := bitsOf v 1 3
  let s := if new = old then s
    else if 6 ≤ new then s.refusedAt R.TIME_CTRL
    else if run then s.ignored R.TIME_CTRL
    else if !s.rateFits new then s.refusedAt R.TIME_CTRL
    else (((s.put R.TIME_CTRL_Rate new).put R.TIME_STATUS_RateNow new).xpStatus.filtStatus).familyChange old
  let s := s.putB R.TIME_CTRL_Run (bitOf v 0)
  let s := if !run ∧ bitOf v 0 then s.rampStop else s
  if run ∧ ¬ bitOf v 0 then
    ({ s with time := { s.time with running := false, resume := false }, marks := [] } : State).tdmIdle
  else s

-- ## One word

/-- A register whose fields stand in LLDP data units: a station address, PORT_IP, SH_UNIT, LEASE_CTRL (R313). -/
def lldpReg (a : Nat) : Bool :=
  decide (a = R.SH_UNIT ∨ a = R.LEASE_CTRL ∨ a = R.STA_ADDR_LO 0 0 ∨ a = R.STA_ADDR_HI 0 0 ∨ (R.PORT_IP 0 ≤ a ∧ a < R.PORT_IP 4))

/-- A write of one register's word by its block's rules, but for LLDP. -/
def State.regBody (s : State) (a v : Nat) : State :=
  if !inRanges a v then s.ignored a
  else if 0x10000 ≤ a ∧ a < 0x14000 then s.macRegWrite ((a - 0x10000) / 0x1000) (a % 0x1000) v
  else if 0x18000 ≤ a ∧ a < 0x1C000 then s.pcsRegApply ((a - 0x18000) / 0x1000) (a % 0x1000) v
  else if 0x20000 ≤ a ∧ a < 0x24000 then s.warpRegWrite (a - 0x20000) v
  else if 0x24000 ≤ a ∧ a < 0x28000 then s.shuttleRegWrite (a - 0x24000) v
  else if 0x28000 ≤ a ∧ a < 0x2C000 then s.bobRegWrite (a - 0x28000) v
  else if 0x30000 ≤ a ∧ a < 0x34000 then s.heddleRegWrite (a - 0x30000) v
  else if 0x34000 ≤ a ∧ a < 0x38000 then s.filtRegWrite (a - 0x34000) v
  else if 0x38000 ≤ a ∧ a < 0x3C000 then s.decRegWrite (a - 0x38000) v
  else if 0x3C000 ≤ a ∧ a < 0x40000 then s.detRegWrite (a - 0x3C000) v
  else if 0x40000 ≤ a ∧ a < 0x50000 then s.tdmRegWrite ((a - 0x40000) / 0x1000) (a % 0x1000) v
  else if 0x50000 ≤ a ∧ a < 0x54000 then s.llRegWrite ((a - 0x50000) / 0x1000) (a % 0x1000) v
  else if 0x60000 ≤ a ∧ a < 0x64000 then s.reedRegApply (a - 0x60000) v
  else if 0x64000 ≤ a ∧ a < 0x68000 then s.synthRegApply (a - 0x64000) v
  else if 0x70000 ≤ a ∧ a < 0x74000 then s.svRegWrite (a - 0x70000) v
  else if 0x74000 ≤ a ∧ a < 0x78000 then s.leaseRegWrite (a - 0x74000) v
  else if a = R.TIME_CTRL then s.timeCtrlWrite v
  else if a = R.PWR_CTRL then s.pwrCtrlWrite v
  else if a = R.AON_PAT_DATA then s.patPut v
  else if a = R.AON_WDOG_CFG then s.wdogWrite v
  else if a = R.AON_WDOG_KICK then s.wdogKick v
  else s.wrRW a v

/-- A write of one register's word by its block's rules; `a` its offset in register space, `v` the word with unwritten bytes kept. -/
def State.regApply (s : State) (a v : Nat) : State := if lldpReg a then (s.regBody a v).lldpSince s else s.regBody a v

end Sys2Proof.Machine
end

