-- ==== Sys2Proof/Machine/ObjTable.lean ====
section
/-!
DEFINITION. The object table (R345 to R347, R353 and the object lists of every chapter): which objects there are, and each one's
type, access, zone, flags, range and home.
-/
namespace Sys2Proof.Machine

/-- Where an object's value lives: a field of a register, a signed field, two words, a field of a table entry's configuration, the
model's object store, or a rule of its own. -/
inductive Home where
  | fld (f : Fld)
  | sfld (f : Fld)
  | pair (lo hi : Nat)
  | rx (f : Fld)
  | tx (f : Fld)
  | dst (f : Fld)
  | ch (f : Fld)
  | dt (f : Fld)
  | store
  | own
deriving DecidableEq, Repr

/-- A row of the object table: first and last index, first subindex, elements in an index, elements in all, the first element used;
type code (R347), access (0 RO, 1 RW, 2 WO, 3 CONST), zone, flags (1 S, 2 O, 4 P, 8 M), greatest length, least and greatest
value, and the home of element e. -/
structure ObjRow where
  name   : String
  lo     : Nat
  hi     : Nat
  first  : Nat
  per    : Nat
  total  : Nat
  skip   : Nat
  typ    : Nat
  acc    : Nat
  zone   : Nat
  flags  : Nat
  maxLen : Nat
  min    : Int
  max    : Int
  home   : Nat → Home

/-- Objects of chapter 02. -/
def objs02 : List ObjRow := [
  ⟨"DomainRate", 0x2000, 0x2000, 0, 1, 1, 0, 2, 1, 1, 4, 1, 0, 5, fun _ => .fld R.TIME_CTRL_Rate⟩,
  ⟨"PickNow", 0x2001, 0x2001, 0, 1, 1, 0, 10, 0, 0, 0, 8, 0, 18446744073709551615, fun _ => .own⟩,
  ⟨"TaiNow", 0x2002, 0x2002, 0, 1, 1, 0, 5, 0, 0, 0, 8, 0, 18446744073709551615, fun _ => .own⟩,
  ⟨"UtcOffset", 0x2003, 0x2003, 0, 1, 1, 0, 6, 0, 0, 0, 4, -2147483648, 2147483647, fun _ => .store⟩,
  ⟨"TimeStepLimit", 0x2004, 0x2004, 0, 1, 1, 0, 4, 1, 1, 12, 4, 0, 4294967295, fun _ => .fld R.TIME_STEP_LIMIT_LimitNs⟩,
  ⟨"JumpOffset", 0x2005, 0x2005, 0, 1, 1, 0, 6, 0, 0, 0, 4, -2147483648, 2147483647, fun _ => .own⟩,
  ⟨"PtpProfile", 0x2010, 0x2013, 1, 1, 4, 0, 2, 1, 1, 4, 1, 0, 255, fun _ => .store⟩,
  ⟨"PtpDomain", 0x2010, 0x2013, 2, 1, 4, 0, 2, 1, 1, 4, 1, 0, 255, fun _ => .store⟩,
  ⟨"PtpRole", 0x2010, 0x2013, 3, 1, 4, 0, 2, 1, 1, 4, 1, 0, 1, fun _ => .store⟩,
  ⟨"LogSyncInterval", 0x2010, 0x2013, 4, 1, 4, 0, 6, 1, 1, 4, 4, -7, 1, fun _ => .store⟩,
  ⟨"LateLimit", 0x9100, 0x9100, 1, 1, 1, 0, 3, 1, 0, 12, 2, 0, 65535, fun _ => .fld R.LATE_LIMIT_Limit⟩,
  ⟨"StageLead", 0x9100, 0x9100, 2, 1, 1, 0, 3, 1, 1, 12, 2, 8, 4096, fun _ => .fld R.STAGE_LEAD_Lead⟩,
  ⟨"CuePending", 0x9101, 0x9101, 0, 1, 1, 0, 3, 0, 0, 0, 2, 0, 65535, fun _ => .fld R.TRD_STATUS_Pending⟩,
  ⟨"CueCounters", 0x9102, 0x9102, 1, 8, 8, 0, 4, 0, 0, 0, 4, 0, 4294967295, fun e => .fld ⟨R.CNT_DONE + 4 * e, 0, 32⟩⟩,
  ⟨"CueSubmit", 0x9110, 0x9110, 0, 1, 1, 0, 12, 2, 0, 0, 32, 0, 0, fun _ => .own⟩,
  ⟨"CueCancel", 0x9111, 0x9111, 0, 1, 1, 0, 12, 2, 0, 0, 10, 0, 0, fun _ => .own⟩]

/-- Objects of chapter 03. -/
def objs03 : List ObjRow := [
  ⟨"RefSelected", 0x2020, 0x2020, 0, 1, 1, 0, 2, 0, 0, 0, 1, 0, 255, fun _ => .fld R.RD_STATUS_Selected⟩,
  ⟨"RefRank", 0x2021, 0x2021, 1, 10, 10, 0, 2, 1, 1, 12, 1, 0, 15, fun e => .fld (R.REF_CFG_Rank e)⟩,
  ⟨"RefWtr", 0x2022, 0x2022, 1, 10, 10, 0, 3, 1, 1, 12, 2, 0, 3600, fun e => .fld (R.REF_WTR_Sec e)⟩,
  ⟨"Revertive", 0x2023, 0x2023, 0, 1, 1, 0, 1, 1, 1, 12, 1, 0, 1, fun _ => .fld R.RD_CTRL_Revertive⟩,
  ⟨"HoldLimit", 0x2024, 0x2024, 0, 1, 1, 0, 4, 1, 1, 12, 4, 0, 4294967295, fun _ => .fld R.HOLD_LIMIT_Ns⟩,
  ⟨"HoldEstimate", 0x2025, 0x2025, 0, 1, 1, 0, 4, 0, 0, 0, 4, 0, 4294967295, fun _ => .fld R.HOLD_EST_Ns⟩,
  ⟨"AgreeWindow", 0x2026, 0x2026, 0, 1, 1, 0, 3, 1, 1, 12, 2, 1, 65535, fun _ => .fld R.AGREE_WIN_Win⟩,
  ⟨"FpoOffset", 0x2030, 0x2030, 1, 4, 4, 0, 6, 1, 0, 15, 4, -625000000, 625000000, fun e => .fld (R.FPO_OFFSET_Offset e)⟩]

/-- Objects of chapter 04. -/
def objs04 : List ObjRow := [
  ⟨"SynthState", 0x2040, 0x2040, 1, 2, 2, 0, 2, 0, 0, 0, 1, 0, 255, fun e => .fld (R.MCS_STATUS_State e)⟩,
  ⟨"RetuneMethod", 0x2041, 0x2041, 0, 1, 1, 0, 2, 1, 1, 12, 1, 0, 255, fun _ => .fld (R.MCS_CFG_Method 0)⟩,
  ⟨"Mcs1Freq", 0x2042, 0x2042, 0, 1, 1, 0, 4, 1, 1, 12, 4, 0, 4294967295, fun _ => .fld ⟨R.MCS_FREQ 1, 0, 32⟩⟩,
  ⟨"CkoEnable", 0x2043, 0x2043, 1, 12, 12, 0, 1, 1, 0, 15, 1, 0, 1, fun e => .fld (R.CKO_CFG_Enable e)⟩,
  ⟨"CkoDivider", 0x2044, 0x2044, 1, 12, 12, 0, 3, 1, 1, 12, 2, 0, 65535, fun e => .fld (R.CKO_DIV_Div e)⟩,
  ⟨"CkoPhase", 0x2045, 0x2045, 1, 12, 12, 0, 3, 1, 0, 15, 2, 0, 65535, fun e => .fld (R.CKO_PHASE_Target e)⟩,
  ⟨"DsmClkSelect", 0x2046, 0x2046, 0, 1, 1, 0, 3, 1, 1, 12, 2, 0, 65535, fun _ => .fld ⟨R.DSMCLK_SEL, 0, 16⟩⟩]

/-- Objects of chapter 05. -/
def objs05 : List ObjRow := [
  ⟨"PortState", 0x3000, 0x3000, 1, 4, 4, 0, 2, 0, 0, 0, 1, 0, 255, fun e => .fld (R.MAC_STATUS_State e)⟩,
  ⟨"LineMode", 0x3001, 0x3001, 1, 4, 4, 0, 2, 1, 1, 4, 1, 0, 255, fun e => .fld (R.PCS_CTRL_Mode e)⟩,
  ⟨"RsFec", 0x3002, 0x3002, 1, 4, 4, 0, 1, 1, 1, 4, 1, 0, 1, fun e => .fld (R.PCS_CTRL_RsFec e)⟩,
  ⟨"PauseWdLimit", 0x3003, 0x3003, 1, 4, 4, 0, 3, 1, 1, 12, 2, 1, 65535, fun e => .fld (R.PAUSE_CFG_WdLimit e)⟩,
  ⟨"TxPfcEnable", 0x3004, 0x3004, 1, 4, 4, 0, 1, 1, 1, 12, 1, 0, 1, fun e => .fld (R.PAUSE_CFG_TxPfcEnable e)⟩,
  ⟨"MaxFrame", 0x3005, 0x3005, 1, 4, 4, 0, 3, 1, 1, 4, 2, 64, 9600, fun e => .fld (R.MAX_FRAME_Bytes e)⟩,
  ⟨"Promiscuous", 0x3006, 0x3006, 1, 4, 4, 0, 1, 1, 1, 0, 1, 0, 1, fun e => .fld (R.MAC_CTRL_Promiscuous e)⟩,
  ⟨"PortCounters", 0x3010, 0x3013, 0, 52, 208, 0, 4, 0, 0, 0, 4, 0, 4294967295, fun e => .fld (R.PORT_CNT_Count (e / 52) (e % 52))⟩,
  ⟨"EyeMargin", 0x3020, 0x3020, 1, 4, 4, 0, 3, 0, 0, 0, 2, 0, 65535, fun e => .fld ⟨R.EYE_MARGIN e, 0, 16⟩⟩]

/-- Objects of chapter 06. -/
def objs06 : List ObjRow := [
  ⟨"StreamEntry", 0x4000, 0x4007, 1, 128, 1024, 0, 12, 1, 1, 12, 64, 0, 0, fun _ => .own⟩,
  ⟨"PresentOffset", 0x4010, 0x4017, 1, 128, 1024, 0, 3, 1, 0, 15, 2, 0, 65535, fun _ => .rx R.SE_TIMING_PresentOffset⟩,
  ⟨"ConcealMode", 0x4020, 0x4027, 1, 128, 1024, 0, 2, 1, 0, 14, 1, 0, 2, fun _ => .rx R.SE_CTRL_ConcealMode⟩,
  ⟨"StreamEnable", 0x4030, 0x4037, 1, 128, 1024, 0, 1, 1, 0, 15, 1, 0, 1, fun _ => .rx R.SE_CTRL_Valid⟩,
  ⟨"StreamState", 0x4040, 0x4047, 1, 128, 1024, 0, 2, 0, 0, 0, 1, 0, 255, fun _ => .own⟩,
  ⟨"StreamPdv", 0x4050, 0x4057, 1, 128, 1024, 0, 4, 0, 0, 0, 4, 0, 4294967295, fun _ => .own⟩,
  ⟨"StreamHeadroom", 0x4060, 0x4067, 1, 128, 1024, 0, 6, 0, 0, 0, 4, -2147483648, 2147483647, fun _ => .own⟩,
  ⟨"StreamAbsent", 0x4070, 0x4077, 1, 128, 1024, 0, 1, 1, 1, 0, 1, 0, 1, fun _ => .rx R.SE_MARK_Absent⟩,
  ⟨"LossPicks", 0x40F0, 0x40F0, 0, 1, 1, 0, 3, 1, 1, 12, 2, 0, 65535, fun _ => .fld R.LOSS_PICKS_Picks⟩,
  ⟨"PdvWindow", 0x40F1, 0x40F1, 0, 1, 1, 0, 3, 1, 1, 4, 2, 10, 60000, fun _ => .fld R.PDV_WINDOW_Ms⟩,
  ⟨"ReceiveEvents", 0x40F2, 0x40F2, 1, 4, 4, 0, 4, 0, 0, 0, 4, 0, 4294967295, fun e => .fld ⟨R.CNT_TWILL_MM + 4 * e, 0, 32⟩⟩]

/-- Objects of chapter 07. -/
def objs07 : List ObjRow := [
  ⟨"TxStreamEntry", 0x4100, 0x4107, 1, 128, 1024, 0, 12, 1, 1, 12, 64, 0, 0, fun _ => .own⟩,
  ⟨"TxEnable", 0x4110, 0x4117, 1, 128, 1024, 0, 1, 1, 0, 15, 1, 0, 1, fun _ => .tx R.TX_CTRL_Valid⟩,
  ⟨"TxPortMask", 0x4120, 0x4127, 1, 128, 1024, 0, 2, 1, 0, 15, 1, 0, 255, fun _ => .tx R.TX_CTRL_PortMask⟩,
  ⟨"TxName", 0x4130, 0x4137, 1, 128, 1024, 0, 11, 1, 1, 12, 63, 0, 0, fun _ => .own⟩,
  ⟨"TxSdp", 0x4140, 0x4147, 1, 128, 1024, 0, 11, 0, 0, 0, 2048, 0, 0, fun _ => .own⟩,
  ⟨"TxAnnounce", 0x4150, 0x4157, 1, 128, 1024, 0, 1, 1, 1, 12, 1, 0, 1, fun _ => .tx R.TX_CTRL_Announce⟩,
  ⟨"UnitNumber", 0x41F0, 0x41F0, 0, 1, 1, 0, 3, 0, 0, 0, 2, 0, 65535, fun _ => .fld R.SH_UNIT_Unit⟩,
  ⟨"AudioShare", 0x41F1, 0x41F1, 1, 4, 4, 0, 2, 1, 1, 12, 1, 10, 95, fun e => .fld (R.PORT_TX_AudioShare e)⟩,
  ⟨"PortSourceIp", 0x41F2, 0x41F2, 1, 4, 4, 0, 4, 1, 1, 4, 4, 0, 4294967295, fun e => .fld ⟨R.PORT_IP e, 0, 32⟩⟩,
  ⟨"SapInterval", 0x41F3, 0x41F3, 0, 1, 1, 0, 3, 1, 1, 12, 2, 5, 300, fun _ => .store⟩,
  ⟨"SapAddress", 0x41F4, 0x41F4, 0, 1, 1, 0, 4, 1, 1, 12, 4, 0, 4294967295, fun _ => .store⟩,
  ⟨"InputDigestMask", 0x41F5, 0x41F5, 1, 4, 4, 0, 4, 1, 1, 12, 4, 0, 4294967295, fun e => .fld ⟨R.IDIG_MASK e, 0, 32⟩⟩,
  ⟨"PairDigestCounters", 0x41F6, 0x41F6, 1, 4, 4, 0, 4, 0, 0, 0, 4, 0, 4294967295, fun e => .fld ⟨R.CNT_PAIR_OUT_MM + 4 * e, 0, 32⟩⟩,
  ⟨"DivergenceCause", 0x41F7, 0x41F7, 0, 1, 1, 0, 2, 1, 0, 0, 1, 0, 0, fun _ => .store⟩]

/-- Objects of chapter 08. -/
def objs08 : List ObjRow := [
  ⟨"RingCells", 0xF400, 0xF400, 0, 1, 1, 0, 4, 1, 1, 4, 4, 0, 131072, fun _ => .fld R.POOL_SPLIT_RingCells⟩,
  ⟨"PoolShare", 0xF401, 0xF401, 0, 1, 1, 0, 2, 1, 1, 4, 1, 1, 16, fun _ => .fld R.POOL_SHARE_Share⟩,
  ⟨"PoolSpace", 0xF402, 0xF402, 1, 3, 3, 0, 4, 0, 0, 0, 4, 0, 4294967295, fun e => .fld ⟨R.LINKED_FREE + 4 * e, 0, 32⟩⟩,
  ⟨"EccCorrected", 0xF403, 0xF403, 1, 16, 16, 0, 4, 0, 0, 0, 4, 0, 4294967295, fun e => .fld ⟨R.ECC_CORR e, 0, 32⟩⟩,
  ⟨"EccUncorrected", 0xF404, 0xF404, 1, 2, 2, 0, 4, 0, 0, 0, 4, 0, 4294967295, fun e => .fld ⟨R.ECC_UNCORR_LINK + 4 * e, 0, 32⟩⟩,
  ⟨"QueueConfig", 0xF410, 0xF41F, 0, 256, 4096, 0, 12, 1, 1, 4, 16, 0, 0, fun _ => .own⟩,
  ⟨"QueueState", 0xF430, 0xF43F, 0, 256, 4096, 0, 12, 0, 0, 0, 20, 0, 0, fun _ => .own⟩]

/-- Objects of chapter 09. -/
def objs09 : List ObjRow := [
  ⟨"Patch", 0x5000, 0x503F, 1, 128, 8192, 0, 3, 1, 0, 15, 2, 0, 16383, fun _ => .dst ⟨R.DS_PATCH, 0, 14⟩⟩,
  ⟨"Delay", 0x5040, 0x507F, 1, 128, 8192, 0, 4, 1, 0, 15, 4, 0, 4294967295, fun _ => .dst R.DS_DELAY_Delay⟩,
  ⟨"DelayCap", 0x5080, 0x50BF, 1, 128, 8192, 0, 4, 1, 1, 12, 4, 0, 4294967295, fun _ => .dst R.DS_DCAP_DelayCap⟩,
  ⟨"DelayFade", 0x50C0, 0x50FF, 1, 128, 8192, 0, 3, 1, 0, 14, 2, 0, 65535, fun _ => .dst R.DS_DFADE_Fade⟩,
  ⟨"OutFormat", 0x5100, 0x513F, 1, 128, 8192, 0, 2, 1, 1, 12, 1, 0, 255, fun _ => .dst ⟨R.DS_OUT, 0, 3⟩⟩,
  ⟨"GroupGain", 0x5140, 0x5140, 1, 1, 1, 0, 5, 3, 0, 0, 8, 0x10000000, 0x10000000, fun _ => .own⟩,
  ⟨"GroupGain", 0x5140, 0x5141, 1, 128, 256, 1, 5, 1, 0, 15, 8, 0, 18446744073709551615, fun _ => .own⟩,
  ⟨"TestGen", 0x5150, 0x515F, 1, 3, 48, 0, 4, 1, 1, 4, 4, 0, 4294967295, fun e => .fld ⟨R.TG_CFG (e / 3) + 4 * (e % 3), 0, 32⟩⟩,
  ⟨"XpTransaction", 0x5180, 0x5180, 0, 1, 1, 0, 12, 2, 0, 0, 12290, 0, 0, fun _ => .own⟩,
  ⟨"XpCommitNow", 0x5181, 0x5181, 0, 1, 1, 0, 3, 2, 1, 0, 2, 0, 65535, fun _ => .own⟩,
  ⟨"XpAbandon", 0x5182, 0x5182, 0, 1, 1, 0, 3, 2, 0, 0, 2, 0, 65535, fun _ => .own⟩,
  ⟨"XpTable", 0x5183, 0x5183, 0, 1, 1, 0, 12, 1, 1, 12, 229376, 0, 0, fun _ => .own⟩,
  ⟨"XpPending", 0x5184, 0x5184, 0, 1, 1, 0, 12, 0, 1, 8, 65536, 0, 0, fun _ => .own⟩,
  ⟨"XpCount", 0x5185, 0x5185, 0, 1, 1, 0, 3, 0, 0, 0, 2, 0, 65535, fun _ => .fld R.HD_STATUS_Xcount⟩,
  ⟨"HeddleCounters", 0x5186, 0x5186, 1, 5, 5, 0, 4, 0, 0, 0, 4, 0, 4294967295, fun e => .fld ⟨R.CNT_XT_COMMIT + 4 * e, 0, 32⟩⟩]

/-- Objects of chapter 10. -/
def objs10 : List ObjRow := [
  ⟨"DecTrim", 0x6800, 0x6800, 1, 64, 64, 0, 8, 1, 0, 15, 4, -2147483648, 2147483647, fun e => .fld ⟨R.DIN_TRIM e, 0, 32⟩⟩,
  ⟨"DecMute", 0x6801, 0x6801, 1, 64, 64, 0, 1, 1, 0, 15, 1, 0, 1, fun e => .fld (R.DIN_CFG_Mute e)⟩,
  ⟨"DecPhaseFrac", 0x6802, 0x6802, 1, 64, 64, 0, 2, 1, 0, 14, 1, 0, 255, fun e => .fld (R.DIN_CFG_PhaseFrac e)⟩,
  ⟨"DecIntDelay", 0x6803, 0x6803, 1, 64, 64, 0, 2, 1, 0, 14, 1, 0, 255, fun e => .fld (R.DIN_CFG_IntDelay e)⟩,
  ⟨"DecInputCfg", 0x6804, 0x6804, 1, 64, 64, 0, 2, 1, 1, 12, 1, 0, 255, fun e => .fld ⟨R.DIN_CFG e, 0, 7⟩⟩,
  ⟨"DecInputStatus", 0x6805, 0x6805, 1, 64, 64, 0, 4, 0, 0, 0, 4, 0, 4294967295, fun e => .fld ⟨R.DIN_STATUS e, 0, 32⟩⟩,
  ⟨"DecGroupCfg", 0x6810, 0x6810, 1, 4, 4, 0, 2, 1, 1, 12, 1, 0, 255, fun e => .fld ⟨R.DEC_GRP e, 0, 8⟩⟩,
  ⟨"DecGroupState", 0x6811, 0x6811, 1, 4, 4, 0, 2, 0, 0, 0, 1, 0, 255, fun e => .fld ⟨R.DEC_GSTAT e, 0, 8⟩⟩,
  ⟨"DecSyncPin", 0x6820, 0x6820, 0, 1, 1, 0, 2, 1, 1, 12, 1, 0, 255, fun _ => .fld ⟨R.DEC_CTRL, 1, 2⟩⟩,
  ⟨"DecLastSync", 0x6821, 0x6821, 0, 1, 1, 0, 10, 0, 0, 0, 8, 0, 18446744073709551615, fun _ => .pair R.DEC_SYNC_PICK_LO R.DEC_SYNC_PICK_HI⟩,
  ⟨"DecCounters", 0x6822, 0x6822, 1, 6, 6, 0, 4, 0, 0, 0, 4, 0, 4294967295, fun e => .fld ⟨R.CNT_DEC_SYNC + 4 * e, 0, 32⟩⟩,
  ⟨"DecFirTight", 0x6830, 0x6830, 1, 1, 1, 0, 12, 3, 0, 0, 192, 0, 0, fun _ => .own⟩,
  ⟨"DecFirLinear", 0x6830, 0x6830, 2, 1, 1, 0, 12, 3, 0, 0, 324, 0, 0, fun _ => .own⟩]

/-- Objects of chapter 11. -/
def objs11 : List ObjRow := [
  ⟨"ChainConfig", 0x6000, 0x6007, 1, 128, 1024, 0, 12, 1, 1, 12, 12, 0, 0, fun _ => .own⟩,
  ⟨"ChainEnable", 0x6010, 0x6017, 1, 128, 1024, 0, 1, 1, 0, 15, 1, 0, 1, fun _ => .ch R.FC_CFG_Enable⟩,
  ⟨"ChainBank0", 0x6020, 0x6027, 1, 128, 1024, 0, 4, 1, 1, 14, 4, 0, 262143, fun _ => .ch ⟨R.FC_CFG + 4, 0, 18⟩⟩,
  ⟨"ChainBank1", 0x6030, 0x6037, 1, 128, 1024, 0, 4, 1, 1, 14, 4, 0, 262143, fun _ => .ch ⟨R.FC_CFG + 8, 0, 18⟩⟩,
  ⟨"ChainSwap", 0x6040, 0x6047, 1, 128, 1024, 0, 3, 2, 0, 3, 2, 0, 65535, fun _ => .own⟩,
  ⟨"ChainState", 0x6050, 0x6057, 1, 128, 1024, 0, 4, 0, 0, 0, 4, 0, 4294967295, fun _ => .own⟩,
  ⟨"CoefImage", 0x6070, 0x6070, 0, 1, 1, 0, 12, 1, 1, 12, 1048580, 0, 0, fun _ => .own⟩,
  ⟨"MaxFades", 0x60F0, 0x60F0, 0, 1, 1, 0, 2, 1, 1, 12, 1, 1, 64, fun _ => .fld R.FADE_CFG_MaxFades⟩,
  ⟨"FilterCost", 0x60F1, 0x60F1, 1, 6, 6, 0, 4, 0, 0, 0, 4, 0, 4294967295, fun e => .fld ⟨R.FILT_SHARE + 4 * e, 0, 32⟩⟩,
  ⟨"FilterCounters", 0x60F2, 0x60F2, 1, 6, 6, 0, 4, 0, 0, 0, 4, 0, 4294967295, fun e => .fld ⟨R.CNT_FILT_SAT + 4 * e, 0, 32⟩⟩,
  ⟨"DetConfig", 0x5200, 0x5240, 1, 128, 8256, 0, 12, 1, 1, 12, 24, 0, 0, fun _ => .own⟩,
  ⟨"LimitThreshold", 0x5250, 0x5290, 1, 128, 8256, 0, 4, 1, 0, 15, 4, 0, 4294967295, fun _ => .dt R.DT_THRESH_Threshold⟩,
  ⟨"DetLevels", 0x52A0, 0x52E0, 1, 128, 8256, 0, 12, 0, 0, 0, 24, 0, 0, fun _ => .own⟩,
  ⟨"DetCounters", 0x52F0, 0x52F0, 1, 3, 3, 0, 4, 0, 0, 0, 4, 0, 4294967295, fun e => .fld ⟨R.CNT_DET_OVER + 4 * e, 0, 32⟩⟩]

/-- Objects of chapter 12. -/
def objs12 : List ObjRow := [
  ⟨"TdmCtrl", 0x7000, 0x7000, 1, 16, 16, 0, 2, 1, 1, 12, 1, 0, 255, fun e => .fld ⟨R.TDM_CTRL e, 0, 8⟩⟩,
  ⟨"TdmFormat", 0x7001, 0x7001, 1, 16, 16, 0, 4, 1, 1, 12, 4, 0, 4294967295, fun e => .fld ⟨R.TDM_FMT e, 0, 32⟩⟩,
  ⟨"TdmTxMask", 0x7002, 0x7002, 1, 16, 16, 0, 4, 1, 0, 15, 4, 0, 4294967295, fun e => .fld (R.TDM_TXMASK_Mask e)⟩,
  ⟨"TdmRxMask", 0x7003, 0x7003, 1, 16, 16, 0, 4, 1, 0, 15, 4, 0, 4294967295, fun e => .fld (R.TDM_RXMASK_Mask e)⟩,
  ⟨"TdmStatus", 0x7004, 0x7004, 1, 16, 16, 0, 4, 0, 0, 0, 4, 0, 4294967295, fun e => .fld ⟨R.TDM_STATUS e, 0, 32⟩⟩,
  ⟨"TdmCounters", 0x7010, 0x701F, 1, 4, 64, 0, 4, 0, 0, 0, 4, 0, 4294967295, fun e => .fld ⟨R.CNT_TDM_SLIP (e / 4) + 4 * (e % 4), 0, 32⟩⟩,
  ⟨"LinkCtrl", 0x7100, 0x7100, 1, 4, 4, 0, 2, 1, 1, 12, 1, 0, 255, fun _ => .own⟩,
  ⟨"LinkTxMute", 0x7101, 0x7101, 1, 4, 4, 0, 1, 1, 0, 15, 1, 0, 1, fun e => .fld (R.LL_CTRL_TxMute e)⟩,
  ⟨"LinkStatus", 0x7102, 0x7102, 1, 4, 4, 0, 4, 0, 0, 0, 4, 0, 4294967295, fun e => .fld ⟨R.LL_STATUS e, 0, 32⟩⟩,
  ⟨"LinkPeer", 0x7103, 0x7103, 1, 4, 4, 0, 5, 0, 0, 0, 8, 0, 18446744073709551615, fun e => .pair (R.LL_PEER e) (R.LL_PEER_ID e)⟩,
  ⟨"LinkCcSend", 0x7104, 0x7104, 1, 4, 4, 0, 12, 2, 1, 0, 32, 0, 0, fun _ => .own⟩,
  ⟨"LinkCounters", 0x7110, 0x7113, 1, 9, 36, 0, 4, 0, 0, 0, 4, 0, 4294967295, fun e => .fld ⟨R.CNT_LL_GOOD (e / 9) + 4 * (e % 9), 0, 32⟩⟩]

/-- Objects of chapter 13. -/
def objs13 : List ObjRow := [
  ⟨"PairMode", 0x8000, 0x8000, 0, 1, 1, 0, 2, 1, 1, 4, 1, 0, 255, fun _ => .fld R.LEASE_CTRL_Mode⟩,
  ⟨"LeaseTiming", 0x8001, 0x8001, 1, 3, 3, 0, 2, 1, 1, 12, 1, 0, 255, fun e => .fld ([R.LEASE_TIME_DurationMs, R.LEASE_TIME_RenewMs, R.LEASE_TIME_GuardMs].getD e R.LEASE_TIME_DurationMs)⟩,
  ⟨"PulseInterval", 0x8002, 0x8002, 0, 1, 1, 0, 3, 1, 1, 12, 2, 250, 5000, fun _ => .fld R.PULSE_CFG_PulseUs⟩,
  ⟨"PairOptions", 0x8003, 0x8003, 0, 1, 1, 0, 2, 1, 1, 12, 1, 0, 3, fun _ => .own⟩,
  ⟨"PairFault", 0x8004, 0x8004, 0, 1, 1, 0, 1, 1, 0, 0, 1, 0, 1, fun _ => .fld R.LEASE_CTRL_Fault⟩,
  ⟨"LeaseState", 0x8005, 0x8005, 0, 1, 1, 0, 4, 0, 0, 0, 4, 0, 4294967295, fun _ => .fld ⟨R.LEASE_STATUS, 0, 32⟩⟩,
  ⟨"PartnerUnit", 0x8006, 0x8006, 0, 1, 1, 0, 3, 0, 0, 0, 2, 0, 65535, fun _ => .fld R.SV_PARTNER_Unit⟩,
  ⟨"SelvedgeState", 0x8007, 0x8007, 0, 1, 1, 0, 4, 0, 0, 0, 4, 0, 4294967295, fun _ => .fld ⟨R.SV_STATUS, 0, 32⟩⟩,
  ⟨"EpochTiming", 0x8008, 0x8008, 1, 2, 2, 0, 3, 1, 1, 12, 2, 0, 65535, fun e => .fld ([R.EPOCH_CFG_PeriodMs, R.EPOCH_CFG_TimeoutMs].getD e R.EPOCH_CFG_PeriodMs)⟩,
  ⟨"EpochApplied", 0x8009, 0x8009, 0, 1, 1, 0, 4, 0, 0, 0, 4, 0, 4294967295, fun _ => .fld ⟨R.EPOCH_APPLIED, 0, 32⟩⟩,
  ⟨"GpoOutput", 0x800A, 0x800A, 0, 1, 1, 0, 3, 1, 0, 15, 2, 0, 65535, fun _ => .fld ⟨R.LEASE_GPO, 0, 16⟩⟩,
  ⟨"LeaseCounters", 0x8010, 0x8010, 1, 5, 5, 0, 4, 0, 0, 0, 4, 0, 4294967295, fun e => .fld ⟨R.CNT_COLLISION + 4 * e, 0, 32⟩⟩,
  ⟨"SelvedgeCounters", 0x8011, 0x8011, 1, 7, 7, 0, 4, 0, 0, 0, 4, 0, 4294967295, fun e => .fld ⟨R.CNT_SV_DOWN + 4 * e, 0, 32⟩⟩]

/-- Objects of chapter 14. -/
def objs14 : List ObjRow := [
  ⟨"DomainId", 0x1200, 0x1200, 0, 1, 1, 0, 3, 1, 1, 4, 2, 0, 65535, fun _ => .store⟩,
  ⟨"DomainRole", 0x1201, 0x1201, 0, 1, 1, 0, 2, 1, 1, 4, 1, 0, 3, fun _ => .store⟩,
  ⟨"DomainGroup", 0x1202, 0x1202, 0, 1, 1, 0, 4, 1, 1, 4, 4, 0, 4294967295, fun _ => .store⟩,
  ⟨"DomainState", 0x1203, 0x1203, 0, 1, 1, 0, 2, 0, 0, 0, 1, 0, 255, fun _ => .store⟩,
  ⟨"ManagerUnit", 0x1204, 0x1204, 0, 1, 1, 0, 3, 0, 0, 0, 2, 0, 65535, fun _ => .store⟩,
  ⟨"ManagerTerm", 0x1205, 0x1205, 0, 1, 1, 0, 4, 0, 0, 0, 4, 0, 4294967295, fun _ => .store⟩,
  ⟨"RosterVersion", 0x1206, 0x1206, 0, 1, 1, 0, 4, 0, 0, 0, 4, 0, 4294967295, fun _ => .store⟩,
  ⟨"Roster", 0x1207, 0x1207, 0, 1, 1, 0, 12, 0, 0, 8, 16400, 0, 0, fun _ => .own⟩,
  ⟨"LldpNeighbour", 0x1210, 0x1210, 1, 4, 4, 0, 12, 0, 0, 0, 1500, 0, 0, fun _ => .own⟩,
  ⟨"LldpInterval", 0x1211, 0x1211, 0, 1, 1, 0, 2, 1, 1, 4, 1, 1, 30, fun _ => .store⟩,
  ⟨"SystemName", 0x1212, 0x1212, 0, 1, 1, 0, 11, 1, 1, 4, 63, 0, 0, fun _ => .own⟩,
  ⟨"LldpOui", 0x1213, 0x1213, 0, 1, 1, 0, 4, 3, 0, 0, 4, 0, 4294967295, fun _ => .own⟩,
  ⟨"DomainCounters", 0x1220, 0x1220, 1, 7, 7, 0, 4, 0, 0, 0, 4, 0, 4294967295, fun _ => .store⟩,
  ⟨"NeighbourChange", 0x1220, 0x1220, 8, 1, 1, 0, 4, 0, 0, 0, 4, 0, 4294967295, fun _ => .store⟩,
  ⟨"RxStreamOrigin", 0x4080, 0x4087, 1, 128, 1024, 0, 4, 1, 1, 12, 4, 0, 4294967295, fun _ => .store⟩,
  ⟨"PatternActive", 0x9000, 0x9000, 0, 1, 1, 0, 2, 0, 0, 0, 1, 0, 255, fun _ => .store⟩,
  ⟨"BootPattern", 0x9001, 0x9001, 0, 1, 1, 0, 2, 1, 1, 0, 1, 0, 255, fun _ => .own⟩,
  ⟨"PatternLoad", 0x9002, 0x9002, 0, 1, 1, 0, 2, 2, 1, 0, 1, 0, 255, fun _ => .own⟩,
  ⟨"PatternSave", 0x9003, 0x9003, 0, 1, 1, 0, 2, 2, 1, 0, 1, 0, 255, fun _ => .own⟩,
  ⟨"PatternImage", 0x9004, 0x9004, 1, 8, 8, 0, 12, 1, 1, 0, 4194304, 0, 0, fun _ => .own⟩,
  ⟨"OverlayDef", 0x9020, 0x9020, 1, 64, 64, 0, 12, 1, 1, 12, 3108, 0, 0, fun _ => .own⟩,
  ⟨"OverlayStack", 0x9021, 0x9021, 0, 1, 1, 0, 4, 0, 0, 8, 4, 0, 4294967295, fun _ => .own⟩,
  ⟨"OverlayPosStatus", 0x9022, 0x9022, 1, 4, 4, 0, 12, 0, 0, 0, 24, 0, 0, fun _ => .own⟩,
  ⟨"OverlayCounters", 0x9023, 0x9023, 1, 5, 5, 0, 4, 0, 0, 0, 4, 0, 4294967295, fun _ => .store⟩]

/-- Objects of chapter 15. -/
def objs15 : List ObjRow := [
  ⟨"Temperature", 0xA000, 0xA000, 1, 4, 4, 0, 6, 0, 0, 0, 4, -2147483648, 2147483647, fun e => .sfld (R.TEMP_Temp e)⟩,
  ⟨"TempWarn", 0xA001, 0xA001, 0, 1, 1, 0, 6, 1, 1, 4, 4, -2147483648, 2147483647, fun _ => .sfld R.TEMP_WARN_Limit⟩,
  ⟨"Ageing", 0xA002, 0xA002, 1, 4, 4, 0, 6, 0, 0, 0, 4, -2147483648, 2147483647, fun e => .fld ⟨R.AGE_RATE + 4 * e, 0, 32⟩⟩,
  ⟨"AgeingCfg", 0xA003, 0xA003, 1, 2, 2, 0, 3, 1, 1, 4, 2, 0, 65535, fun e => .fld ([R.AGE_CFG_WindowDays, R.AGE_CFG_TcDefault].getD e R.AGE_CFG_WindowDays)⟩,
  ⟨"AvsCfg", 0xA010, 0xA010, 0, 1, 1, 0, 4, 1, 1, 4, 4, 0, 4294967295, fun _ => .fld ⟨R.AVS_CFG, 0, 32⟩⟩,
  ⟨"AvsStatus", 0xA011, 0xA011, 0, 1, 1, 0, 4, 0, 0, 0, 4, 0, 4294967295, fun _ => .fld ⟨R.AVS_STATUS, 0, 32⟩⟩,
  ⟨"EyeCfg", 0xA020, 0xA020, 0, 1, 1, 0, 4, 1, 1, 4, 4, 0, 4294967295, fun _ => .fld ⟨R.EYE_CFG, 0, 32⟩⟩,
  ⟨"EyeWindow", 0xA021, 0xA021, 0, 1, 1, 0, 4, 1, 1, 4, 4, 0, 4294967295, fun _ => .fld ⟨R.EYE_WIN, 0, 32⟩⟩,
  ⟨"HealthEye", 0xA022, 0xA022, 1, 9, 9, 0, 3, 0, 0, 0, 2, 0, 65535, fun _ => .store⟩,
  ⟨"HealthEcc", 0xA023, 0xA023, 1, 16, 16, 0, 4, 0, 0, 0, 4, 0, 4294967295, fun _ => .store⟩,
  ⟨"HealthSynth", 0xA024, 0xA024, 1, 2, 2, 0, 3, 0, 0, 0, 2, 0, 65535, fun _ => .store⟩,
  ⟨"PlanCfg", 0xA030, 0xA030, 1, 7, 7, 0, 4, 1, 1, 12, 4, 0, 4294967295, fun _ => .store⟩,
  ⟨"HoldPlan", 0xA031, 0xA031, 1, 4, 4, 0, 4, 1, 1, 12, 4, 0, 4294967295, fun _ => .store⟩,
  ⟨"PlanMode", 0xA040, 0xA047, 1, 128, 1024, 0, 2, 1, 1, 12, 1, 0, 2, fun _ => .store⟩,
  ⟨"PlanRequired", 0xA048, 0xA04F, 1, 128, 1024, 0, 3, 0, 0, 0, 2, 0, 65535, fun _ => .store⟩,
  ⟨"PlanCounters", 0xA050, 0xA050, 1, 3, 3, 0, 4, 0, 0, 0, 4, 0, 4294967295, fun _ => .store⟩,
  ⟨"Ledger", 0xA060, 0xA060, 0, 1, 1, 0, 12, 0, 0, 0, 524290, 0, 0, fun _ => .own⟩,
  ⟨"PartnerLedger", 0xA061, 0xA061, 0, 1, 1, 0, 12, 0, 0, 0, 4098, 0, 0, fun _ => .own⟩,
  ⟨"TempleCounters", 0xA062, 0xA062, 1, 7, 7, 0, 4, 0, 0, 0, 4, 0, 4294967295, fun e => .fld ⟨R.CNT_TEMP_WARN + 4 * e, 0, 32⟩⟩]

/-- Objects of chapter 16. -/
def objs16 : List ObjRow := [
  ⟨"DeviceType", 0x1000, 0x1000, 0, 1, 1, 0, 3, 3, 2, 0, 2, 0, 65535, fun _ => .own⟩,
  ⟨"SiliconRevision", 0x1001, 0x1001, 0, 1, 1, 0, 2, 3, 2, 0, 1, 0, 255, fun _ => .own⟩,
  ⟨"DeviceId", 0x1002, 0x1002, 0, 1, 1, 0, 5, 3, 2, 0, 8, 0, 18446744073709551615, fun _ => .own⟩,
  ⟨"TempGrade", 0x1003, 0x1003, 0, 1, 1, 0, 2, 3, 2, 0, 1, 0, 255, fun _ => .own⟩,
  ⟨"FirmwareVersion", 0x1004, 0x1004, 0, 1, 1, 0, 4, 0, 0, 0, 4, 0, 4294967295, fun _ => .store⟩,
  ⟨"RomVersion", 0x1005, 0x1005, 0, 1, 1, 0, 4, 3, 0, 0, 4, 0, 4294967295, fun _ => .own⟩,
  ⟨"Lifecycle", 0x1006, 0x1006, 0, 1, 1, 0, 2, 0, 2, 0, 1, 0, 255, fun _ => .own⟩,
  ⟨"ZoneMap", 0x1007, 0x1007, 0, 1, 1, 0, 4, 0, 2, 0, 4, 0, 4294967295, fun _ => .own⟩,
  ⟨"RoleLock", 0x1008, 0x1008, 0, 1, 1, 0, 2, 0, 2, 0, 1, 0, 255, fun _ => .own⟩,
  ⟨"IndexDirectory", 0x1010, 0x1010, 0, 1, 1, 0, 12, 0, 0, 0, 65536, 0, 0, fun _ => .own⟩,
  ⟨"LcpPortEnable", 0x1100, 0x1100, 1, 4, 4, 0, 1, 1, 1, 4, 1, 0, 1, fun _ => .store⟩,
  ⟨"ReplayAge", 0x1101, 0x1101, 0, 1, 1, 0, 3, 1, 1, 4, 2, 100, 10000, fun _ => .store⟩,
  ⟨"AllowUntimed", 0x1102, 0x1102, 0, 1, 1, 0, 1, 1, 1, 4, 1, 0, 1, fun _ => .store⟩,
  ⟨"SubLife", 0x1103, 0x1103, 0, 1, 1, 0, 3, 1, 1, 4, 2, 1, 300, fun _ => .store⟩,
  ⟨"BulkQueue", 0x1104, 0x1104, 0, 1, 1, 0, 3, 1, 1, 4, 2, 0, 65535, fun _ => .store⟩,
  ⟨"Subscriptions", 0x1105, 0x1105, 0, 1, 1, 0, 3, 0, 0, 0, 2, 0, 65535, fun _ => .own⟩,
  ⟨"MailboxCtrl", 0x1106, 0x1106, 1, 2, 2, 0, 4, 1, 1, 4, 4, 0, 4294967295, fun e => .fld ⟨R.MBX_CTRL e, 0, 32⟩⟩,
  ⟨"LcpCounters", 0x1110, 0x1110, 1, 10, 10, 0, 4, 0, 0, 0, 4, 0, 4294967295, fun _ => .store⟩,
  ⟨"CueDone", 0x9103, 0x9103, 0, 1, 1, 0, 12, 0, 0, 0, 24, 0, 0, fun _ => .own⟩]

/-- Objects of chapter 17. -/
def objs17 : List ObjRow := [
  ⟨"ErrorPop", 0xF000, 0xF000, 0, 1, 1, 0, 12, 0, 1, 0, 16, 0, 0, fun _ => .own⟩,
  ⟨"ErrorFirst", 0xF001, 0xF001, 0, 1, 1, 0, 12, 0, 0, 0, 16, 0, 0, fun _ => .own⟩,
  ⟨"ErrorFirstAck", 0xF002, 0xF002, 0, 1, 1, 0, 3, 2, 1, 0, 2, 0, 65535, fun _ => .own⟩,
  ⟨"ErrorCounters", 0xF003, 0xF003, 1, 2, 2, 0, 4, 0, 0, 0, 4, 0, 4294967295, fun e => .fld ⟨R.CNT_REC + 4 * e, 0, 32⟩⟩,
  ⟨"EventPending", 0xF010, 0xF010, 1, 4, 4, 0, 4, 0, 0, 0, 4, 0, 4294967295, fun e => .fld ⟨R.EVT_PEND e, 0, 32⟩⟩,
  ⟨"BusCounters", 0xF020, 0xF020, 1, 4, 4, 0, 4, 0, 0, 0, 4, 0, 4294967295, fun e => .fld ⟨R.CNT_MRESET + 4 * e, 0, 32⟩⟩,
  ⟨"BusQos", 0xF021, 0xF021, 1, 7, 7, 0, 2, 1, 1, 4, 1, 0, 255, fun e => .fld (R.BUSMX_MCFG_Qos e)⟩]

/-- Objects of chapter 18. -/
def objs18 : List ObjRow := [
  ⟨"ResetRequest", 0xA100, 0xA100, 0, 1, 1, 0, 2, 2, 1, 0, 1, 0, 255, fun _ => .own⟩,
  ⟨"ResetCause", 0xA101, 0xA101, 0, 1, 1, 0, 3, 0, 0, 0, 2, 0, 65535, fun _ => .fld ⟨R.AON_RST_CAUSE, 0, 16⟩⟩,
  ⟨"PowerDomains", 0xA102, 0xA102, 0, 1, 1, 0, 2, 1, 1, 4, 1, 0, 31, fun _ => .fld ⟨R.PWR_CTRL, 0, 5⟩⟩,
  ⟨"PowerStatus", 0xA103, 0xA103, 0, 1, 1, 0, 3, 0, 0, 0, 2, 0, 65535, fun _ => .fld R.PWR_STATUS_On⟩,
  ⟨"SupplyStatus", 0xA104, 0xA104, 0, 1, 1, 0, 2, 0, 0, 0, 1, 0, 255, fun _ => .fld R.SUPPLY_STATUS_Low⟩,
  ⟨"WakeConfig", 0xA110, 0xA110, 0, 1, 1, 0, 3, 1, 1, 4, 2, 0, 1023, fun _ => .fld ⟨R.AON_WAKE_CFG, 0, 16⟩⟩,
  ⟨"WakePattern", 0xA111, 0xA111, 1, 4, 4, 0, 12, 1, 1, 4, 144, 0, 0, fun _ => .own⟩,
  ⟨"DozeEnter", 0xA112, 0xA112, 0, 1, 1, 0, 1, 2, 1, 0, 1, 0, 1, fun _ => .own⟩,
  ⟨"WakeCause", 0xA113, 0xA113, 0, 1, 1, 0, 2, 0, 0, 0, 1, 0, 255, fun _ => .fld ⟨R.AON_WAKE_CAUSE, 0, 8⟩⟩,
  ⟨"BootStatus", 0xA120, 0xA120, 0, 1, 1, 0, 4, 0, 0, 0, 4, 0, 4294967295, fun _ => .fld ⟨R.AON_BOOT_STATUS, 0, 32⟩⟩,
  ⟨"WatchdogTimeout", 0xA121, 0xA121, 0, 1, 1, 0, 3, 1, 1, 0, 2, 0, 10000, fun _ => .fld R.AON_WDOG_CFG_TimeoutMs⟩,
  ⟨"FuseProgram", 0xA130, 0xA130, 0, 1, 1, 0, 12, 2, 1, 0, 8, 0, 0, fun _ => .own⟩,
  ⟨"FuseWord", 0xA131, 0xA131, 1, 128, 128, 0, 4, 0, 1, 0, 4, 0, 4294967295, fun e => .fld ⟨R.FUSE_WORD e, 0, 32⟩⟩]

/-- Every object. -/
def objTable : List ObjRow :=
  objs02 ++ objs03 ++ objs04 ++ objs05 ++ objs06 ++ objs07 ++ objs08 ++ objs09 ++ objs10 ++ objs11 ++ objs12 ++ objs13 ++ objs14 ++ objs15 ++ objs16 ++ objs17 ++ objs18

/-- The element a subindex of an index names in a row. -/
def ObjRow.elem (r : ObjRow) (index sub : Nat) : Option Nat :=
  let e := (index - r.lo) * r.per + (sub - r.first)
  if r.lo ≤ index ∧ index ≤ r.hi ∧ r.first ≤ sub ∧ sub < r.first + r.per ∧ r.skip ≤ e ∧ e < r.total then some e else none

/-- An object's row and element (R345). -/
def objFind (index sub : Nat) : Option (ObjRow × Nat) :=
  objTable.findSome? (fun r => (r.elem index sub).map (fun e => (r, e)))

/-- An index is in use. -/
def indexUsed (index : Nat) : Bool := objTable.any (fun r => decide (r.lo ≤ index ∧ index ≤ r.hi))

/-- Bytes of a value of a type (R347); none for STR and BLOB. -/
def typeBytes (t : Nat) : Option Nat :=
  if t = 1 ∨ t = 2 then some 1 else if t = 3 then some 2 else if t = 5 ∨ t = 10 then some 8
  else if t = 4 ∨ 6 ≤ t ∧ t ≤ 9 then some 4 else none

/-- Types whose values are signed. -/
def typeSigned (t : Nat) : Bool := decide (t = 6 ∨ t = 8 ∨ t = 9)

/-- The number a pattern of a type stands for. -/
def typeInt (t v : Nat) : Int := if typeSigned t then toSigned 32 v else v

/-- A value is one its type and its row accept (R347): 1 in a BOOL, finite F32, and within Min and Max. -/
def ObjRow.fits (r : ObjRow) (v : Nat) : Bool :=
  decide (r.min ≤ typeInt r.typ v ∧ typeInt r.typ v ≤ r.max) && !(r.typ == 7 && decide (bitsOf v 23 8 = 255))

end Sys2Proof.Machine
end

