-- ==== Sys2Proof/Machine/Objects.lean ====
section
/-!
DEFINITION. Reading and writing objects (R345 to R352): live and base values (R328), the checks of a write, and what each object's
owner does with it. Objects whose write starts an action that reaches further stand in Lcp.lean.
-/
namespace Sys2Proof.Machine

-- ## Registers as they read (R9, R374): computed ones and those stored

/-- The shadow word of an OTP word as an external path sees it (R420). -/
def State.fuseSeen (s : State) (w : Nat) : BitVec 32 := if 8 ≤ w ∧ w < 32 then 0#32 else tget 0#32 s.shadow w

/-- A register's word as a read without side effects shows it: `off` its offset. -/
def State.regView (s : State) (off : Nat) : BitVec 32 :=
  let n := fun (k : Nat) => BitVec.ofNat 32 k
  if off = R.SLOW_BUSY then
    let b := fun (f : Fld) (i : Nat) => if s.is f then 2 ^ i else 0
    n (b R.RD_STATUS_Busy 0 + b R.SYN_STATUS_Busy 1 + b (R.PCS_STATUS_Busy 0) 2 + b (R.PCS_STATUS_Busy 1) 3 + b (R.PCS_STATUS_Busy 2) 4
      + b (R.PCS_STATUS_Busy 3) 5 + b R.AON_STATUS_Busy 6 + b R.FUSE_STATUS_Busy 7)
  else if off = R.ERR_STATUS then n (setBits (s.rd off).toNat 0 5 s.errFifo.length)
  else if R.EVT_PEND 0 ≤ off ∧ off < R.EVT_PEND 4 then
    let w := (off - R.EVT_PEND 0) / 4
    n ((List.range 32).foldl (fun t i => if s.evtPending (32 * w + i) then t + 2 ^ i else t) 0)
  else if R.EVT_COUNT 0 ≤ off ∧ off < R.EVT_COUNT 128 then n (s.evtCount ((off - R.EVT_COUNT 0) / 4))
  else if off = R.LINKED_FREE then n s.linkedFree
  else if off = R.QUOTA_SUM then n s.quotaSum
  else if off = R.GRP_NOW then BitVec.ofInt 32 ((s.group (s.get R.GRP_SEL_Group)).shown s.heddle.last)
  else if off = R.DEC_ROM_DATA then s.decRomData
  else if R.DEC_GSTAT 0 ≤ off ∧ off < R.DEC_GSTAT 4 then
    let k := (off - R.DEC_GSTAT 0) / 4
    n (setBits (s.rd off).toNat 2 2 (osrCode (s.decOsr k)))
  else if R.DET_OVER 0 ≤ off ∧ off < R.DET_OVER 258 then n (s.detOver ((off - R.DET_OVER 0) / 4))
  else if off = R.LEASE_REMAIN then n (s.remainUs (s.is R.LEASE_STATUS_LeaseValid) s.lease.endAt)
  else if off = R.RESERVE_REMAIN then n (s.remainUs (s.is R.LEASE_STATUS_ReserveValid) s.lease.resEnd)
  else if off = R.AON_PAT_DATA then n s.patWord
  else if off = R.AON_WDOG_REMAIN then n s.wdogRemain
  else if R.FUSE_WORD 0 ≤ off ∧ off < R.FUSE_WORD 128 then s.fuseSeen ((off - R.FUSE_WORD 0) / 4)
  else if off = R.RAMP_OFFSET 0 then BitVec.ofInt 32 (s.rampOff 0)
  else if off = R.RAMP_OFFSET 1 then BitVec.ofInt 32 (s.rampOff 1)
  else if off = R.PICK_LO then n s.time.pick
  else if off = R.SYS_CYCLES_LO then n s.time.cycles
  else s.rd off

/-- A field of a register as it reads. -/
def State.view (s : State) (f : Fld) : Nat := bitsOf (s.regView f.reg).toNat f.lsb f.wid

/-- The bits of a register that a write may set. -/
def rwMask (off : Nat) : Nat :=
  match findRow (blockRows off) off with
  | some (r, _) => r.fields.foldl (fun m f => if f.acc = .rw then m ||| ((2 ^ f.wid - 1) * 2 ^ f.lsb) else m) 0
  | none => 0

-- ## Overlays' contents (R327, R328)

/-- The records of an overlay definition: object key and value. -/
def overlayRecs (d : List Byte) : List (Nat × Nat) :=
  (List.range (leNat ((d.drop 32).take 2))).map (fun i =>
    let r := (d.drop (36 + 12 * i)).take 12
    (objKey (leNat (r.take 2)) (leNat ((r.drop 2).take 1)), leNat (r.drop 4)))

/-- An overlay's records; none for 0xFF. -/
def State.overlay (s : State) (k : Nat) : List (Nat × Nat) := if k < 64 then overlayRecs (tget [] s.ovl.defs k) else []

/-- The value the highest stack position that writes an object gives it (R328). -/
def stackValue (recs : List (List (Nat × Nat))) (key : Nat) : Option Nat :=
  recs.foldl (fun v rs => match rs.find? (fun r => decide (r.1 = key)) with | some r => some r.2 | none => v) none

/-- The stack covers an object. -/
def State.covered (s : State) (key : Nat) : Bool := (stackValue s.ovl.recs key).isSome

-- ## Numbers: the value in force

/-- A value truncated to its type's size. -/
def typeTrunc (t v : Nat) : Nat := match typeBytes t with
  | some n => v % 2 ^ (8 * n)
  | none => v

/-- TIME_JUMP_OFFSET saturated to 32 bits (R50). -/
def State.jumpOffset (s : State) : Nat := ofSigned 32 (satSigned 32 (s.get64I R.TIME_JUMP_OFFSET_LO_Offset R.TIME_JUMP_OFFSET_HI_Offset))

/-- Objects with a rule of their own. -/
def State.ownNum (s : State) (index e : Nat) : Nat :=
  if index = 0x2001 then s.time.pick
  else if index = 0x2002 then s.taiNs % 2 ^ 64
  else if index = 0x2005 then s.jumpOffset
  else if 0x4040 ≤ index ∧ index < 0x4048 then (s.rxs e).state
  else if 0x4050 ≤ index ∧ index < 0x4058 then (s.rxs e).stat.getD 2 0
  else if 0x4060 ≤ index ∧ index < 0x4068 then (s.rxs e).stat.getD 4 0
  else if index = 0x5140 ∨ index = 0x5141 then (if index = 0x5140 ∧ e = 0 then 0x10000000 else s.obj index (e % 128 + 1))
  else if 0x6050 ≤ index ∧ index < 0x6058 then ((s.put R.FC_SEL_Chain e).fcLoad.rd R.FC_STATE).toNat
  else if index = 0x7100 then setBits (s.rd (R.LL_CTRL e)).toNat 3 1 0 % 256
  else if index = 0x8003 then s.get R.LEASE_CTRL_Fallback + 2 * s.get R.LEASE_CTRL_SilentTakeover
  else if index = 0x1213 then Config.oui.toNat % 2 ^ 24
  else if index = 0x9001 then s.flash.boot
  else if index = 0x9021 then s.ovl.stack.foldr (fun k v => k + 256 * v) 0
  else if index = 0x1000 then 0x6400
  else if index = 0x1001 then 0xB0
  else if index = 0x1002 then (tget 0#32 s.shadow 0).toNat + (tget 0#32 s.shadow 1).toNat * 2 ^ 32
  else if index = 0x1003 then bitsOf (tget 0#32 s.shadow 3).toNat 16 1
  else if index = 0x1005 then Config.romVersion.toNat
  else if index = 0x1006 then s.get R.FUSE_STATUS_Lifecycle
  else if index = 0x1007 then (tget 0#32 s.shadow 32).toNat
  else if index = 0x1008 then (tget 0#32 s.shadow 33).toNat % 256
  else if index = 0x1105 then s.subCount
  else 0

/-- The value in force of a number object: row, element, index and subindex. A register of a block whose domain is off reads 0 (R13, R403). -/
def State.objNow (s : State) (r : ObjRow) (e index sub : Nat) : Nat := match r.home e with
  | .fld f => if s.powered f.reg then s.view f else 0
  | .sfld f => if s.powered f.reg then ofSigned 32 (toSigned f.wid (s.view f)) else 0
  | .pair lo hi => if s.powered lo then (s.regView lo).toNat + (s.regView hi).toNat * 2 ^ 32 else 0
  | .rx f => seF (s.rxs e).cfg f
  | .tx f => txF (s.txs e).cfg f
  | .dst f => dsF (s.dest e).cfg f
  | .ch f => fcF (s.chain e).cfg f
  | .dt f => dtF (s.detEnt e).cfg f
  | .store => s.obj index sub
  | .own => s.ownNum index e

/-- The live value (R328). -/
def State.objLive (s : State) (r : ObjRow) (e index sub : Nat) : Nat :=
  match stackValue s.ovl.recs (objKey index sub) with
  | some v => typeTrunc r.typ v
  | none => match tget none s.ovl.base (objKey index sub) with
    | some b => b
    | none => s.objNow r e index sub

/-- The base value (R328). -/
def State.objBase (s : State) (r : ObjRow) (e index sub : Nat) : Nat :=
  match tget none s.ovl.base (objKey index sub) with
  | some b => b
  | none => s.objNow r e index sub

/-- An object's default (R352). -/
def objDefault (r : ObjRow) (e index sub : Nat) : Nat := State.reset.objNow r e index sub

-- ## Numbers: a write by the owner's rules

/-- The outcome of an owner's check: item status and detail (R361); (0, 0) where the write is taken. -/
abbrev ObjCode := Nat × Nat

/-- A block's result code as an item's status. -/
def ownerCode (c : Nat) : ObjCode := if c = 0 then (0, 0) else (0x0A, c)

/-- A register word written by its block's rules, ignored with a record while the block's domain is off (R13, R403); a report it makes is
the owner's refusal: Ignored reads as Range, Refused with its detail. -/
def State.regObj (s : State) (off v : Nat) : ObjCode × State :=
  let t := if s.powered off then s.regApply off v else s.ignored off
  match (t.errWait.drop s.errWait.length).getLast? with
  | none => ((0, 0), t)
  | some r => (if r.code = 0x11 then (9, 0) else (0x0A, r.detail), t)

/-- A field of a register written. -/
def State.fldObj (s : State) (f : Fld) (v : Nat) : ObjCode × State :=
  s.regObj f.reg (setBits (s.rd f.reg).toNat f.lsb f.wid v)

/-- A group gain's value: target, N and law; `at_` the index of a cue. -/
def State.groupObj (s : State) (g v : Nat) (at_ : Option Nat) : ObjCode × State :=
  let n := bitsOf v 32 16
  let t := toSigned 32 (v % 2 ^ 32)
  if n = 0 ∨ 2 ^ 49 ≤ v then ((9, 0), s)
  else match at_ with
    | none => ((0, 0), s.groupLater g t n (bitOf v 48))
    | some k => ((0, 0), (s.groupSet g t n (bitOf v 48) k).groupNote g t n (bitOf v 48))

/-- The mark of a table's entry, for a host's write. -/
def State.hostMark (s : State) (at_ : Option Nat) (k : Nat) : State := if at_.isSome then s else s.mark k

/-- DomainRole has been written (R315): role 0 is Standalone, and a member that becomes so sends Leave (R316); any other role of a
Standalone unit starts at Seeking. -/
def State.domRole (s : State) : State :=
  let st := s.obj 0x1203 0
  if s.obj 0x1201 0 = 0 then
    let s := if st = 2 ∨ st = 3 then s.send (.domain .manager (.leave (s.get R.SH_UNIT_Unit))) else s
    s.setObj 0x1203 0 5
  else if st = 5 then s.setObj 0x1203 0 0
  else s

/-- The defaults of a PTP profile (R33): domain number and log Sync interval. -/
def ptpDefault (profile : Nat) : Nat × Int := [((0 : Nat), (0 : Int)), (0, -3), (127, -3), (0, -3)].getD profile (0, 0)

/-- A write of a port's profile gives the port the profile's defaults (DESIGN CHOICE, notes/assumptions/16.md). -/
def State.ptpDefaults (s : State) (n profile : Nat) : State :=
  if 4 ≤ profile then s
  else (s.setObj (0x2010 + n) 2 (ptpDefault profile).1).setObj (0x2010 + n) 4 (ofSigned 32 (ptpDefault profile).2)

/-- A number object's home written by its owner's rules; `at_` is the index a cue commits for, none for every other writer. -/
def State.objPut (s : State) (r : ObjRow) (e index sub v : Nat) (at_ : Option Nat) : ObjCode × State :=
  let tbl := fun (p : Nat × State) => (ownerCode p.1, p.2)
  match r.home e with
  | .fld f => if 2 ^ f.wid ≤ typeTrunc r.typ v ∨ (v * 2 ^ f.lsb) &&& (2 ^ 32 - 1 - rwMask f.reg) ≠ 0 then ((9, 0), s) else s.fldObj f v
  | .sfld f =>
    let i := toSigned 32 v
    if satSigned f.wid i ≠ i then ((9, 0), s) else s.fldObj f (ofSigned f.wid i)
  | .pair _ _ => ((6, 0), s)
  | .rx f => if 2 ^ f.wid ≤ v then ((9, 0), s) else tbl (s.seWrite e (wfSet (s.rxs e).cfg R.SE_CTRL f v))
  | .tx f => if 2 ^ f.wid ≤ v then ((9, 0), s) else tbl (s.txWrite e (wfSet (s.txs e).cfg R.TX_CTRL f v))
  | .dst f => if 2 ^ f.wid ≤ v then ((9, 0), s) else tbl (s.dsWrite e (wfSet (s.dest e).cfg R.DS_PATCH f v))
  | .ch f => if 2 ^ f.wid ≤ v then ((9, 0), s) else tbl (s.fcWrite e (wfSet (s.chain e).cfg R.FC_CFG f v))
  | .dt f => if 2 ^ f.wid ≤ v then ((9, 0), s) else tbl (s.dtWrite e (wfSet (s.detEnt e).cfg R.DT_CFG f v))
  | .store =>
    let old := s
    let s := s.setObj index sub v
    ((0, 0), if index = 0x41F7 then s.agreePoint else if index = 0x1201 then s.domRole.lldpSince old
      else if index = 0x1200 ∨ index = 0x1211 then s.lldpSince old
      else if 0x2010 ≤ index ∧ index < 0x2014 then (if sub = 1 then s.ptpDefaults e v else s).loopClamp else s)
  | .own =>
    if index = 0x5140 ∨ index = 0x5141 then s.groupObj e v at_
    else if 0x6040 ≤ index ∧ index < 0x6048 then
      if at_.isSome then ((0, 0), s.updF (fun f => { f with cueReqs := f.cueReqs ++ [(e, v)] })) else ((0, 0), s.hostSwap e v)
    else if index = 0x7100 then
      if bitOf v 3 ∨ v &&& (255 - rwMask (R.LL_CTRL e)) ≠ 0 then ((9, 0), s)
      else s.regObj (R.LL_CTRL e) (setBits (s.rd (R.LL_CTRL e)).toNat 0 8 (setBits v 3 1 (s.get (R.LL_CTRL_TxMute e))))
    else if index = 0x8003 then
      match s.fldObj R.LEASE_CTRL_Fallback (v % 2) with
      | ((0, 0), t) => t.fldObj R.LEASE_CTRL_SilentTakeover (v / 2 % 2)
      | p => p
    else if index = 0x9001 then
      if v < 8 ∨ v = 255 then ((0, 0), { s with flash := { s.flash with boot := v } }) else ((9, 0), s)
    else ((6, 0), s)

/-- A value is one a write to the object accepts before its owner's check: type, range, packed fields (R347). -/
def valueFits (r : ObjRow) (index v : Nat) : Bool :=
  r.fits v &&
  (if index = 0x5140 ∨ index = 0x5141 then decide (bitsOf v 32 16 ≠ 0 ∧ v < 2 ^ 49)
   else if 0x2010 ≤ index ∧ index < 0x2014 ∧ r.name = "PtpProfile" then decide (v < 4 ∨ v = 255)
   else if r.name = "PlanCfg" ∨ r.name = "HoldPlan" then true
   else if index = 0x1104 then decide (v < 4096 ∨ v = 0xFFFF)
   else true)

/-- The bounds of PlanCfg and HoldPlan, which differ element by element (R344). -/
def planFits (index sub v : Nat) : Bool :=
  if index = 0xA030 then
    if sub = 1 then decide (10 ≤ v ∧ v ≤ 3600) else if sub = 2 then decide (60 ≤ v ∧ v ≤ 86400)
    else if sub = 4 then decide (96 ≤ v ∧ v ≤ 65535) else true
  else if index = 0xA031 ∧ sub = 1 then decide (v ≤ 1)
  else true

/-- The least and greatest LogSyncInterval of a port's profile (R33). -/
def syncRange (profile : Nat) : Int × Int :=
  if profile = 1 then (-4, 1) else if profile = 2 then (-7, -1) else (-7, 1)

/-- An object's value checked before its owner (R347, R33). -/
def State.valueOk (s : State) (r : ObjRow) (e index sub v : Nat) : Bool :=
  valueFits r index v && planFits index sub v
  && (if r.name = "LogSyncInterval" then
        let (a, b) := syncRange (s.ptpProfile e)
        decide (a ≤ toSigned 32 v ∧ toSigned 32 v ≤ b)
      else if r.name = "PtpDomain" then (if s.ptpProfile e = 3 then decide (v = 0) else decide (v ≤ 127))
      else match r.home e with
        | .fld f => decide (v * 2 ^ f.lsb &&& (2 ^ 32 - 1 - rwMask f.reg) = 0)
        | .rx f | .tx f | .dst f | .ch f | .dt f => decide (v < 2 ^ f.wid)
        | _ => true)

/-- A write that sets the base value where the stack covers the object, and the live value otherwise (R328): status and detail. -/
def State.objSet (s : State) (r : ObjRow) (e index sub v : Nat) (at_ : Option Nat) : ObjCode × State :=
  let key := objKey index sub
  let cov := s.covered key
  if cov ∨ (tget none s.ovl.base key).isSome then
    let s : State := { s with ovl := { s.ovl with base := tput none key (some v) s.ovl.base } }
    if cov then ((0, 1), s.setObj 0x9023 5 ((s.obj 0x9023 5 + 1) % 2 ^ 32)) else ((0, 0), s)
  else
    let (c, s) := s.objPut r e index sub v at_
    (c, if c.1 = 0 then s.hostMark at_ key else s)

-- ## STR and BLOB objects (R347)

/-- An edit record's twelve bytes. -/
def Edit.bytes (e : Edit) : List Byte := leBytes 4 e.w0 ++ leBytes 4 e.w1 ++ leBytes 4 e.w2

/-- A crosspoint entry as a Set record (R209, R213). -/
def Xp.bytes (x : Xp) : List Byte :=
  leBytes 4 (x.dst + x.src * 2 ^ 13 + (if x.ramp.db then 2 ^ 28 else 0)) ++ leBytes 4 (ofSigned 32 x.ramp.g1) ++ leBytes 4 (x.ramp.n + x.group * 2 ^ 16)

/-- A completion record as CueDone carries it (R371). -/
def DoneRec.bytes (d : DoneRec) : List Byte :=
  leBytes 8 d.pick ++ leBytes 2 d.order ++ leBytes 1 d.action ++ leBytes 1 d.status ++ leBytes 8 d.exec ++ leBytes 4 0

/-- The ledger's last k records, newest first (R341, R411). -/
def State.ledgerRecs (s : State) (k : Nat) : List (List Byte) :=
  ((List.range (min k s.flash.ledger)).map (fun i =>
    Memory.readBytes s.flash.mem (0x2800000 + (s.flash.ledger - 1 - i) % 8192 * 64) 64)).filter
      (fun b => decide (leNat (b.drop 60) = crc32c (b.take 60)))

/-- The bytes of a pattern slot's image; none where the slot holds no image (R324). -/
def State.image (s : State) (slot : Nat) : List Byte :=
  let a := 0x800000 + slot * 0x400000
  let h := Memory.readBytes s.flash.mem a 64
  if h.all (fun b => decide (b = 0#8)) then []
  else h ++ Memory.readBytes s.flash.mem (a + 64) (min (leNat ((h.drop 12).take 4) + 16) (0x400000 - 64))

/-- The least and the greatest value an object accepts: its row's, within what its field holds (R346). -/
def ObjRow.bounds (r : ObjRow) : Int × Int := match r.home r.skip with
  | .fld f | .rx f | .tx f | .dst f | .ch f | .dt f => (r.min, Min.min r.max (2 ^ f.wid - 1))
  | .sfld f => (Max.max r.min (-(2 ^ (f.wid - 1))), Min.min r.max (2 ^ (f.wid - 1) - 1))
  | _ => (r.min, r.max)

/-- An object's descriptor (R346). -/
def descriptor (r : ObjRow) (zone dflt : Nat) : List Byte :=
  let sz := typeBytes r.typ
  let num := fun (i : Int) => if sz.isSome then leBytes 8 (ofSigned 64 i) else leBytes 8 0
  [BitVec.ofNat 8 r.typ, BitVec.ofNat 8 r.acc, BitVec.ofNat 8 zone, BitVec.ofNat 8 r.flags] ++ leBytes 2 r.first ++ leBytes 2 r.per
    ++ leBytes 4 r.maxLen ++ num (typeInt r.typ dflt) ++ num r.bounds.1 ++ num r.bounds.2

/-- The zone in force (R350). -/
def State.zone (s : State) (r : ObjRow) (index : Nat) : Nat :=
  if r.zone = 0 ∧ bitOf (tget 0#32 s.shadow 32).toNat (index / 4096) then 1 else r.zone

/-- IndexDirectory (R346). -/
def State.directory (s : State) : List Byte :=
  ((List.range 65536).filterMap (fun i => (objTable.find? (fun r => decide (r.lo ≤ i ∧ i ≤ r.hi))).map (fun r =>
    leBytes 2 i ++ descriptor r (s.zone r i) (objDefault r ((i - r.lo) * r.per) i r.first)))).flatten

/-- A roster record's sixteen bytes (R331). -/
def rosterBytes (r : RosterRec) : List Byte :=
  leBytes 2 r.unit ++ leBytes 1 r.state ++ leBytes 1 r.role ++ leBytes 8 r.device ++ leBytes 2 r.partner ++ leBytes 1 r.flags ++ leBytes 1 0

/-- A neighbour as LldpNeighbour shows it (R331): each field after its length in one byte, the remaining Time To Live in two. -/
def State.neighbourBytes (s : State) (n : Neighbour) : List Byte :=
  let f := fun (b : List Byte) => leBytes 1 b.length ++ b
  f n.chassis ++ f n.port ++ leBytes 2 ((n.ends - s.xref) / 625000000) ++ f n.name ++ f n.addr ++ f n.alaner

/-- The value of a STR or BLOB object: element, index, subindex. -/
def State.blobNow (s : State) (e index sub : Nat) : List Byte :=
  let r := fun (lo : Nat) (n : Nat) => decide (lo ≤ index ∧ index < lo + n)
  if r 0x4000 8 then bytesOf (s.rxs e).cfg
  else if r 0x4140 8 then s.txSdp e
  else if r 0x4100 8 then bytesOf (s.txs e).cfg
  else if r 0xF410 16 then bytesOf (s.queue e).words
  else if r 0xF430 16 then bytesOf (((s.put R.Q_SEL_Queue e).qLoad e).rdWords 0x28160 5)
  else if r 0x6000 8 then bytesOf (s.chain e).cfg
  else if r 0x5200 0x41 then bytesOf (s.detEnt e).cfg
  else if r 0x52A0 0x41 then bytesOf (s.detEnt e).levels
  else if index = 0x5183 then
    (s.heddle.next.getD s.heddle.xps).flatMap Xp.bytes ++ (List.range 8192).flatMap (fun d => leBytes 4 (((s.dest d).cfg.headD 0#32).toNat))
  else if index = 0x5184 then
    (s.heddle.trans.filter (fun x => decide (x.state ≥ 2))).flatMap (fun x =>
      leBytes 2 x.id ++ leBytes 1 x.state ++ leBytes 1 0 ++ leBytes 4 x.edits.length ++ x.edits.flatMap Edit.bytes)
  else if index = 0x6070 then (List.range 262144).flatMap (fun w => leBytes 4 (s.coefAt w).toNat)
  else if index = 0x6830 then (List.range (if sub = 1 then 48 else 81)).flatMap (fun t => leBytes 4 (decRom (sub - 1) t).toNat)
  else if index = 0x9004 then s.image e
  else if index = 0x9020 then tget [] s.ovl.defs e
  else if index = 0x9022 then
    leBytes 1 (s.ovl.stack.getD e 255) ++ leBytes 7 0 ++ leBytes 8 (s.ovl.commit.getD e 0) ++ leBytes 8 (s.ovl.defer.getD e 0)
  else if index = 0x9103 then (s.lastDone.getD {}).bytes
  else if index = 0xA060 then let rs := s.ledgerRecs 8192; leBytes 2 rs.length ++ rs.flatten
  else if index = 0xA061 then leBytes 2 s.partnerLedger.length ++ s.partnerLedger.flatten
  else if index = 0xF001 then (List.range 4).flatMap (fun i => leBytes 4 (s.rd (R.ERR_FIRST_W i)).toNat)
  else if index = 0xA111 then sliceB (s.wakePattern e) 0 144
  else if index = 0x1010 then s.directory
  else if index = 0x1207 then
    if s.obj 0x1201 0 ≥ 2 then s.dom.roster.flatMap (fun m => rosterBytes m.info) else []
  else if index = 0x1210 then (match tget none s.dom.neighbours e with | some n => s.neighbourBytes n | none => [])
  else s.blob index sub

/-- Well-formed UTF-8: how many continuation bytes are owed, and whether the text so far is well formed. -/
def utf8Step (st : Nat × Bool) (b : Byte) : Nat × Bool :=
  let x := b.toNat
  if st.1 > 0 then (st.1 - 1, st.2 && decide (0x80 ≤ x ∧ x < 0xC0))
  else if x < 0x80 then (0, st.2) else if 0xC2 ≤ x ∧ x < 0xE0 then (1, st.2) else if 0xE0 ≤ x ∧ x < 0xF0 then (2, st.2)
  else if 0xF0 ≤ x ∧ x < 0xF5 then (3, st.2) else (0, false)

/-- A STR is well-formed UTF-8 (R347). -/
def utf8Ok (bs : List Byte) : Bool :=
  let r := bs.foldl utf8Step (0, true)
  r.2 && decide (r.1 = 0)

/-- The check of an overlay definition (R327): 0 where it passes, 1 Range, 2 NotO, 3 Dup, 4 Stacked. -/
def State.overlayCheck (s : State) (k : Nat) (d : List Byte) : Nat :=
  let n := leNat ((d.drop 32).take 2)
  let rs := overlayRecs d
  if d.length < 36 ∨ 256 < n ∨ d.length ≠ 36 + 12 * n then 1
  else if rs.any (fun r => match objFind (r.1 / 256) (r.1 % 256) with | some (o, _) => !bitOf o.flags 1 | none => true) then 2
  else if rs.any (fun r => match objFind (r.1 / 256) (r.1 % 256) with
      | some (o, e) =>
        let v := typeTrunc o.typ r.2
        !s.valueOk o e (r.1 / 256) (r.1 % 256) v || decide (ofSigned 64 (typeInt o.typ v) ≠ r.2)
      | none => true) then 1
  else if (List.range rs.length).any (fun i => ((rs.drop (i + 1)).any (fun r => decide (r.1 = (rs.getD i (0, 0)).1)))) then 3
  else if s.ovl.stack.contains k then 4
  else 0

/-- An overlay definition stored. -/
def State.overlayPut (s : State) (k : Nat) (d : List Byte) : State := { s with ovl := { s.ovl with defs := tput [] k d s.ovl.defs } }

/-- Configuration words of a window have no reserved bit set (R347): `a` is the offset of the first word's register. -/
def wordsFit (a : Nat) : List (BitVec 32) → Bool
  | [] => true
  | w :: ws => decide (w.toNat &&& (2 ^ 32 - 1 - rwMask a) = 0) && wordsFit (a + 4) ws

/-- A STR or BLOB object written by its owner's rules; a table entry's words with a reserved bit set are refused with Range (R347). -/
def State.blobPut (s : State) (r : ObjRow) (e index sub : Nat) (data : List Byte) : ObjCode × State :=
  let is := fun (lo : Nat) (n : Nat) => decide (lo ≤ index ∧ index < lo + n)
  let ws := wordsOf data
  let tbl := fun (a t : Nat) (p : Nat × State) =>
    if !wordsFit a ws then ((9, 0), s) else (ownerCode p.1, if p.1 = 0 then p.2.mark (tableKey t e) else p.2)
  if r.typ = 11 then
    if !utf8Ok data then ((9, 0), s)
    else
      let t := s.setBlob index sub data
      ((0, 0), if is 0x4130 8 then t.updTx e (fun t => { t with sdpVersion := t.sdpVersion + 1 }) else if index = 0x1212 then t.lldpSince s else t)
  else if is 0x4000 8 then (if data.length = 64 then tbl R.SE_CTRL 0 (s.seWrite e ws) else ((8, 0), s))
  else if is 0x4100 8 then (if data.length = 64 then tbl R.TX_CTRL 1 (s.txWrite e ws) else ((8, 0), s))
  else if is 0xF410 16 then (if data.length = 16 then tbl R.Q_CFG 2 (s.qWrite e ws) else ((8, 0), s))
  else if is 0x6000 8 then (if data.length = 12 then tbl R.FC_CFG 4 (s.fcWrite e ws) else ((8, 0), s))
  else if is 0x5200 0x41 then (if data.length = 24 then tbl R.DT_CFG 5 (s.dtWrite e ws) else ((8, 0), s))
  else if index = 0x5180 then let (c, t) := s.xpTransaction data; (ownerCode c, t)
  else if index = 0x5183 then let (c, t) := s.xpTable data; (ownerCode c, t)
  else if index = 0x6070 then
    let (c, t) := s.coefImageWrite data
    (if c = 0 then (0, 0) else if c = 1 then (0x0A, 9) else (9, 0), t)
  else if index = 0x7104 then
    if data.length ≠ 32 then ((8, 0), s)
    else if (s.llSt e).mbox.isSome then ((0x0C, 0), s)
    else
      let ws := setAt ws 0 (BitVec.ofNat 32 (setBits (ws.headD 0#32).toNat 8 16 0))
      let t := (s.wrWords (R.CC_TX_W e 0) ws).ccSend e
      (if t.errWait.length > s.errWait.length then (9, 0) else (0, 0), t)
  else if index = 0x9020 then
    let c := s.overlayCheck e data
    (ownerCode c, if c = 0 then s.overlayPut e data else s)
  else if index = 0xA111 then
    if data.length ≠ 144 then ((8, 0), s)
    else ((0, 0), s.setBlob index sub (if data.all (fun b => decide (b = 0#8)) then [] else data))
  else ((6, 0), s)

end Sys2Proof.Machine
end

