-- ==== Sys2Proof/Machine/LcpBase.lean ====
section
/-!
DEFINITION. The message layout, key and counter of the Loom Control Protocol, and NOTIFY (R354 to R357, R366, R368).
-/
namespace Sys2Proof.Machine

/-- The LCP state changed. -/
def State.updLcp (s : State) (f : LcpSt → LcpSt) : State := { s with lcp := f s.lcp }

/-- The fused domain key, words 8 to 15 of the OTP, each word least significant byte first (R419). -/
def State.domainKey (s : State) : List Byte := (List.range 8).flatMap (fun i => leBytes 4 (tget 0#32 s.shadow (8 + i)).toNat)

/-- The domain key has been fused (R356). -/
def State.keyFused (s : State) : Bool := s.domainKey.any (fun b => decide (b ≠ 0#8))

/-- KL (R356). -/
def State.lcpKey (s : State) (dom : Nat) : List Byte := hmac s.domainKey (0x4C#8 :: leBytes 2 dom)

/-- The first 28 bytes of a message (R355): class, kind, flags, Length, domain, sender, target, TransactionId, counter. -/
def lcpHeader (cls kind flags len dom sender target txn ctr : Nat) : List Byte :=
  [0x57#8, 0x4C#8, 1#8, BitVec.ofNat 8 cls, BitVec.ofNat 8 kind, BitVec.ofNat 8 flags] ++ leBytes 2 len ++ leBytes 2 dom ++ leBytes 2 sender
    ++ leBytes 2 target ++ leBytes 2 0 ++ leBytes 4 txn ++ leBytes 8 ctr

/-- The next counter (R357), with the state that has used it. -/
def State.nextCounter (s : State) : Nat × State :=
  let base := if s.is R.TIME_STATUS_TodValid then s.taiNs else 2 ^ 63
  let c := if base ≤ s.lcp.last then s.lcp.last + 1 else base
  (c % 2 ^ 64, s.updLcp (fun l => { l with last := c }))

/-- A counter of the object LcpCounters, plus 1 (R371): 1 Malformed … 10 Served. -/
def State.lcpCount (s : State) (i : Nat) : State := s.setObj 0x1110 i ((s.obj 0x1110 i + 1) % 2 ^ 32)

/-- A message that joins the firmware's frames for a port, from port 52470 (R354 to R356): UDP over IPv4, at the port's default priority. -/
def State.lcpSend (s : State) (port ip udp cls kind flags target txn : Nat) (body : List Byte) : State :=
  let dom := s.obj 0x1200 0
  let (c, s) := s.nextCounter
  let m := lcpHeader cls kind flags (28 + body.length + 16) dom (s.get R.SH_UNIT_Unit) target txn c ++ body
  let m := m ++ (hmac (s.lcpKey dom) m).take 16
  s.fwSend port {
    out := .lcp port ip udp m, len := max 64 (46 + m.length), cast := if 224 ≤ ip / 2 ^ 24 ∧ ip / 2 ^ 24 < 240 then 1 else 0
    pri := s.get (R.MAC_CTRL_DefaultPri port) }

/-- A value padded to a multiple of 4 (R347). -/
def pad4 (bs : List Byte) : List Byte := bs ++ List.replicate ((4 - bs.length % 4) % 4) 0#8

/-- A READ reply item (R362). -/
def readItem (status detail typ : Nat) (v : List Byte) : List Byte :=
  [BitVec.ofNat 8 status, BitVec.ofNat 8 detail, BitVec.ofNat 8 typ, 0#8] ++ leBytes 2 v.length ++ leBytes 2 0 ++ pad4 v

/-- The next NOTIFY sequence number of a requester (R366); the first is 1. -/
def State.notifySeq (s : State) (who : Requester) : Nat × State :=
  let old := match s.lcp.seqs.find? (fun e => decide (e.1 = who)) with | some e => e.2 | none => 0
  let n := (old + 1) % 2 ^ 32
  (n, s.updLcp (fun l => { l with seqs := (who, n) :: l.seqs.filter (fun e => decide (e.1 ≠ who)) }))

/-- One NOTIFY with its items (R366); a mailbox's is pushed as one item into its NotifyQueue, and dropped where that is full (R368). -/
def State.notify (s : State) (who : Requester) (items : List (List Byte)) : State :=
  match who with
  | .net port ip udp unit =>
    let (n, s) := s.notifySeq who
    let body := leBytes 4 n ++ leBytes 2 items.length ++ leBytes 2 0 ++ items.flatten
    (s.lcpSend port ip udp 0 5 0 unit 0 body).lcpCount 7
  | .mbox m =>
    if ¬ s.is (R.MBX_CTRL_NotifyEn m) then s
    else
      let (n, t) := s.notifySeq who
      let body := leBytes 4 n ++ leBytes 2 items.length ++ leBytes 2 0 ++ items.flatten
      let msg := lcpHeader 0 5 0 (28 + body.length) (t.obj 0x1200 0) (t.get R.SH_UNIT_Unit) 0xFFFF 0 0 ++ body
      let q := t.get (R.MBX_CTRL_NotifyQueue m)
      match t.qPut q 0 (wordsOf (pad4 msg)) msg.length (readerMask (t.queue q).readers) with
      | (.ok, u) => u.lcpCount 7
      | (_, u) => (u.bump (R.MBX_NOTIFY_DROP_Count m)).lcpCount 8

/-- A completed cue with Notify set (R364): the NOTIFY that carries CueDone. -/
def State.cueNotify (s : State) (c : Cue) (d : DoneRec) : State :=
  let item := readItem 0 0 12 d.bytes
  if !c.notify then s
  else match c.origin with
    | .lcp port ip udp => s.notify (.net port ip udp c.issuer) [item]
    | .mailbox m => s.notify (.mbox m) [item]
    | _ => s

end Sys2Proof.Machine
end

