-- ==== Sys2Proof/Machine/Treadle.lean ====
section
/-!
DEFINITION. Treadle: the cue queue, staging, the commit at a strobe, and the clock events of the pick counter
(02_media_timeline.md, R41 to R49, R453; overlays R327 to R330).
-/
namespace Sys2Proof.Machine

-- ## Cues and their checks (R41 to R43, R453)

/-- The cue that eight little-endian words spell (R41). -/
def cueOf (ws : List (BitVec 32)) (origin : CueOrigin) : Cue :=
  let w := fun (i : Nat) => (ws.getD i 0#32).toNat
  { pick := w 0 + w 1 * 2 ^ 32, action := bitsOf (w 2) 0 8, noLate := bitOf (w 2) 8, notify := bitOf (w 2) 9, order := bitsOf (w 2) 16 16
    issuer := bitsOf (w 3) 0 16, arg0 := w 4, arg1 := w 5, arg2 := w 6, arg3 := w 7, origin := origin }

/-- A reserved bit of the eight words is set (R41): bits 6:2 of byte 9, and bytes 14 and 15. -/
def cueReserved (ws : List (BitVec 32)) : Bool :=
  decide (bitsOf (ws.getD 2 0#32).toNat 10 5 ≠ 0 ∨ bitsOf (ws.getD 3 0#32).toNat 16 16 ≠ 0)

/-- An ObjectWrite's object and value. -/
def Cue.index (c : Cue) : Nat := bitsOf c.arg0 8 16
def Cue.sub (c : Cue) : Nat := bitsOf c.arg0 0 8
def Cue.value (c : Cue) : Nat := c.arg1 + c.arg2 * 2 ^ 32

/-- A cue's overlay, its stack position, and the position an OverlayRemove names. -/
def Cue.overlay (c : Cue) : Nat := bitsOf c.arg0 0 6
def Cue.pos (c : Cue) : Nat := if c.action = 1 then bitsOf c.arg0 8 2 else bitsOf c.arg0 0 2

/-- Cues run in ascending pick, and within a pick in ascending Order (R42, R45). -/
def cueBefore (a b : Cue) : Bool := decide (a.pick < b.pick ∨ (a.pick = b.pick ∧ a.order < b.order))

/-- A cue put into a list of cues at its place. -/
def cueInsert (c : Cue) : List Cue → List Cue
  | [] => [c]
  | d :: ds => if cueBefore c d then c :: d :: ds else d :: cueInsert c ds

/-- Cues in the order they run. -/
def cueSort (cs : List Cue) : List Cue := cs.foldl (fun l c => cueInsert c l) []

/-- Two cues share a key (R42). -/
def Cue.sameKey (a b : Cue) : Bool := decide (a.pick = b.pick ∧ a.order = b.order)

/-- A 64-bit value spells a value of a type: zero- or sign-extended from it (R43, R347). -/
def valueSpells (typ v : Nat) : Bool := decide (typeTrunc typ v = v ∨ ofSigned 64 (typeInt typ (typeTrunc typ v)) = v)

/-- The arguments of a cue fail the action's own rule (R43). -/
def State.cueArgBad (s : State) (c : Cue) : Bool :=
  if c.action = 3 then
    (match s.trans (c.arg0 % 65536) with
     | some x => decide (x.state ≠ 2)
     | none => true)
  else if c.action = 4 then
    (match objFind c.index c.sub with
     | some (r, e) =>
       !bitOf r.flags 0 || decide (typeBytes r.typ = none) || decide (r.acc ≠ 1 ∧ r.acc ≠ 2) || !valueSpells r.typ c.value
         || !s.valueOk r e c.index c.sub (typeTrunc r.typ c.value)
     | none => true)
  else if c.action = 5 then s.ratesFor.any (fun fs => decide (chainsAt fs ≤ c.arg0 % 1024))
  else if c.action = 7 then !phaseReqOk ⟨toSigned 64 (c.arg0 + c.arg1 * 2 ^ 32), bitOf c.arg2 0⟩
  else if c.action = 9 then decide (6 ≤ c.arg0 % 8)
  else false

/-- The pick of the pending RateChange. -/
def State.ratePick (s : State) : Option Nat := (s.cues.find? (fun c => decide (c.action = 9))).map (fun c => c.pick)

/-- A cue for a pick is late: strobe pick + 1 has passed (R48). -/
def State.cueLate (s : State) (pick : Nat) : Bool := s.time.running && decide (pick + 1 ≤ s.time.pick)

/-- The outcome of an ObjectWrite by its owner's rules for index n. -/
def State.cueWrite (s : State) (c : Cue) (n : Nat) : ObjCode × State :=
  match objFind c.index c.sub with
  | some (r, e) => s.objSet r e c.index c.sub (typeTrunc r.typ c.value) (some n)
  | none => ((3, 0), s)

/-- An action's own acceptance checks (R453 step 9): 8 NotSecond, 9 Budget, 0 where it passes. -/
def State.cueBudget (s : State) (c : Cue) : Nat :=
  if c.action = 9 then
    if s.fs = 0 ∨ c.pick % s.fs ≠ 0 then 8
    else if s.cues.any (fun d => decide (d.action = 9 ∨ d.action = 10)) ∨ ¬ s.rateFits (c.arg0 % 8) then 9
    else 0
  else if c.action = 8 then
    (if s.realignFits (enabledOf (s.filt.chains.map (fun e => (e.1, e.2.cfg)))) (s.get R.FADE_CFG_MaxFades) then 0 else 9)
  else if c.action = 4 then (if (s.cueWrite c c.pick).1.1 = 0 then 0 else 9)
  else 0

/-- The staged writes a cue counts (R44): an overlay's as read when staging began, or as they stand before that. -/
def State.cueWeight (s : State) (c : Cue) : Nat :=
  if c.action = 1 then (if c.staging then c.writes.length else (s.overlay c.overlay).length) else 1

/-- The edits an XpCommit cue stages (R212). -/
def State.cueEdits (s : State) (c : Cue) : Nat :=
  if c.action = 3 then (match s.trans (c.arg0 % 65536) with | some x => x.edits.length | none => 0) else 0

/-- The staged writes or the edits of a cue's pick would exceed their limits (R44, R212). -/
def State.stageFull (s : State) (c : Cue) : Bool :=
  let cs := s.cues.filter (fun d => decide (d.pick = c.pick)) ++ [c]
  decide (2048 < cs.foldl (fun n d => n + s.cueWeight d) 0) || (decide (c.action = 3) && decide (1024 < cs.foldl (fun n d => n + s.cueEdits d) 0))

/-- The code a push is answered with: the first of R453 whose condition holds. -/
def State.cueCheck (s : State) (c : Cue) (reserved : Bool) : Nat :=
  if !s.is R.TRD_CTRL_Enable then 0x0E
  else if !s.is R.TIME_STATUS_TodValid ∨ !s.is R.TIME_CTRL_Run ∨ s.is R.TIME_STATUS_RateSwitching then 0x0A
  else if c.action = 0 ∨ 0x0B < c.action then 0x05
  else if reserved ∨ s.cueArgBad c then 0x06
  else if 256 ≤ s.cues.length then 0x03
  else if s.cues.any (fun d => d.sameKey c) then 0x04
  else if s.ratePick.any (fun p => decide (p < c.pick)) then 0x0D
  else if s.cueLate c.pick ∧ (s.get R.LATE_LIMIT_Limit < s.time.pick - c.pick ∨ c.noLate ∨ c.action = 9) then 0x02
  else if s.cueBudget c ≠ 0 then s.cueBudget c
  else if s.stageFull c then 0x07
  else if s.cueLate c.pick then 0x01
  else 0x00

-- ## The queue

/-- The registers that show the queue: TRD_STATUS, NEXT_PICK, TIME_STATUS.RatePending, HD_STATUS.Staging. -/
def State.cueStatus (s : State) : State :=
  let n := s.cues.length
  let s := (s.put R.TRD_STATUS_Pending n).putB R.TRD_STATUS_Full (decide (n = 256))
  let s := s.putB R.TRD_STATUS_Staging (s.cues.any (fun c => c.staging && !c.armed))
  let s := s.put64 R.NEXT_PICK_LO_Pick R.NEXT_PICK_HI_Pick (s.cues.foldl (fun m c => min m c.pick) (2 ^ 64 - 1))
  let s := s.putB R.HD_STATUS_Staging (s.cues.any (fun c => decide (c.action = 3) && c.staging && !c.armed))
  s.putB R.TIME_STATUS_RatePending s.ratePick.isSome

/-- A cue that leaves the queue uncommitted gives its transaction back: Cued to Sealed (R210). -/
def State.cueRelease (s : State) (c : Cue) : State :=
  if c.action = 3 then s.updTrans (c.arg0 % 65536) (fun x => if x.state = 3 then { x with state := 2 } else x) else s

/-- What a planning cue's stream is judged by when its cue has been refused (R338): its queue's quota and its bounds. -/
def State.planKey (s : State) (i : Nat) : List Nat :=
  [(s.queue (seF (s.rxs i).cfg R.SE_SLOT_Queue)).quota, s.obj 0xA030 5, s.obj 0xA030 6]

/-- A planning cue refused or discarded (R338, R343): PlanRefused, and no retry of its stream until R338 allows it. -/
def State.planRefused (s : State) (i : Nat) : State :=
  let t := s.setObj 0xA050 2 ((s.obj 0xA050 2 + 1) % 2 ^ 32)
  { t with temple := { t.temple with stuck := (t.temple.stuck.filter (fun x => decide (x.1 ≠ i))) ++ [(i, s.time.tai / unitsPerSec, s.planKey i)] } }

/-- The cue is one of Temple's own (R338). -/
def Cue.plans (c : Cue) : Bool :=
  decide (c.origin = .firmware ∧ c.action = 4 ∧ 0x4010 ≤ c.index ∧ c.index < 0x4018 ∧ c.order = 0xE000 + (c.index - 0x4010) * 128 + c.sub - 1)

/-- A completion record (R45, R49): 0 Done, 1 Late, 2 Stale, 3 Cancelled, 4 Refused; `exec` the first index in force. -/
def State.cueDone (s : State) (c : Cue) (status exec : Nat) : State :=
  let d : DoneRec := { action := c.action, status := status, order := c.order, pick := c.pick, exec := exec, issuer := c.issuer, user := if c.action = 11 then c.arg0 else 0 }
  let s := if s.doneLog.length < 64 then s else ({ s with doneLog := s.doneLog.drop 1 } : State).bump R.CNT_DONE_LOST_Count
  let s := { s with doneLog := s.doneLog ++ [d], lastDone := some d }
  let s := if status ≤ 1 then s.bump R.CNT_DONE_Count else s
  let s := if c.plans ∧ (status = 2 ∨ status = 4) then s.planRefused (c.order - 0xE000) else s
  s.cueNotify c d

/-- A pending cue discarded: Stale (R48) or Cancelled (R46, R49). -/
def State.cueDiscard (s : State) (c : Cue) (status : Nat) : State :=
  (((s.cueRelease c).bump (if status = 2 then R.CNT_STALE_Count else R.CNT_CANCEL_Count))).cueDone c status 0

/-- The key of an overlay's record is one the object table holds. -/
def recOf (k : Nat × Nat) : Option (ObjRow × Nat × Nat × Nat × Nat) :=
  (objFind (k.1 / 256) (k.1 % 256)).map (fun p => (p.1, p.2, k.1 / 256, k.1 % 256, k.2))

/-- The live value of an object by key; 0 where there is no such object. -/
def State.liveAt (s : State) (key : Nat) : Nat :=
  match objFind (key / 256) (key % 256) with
  | some (r, e) => s.objLive r e (key / 256) (key % 256)
  | none => 0

/-- The keys an overlay change touches: the records that come in, then those that leave and do not come in again. -/
def stackKeys (old new : List (Nat × Nat)) : List Nat :=
  new.map Prod.fst ++ (old.map Prod.fst).filter (fun k => !(new.map Prod.fst).contains k)

/-- A host has written the field behind an object since the latest strobe, by the object, by its register or by its table's window (R49). -/
def State.hostWrote (s : State) (r : ObjRow) (e key : Nat) : Bool :=
  s.marks.contains key || (match r.home e with
    | .fld f | .sfld f => s.marks.contains (regKey f.reg)
    | .pair lo hi => s.marks.contains (regKey lo) || s.marks.contains (regKey hi)
    | .rx _ => s.marks.contains (tableKey 0 e)
    | .tx _ => s.marks.contains (tableKey 1 e)
    | .dst f => s.marks.contains (tableKey 3 e) || (f.reg == R.DS_PATCH && s.heddle.next.isSome)
    | .ch _ => s.marks.contains (tableKey 4 e)
    | .dt _ => s.marks.contains (tableKey 5 e)
    | .store | .own => false)

/-- One object follows a new stack at index n (R328, R329): flag S at the commit, every other deferred. -/
def State.stackMove (s : State) (pos : Nat) (before : Nat) (n : Nat) (key : Nat) : Bool × State :=
  match objFind (key / 256) (key % 256) with
  | none => (true, s)
  | some (r, e) =>
    let i := key / 256
    let j := key % 256
    let up := stackValue s.ovl.recs key
    let base := s.objBase r e i j
    let live := match up with | some v => typeTrunc r.typ v | none => base
    let s : State := { s with ovl := { s.ovl with base := tput none key (some base) s.ovl.base } }
    let drop := fun (t : State) => if up.isSome then t else { t with ovl := { t.ovl with base := tput none key none t.ovl.base } }
    if live = before then (true, drop s)
    else if bitOf r.flags 0 then
      if s.hostWrote r e key then (true, drop s)
      else
        let p := s.objPut r e i j live (some n)
        if p.1.1 = 0 then (true, drop p.2) else (false, drop s)
    else
      let w := (s.ovl.later.filter (fun x => decide (x.1 ≠ pos))) ++ [(pos, ((tget [] s.ovl.later pos).filter (fun x => decide (x ≠ key))) ++ [key])]
      (true, { s with ovl := { s.ovl with later := w } })

/-- The stack with `recs` at a position, and every live value that changes; false where an owner's check turns one down. -/
def State.stackSet (s : State) (pos overlay : Nat) (recs : List (Nat × Nat)) (n : Nat) : Bool × State :=
  let old := s.ovl.recs.getD pos []
  let keys := stackKeys old recs
  let was := keys.map (fun k => (k, s.liveAt k))
  let s : State := { s with ovl := { s.ovl with stack := setAt s.ovl.stack pos overlay, recs := setAt s.ovl.recs pos recs, commit := setAt s.ovl.commit pos n } }
  -- the base of an object that comes under the stack is what it held before
  was.foldl (fun (acc : Bool × State) w =>
    let p := acc.2.stackMove pos w.2 n w.1
    (acc.1 && p.1, p.2)) (true, s)

/-- A counter of OverlayCounters (R331): 1 Applied, 2 Removed, 3 Refused, 4 Replaced. -/
def State.ovlCount (s : State) (i : Nat) : State := s.setObj 0x9023 i ((s.obj 0x9023 i + 1) % 2 ^ 32)

/-- A cue's staging begins (R44): an overlay's contents are read and checked (R329). -/
def State.cueStage (s : State) (c : Cue) : Cue :=
  let recs := if c.action = 1 then s.overlay c.overlay else []
  if c.action = 1 ∨ c.action = 2 then
    { c with staging := true, writes := recs, bad := !(s.stackSet c.pos (if c.action = 1 then c.overlay else 255) recs c.pick).1 }
  else { c with staging := true }

/-- Staging of every cue whose pick has come within StageLead begins (R44); not while Treadle is disabled (R49). -/
def State.stageDue (s : State) : State :=
  if !s.is R.TRD_CTRL_Enable ∨ !s.time.running then s
  else
    let lead := s.get R.STAGE_LEAD_Lead
    ({ s with cues := s.cues.map (fun c => if !c.staging && decide (c.pick ≤ s.time.pick + lead) then s.cueStage c else c) } : State).cueStatus

/-- A push (R41 to R49, R453): the result code and the state; `off` the register written, 0 where the push is no register write. -/
def State.cuePush (s : State) (ws : List (BitVec 32)) (origin : CueOrigin) (off : Nat) : Nat × State :=
  let c := cueOf ws origin
  let code := s.cueCheck c (cueReserved ws)
  if code ≤ 1 then
    let s : State := { s with cues := s.cues ++ [c] }
    let s := if c.action = 3 then s.updTrans (c.arg0 % 65536) (fun x => { x with state := 3 }) else s
    (code, s.stageDue.cueStatus)
  else if code = 2 then (2, s.bump R.CNT_STALE_Count)
  else (code, (s.bump R.CNT_REFUSED_Count).report { code := 0x15, block := 43, addr := if off = 0 then 0 else regBase + off, detail := code })

/-- A cancel (R49): the cue with the key leaves the queue. -/
def State.cueCancel (s : State) (pick order : Nat) : Nat × State :=
  match s.cues.find? (fun c => decide (c.pick = pick ∧ c.order = order)) with
  | none => (0x0B, s)
  | some c => (0x0C, (({ s with cues := s.cues.filter (fun d => !d.sameKey c) } : State).cueDiscard c 3).cueStatus)

/-- The eight words of staging window k. -/
def State.windowCue (s : State) (k : Nat) : List (BitVec 32) := s.rdWords (R.W_PICK_LO k) 8

/-- A write of Wk_CMD (R41): push or cancel. Both at once are refused with BadArg, while TRD_CTRL.Enable is 0 too: the TREADLE block's
text and the first step of R453 name different codes there (DESIGN CHOICE, notes/assumptions/25.md). -/
def State.windowCmd (s : State) (k v : Nat) : State :=
  let off := R.W_CMD k
  let fin := fun (p : Nat × State) => p.2.result (R.W_RESULT_Code k) (R.W_RESULT_Seq k) p.1
  if bitOf v 0 ∧ bitOf v 1 then
    fin (6, (s.bump R.CNT_REFUSED_Count).report { code := 0x15, block := 43, addr := regBase + off, detail := 6 })
  else if bitOf v 0 then fin (s.cuePush (s.windowCue k) (.window k) off)
  else if bitOf v 1 then
    let c := cueOf (s.windowCue k) (.window k)
    fin (s.cueCancel c.pick c.order)
  else s

/-- A write of TRD_CTRL (R49): when Enable returns to 1, staging resumes. -/
def State.trdCtrlWrite (s : State) (v : Nat) : State := (s.wrRW R.TRD_CTRL v).stageDue

/-- The origin of a cue that comes by a path. -/
def originOf : CuePath → CueOrigin
  | .window k => .window k
  | .firmware => .firmware
  | .writeAt port ip udp => .lcp port ip udp

/-- CUE_PUSH (R453): from a staging window, whose own words are pushed, or from the firmware or a WRITE_AT message, whose words come
with the command. -/
def execCuePush (path : CuePath) (words : List (BitVec 32)) (s : State) : Host.Outcome State Fault Refusal := s.accept (path.wf) fun s =>
  (match path with
   | .window k => s.windowCmd k 1
   | p => let (c, s) := s.cuePush words (originOf p) 0; s.send (.opResult 0x9110 0 c)).done

/-- CUE_CANCEL (R49). -/
def execCueCancel (path : CuePath) (pick order : Nat) (s : State) : Host.Outcome State Fault Refusal := s.accept (path.wf) fun s =>
  (match path with
   | .window k => s.windowCmd k 2
   | _ => let (c, s) := s.cueCancel pick order; s.send (.opResult 0x9111 0 c)).done

/-- CUE_ARMED (R44): the staging of a cue is complete; an XpCommit is armed when Heddle has applied its edits (R212). While Treadle is
disabled nothing is staged (R49). -/
def execCueArmed (pick order : Nat) (s : State) : Host.Outcome State Fault Refusal := s.live fun s =>
  (if !s.is R.TRD_CTRL_Enable then s
   else ({ s with cues := s.cues.map (fun c => if c.pick = pick ∧ c.order = order ∧ c.staging ∧ c.action ≠ 3 then { c with armed := true } else c) } : State).cueStatus).done

/-- XP_EDITS_APPLIED: the XpCommit cue of a transaction is armed, where its staging has begun (R212). -/
def execXpEditsApplied (id : Nat) (s : State) : Host.Outcome State Fault Refusal := s.accept (below id 65536) fun s =>
  (if !s.is R.TRD_CTRL_Enable then s
   else ({ s with cues := s.cues.map (fun c => if c.action = 3 ∧ c.arg0 % 65536 = id ∧ c.staging then { c with armed := true } else c) } : State).cueStatus).done

/-- A read of DONE_INFO (R45): the oldest record leaves the log and its words are latched. -/
def State.donePop (s : State) : Nat × State :=
  match s.doneLog with
  | [] => (0xFF00, s)
  | d :: ds =>
    let s := ({ s with doneLog := ds } : State).put64 R.DONE_PICK_LO_Pick R.DONE_PICK_HI_Pick d.pick
    (d.action + d.status * 2 ^ 8 + d.order * 2 ^ 16, s.put R.DONE_EXEC_ExecLo d.exec)

/-- DONE_INFO_POP. -/
def execDoneInfoPop (s : State) : Host.Outcome State Fault Refusal := s.live fun s =>
  let (v, s) := s.donePop
  (s.send (.readData R.DONE_INFO v)).done

-- ## What each action does at its commit (R43, R45 to R47, R329)

/-- What a RateChange or a Rebase clears (R46), index n being the next that is computed: the source buffer with the decimator outputs that wait
for it, jitter queues, packets in assembly, delay lines, chain histories, detectors. -/
def State.clearAudio (s : State) (n : Nat) : State :=
  ((((({ s with src := [], dec := { s.dec with vals := [] } } : State).warpRestart.txRenumber n).filtClear).detClear).ringsRestart).tdmClear

/-- Syncs that fall with a RateChange's own are merged into it (R239). -/
def State.decMerge (s : State) (p cues : Nat) : State :=
  let n := cues + (if s.dec.syncNow then 1 else 0) + (if s.dec.pin.contains p then 1 else 0)
  let s : State := { s with dec := { s.dec with syncNow := false, pin := s.dec.pin.filter (fun q => decide (p < q)) } }
  if s.is R.DEC_CTRL_Enable then s.add R.CNT_DEC_MERGED_Count n else s

/-- The commit of a RateChange for pick n, the first of a whole second (R46): index n takes its new number, which is answered; none
where the family changes, because no index is computed until the counter resumes. The next strobe's number is taken from boundaries that
are not rounded, which at a fourfold rate is k0 + 5 (DESIGN CHOICE, notes/assumptions/25.md). -/
def State.rateCommit (s : State) (n code : Nat) : Option Nat × State :=
  let old := s.fs
  let new := rateHz code
  let k0 := n / old * new
  let was := s.get R.TIME_STATUS_RateNow
  let cross := decide (rateFamily code ≠ rateFamily was)
  let s := ((s.bump R.CNT_RATECHANGE_Count).put R.TIME_CTRL_Rate code).put R.TIME_STATUS_RateNow code
  let s := (((s.clearAudio k0).heddleRate.decRate k0).xpStatus).filtStatus
  if cross then
    let s : State := { s with time := { s.time with pick := k0, running := false }, dec := { s.dec with pin := [] } }
    (none, ((s.put R.TIME_STATUS_RateSwitching 1).tdmIdle).familyChange was)
  else (some k0, { s with time := { s.time with pick := k0 + ceilDiv new old } })

/-- The commit of a Rebase at the strobe that computes index n (R47): the timekeeper and the pick count move by K picks, which are answered; none
where no jump is pending. Index n itself is computed under its own number; what is numbered moves after it (`State.renumber`). -/
def State.rebaseCommit (s : State) (n : Nat) : Option Int × State :=
  if !s.is R.TIME_STATUS_JumpPending then (none, s)
  else
    let off := s.get64I R.TIME_JUMP_OFFSET_LO_Offset R.TIME_JUMP_OFFSET_HI_Offset
    let fs := s.fs
    let k := divRoundAway (off * fs) 1000000000
    let m := ((s.time.pick : Int) + k).toNat
    let units : Int := (boundary fs m : Int) - boundary fs s.time.pick
    let s := s.clearAudio n
    let s : State := { s with time := { s.time with pick := m, tai := s.edge m, taiRem := 0 } }
    let rest := off - divRoundAway units 65536
    let s := (s.reedRebase units).put64I R.TIME_JUMP_OFFSET_LO_Offset R.TIME_JUMP_OFFSET_HI_Offset rest
    let s := s.putB R.TIME_STATUS_JumpPending (decide (max 1 (s.get R.TIME_STEP_LIMIT_LimitNs) ≤ rest.natAbs))
    (some k, s.bump R.CNT_REBASE_Count)

/-- After the index of a strobe at which the pick count has jumped: a Rebase has moved it by k; with none, a RateChange has skipped numbers or has
put the index that follows next (R46, R47, R219, R237). Streams begin anew with index m, the next that is computed. -/
def State.renumber (s : State) (k : Option Int) (e m : Nat) : State :=
  match k with
  | some k => (((s.heddleMove k (m - 1)).decMove k).tdmMove (fun p => ((p : Int) + k).toNat)).txRenumber m
  | none =>
    let s : State := { s with dec := { s.dec with pin := if s.dec.pin = [] then [] else [m - 1] } }
    let s := (s.tdmMove (fun _ => m - 1)).updH (fun h => { h with last := some (m - 1) })
    if m ≤ e + 2 then s else s.ringsRestart

/-- The commit of an OverlayApply or an OverlayRemove at index n (R329). -/
def State.overlayCommit (s : State) (c : Cue) (n : Nat) : State :=
  let held := decide (s.ovl.stack.getD c.pos 255 ≠ 255)
  let s := (s.stackSet c.pos (if c.action = 1 then c.overlay else 255) c.writes n).2
  if c.action = 1 then (if held then s.ovlCount 4 else s).ovlCount 1 else s.ovlCount 2

/-- An ObjectWrite at its commit (R45, R49): checked again; a field a host wrote in the pick keeps the host's value, but of two swap requests the
cue's acts first (R263). -/
def State.objectCommit (s : State) (c : Cue) (n : Nat) : Bool × State :=
  let key := objKey c.index c.sub
  let host : Bool := match objFind c.index c.sub with
    | some (r, e) => s.hostWrote r e key
    | none => false
  let p := s.cueWrite c n
  if p.1.1 ≠ 0 then (false, s.report { code := 0x15, block := 43, detail := 9 })
  else if host ∧ !s.covered key ∧ ¬ (0x6040 ≤ c.index ∧ c.index < 0x6048) then (true, s)
  else (true, p.2)

/-- What a commit gathers: the index in force (none once the family changes), whether a RateChange was taken and for which pick, the picks by
which a Rebase has moved the count, the DecSync cues, and the keys cues have written. -/
structure Commit where
  index : Option Nat
  rate  : Option Nat := none
  moved : Option Int := none
  syncs : Nat := 0
  keys  : List Nat := []

/-- One cue's action at its commit; `st` what the commit has gathered. False: Refused. -/
def State.cueAct (s : State) (c : Cue) (st : Commit) : Bool × Commit × State :=
  let n := st.index.getD s.time.pick
  if c.action = 1 ∨ c.action = 2 then
    if c.bad then (false, st, s.ovlCount 3)
    else (true, { st with keys := st.keys ++ c.writes.map Prod.fst }, s.overlayCommit c n)
  else if c.action = 3 then (true, st, s.xtCommit (c.arg0 % 65536) n)
  else if c.action = 4 then
    let (ok, s) := s.objectCommit c n
    (ok, { st with keys := st.keys ++ [objKey c.index c.sub] }, s)
  else if c.action = 5 then (true, st, s.updF (fun f => { f with cueReqs := f.cueReqs ++ [(c.arg0 % 1024, c.arg1 % 65536)] }))
  else if c.action = 6 then (true, { st with syncs := st.syncs + 1 }, s)
  else if c.action = 7 then (true, st, s.phaseSubmit ⟨toSigned 64 (c.arg0 + c.arg1 * 2 ^ 32), bitOf c.arg2 0⟩)
  else if c.action = 8 then
    let p := if c.arg0 % 65536 = 0 then 4800 else c.arg0 % 65536
    (true, st, (((s.realignDue n).filtRealign n p).detRealign n p).agreePoint)
  else if c.action = 9 then
    let (k, s) := s.rateCommit n (c.arg0 % 8)
    (true, { st with index := k, rate := some c.pick }, s)
  else if c.action = 10 then
    let (k, s) := s.rebaseCommit n
    (k.isSome, { st with moved := match k with | some k => some (st.moved.getD 0 + k) | none => st.moved }, s)
  else (true, st, s.bump R.CNT_MARK_Count)

/-- One due cue at strobe m, its lateness judged first (R46, R48). -/
def State.cueRun (s : State) (m : Nat) (c : Cue) (st : Commit) : Commit × State :=
  let s : State := { s with cues := s.cues.filter (fun d => !d.sameKey c) }
  let l := m - 1 - c.pick
  if 0 < l ∧ (s.get R.LATE_LIMIT_Limit < l ∨ c.noLate ∨ c.action = 9) then (st, s.cueDiscard c 2)
  else
    let first := st.index.getD (m - 1)
    let (ok, st, s) := s.cueAct c st
    let s := if 0 < l then s.bump R.CNT_LATE_Count else s
    (st, s.cueDone c (if !ok then 4 else if 0 < l then 1 else 0) first)

/-- CUE_COMMIT at strobe m (R45 to R49). -/
def State.cueCommit (s : State) (m : Nat) : Commit × State :=
  if !s.is R.TRD_CTRL_Enable then ({ index := some (m - 1) }, s)
  else
    -- a RateChange for pick m - 1 that is not armed is stale (R46)
    let s := (s.cues.filter (fun c => decide (c.action = 9 ∧ c.pick + 1 = m) && !c.armed)).foldl (fun (t : State) c =>
      ({ t with cues := t.cues.filter (fun d => !d.sameKey c) } : State).cueDiscard c 2) s
    let due := cueSort (s.cues.filter (fun c => c.armed && decide (c.pick + 1 ≤ m)))
    let (st, s) := due.foldl (fun (acc : Commit × State) c => acc.2.cueRun m c acc.1) ({ index := some (m - 1) }, s)
    let s := match st.rate with
      | none => s
      | some p => (cueSort (s.cues.filter (fun c => decide (p < c.pick)))).foldl (fun (t : State) c =>
          ({ t with cues := t.cues.filter (fun d => !d.sameKey c) } : State).cueDiscard c 3) s
    (st, s.cueStatus)

-- ## TIME_CTRL (R38)

/-- TIME_CTRL_WRITE. -/
def execTimeCtrlWrite (v : Nat) (s : State) : Host.Outcome State Fault Refusal := s.accept (below v (2 ^ 32)) fun s => (s.timeCtrlWrite v).done

end Sys2Proof.Machine
end

