-- ==== Sys2Proof/Machine/Patterns.lean ====
section
/-!
DEFINITION. Records (R305), the writes of a pattern or an epoch taken together, patterns (R324 to R326), overlay definitions and
deferred changes (R327, R329), and the flash operations behind them (R411).
-/
namespace Sys2Proof.Machine

-- ## Records (R305)

/-- A record's bytes: the 8-byte header, and the value padded to a multiple of 4. -/
def EpRec.bytes (r : EpRec) : List Byte :=
  leBytes 2 r.index ++ leBytes 1 r.sub ++ leBytes 1 r.kind ++ leBytes 4 r.value.length ++ pad4 r.value

/-- The records of a byte string, `fuel` of them at most; none where they do not fit it exactly. -/
def recsOf : Nat → List Byte → Option (List EpRec)
  | _, [] => some []
  | 0, _ :: _ => none
  | n + 1, b :: bs =>
    let m := b :: bs
    let len := leNat ((m.drop 4).take 4)
    let all := 8 + (len + 3) / 4 * 4
    if m.length < all then none
    else (recsOf n (m.drop all)).map (fun rs =>
      ({ index := leNat (m.take 2), sub := leNat ((m.drop 2).take 1), kind := leNat ((m.drop 3).take 1), value := (m.drop 8).take len } : EpRec) :: rs)

/-- The base value of an object as bytes. -/
def State.recNow (s : State) (r : ObjRow) (e index sub : Nat) : List Byte :=
  match typeBytes r.typ with
  | some k => leBytes k (s.objBase r e index sub)
  | none => s.blobNow e index sub

/-- Every object whose row carries a flag bit (0 S, 1 O, 2 P, 3 M), with its index and subindex. -/
def flagged (bit : Nat) : List (ObjRow × Nat × Nat × Nat) :=
  (objTable.filter (fun r => bitOf r.flags bit)).flatMap (fun r =>
    (List.range r.total).filterMap (fun e => if r.skip ≤ e then some (r, e, r.lo + e / r.per, r.first + e % r.per) else none))

/-- An object's value written, with effect from index n, the host's marks left as they are: false where its owner refuses it. -/
def State.recPut (s : State) (rec : EpRec) (n : Nat) : Bool × State :=
  match objFind rec.index rec.sub with
  | none => (false, s)
  | some (r, e) =>
    if s.recNow r e rec.index rec.sub = rec.value then (true, s)
    else match typeBytes r.typ with
      | some k =>
        let v := leNat rec.value
        if rec.value.length ≠ k ∨ ¬ s.valueOk r e rec.index rec.sub v then (false, s)
        else
          let p := s.objSet r e rec.index rec.sub v (some n)
          (decide (p.1.1 = 0), p.2)
      | none =>
        let p := s.blobPut r e rec.index rec.sub (if rec.index = 0x6070 then leBytes 4 0 ++ rec.value else rec.value)
        (decide (p.1.1 = 0), { p.2 with marks := s.marks })

/-- The order in which the writes of one strobe go in: the rate, the pool, queues, then by index; what enables after what it enables. -/
def recRank (r : EpRec) : Nat :=
  if r.index = 0x2000 then 0 else if r.index = 0xF400 ∨ r.index = 0xF401 then 1 else if 0xF410 ≤ r.index ∧ r.index < 0xF420 then 2
  else if 0x6000 ≤ r.index ∧ r.index < 0x6008 ∨ r.index = 0x7000 ∨ 0x5040 ≤ r.index ∧ r.index < 0x5080 then 4 else 3

/-- A chain goes Off and forgets its state. -/
def State.chainOff (s : State) (j : Nat) : State :=
  (s.updChain j (fun c => ({ c with cfg := wfSet c.cfg R.FC_CFG R.FC_CFG_Enable 0 } : Chain).fresh)).filtStatus

/-- A record that would change a locked field of a running entry: the entry passes through Off (R325). Answers what must be put back
where the set itself does not write it. -/
def State.recOff (s : State) (rec : EpRec) (n : Nat) : List EpRec × State :=
  match objFind rec.index rec.sub with
  | none => ([], s)
  | some (r, e) =>
    let i := rec.index
    let keep : EpRec := { rec with value := s.recNow r e i rec.sub }
    let ws := wordsOf rec.value
    if keep.value = rec.value then ([], s)
    else if 0x4000 ≤ i ∧ i < 0x4008 then
      let old := (s.rxs e).cfg
      if (s.rxs e).valid ∧ seFree ws old ≠ old then ([keep], (s.seStore e (wfSet old R.SE_CTRL R.SE_CTRL_Valid 0)).rxWordsTake e n) else ([], s)
    else if 0x4100 ≤ i ∧ i < 0x4108 then
      let old := (s.txs e).cfg
      if (s.txs e).valid ∧ txFree ws old ≠ old then ([keep], (s.txStore e (wfSet old R.TX_CTRL R.TX_CTRL_Valid 0)).txTake e n) else ([], s)
    else if 0x6000 ≤ i ∧ i < 0x6008 then
      let old := s.chain e
      if fcOn old.cfg ∧ (fcFir ws ≠ fcFir old.cfg ∨ fcF ws R.FC_CFG_Length ≠ fcF old.cfg R.FC_CFG_Length
          ∨ fcBase ws old.active ≠ fcBase old.cfg old.active) then ([keep], s.chainOff e) else ([], s)
    else if i = 0x6070 then
      let moved := fun (w : Nat) => decide (ws.getD w 0#32 ≠ s.coefAt w)
      let js := (s.filt.chains.filter (fun x => x.2.locks.any (fun b => (List.range (b.2 - b.1)).any (fun k => moved (b.1 + k))))).map Prod.fst
      (js.map (fun j => { index := 0x6000 + j / 128, sub := j % 128 + 1, kind := 0, value := bytesOf (s.chain j).cfg }),
       js.foldl (fun t j => t.chainOff j) s)
    else if i = 0x7001 then
      if s.is (R.TDM_CTRL_Enable e) then
        let v := (s.rd (R.TDM_CTRL e)).toNat
        ([{ index := 0x7000, sub := e + 1, kind := 0, value := leBytes 1 v }], s.tdmCtrlWrite e (setBits v 0 1 0))
      else ([], s)
    else if i = 0x6810 then
      if s.is (R.DEC_GRP_Enable e) then ([keep], s.decGrpWrite e (setBits (s.rd (R.DEC_GRP e)).toNat 0 1 0)) else ([], s)
    else if 0x5080 ≤ i ∧ i < 0x50C0 then
      let d := dsF (s.dest e).cfg R.DS_DELAY_Delay
      if leNat rec.value < d then
        ([{ index := i - 0x40, sub := rec.sub, kind := 0, value := leBytes 4 d }],
         s.updDest e (fun x => { x with cfg := wfSet x.cfg R.DS_PATCH R.DS_DELAY_Delay 0 }))
      else ([], s)
    else if 0xF410 ≤ i ∧ i < 0xF420 then
      let v := s.queue e
      let w := v.ofWords ws
      if v.enable ∧ (w.cls ≠ v.cls ∨ w.cutThru ≠ v.cutThru ∨ w.maxItem ≠ v.maxItem ∨ w.readers ≠ v.readers) then
        ([keep], (s.qWrite e ((({ v with enable := false } : Queue)).words)).2)
      else ([], s)
    else ([], s)

/-- Writes taken together with effect from index n (R306, R325): false where one fails its owner's check. -/
def State.recsPut (s : State) (recs : List EpRec) (n : Nat) : Bool × State :=
  let isQ := fun (r : EpRec) => decide (0xF410 ≤ r.index ∧ r.index < 0xF420)
  let off := (recs.filter (fun r => !isQ r) ++ recs.filter isQ).foldl (fun (acc : List EpRec × State) r =>
    let p := acc.2.recOff r n
    (acc.1 ++ p.1, p.2)) ([], s)
  let back := off.1.filter (fun b => !recs.any (fun r => decide (r.index = b.index ∧ r.sub = b.sub)))
  let all := recs ++ back
  let sorted := (List.range 5).flatMap (fun k => all.filter (fun r => decide (recRank r = k)))
  sorted.foldl (fun (acc : Bool × State) r =>
    let p := acc.2.recPut r n
    (acc.1 && p.1, p.2)) (true, off.2)

-- ## Flash (R411)

/-- Bytes written to the flash. -/
def State.flashPut (s : State) (a : Nat) (bs : List Byte) : State :=
  { s with flash := { s.flash with mem := Memory.writeBytes s.flash.mem a bs } }

/-- Where pattern slot p lies (R324, R411). -/
def slotAddr (p : Nat) : Nat := 0x800000 + p * 0x400000

-- ## Pattern images (R324, R326)

/-- The records of every P object whose base value is not its default, and of every overlay definition. -/
def State.patternRecs (s : State) : List EpRec :=
  ((flagged 2).filterMap (fun p =>
    let (r, e, i, j) := p
    if i = 0x9020 then none
    else
      let v := s.recNow r e i j
      if v = State.reset.recNow r e i j then none else some ({ index := i, sub := j, kind := 0, value := v } : EpRec)))
  ++ s.ovl.defs.map (fun d => ({ index := 0x9020, sub := d.1 + 1, kind := 2, value := d.2 } : EpRec))

/-- A pattern image of slot p that holds these records (R324). -/
def State.patternImage (s : State) (p : Nat) (recs : List EpRec) : List Byte :=
  let body := recs.flatMap EpRec.bytes
  let head := [0x57#8, 0x44#8, 0x58#8, 0x50#8] ++ leBytes 2 1 ++ leBytes 1 p ++ leBytes 1 (s.get R.TIME_STATUS_RateNow) ++ leBytes 4 recs.length
    ++ leBytes 4 body.length ++ sliceB (s.blob 0x1212 0) 0 32 ++ leBytes 4 (crc32c body) ++ leBytes 4 (s.time.tai / unitsPerSec) ++ leBytes 8 0
  head ++ body ++ (hmac s.domainKey (head ++ body)).take 16

/-- The records of an image, and the conditions of R325 that lie in the image itself: 0, or 2 Corrupt, 3 Auth, 4 Version. -/
def State.imageCheck (s : State) (p : Nat) (img : List Byte) : Nat × List EpRec :=
  let b := leNat ((img.drop 12).take 4)
  let body := (img.drop 64).take b
  let recs := recsOf (body.length / 8 + 1) body
  if img.take 4 ≠ [0x57#8, 0x44#8, 0x58#8, 0x50#8] ∨ img.length ≠ 80 + b ∨ leNat ((img.drop 6).take 1) ≠ p
      ∨ leNat ((img.drop 48).take 4) ≠ crc32c body ∨ (recs.map List.length) ≠ some (leNat ((img.drop 8).take 4)) then (2, [])
  else if img.drop (64 + b) ≠ (hmac s.domainKey (img.take (64 + b))).take 16 then (3, [])
  else if leNat ((img.drop 4).take 2) ≠ 1 then (4, [])
  else (0, recs.getD [])

/-- What a load writes (R325): every P object at its value in the image, or at its default. -/
def loadRecs (recs : List EpRec) : List EpRec :=
  (flagged 2).filterMap (fun p =>
    let (r, e, i, j) := p
    if i = 0x9020 then none
    else match recs.find? (fun x => decide (x.kind = 0 ∧ x.index = i ∧ x.sub = j)) with
      | some x => some x
      | none => some { index := i, sub := j, kind := 0, value := State.reset.recNow r e i j })

/-- The stack is cleared: every covered object, and every one that waits for a deferred change, returns to its base value. -/
def State.stackClear (s : State) (n : Nat) : State :=
  let old := s.ovl.base
  let t : State := { s with ovl := { s.ovl with stack := [255, 255, 255, 255], recs := [[], [], [], []], base := [], later := [] } }
  old.foldl (fun (u : State) b => match b.2, objFind (b.1 / 256) (b.1 % 256) with
    | some v, some (r, e) => if r.acc = 2 then u else (u.objPut r e (b.1 / 256) (b.1 % 256) v (some n)).2
    | _, _ => u) t

/-- A load's effect from index n (R325): false where a check of R4 fails. -/
def State.patternSet (s : State) (slot : Nat) (recs : List EpRec) (n : Nat) : Bool × State :=
  let p := (s.stackClear n).recsPut (loadRecs recs) n
  let defs := recs.filter (fun r => decide (r.kind = 2 ∧ r.index = 0x9020 ∧ 1 ≤ r.sub ∧ r.sub ≤ 64))
  let t : State := { p.2 with ovl := { p.2.ovl with defs := defs.foldl (fun m r => tput [] (r.sub - 1) r.value m) [] } }
  (p.1, t.setObj 0x9000 0 slot)

/-- The code of a load of slot n whose image is `img` (R325). -/
def State.loadCode (s : State) (n : Nat) (img : List Byte) : Nat × List EpRec :=
  let (c, recs) := s.imageCheck n img
  if img = [] then (1, [])
  else if c ≠ 0 then (c, [])
  else if s.flash.busy.isSome then (5, [])
  else if s.heddle.trans.any (fun x => decide (x.state ≥ 2)) ∨ s.pendingRate.isSome then (6, [])
  else if s.is R.TIME_CTRL_Run ∧ leNat ((img.drop 7).take 1) ≠ s.get R.TIME_STATUS_RateNow then (7, [])
  else if !(s.patternSet n recs s.time.pick).1 then (8, [])
  else (0, recs)

/-- A write of PatternLoad (R325): a load that passes applies at the next strobe, or is written at once while no strobe is raised; the flash is
busy until the end of the operation, where the result is given. While another operation runs, the load's code is given at once. -/
def State.patternLoad (s : State) (n : Nat) (asker : Asker) : State :=
  let (c, recs) := s.loadCode n (s.image n)
  if c ≠ 0 ∧ s.flash.busy.isSome then (if asker = .none then s.send (.opResult 0x9002 0 c) else s)
  else
    let s := if c ≠ 0 then s
      else if s.time.running then { s with patDue := some (n, recs) }
      else (s.patternSet n recs s.time.pick).2
    { s with flash := { s.flash with busy := some (.load n c asker) } }

/-- At strobe n, after its cues and host shadows (R325). -/
def State.patternStrobe (s : State) (n : Nat) : State := match s.patDue with
  | none => s
  | some (p, recs) => (({ s with patDue := none } : State).patternSet p recs n).2.takeAll n

/-- A write of PatternSave (R326): busy, or the image is formed from the base values and the flash operation begins. -/
def State.patternSave (s : State) (n : Nat) (asker : Asker) : State :=
  if s.flash.busy.isSome then (if asker = .none then s.send (.opResult 0x9003 0 5) else s)
  else { s with flash := { s.flash with busy := some (.save n (s.patternImage n s.patternRecs) asker) } }

/-- PATTERN_LOAD (R325); a slot number above 7 is no value of the object. -/
def execPatternLoad (n : Nat) (s : State) : Host.Outcome State Fault Refusal := s.accept (below n 8) fun s => (if n < 8 then s.patternLoad n .none else s).done

/-- PATTERN_SAVE (R326). -/
def execPatternSave (n : Nat) (s : State) : Host.Outcome State Fault Refusal := s.accept (below n 8) fun s => (if n < 8 then s.patternSave n .none else s).done

/-- A PatternImage write (R324): the result code of its check; an image that passes is stored by a flash operation. -/
def State.imageWrite (s : State) (n : Nat) (data : List Byte) (asker : Asker) : Nat × State :=
  let (c, _) := s.loadCode n data
  (c, if c = 0 then { s with flash := { s.flash with busy := some (.save n data asker) } } else s)

/-- PATTERN_IMAGE_WRITE: the result of the check is given at once. -/
def execPatternImageWrite (n : Nat) (data : List (BitVec 8)) (s : State) : Host.Outcome State Fault Refusal := s.accept (below n 8) fun s =>
  (if n < 8 then
     let (c, t) := s.imageWrite n data .told
     t.send (.opResult 0x9004 (n + 1) c)
   else s).done

/-- The start-up load of BootPattern (R326): a load that fails leaves PatternActive at 0xFF and writes a record. -/
def State.bootPattern (s : State) : State :=
  if s.flash.boot = 255 ∨ s.is R.TIME_CTRL_Run then s
  else
    let (c, recs) := s.loadCode s.flash.boot (s.image s.flash.boot)
    if c ≠ 0 then (s.setObj 0x9000 0 255).report { code := 0x30, block := 51, write := false, detail := c }
    else (s.patternSet s.flash.boot recs s.time.pick).2

-- ## Overlays (R327, R329)

/-- OVERLAY_DEF_WRITE (R327). -/
def execOverlayDefWrite (k : Nat) (data : List (BitVec 8)) (s : State) : Host.Outcome State Fault Refusal := s.accept (below k 64) fun s =>
  (if k < 64 then
     let c := s.overlayCheck k data
     (if c = 0 then s.overlayPut k data else s).send (.opResult 0x9020 (k + 1) c)
   else s).done

/-- The objects without flag S take their live values together at one strobe (R329). -/
def State.deferredApply (s : State) : State :=
  let n := s.time.pick
  let keys := s.ovl.later
  let t : State := { s with ovl := { s.ovl with later := [] } }
  let t := keys.foldl (fun (u : State) p =>
    let u := p.2.foldl (fun (u : State) key => match objFind (key / 256) (key % 256) with
      | some (r, e) =>
        let i := key / 256
        let j := key % 256
        let v := u.objLive r e i j
        let w := (u.objPut r e i j v (some n)).2
        if w.covered key then w else { w with ovl := { w.ovl with base := tput none key none w.ovl.base } }
      | none => u) u
    { u with ovl := { u.ovl with defer := setAt u.ovl.defer p.1 n } }) t
  if keys = [] then s else t.takeAll n

/-- OVERLAY_DEFERRED_APPLY. -/
def execOverlayDeferredApply (s : State) : Host.Outcome State Fault Refusal := s.live fun s => s.deferredApply.done

end Sys2Proof.Machine
end

