-- ==== Sys2Proof/Machine/Epoch.lean ====
section
/-!
DEFINITION. State copy: epochs built, received and applied, and the Ctrl frames of Selvedge (13_pair_redundancy.md, R300, R304 to
R308). The values carried are base values together with OverlayStack (R328); the numbers of Copy and Commit frames are four bytes
each, most significant first, and records are little-endian, as pattern images hold them.
-/
namespace Sys2Proof.Machine

-- ## What an epoch carries (R304, R305)

/-- A cue in its 32-byte form (R41). -/
def Cue.bytes (c : Cue) : List Byte :=
  leBytes 8 c.pick ++ leBytes 1 c.action ++ leBytes 1 ((if c.noLate then 1 else 0) + (if c.notify then 2 else 0)) ++ leBytes 2 c.order
    ++ leBytes 2 c.issuer ++ leBytes 2 0 ++ leBytes 4 c.arg0 ++ leBytes 4 c.arg1 ++ leBytes 4 c.arg2 ++ leBytes 4 c.arg3

/-- Every object with flag M at its base value, every overlay, and the versions of the session descriptions (R163, R304), each as a record
of its TxSdp. -/
def State.epochValues (s : State) : List EpRec :=
  ((flagged 3).filterMap (fun p =>
    let (r, e, i, j) := p
    if i = 0x9020 then none else some ({ index := i, sub := j, kind := 0, value := s.recNow r e i j } : EpRec)))
  ++ (List.range 64).map (fun k => ({ index := 0x9020, sub := k + 1, kind := 2, value := tget [] s.ovl.defs k } : EpRec))
  ++ s.tx.map (fun (e : Nat × TxStream) =>
    ({ index := 0x4140 + e.1 / 128, sub := e.1 % 128 + 1, kind := 0, value := leBytes 4 e.2.sdpVersion } : EpRec))

/-- The pending cues as records. -/
def State.epochCues (s : State) : List EpRec := s.cues.map (fun c => { index := 0x9110, sub := 0, kind := 1, value := c.bytes })

/-- The Copy frames of an epoch's bytes, 1,016 at a time. -/
def State.copySend (s : State) (e : Nat) (body : List Byte) : State :=
  s.forN ((body.length + 1015) / 1016) (fun k t => t.svSend 3 (beBytes 4 e ++ beBytes 4 (1016 * k) ++ (body.drop (1016 * k)).take 1016))

/-- This unit sends epochs now: it is the sender, the link is Up and copying is enabled. -/
def State.epochSends (s : State) : Bool := s.senderNow && s.svUp && s.is R.SV_CTRL_CopyEnable

/-- EPOCH_BUILD (R305, R308): the next epoch, full where one is owed or the partner's last acknowledged epoch is not known. -/
def State.epochBuild (s : State) : State :=
  if !s.epochSends then s
  else
    let e := (s.get R.EPOCH_TX_Epoch + 1) % 2 ^ 32
    let ack := s.get R.EPOCH_ACK_Epoch
    let values := s.epochValues
    let base := if s.sv.full then none else s.sv.sent.find? (fun x => decide (x.1 = ack))
    let part := match base with
      | none => values
      | some b => values.filter (fun r => !b.2.contains r)
    let ledger := s.sv.ledger.map (fun b => ({ index := 0xA060, sub := 0, kind := 3, value := b } : EpRec))
    let recs := part ++ s.epochCues ++ ledger
    let body := recs.flatMap EpRec.bytes
    let from_ := match base with | none => 0 | some b => b.1
    let s := (s.copySend e body).svSend 4 (beBytes 4 e ++ beBytes 4 from_ ++ beBytes 4 body.length ++ beBytes 4 recs.length ++ beBytes 4 (crc32c body))
    (s.put R.EPOCH_TX_Epoch e).updSv (fun v => { v with full := false, ledger := [], sent := v.sent ++ [(e, values)] })

/-- EPOCH_BUILD. -/
def execEpochBuild (s : State) : Host.Outcome State Fault Refusal := s.live fun s => s.epochBuild.done

/-- EPOCH_SEND_FULL (R308). -/
def State.epochSendFull (s : State) : State := s.updSv (fun v => { v with full := true })

/-- EPOCH_SEND_FULL. -/
def execEpochSendFull (s : State) : Host.Outcome State Fault Refusal := s.live fun s => s.epochSendFull.done

/-- A request for a full epoch, while the link is Up. -/
def State.epochRequestFull (s : State) : State := if s.svUp then s.send (.svCtrl .epochRequest) else s

/-- EPOCH_REQUEST_FULL (R308). -/
def execEpochRequestFull (s : State) : Host.Outcome State Fault Refusal := s.live fun s => s.epochRequestFull.done

-- ## Receiving (R305 to R307)

/-- A Copy frame's data placed at its offset; data beyond the end of what has come leaves the epoch short. -/
def copyAt (have_ : List Byte) (off : Nat) (data : List Byte) : List Byte :=
  if have_.length < off then have_ else have_.take off ++ data ++ have_.drop (off + data.length)

/-- A Copy frame. -/
def State.copyTake (p : List Byte) (s : State) : State :=
  if p.length < 8 ∨ ¬ s.svUp ∨ ¬ s.is R.SV_CTRL_CopyEnable then s
  else
    let e := beAt p 0 4
    let s := match s.sv.part with
      | some (n, _, _) => if n = e then s else s.partDrop
      | none => s
    let (have_, first) : List Byte × Nat := match s.sv.part with | some (_, b, t) => (b, t) | none => ([], s.xref)
    (s.updSv (fun v => { v with part := some (e, copyAt have_ (beAt p 4 4) (p.drop 8), first) })).put R.SV_STATUS_Receiving 1

/-- COPY_FRAME_RX. -/
def execCopyFrameRx (bytes : List (BitVec 8)) (s : State) : Host.Outcome State Fault Refusal := s.live fun s => (s.svTake 3 bytes State.copyTake).done

/-- EPOCH_TIMEOUT (R307). -/
def execEpochTimeout (s : State) : Host.Outcome State Fault Refusal := s.live fun s =>
  (match s.sv.part with
   | some (_, _, t) => (s.xrefTo (t + s.get R.EPOCH_CFG_TimeoutMs * cclkMs)).partDrop
   | none => s).done

-- ## Objects an epoch sets whole

/-- The transactions a value of XpPending names: ID, state and edits; none where the bytes are not well formed. -/
def pendingOf : Nat → List Byte → Option (List (Nat × Nat × List Edit))
  | _, [] => some []
  | 0, _ :: _ => none
  | n + 1, b :: bs =>
    let m := b :: bs
    let k := leNat ((m.drop 4).take 4)
    if m.length < 8 + 12 * k then none
    else (pendingOf n (m.drop (8 + 12 * k))).map (fun xs => (leNat (m.take 2), leNat ((m.drop 2).take 1), editsOf k (m.drop 8)) :: xs)

/-- XpPending set (R210, R213): the Sealed and Cued transactions become those of the value. A transaction that a cue will take is
Sealed until that cue is pushed; a Cued one that no cue names commits by itself. -/
def State.pendingSet (s : State) (v : List Byte) (cues : List Cue) : Bool × State :=
  match pendingOf 9 v with
  | none => (false, s)
  | some xs =>
    let has := fun (cs : List Cue) (id : Nat) => cs.any (fun c => decide (c.action = 3 ∧ c.arg0 % 65536 = id))
    let old := s.heddle.trans
    let kept := old.filter (fun x => decide (x.state = 1) && !xs.any (fun y => decide (y.1 = x.id)))
    let s := (s.updH (fun h => { h with trans := kept })).xtStatus
    xs.foldl (fun (acc : Bool × State) x =>
      let t := acc.2
      let slot := match old.find? (fun y => decide (y.id = x.1)) with
        | some y => some y.slot
        | none => (List.range 8).find? (fun k => !t.heddle.trans.any (fun y => decide (y.slot = k)) && !old.any (fun y => decide (y.slot = k) && xs.any (fun z => decide (z.1 = y.id))))
      match slot with
      | none => (false, t)
      | some k =>
        let (c, g) := t.sealCheck { slot := k, id := x.1, edits := x.2.2 }
        let direct := decide (x.2.1 = 3) && !has s.cues x.1 && !has cues x.1
        let st := if has s.cues x.1 ∨ direct then 3 else 2
        (acc.1 && decide (c = 0), (t.updH (fun h => { h with trans := h.trans ++ [{ slot := k, id := x.1, state := st, edits := x.2.2, growth := g, direct := direct }] })).xtStatus)) (true, s)

/-- OverlayStack set (R304, R328): every position whose overlay or contents differ changes at index n. -/
def State.stackTake (s : State) (v n : Nat) : Bool × State :=
  (List.range 4).foldl (fun (acc : Bool × State) j =>
    let k := bitsOf v (8 * j) 8
    let recs := acc.2.overlay k
    if acc.2.ovl.stack.getD j 255 = k ∧ acc.2.ovl.recs.getD j [] = recs then acc
    else
      let p := acc.2.stackSet j k recs n
      (acc.1 && p.1, p.2)) (true, s)

/-- The roster that a value of Roster spells; what the manager holds beside it is kept for the units it knows. -/
def rosterOf (old : List Member) : Nat → List Byte → List Member
  | 0, _ => []
  | n + 1, bs =>
    let r : RosterRec := { unit := leNat (bs.take 2), state := leNat ((bs.drop 2).take 1), role := leNat ((bs.drop 3).take 1), device := leNat ((bs.drop 4).take 8), partner := leNat ((bs.drop 12).take 2), flags := leNat ((bs.drop 14).take 1) }
    (match old.find? (fun m => decide (m.info.device = r.device)) with
     | some m => { m with info := r }
     | none => { info := r }) :: rosterOf old n (bs.drop 16)

/-- An epoch's values and overlays set with effect from index n (R306): false where a check of R4 fails. -/
def State.epochSet (s : State) (recs : List EpRec) (n : Nat) : Bool × State :=
  let cues := (recs.filter (fun r => decide (r.kind = 1))).map (fun r => cueOf (wordsOf r.value) .epoch)
  let s : State := (recs.filter (fun r => decide (r.kind = 2 ∧ r.index = 0x9020 ∧ 1 ≤ r.sub ∧ r.sub ≤ 64))).foldl (fun (t : State) r => t.overlayPut (r.sub - 1) r.value) s
  let whole := fun (r : EpRec) => decide (r.index = 0x1207 ∨ r.index = 0x5184 ∨ r.index = 0x9021 ∨ 0x4140 ≤ r.index ∧ r.index < 0x4148)
  let vals := recs.filter (fun r => decide (r.kind = 0))
  let p := s.recsPut (vals.filter (fun r => !whole r)) n
  (vals.filter whole).foldl (fun (acc : Bool × State) r =>
    let t := acc.2
    if r.index = 0x1207 then
      (acc.1, { t with dom := { t.dom with roster := rosterOf t.dom.roster (r.value.length / 16) r.value } })
    else if r.index < 0x5000 then
      (acc.1, t.updTx ((r.index - 0x4140) * 128 + r.sub - 1) (fun e => { e with sdpVersion := leNat r.value }))
    else if r.index = 0x5184 then
      (if t.blobNow 0 0x5184 0 = r.value then acc
       else
         let q := t.pendingSet r.value cues
         (acc.1 && q.1, q.2))
    else
      let q := t.stackTake (leNat r.value) n
      (acc.1 && q.1, q.2)) p

/-- The Commit's checks (R306): the records, where the epoch passes them all. -/
def State.commitCheck (s : State) (e base total count crc : Nat) (body : List Byte) : Option (List EpRec) :=
  let last := match s.sv.due with | some (d, _) => d | none => s.get R.EPOCH_APPLIED_Epoch
  if body.length ≠ total ∨ crc32c body ≠ crc ∨ (base ≠ 0 ∧ base ≠ last) ∨ e = 0 then none
  else match recsOf (body.length / 8 + 1) body with
    | none => none
    | some recs => if recs.length = count ∧ (s.epochSet recs s.time.pick).1 then some recs else none

/-- A Commit frame. -/
def State.commitTake (p : List Byte) (s : State) : State :=
  if p.length ≠ 20 ∨ ¬ s.svUp ∨ ¬ s.is R.SV_CTRL_CopyEnable then s
  else
    let e := beAt p 0 4
    let body := match s.sv.part with | some (n, b, _) => if n = e then b else [] | none => []
    let r := s.commitCheck e (beAt p 4 4) (beAt p 8 4) (beAt p 12 4) (beAt p 16 4) body
    let s := (s.updSv (fun v => { v with part := none })).put R.SV_STATUS_Receiving 0
    match r with
    | some recs => s.updSv (fun v => { v with due := some (e, recs) })
    | none => (s.bump R.CNT_EPOCH_REJECT_Count).epochRequestFull

/-- COMMIT_FRAME_RX. -/
def execCommitFrameRx (bytes : List (BitVec 8)) (s : State) : Host.Outcome State Fault Refusal := s.live fun s => (s.svTake 4 bytes State.commitTake).done

-- ## Applying (R306, R308)

/-- The cue of R308: a Realign for both units, at least StageLead and 1 ms ahead, Order 0xC000. The pair's first epoch is a point of agreement
(R162). -/
def State.realignPush (s : State) : State :=
  if s.sv.aligned then s
  else
    let s := (s.updSv (fun v => { v with aligned := true })).agreePoint
    let c : Cue := { pick := s.time.pick + s.get R.STAGE_LEAD_Lead + ceilDiv s.fs 1000 + 1, action := 8, order := 0xC000, issuer := s.get R.SH_UNIT_Unit }
    ((s.cuePush (wordsOf c.bytes) .epoch 0).2).send (.svCtrl (.cue c.bytes))

/-- The cues of an epoch merged by key at strobe a (R306). -/
def State.cueMerge (s : State) (a : Nat) (r : EpRec) : State :=
  let c := cueOf (wordsOf r.value) .epoch
  if s.cues.any (fun d => d.sameKey c) then s
  else if c.pick < a then s.bump R.CNT_EPOCH_LATECUE_Count
  else (s.cuePush (wordsOf r.value) .epoch 0).2

/-- A partner's ledger record: the last 64 are kept, newest first (R342). -/
def State.ledgerTake (s : State) (b : List Byte) : State := { s with partnerLedger := (b :: s.partnerLedger).take 64 }

/-- The checked epoch applied at strobe a, where index n is the first computed with it (R306). -/
def State.epochApply (s : State) (a n : Nat) : State := match s.sv.due with
  | none => s
  | some (e, recs) =>
    let s := s.updSv (fun v => { v with due := none })
    let s := ((s.epochSet recs n).2).takeAll n
    let s := (recs.filter (fun r => decide (r.kind = 1))).foldl (fun (t : State) r => t.cueMerge a r) s
    let s := (recs.filter (fun r => decide (r.kind = 3))).foldl (fun (t : State) r => t.ledgerTake r.value) s
    let s := ((s.put R.EPOCH_APPLIED_Epoch e).put64 R.EPOCH_PICK_LO_Pick R.EPOCH_PICK_HI_Pick n).bump R.CNT_EPOCH_APPLIED_Count
    (s.send (.svCtrl (.epochAck e))).realignPush

/-- EPOCH_APPLY: a checked epoch that no strobe has applied yet is applied as of the latest strobe. -/
def execEpochApply (s : State) : Host.Outcome State Fault Refusal := s.live fun s => (s.epochApply s.time.pick s.time.pick).done

-- ## Ctrl frames (R160, R300, R306, R308 to R310, R339)

/-- The packet digests of pick m, for the partner; none where they are no longer held (R160). -/
def State.digestReply (s : State) (m : Nat) : State :=
  s.send (.svCtrl (.digestAnswer m ((s.dig.hist.find? (fun e => decide (e.1 = m))).map Prod.snd)))

/-- An epoch acknowledged: the values of older ones are no longer needed. -/
def State.epochAcked (s : State) (e : Nat) : State :=
  (s.put R.EPOCH_ACK_Epoch e).updSv (fun v => { v with sent := v.sent.filter (fun x => decide (e ≤ x.1)) })

/-- A Ctrl frame's content. -/
def State.ctrlTake (s : State) (m : SvCtrl) : State := match m with
  | .digestAsk p => s.digestReply p
  | .digestAnswer p ds => s.pairAnswer p ds
  | .epochAck e => s.epochAcked e
  | .epochRequest => s.epochSendFull
  | .lease l => s.svLease l
  | .cue bytes => (s.cuePush (wordsOf bytes) .epoch 0).2
  | .plan xs =>
    let now := s.time.tai / unitsPerSec
    let ts := xs.foldl (fun (l : List (Nat × Nat × Nat)) x => tput (0, 0) x.1 (x.2, now) l) s.temple.theirs
    { s with temple := { s.temple with theirs := ts } }

/-- SELVEDGE_CTRL_RX: `ok` its CRC is good. -/
def execSelvedgeCtrlRx (m : SvCtrl) (ok : Bool) (s : State) : Host.Outcome State Fault Refusal := s.live fun s =>
  (if s.get R.SV_STATUS_State = 0 then s
   else if !ok then s.bump R.CNT_SV_CRC_Count
   else s.ctrlTake m).done

end Sys2Proof.Machine
end

