-- ==== Sys2Proof/Machine/Strobe.lean ====
section
/-!
DEFINITION. The pick strobe and the pipeline of a pick (01_architecture.md, R15 to R22), and the start of the pick counter (R38, R46).
-/
namespace Sys2Proof.Machine

/-- Time passes until a time of day: the CCLK count and XREF-derived time advance with it, at 104,857.6 units of 2^-16 ns to the CCLK;
the lease timers run. -/
def State.timeTo (s : State) (t : Nat) : State :=
  if t ≤ s.time.tai then s
  else
    let k := (t - s.time.tai) * 5 / 524288
    ({ s with time := { s.time with tai := t, taiRem := 0, cycles := (s.time.cycles + k) % 2 ^ 64 }, xref := s.xref + k } : State).leaseTimers

/-- The destinations that may hold a value other than 0: configured, fed by a crosspoint, or watched by a detector. -/
def State.destKeys (s : State) : List Nat :=
  ((s.heddle.dests.map Prod.fst ++ s.heddle.xps.map Xp.dst ++ (s.det.ents.map Prod.fst).filter (fun e => decide (e < 8192))).foldl
    (fun (m : List (Nat × Unit)) d => tins d () (terase d m)) []).map Prod.fst

/-- A destination's value for index n in the order of R19: sum, delay line, detector, limiter, requantiser; `bad` names the ring words
that read with an uncorrectable error, d the tap in force and 16,384 + d the tap a fade leaves. While HD_CTRL.Enable is 0 the value is 0. -/
def State.mixDest (s : State) (half : List (Nat × BitVec 32)) (bad : List Nat) (n d : Nat) : State :=
  if !s.is R.HD_CTRL_Enable then s.detect d n 0#32
  else
    let (y, sat) := s.mixSum half d n
    let (w, s) := s.delayLine d n y (bad.contains d) (bad.contains (16384 + d))
    let s := s.detect d n w
    let (o, sat') := requant (s.dest d).eff d n (s.limit d w)
    let s : State := { s with dst := tput 0#32 d o s.dst }
    if sat || sat' then s.bump R.CNT_DEST_SAT_Count else s

/-- MIX_PHASE (R19) for index n over the half that has just been filled. -/
def State.mixPhase (s : State) (half : List (Nat × BitVec 32)) (bad : List Nat) (n : Nat) : State :=
  let s : State := { s with dst := [] }
  let s := s.destKeys.foldl (fun (t : State) d => t.mixDest half bad n d) s
  let s := s.forN 64 (fun k t => t.detect (8192 + k) n (tget 0#32 half (6656 + k)))
  let s := s.shuttlePass n
  { s with heddle := { s.heddle with last := some n } }

/-- The input blocks' work after the strobe that begins pick n: TDM slots that wait for the index, Warp's pass, decimator outputs; `bad`
names the words that read with an uncorrectable error. -/
def State.fillPhase (s : State) (osrs : List (Option Nat)) (bits : List (Nat × Nat)) (bad : List Nat) : State :=
  let n := s.time.pick
  ((s.tdmFill n).warpPass n bad).decPass n osrs bits bad

/-- A register whose object a cue of this strobe has written. -/
def cueReg (keys : List Nat) (off : Nat) : Bool :=
  keys.any (fun k => match objFind (k / 256) (k % 256) with
    | some (r, e) => (match r.home e with | .fld f => decide (f.reg = off) | .sfld f => decide (f.reg = off) | _ => false)
    | none => false)

/-- Host writes that complete in the cycle of the commit (R22, R49): they wait for the next strobe; one to a register a cue has just
written is counted. -/
def State.hostLate (s : State) (keys : List Nat) (host : List (Nat × Nat)) : State :=
  host.foldl (fun (t : State) h =>
    let t := if cueReg keys h.1 then t.bump R.CNT_HOSTCONFLICT_Count else t
    if t.powered h.1 then (t.regApply h.1 h.2).mark (regKey h.1) else t.ignored h.1) s

/-- The strobe that begins pick n (R15 to R22). A Realign period that ends here ends before a host's waiting FadeLen comes into force, so
its closing cross-fades take the FadeLen of before (DESIGN CHOICE, notes/assumptions/48.md). Host writes that complete in the commit cycle
act last, so that the index mixed and the pick filled are those of before (R22); where the family changes, nothing is mixed. -/
def State.strobe (s : State) (n : Nat) (bits : List (Nat × Nat)) (bad : List Nat) (host : List (Nat × Nat)) : State :=
  let s := (((s.timeTo (s.edge n)).filterPhase.linkStrobe).tdmStrobe n).decWatch bits
  let osrs := s.decOsrs
  let s : State := { s with time := { s.time with pick := n } }
  let (c, s) := s.cueCommit n
  match c.index with
  | none =>
    let s := s.decMerge (n - 1) c.syncs
    ({ s with marks := [] } : State).hostLate c.keys host
  | some e =>
    let s := match c.rate with
      | some p => s.decMerge p c.syncs
      | none => s.decCommit e c.syncs
    let s := ((((s.filtDue e).realignDue e).takeAll e).swapPass e)
    let s : State := { s with marks := [] }
    let s := (s.patternStrobe e).epochApply n e
    let s := (s.decSlots e).inputPass e
    let half := s.src
    let s := ({ s with src := [] } : State).mixPhase half bad e
    let s := if c.rate.isSome ∨ c.moved.isSome then s.renumber c.moved e s.time.pick else s
    (s.fillPhase osrs bits bad).stageDue.hostLate c.keys host

/-- PICK_STROBE: `bits` the modulators' bits of the pick that ends, `bad` the delay words that read with an uncorrectable error, `host`
the register writes that complete in the cycle of the commit. -/
def execPickStrobe (bits : List (Nat × Nat)) (bad : List Nat) (host : List (Nat × Nat)) (s : State) : Host.Outcome State Fault Refusal := s.live fun s =>
  (if s.time.running then s.strobe (s.time.pick + 1) bits bad host else s).done

/-- The counter starts at pick n, whose strobe mixes no index: nothing has been present before it, and no destination has been written. -/
def State.counterStart (s : State) (n : Nat) : State :=
  let s := s.timeTo (s.edge n)
  let s : State := { s with src := [], dst := [], time := { s.time with pick := n, running := true, resume := false } }
  let s := (((s.tdmStrobe n).takeAll n).patternStrobe n).decStart n
  (s.fillPhase [] [] []).stageDue

/-- PICK_COUNTER_START (R38): the first boundary at which Run and TodValid are both 1. -/
def execPickCounterStart (s : State) : Host.Outcome State Fault Refusal := s.live fun s =>
  (if s.is R.TIME_CTRL_Run ∧ s.is R.TIME_STATUS_TodValid ∧ ¬ s.time.running ∧ ¬ s.is R.TIME_STATUS_RateSwitching ∧ ¬ s.time.resume ∧ 0 < s.fs then
     s.counterStart (s.firstEdgeAt s.time.tai)
   else s).done

/-- PICK_COUNTER_RESUME (R46): the first whole second after MCS0's lock. -/
def execPickCounterResume (s : State) : Host.Outcome State Fault Refusal := s.live fun s =>
  (if s.time.resume ∧ s.is R.TIME_CTRL_Run ∧ s.is R.TIME_STATUS_TodValid ∧ ¬ s.time.running then
     s.counterStart (ceilDiv (s.media s.time.tai) unitsPerSec * s.fs)
   else s).done

end Sys2Proof.Machine
end

