-- ==== Sys2Proof/Machine/Domain.lean ====
section
/-!
DEFINITION. The domain firmware (14_domain_patterns.md, R313 to R323) and the lease manager that runs in it (13_pair_redundancy.md,
R293, R297). The state, manager, term and roster version are objects 0x1203 to 0x1206; times are in CCLK of XREF-derived time.
-/
namespace Sys2Proof.Machine

/-- The domain firmware's state changed. -/
def State.updDom (s : State) (f : DomainSt → DomainSt) : State := { s with dom := f s.dom }

/-- The objects of the domain. -/
def State.domId (s : State) : Nat := s.obj 0x1200 0
def State.domRoleNow (s : State) : Nat := s.obj 0x1201 0
def State.domState (s : State) : Nat := s.obj 0x1203 0
def State.domTerm (s : State) : Nat := s.obj 0x1205 0
def State.domVersion (s : State) : Nat := s.obj 0x1206 0
def State.unit (s : State) : Nat := s.get R.SH_UNIT_Unit

/-- DeviceId (R419). -/
def State.deviceId (s : State) : Nat := (tget 0#32 s.shadow 0).toNat + (tget 0#32 s.shadow 1).toNat * 2 ^ 32

/-- A counter of DomainCounters plus 1 (R331): 1 JoinAccepted, 2 JoinDenied, 3 JoinAuthFail, 4 Departures, 5 Restarts, 6 Takeovers,
7 StaleBeacons, 8 NeighbourChange. -/
def State.domCount (s : State) (i : Nat) : State := s.setObj 0x1220 i ((s.obj 0x1220 i + 1) % 2 ^ 32)

/-- A domain message sent. -/
def State.domSend (s : State) (dest : DomTo) (m : DomMsg) : State := s.send (.domain dest m)

-- ## LLDP (R313, R314)

/-- LLDP_TX (R313). -/
def execLldpTx (n : Nat) (s : State) : Host.Outcome State Fault Refusal := s.accept (below n 4) fun s => (if n < 4 then s.lldpSend n else s).done

/-- The TLVs of a data unit, up to the End TLV: type and value. -/
def lldpTlvs : Nat → List Byte → List (Nat × List Byte)
  | 0, _ => []
  | k + 1, bs =>
    let h := beAt bs 0 2
    if bs.length < 2 ∨ h / 512 = 0 then [] else (h / 512, (bs.drop 2).take (h % 512)) :: lldpTlvs k (bs.drop (2 + h % 512))

/-- The neighbour that a data unit names; none where its first three TLVs are not chassis ID, port ID and Time To Live. -/
def State.neighbourOf (s : State) (pdu : List Byte) : Option Neighbour :=
  let ts := lldpTlvs pdu.length pdu
  let get := fun (k : Nat) => ((ts.find? (fun t => decide (t.1 = k))).map Prod.snd).getD []
  match ts with
  | (1, c) :: (2, p) :: (3, t) :: _ =>
    let own := ts.find? (fun t => decide (t.1 = 127) && decide (beAt t.2 0 3 = Config.oui.toNat % 2 ^ 24) && decide (beAt t.2 3 1 = 1))
    let ttl := beAt t 0 2
    some { chassis := c, port := p, ttl := ttl, ends := s.xref + ttl * 625000000, name := get 5, addr := get 8, alaner := (own.map Prod.snd).getD [] }
  | _ => none

/-- A data unit received on port n (R314). -/
def State.lldpTake (s : State) (n : Nat) (frame : List Byte) : State :=
  let e := ethInfo frame
  if ¬ s.lldpRuns n ∨ e.da ≠ 0x0180C200000E ∨ e.typ ≠ 0x88CC then s
  else match s.neighbourOf e.body with
    | none => s
    | some x =>
      let old := tget none s.dom.neighbours n
      let same : Bool := match old with | some o => decide (o.chassis = x.chassis ∧ o.port = x.port) | none => false
      if x.ttl = 0 then (if same then s.lldpDrop n else s)
      else
        let s := if old.isSome ∧ ¬ same then s.domCount 8 else s
        s.updDom (fun d => { d with neighbours := tput none n (some x) d.neighbours })

/-- LLDP_RX. -/
def execLldpRx (n : Nat) (frame : List (BitVec 8)) (s : State) : Host.Outcome State Fault Refusal := s.accept (below n 4) fun s =>
  (if n < 4 then s.lldpTake n frame else s).done

/-- LLDP_TTL_EXPIRE (R314). -/
def execLldpTtlExpire (n : Nat) (s : State) : Host.Outcome State Fault Refusal := s.accept (below n 4) fun s =>
  (match tget none s.dom.neighbours n with
   | some x => (s.xrefTo x.ends).lldpDrop n
   | none => s).done

-- ## What a unit does when the roster changes (R296, R308, R320)

/-- The unit is Absent or Left in the roster held. -/
def State.unitGone (s : State) (u : Nat) : Bool := s.dom.roster.any (fun m => decide (m.info.unit = u ∧ m.info.state ≠ 1))

/-- The roster's entry of a unit. -/
def State.member (s : State) (u : Nat) : Option Member := s.dom.roster.find? (fun m => decide (m.info.unit = u))

/-- Words of a receive stream set by the firmware. -/
def State.seFirm (s : State) (i : Nat) (f : Fld) (v : Nat) : State :=
  if seF (s.rxs i).cfg f = v then s else (s.seWrite i (wfSet (s.rxs i).cfg R.SE_CTRL f v)).2

/-- Streams whose RxStreamOrigin names a unit: stream and the units named. -/
def State.originsOf (s : State) (u : Nat) : List (Nat × List Nat) :=
  (s.objs.filter (fun o => decide (0x4080 ≤ o.1 / 256 ∧ o.1 / 256 < 0x4088))).filterMap (fun o =>
    let us := [bitsOf o.2 0 16, bitsOf o.2 16 16].filter (fun x => decide (x ≠ 0))
    if us.contains u then some ((o.1 / 256 - 0x4080) * 128 + o.1 % 256 - 1, us) else none)

/-- The streams that name a unit follow its presence (R320). -/
def State.streamEffect (s : State) (u : Nat) : State :=
  (s.originsOf u).foldl (fun (t : State) x =>
    let i := x.1
    let gone := x.2.filter (fun v => t.unitGone v)
    if gone.length = x.2.length then t.seFirm i R.SE_MARK_Absent 1
    else
      let t := t.seFirm i R.SE_MARK_Absent 0
      if gone = [] then
        (if t.dom.cleared.contains i then (t.seFirm i R.SE_TWILL_ExpectPair 1).updDom (fun d => { d with cleared := d.cleared.filter (fun j => decide (j ≠ i)) }) else t)
      else if seF (t.rxs i).cfg R.SE_TWILL_ExpectPair = 1 then
        (t.seFirm i R.SE_TWILL_ExpectPair 0).updDom (fun d => { d with cleared := d.cleared ++ [i] })
      else t) s

/-- What this unit does about a roster record: its streams, and its partner's return. -/
def State.unitEffect (s : State) (r : RosterRec) : State :=
  let s := s.streamEffect r.unit
  if r.unit = s.get R.SV_PARTNER_Unit ∧ r.state = 1 ∧ s.is R.LEASE_STATUS_RosterAbsent then
    (s.rosterAbsent false).updSv (fun v => { v with full := true })
  else s

/-- A roster with a member in its place, in rising unit number. -/
def rosterIns (m : Member) : List Member → List Member
  | [] => [m]
  | x :: xs => if m.info.unit < x.info.unit then m :: x :: xs else if m.info.unit = x.info.unit then m :: xs else x :: rosterIns m xs

/-- A member replaced or added. -/
def State.setMember (s : State) (m : Member) : State := s.updDom (fun d => { d with roster := rosterIns m d.roster })

/-- A record taken into the roster held. -/
def State.takeRec (s : State) (r : RosterRec) : State :=
  match s.member r.unit with
  | some m => s.setMember { m with info := r }
  | none => s.setMember { info := r }

-- ## The manager's roster (R318 to R320)

/-- This unit runs the domain. -/
def State.manages (s : State) : Bool := decide (s.domState = 4)

/-- The Present units other than this one. -/
def State.presents (s : State) : List Member := s.dom.roster.filter (fun m => decide (m.info.state = 1 ∧ m.info.unit ≠ s.unit))

/-- A change of the roster: RosterVersion increments and every Present unit is told (R319). -/
def State.rosterChange (s : State) (m : Member) : State :=
  let v := (s.domVersion + 1) % 2 ^ 32
  let s := (s.setMember m).setObj 0x1206 0 v
  let s := s.updDom (fun d => { d with deltas := d.deltas ++ [(v, m.info)] })
  let s := s.presents.foldl (fun (t : State) x => t.domSend (.unit x.info.unit) (.rosterDelta v [m.info])) s
  s.unitEffect m.info

/-- A lease message of the manager to a unit. -/
def State.mgrLease (s : State) (dest kind seq ms : Nat) : State :=
  s.send (.lease dest { kind := kind, unit := s.unit, partner := 0, seq := seq, grantMs := ms, flags := 0 })

/-- The partner of a member. -/
def State.partnerOf (s : State) (m : Member) : Option Member :=
  match s.dom.roster.find? (fun x => decide (x.info.unit = m.info.partner ∧ m.info.partner ≠ 0 ∧ x.info.unit ≠ m.info.unit)) with
  | some x => some x
  | none => s.dom.roster.find? (fun x => decide (x.info.partner = m.info.unit ∧ x.info.unit ≠ m.info.unit))

/-- A unit becomes Absent (2) or Left (3) in the roster (R319). -/
def State.departMark (s : State) (m : Member) (st : Nat) : State :=
  (s.rosterChange { m with info := { m.info with state := st }, gone := s.xref, report := none }).domCount 4

/-- A unit departs (R320): the partner of one of a pair is told, unless the unit is Holding and R297 has not confirmed its absence. -/
def State.depart (s : State) (m : Member) (st : Nat) : State :=
  let s := s.departMark m st
  match (if bitOf m.info.flags 1 ∧ ¬ bitOf m.info.flags 2 then s.partnerOf m else none) with
  | some p => s.mgrLease p.info.unit 9 0 0
  | none => s

/-- Every domain overlay applied and not removed, as cues for one pick at least 10 ms ahead (R320). -/
def State.overlayCues (s : State) (u : Nat) : State :=
  let pick := s.time.pick + ceilDiv s.fs 100 + 1
  s.forN 4 (fun j t =>
    let k := t.ovl.stack.getD j 255
    if k = 255 then t else t.send (.cueTo u (Cue.bytes { pick := pick, action := 1, order := j, issuer := t.unit, arg0 := k + j * 2 ^ 8 })))

/-- A returning unit (R320): a reserve for one of a pair, and the domain's overlays. -/
def State.welcome (s : State) (m : Member) : State :=
  let s := if bitOf m.info.flags 1 then s.mgrLease m.info.unit 5 m.resSeq (s.get R.LEASE_TIME_DurationMs) else s
  s.overlayCues m.info.unit

-- ## Beacons (R315, R316, R322, R323)

/-- A Beacon leaves to DomainGroup. -/
def State.beaconSend (s : State) : State :=
  let b : Beacon := { domain := s.domId, unit := s.unit, partner := if s.paired then s.get R.SV_PARTNER_Unit else 0, term := s.domTerm, seq := s.dom.seq, version := s.domVersion, pick := s.time.pick, rate := s.get R.TIME_STATUS_RateNow, device := s.deviceId, holdsMe := false }
  (s.updDom (fun d => { d with seq := (d.seq + 1) % 2 ^ 32 })).domSend .group (.beacon b)

/-- BEACON_TX: the manager; of a manager pair only the holder, which takes the lease's role over under the same term (R323). -/
def execBeaconTx (s : State) : Host.Outcome State Fault Refusal := s.live fun s =>
  (if s.manages then (if !s.paired ∨ s.is R.LEASE_STATUS_Holding then s.beaconSend else s)
   else if s.domState = 2 ∧ s.domRoleNow = 3 ∧ s.paired ∧ s.is R.LEASE_STATUS_Holding ∧ s.obj 0x1204 0 = s.get R.SV_PARTNER_Unit then
     (((s.setObj 0x1203 0 4).setObj 0x1204 0 s.unit).updDom (fun d => { d with backup := false })).beaconSend
   else s).done

/-- A JoinRequest leaves (R315, R317). -/
def State.joinStart (s : State) (nonce : List Byte) : State :=
  let s := (s.setObj 0x1203 0 1).updDom (fun d => { d with nonce := nonce, asked := s.xref, retry := none })
  s.domSend .manager (.joinRequest { device := s.deviceId, nonce := nonce, requested := s.unit, role := s.domRoleNow, pair := s.pairSide, partner := 0, running := if s.is R.TIME_CTRL_Run then some (s.get R.TIME_STATUS_RateNow) else none, locked := bitOf (tget 0#32 s.shadow 33).toNat s.domRoleNow })

/-- The Heartbeat that answers a beacon, and the request for deltas that have not come (R316, R319). -/
def State.heartbeat (s : State) (b : Beacon) : State :=
  let f := (if s.is R.LEASE_STATUS_Holding then 1 else 0) + (if s.faultNow then 2 else 0) + (if s.svUp then 4 else 0)
  let s := s.domSend .manager (.heartbeat s.unit b.seq f s.time.pick)
  if b.version = s.domVersion then s else s.domSend .manager (.deltaAsk s.unit s.domVersion)

/-- The manager of a beacon is followed; a unit whose Run is 0 takes its rate (R318, R322). -/
def State.follow (s : State) (b : Beacon) : State :=
  let s := ((s.setObj 0x1205 0 b.term).setObj 0x1204 0 b.unit).updDom (fun d => { d with heard := s.xref })
  if s.is R.TIME_CTRL_Run ∨ b.rate = s.get R.TIME_CTRL_Rate then s else s.timeCtrlWrite (b.rate * 2)

/-- A manager that sees another's beacon of its own term yields (R322): of a pair, to the member that is Holding; otherwise the one with
the lower DeviceId continues. -/
def State.yields (s : State) (b : Beacon) : Bool :=
  if s.paired ∧ b.unit = s.get R.SV_PARTNER_Unit then s.is R.SV_STATUS_PartnerHolding || !s.is R.LEASE_STATUS_Holding
  else decide (b.device < s.deviceId)

/-- A beacon received; `nonce` is a fresh nonce for a join. -/
def State.beaconTake (s : State) (b : Beacon) (nonce : List Byte) : State :=
  let st := s.domState
  if st = 5 ∨ s.domId = 0 ∨ b.domain ≠ s.domId then s
  else if b.term < s.domTerm then s.domCount 7
  else if st = 4 then
    (if s.domTerm < b.term ∨ s.yields b then
       (((s.setObj 0x1203 0 2).updDom (fun d => { d with backup := true, holdoff := none })).follow b).heartbeat b
     else s)
  else
    let s := s.follow b
    if st = 0 then
      (if s.is R.TIME_STATUS_TodValid ∧ (s.dom.retry.all (fun t => decide (t ≤ s.xref))) then s.joinStart nonce else s)
    else if st = 2 then s.heartbeat b
    else if st = 3 then (if b.holdsMe then (s.setObj 0x1203 0 2).heartbeat b else s.joinStart nonce)
    else s

/-- BEACON_RX. -/
def execBeaconRx (b : Beacon) (nonce : List (BitVec 8)) (s : State) : Host.Outcome State Fault Refusal := s.live fun s => (s.beaconTake b nonce).done

/-- 150 ms in CCLK of XREF-derived time. -/
def ms150 : Nat := 150 * cclkMs

/-- BEACON_LOSS (R315). -/
def execBeaconLoss (s : State) : Host.Outcome State Fault Refusal := s.live fun s =>
  (if s.domState = 2 then (s.xrefTo (s.dom.heard + ms150)).setObj 0x1203 0 3 else s).done

/-- This unit begins to run the domain with the next term; the start-up window of R293 begins. -/
def State.manageStart (s : State) : State :=
  let s := ((s.setObj 0x1203 0 4).setObj 0x1205 0 ((s.domTerm + 1) % 2 ^ 32)).setObj 0x1204 0 s.unit
  let ms := s.get R.LEASE_TIME_DurationMs + s.get R.LEASE_TIME_GuardMs
  s.updDom (fun d => { d with holdoff := some (s.xref + ms * cclkMs), backup := false, roster := d.roster.map (fun m => { m with beat := s.xref }) })

/-- The lowest unit number no entry holds (R318). -/
def State.lowestUnit (s : State) : Option Nat :=
  ((List.range 4094).map (fun i => i + 1)).find? (fun u => !s.dom.roster.any (fun m => decide (m.info.unit = u)))

/-- The manager's own entry: its own number where it has one no other unit holds, otherwise the lowest free one. -/
def State.ownEntry (s : State) : State :=
  let dev := s.deviceId
  let old := s.dom.roster.find? (fun m => decide (m.info.device = dev))
  let free := decide (s.unit ≠ 0 ∧ s.unit ≤ 4094) && !s.dom.roster.any (fun m => decide (m.info.unit = s.unit))
  let u := match old with | some m => m.info.unit | none => if free then s.unit else (s.lowestUnit).getD 1
  let s := ((s.put R.SH_UNIT_Unit u).lldpSince s).setObj 0x1204 0 u
  s.rosterChange { info := { unit := u, state := 1, role := s.domRoleNow, device := dev, partner := if s.paired then s.get R.SV_PARTNER_Unit else 0, flags := s.pairSide } }

/-- MANAGER_START (R315): no beacon of DomainId for 150 ms. -/
def execManagerStart (s : State) : Host.Outcome State Fault Refusal := s.live fun s =>
  (if s.domState = 0 ∧ s.domRoleNow = 3 ∧ s.domId ≠ 0 then ((s.xrefTo (s.dom.heard + ms150)).manageStart).ownEntry.startService else s).done

/-- BACKUP_TAKEOVER (R321): the copied roster stands, and the first beacon leaves. -/
def execBackupTakeover (s : State) : Host.Outcome State Fault Refusal := s.live fun s =>
  (if (s.domState = 2 ∨ s.domState = 3) ∧ (s.domRoleNow = 2 ∨ s.dom.backup) then
     (((s.xrefTo (s.dom.heard + ms150)).manageStart).domCount 6).beaconSend
   else s).done

/-- MANAGER_HOLDOFF_END (R293). -/
def execManagerHoldoffEnd (s : State) : Host.Outcome State Fault Refusal := s.live fun s =>
  (match s.dom.holdoff with
   | some t => (s.xrefTo t).updDom (fun d => { d with holdoff := none })
   | none => s).done

-- ## Joining (R317, R318)

/-- ProofM, and ProofW with its nonces the other way round (R317): `tag` 1 or 2. -/
def State.joinProof (s : State) (tag device : Nat) (first second : List Byte) : List Byte :=
  (hmac s.domainKey (leBytes 1 tag ++ leBytes 2 s.domId ++ leBytes 8 device ++ first ++ second)).take 16

/-- JOIN_REQUEST: the manager sends a challenge with a fresh nonce. -/
def execJoinRequest (r : JoinReq) (nonce : List (BitVec 8)) (s : State) : Host.Outcome State Fault Refusal := s.live fun s =>
  (if s.manages then
     (s.updDom (fun d => { d with waiting := d.waiting ++ [{ req := r, nonce := nonce, sent := s.xref }] })).domSend (.device r.device)
       (.joinChallenge nonce r.nonce (s.joinProof 1 r.device r.nonce nonce))
   else s).done

/-- JOIN_CHALLENGE: a joining unit checks ProofM and answers. -/
def execJoinChallenge (nonceM nonceW proof : List (BitVec 8)) (s : State) : Host.Outcome State Fault Refusal := s.live fun s =>
  (if s.domState ≠ 1 then s
   else if nonceW = s.dom.nonce ∧ proof = s.joinProof 1 s.deviceId nonceW nonceM then
     s.domSend .manager (.joinResponse nonceM (s.joinProof 2 s.deviceId nonceM nonceW))
   else s.domCount 3).done

/-- The number of a joining unit (R318). -/
def State.joinNumber (s : State) (r : JoinReq) : Nat :=
  let ms := s.dom.roster
  let longest := fun (st : Nat) => (ms.filter (fun m => decide (m.info.state = st))).foldl (fun (b : Option Member) m => match b with
    | some x => if m.gone < x.gone then some m else b
    | none => some m) none
  match ms.find? (fun m => decide (m.info.device = r.device)) with
  | some m => m.info.unit
  | none =>
    if 1 ≤ r.requested ∧ r.requested ≤ 4094 ∧ ¬ ms.any (fun m => decide (m.info.unit = r.requested)) then r.requested
    else match s.lowestUnit with
      | some u => u
      | none => (((longest 2).map (fun m => m.info.unit)).orElse (fun _ => (longest 3).map (fun m => m.info.unit))).getD 1

/-- Why the manager denies a join (R318): 1 Full, 2 Rate, 3 Role, 0 where it accepts. -/
def State.joinDeny (s : State) (r : JoinReq) : Nat :=
  let own := [s.unit, if s.paired then s.get R.SV_PARTNER_Unit else s.unit]
  let n := (s.dom.roster.filter (fun m => decide (m.info.state = 1 ∧ m.info.device ≠ r.device) && !own.contains m.info.unit)).length
  if 1024 ≤ n then 1
  else if r.running.any (fun c => decide (c ≠ s.get R.TIME_STATUS_RateNow)) then 2
  else if r.locked then 3
  else 0

/-- A join accepted (R318 to R320). -/
def State.joinTake (s : State) (r : JoinReq) : State :=
  let old := s.dom.roster.find? (fun m => decide (m.info.device = r.device))
  let u := s.joinNumber r
  -- an entry that is still Present departs first
  let s := match old with
    | some m => if m.info.state = 1 then (s.depart m 2).domCount 5 else s
    | none => s
  let mate := s.dom.roster.find? (fun m => decide (r.partner ≠ 0 ∧ m.info.device = r.partner))
  let m : Member := { info := { unit := u, state := 1, role := r.role, device := r.device, partner := (mate.map (fun x => x.info.unit)).getD 0, flags := r.pair % 4 }, beat := s.xref, leaseEnd := old.bind (fun x => x.leaseEnd), resSeq := (old.map (fun x => x.resSeq)).getD 0 }
  let s := (s.rosterChange m).domCount 1
  let s := match mate with
    | some x => if x.info.partner = u then s else s.setMember { x with info := { x.info with partner := u } }
    | none => s
  let s := s.domSend (.device r.device) (.joinAccept u s.domTerm s.domVersion)
  if old.isSome then s.welcome m else s

/-- JOIN_RESPONSE: within 100 ms of the challenge it answers. -/
def execJoinResponse (nonceM proof : List (BitVec 8)) (s : State) : Host.Outcome State Fault Refusal := s.live fun s =>
  (match (if s.manages then s.dom.waiting.find? (fun (c : Challenge) => decide (c.nonce = nonceM)) else none) with
   | none => s
   | some c =>
     let s := s.updDom (fun d => { d with waiting := d.waiting.filter (fun (x : Challenge) => decide (x.nonce ≠ nonceM)) })
     if c.sent + 100 * cclkMs < s.xref then s
     else if proof ≠ s.joinProof 2 c.req.device nonceM c.req.nonce then s.domCount 3
     else if s.joinDeny c.req ≠ 0 then (s.domSend (.device c.req.device) (.joinDeny (s.joinDeny c.req))).domCount 2
     else s.joinTake c.req).done

/-- CHALLENGE_TIMEOUT (R317): the challenges to a unit are closed. -/
def execChallengeTimeout (device : Nat) (s : State) : Host.Outcome State Fault Refusal := s.live fun s =>
  (s.updDom (fun d => { d with waiting := d.waiting.filter (fun c => decide (c.req.device ≠ device)) })).done

/-- JOIN_ACCEPT (R318); a starting unit's ports go to Service (R415). -/
def execJoinAccept (unit term version : Nat) (s : State) : Host.Outcome State Fault Refusal := s.live fun s =>
  (if s.domState = 1 then
     ((((((s.setObj 0x1203 0 2).put R.SH_UNIT_Unit unit).lldpSince s).setObj 0x1205 0 term).setObj 0x1206 0 version).updDom
       (fun d => { d with heard := s.xref })).startService
   else s).done

/-- A join has failed (R315): Seeking, and a retry after 1 s. -/
def State.joinFail (s : State) : State := (s.setObj 0x1203 0 0).updDom (fun d => { d with retry := some (s.xref + 1000 * cclkMs) })

/-- JOIN_DENY. -/
def execJoinDeny (_reason : Nat) (s : State) : Host.Outcome State Fault Refusal := s.live fun s => (if s.domState = 1 then s.joinFail else s).done

/-- JOIN_TIMEOUT. -/
def execJoinTimeout (s : State) : Host.Outcome State Fault Refusal := s.live fun s =>
  (if s.domState = 1 then (s.xrefTo (s.dom.asked + 500 * cclkMs)).joinFail else s).done

/-- JOIN_RETRY, with a fresh nonce. -/
def execJoinRetry (nonce : List (BitVec 8)) (s : State) : Host.Outcome State Fault Refusal := s.live fun s =>
  (match s.dom.retry with
   | some t =>
     if s.domState = 0 ∧ s.is R.TIME_STATUS_TodValid then (s.xrefTo t).joinStart nonce else s
   | none => s).done

-- ## Presence (R319 to R321)

/-- HEARTBEAT. -/
def execHeartbeat (unit _seq flags _pick : Nat) (s : State) : Host.Outcome State Fault Refusal := s.live fun s =>
  (match (if s.manages then s.member unit else none) with
   | some m =>
     if m.info.state = 1 then s.setMember { m with beat := s.xref, info := { m.info with flags := m.info.flags % 4 + flags % 4 * 4 } } else s
   | none => s).done

/-- LEAVE. -/
def execLeave (unit : Nat) (s : State) : Host.Outcome State Fault Refusal := s.live fun s =>
  (match (if s.manages then s.member unit else none) with
   | some m => if m.info.state = 1 then s.depart m 3 else s
   | none => s).done

/-- Three PulseUs in CCLK. -/
def State.pulse3 (s : State) : Nat := 3 * s.get R.PULSE_CFG_PulseUs * 625

/-- UNIT_ABSENT (R319): no Heartbeat for 250 ms, unless its Pulses still arrive. -/
def execUnitAbsent (unit : Nat) (s : State) : Host.Outcome State Fault Refusal := s.live fun s =>
  (match (if s.manages ∧ unit ≠ s.unit then s.member unit else none) with
   | some m =>
     let s := s.xrefTo (m.beat + 250 * cclkMs)
     if m.info.state ≠ 1 ∨ (m.pulse ≠ 0 ∧ s.xref < m.pulse + s.pulse3) then s else s.depart m 2
   | none => s).done

/-- ROSTER_DELTA: a member takes a change; the version advances over a gap only when the missing deltas have come. -/
def execRosterDelta (version : Nat) (recs : List RosterRec) (s : State) : Host.Outcome State Fault Refusal := s.live fun s =>
  (if s.domState = 2 ∨ s.domState = 3 then
     let s := recs.foldl (fun (t : State) r => (t.takeRec r).unitEffect r) s
     if version = (s.domVersion + 1) % 2 ^ 32 then s.setObj 0x1206 0 version else s
   else s).done

/-- ROSTER_DELTA_REQUEST (R319). -/
def execRosterDeltaRequest (unit version : Nat) (s : State) : Host.Outcome State Fault Refusal := s.live fun s =>
  (if s.manages ∧ ((s.member unit).any (fun m => decide (m.info.state = 1))) then
     (s.dom.deltas.filter (fun d => decide (version < d.1))).foldl (fun (t : State) d => t.domSend (.unit unit) (.rosterDelta d.1 [d.2])) s
   else s).done

/-- ROSTER_SYNC_TX (R316, R321): to every Present backup. -/
def execRosterSyncTx (s : State) : Host.Outcome State Fault Refusal := s.live fun s =>
  (if s.manages then
     (s.presents.filter (fun m => decide (m.info.role = 2))).foldl (fun (t : State) m => t.domSend (.unit m.info.unit) (.rosterSync t.domVersion (t.dom.roster.map (fun x => x.info)))) s
   else s).done

/-- ROSTER_SYNC: the backup's copy becomes the manager's roster. -/
def execRosterSync (version : Nat) (recs : List RosterRec) (s : State) : Host.Outcome State Fault Refusal := s.live fun s =>
  (if (s.domState = 2 ∨ s.domState = 3) ∧ (s.domRoleNow = 2 ∨ s.dom.backup) then
     let changed := recs.filter (fun r => !s.dom.roster.any (fun m => decide (m.info = r)))
     let s := s.updDom (fun d => { d with roster := recs.map (fun r => ((d.roster.find? (fun m => decide (m.info.unit = r.unit))).map (fun m => { m with info := r })).getD { info := r }) })
     (changed.foldl (fun (t : State) r => t.unitEffect r) s).setObj 0x1206 0 version
   else s).done

-- ## The lease manager (R293, R295, R297)

/-- The manager considers a member the holder: its last grant has not ended. -/
def State.memHolds (s : State) (m : Member) : Bool := m.leaseEnd.any (fun e => decide (s.xref < e))

/-- A Lease granted: the send time plus GrantMs is its end. -/
def State.leaseGive (s : State) (m : Member) (seq : Nat) : State :=
  let d := s.get R.LEASE_TIME_DurationMs
  (s.setMember { m with leaseEnd := some (s.xref + d * cclkMs) }).mgrLease m.info.unit 2 seq d

/-- One holder: the partner's last grant ended GuardMs ago, or it has sent Release (R293). -/
def State.mateFree (s : State) (p : Option Member) : Bool := match p with
  | none => true
  | some x => x.leaseEnd.all (fun e => decide (e + s.get R.LEASE_TIME_GuardMs * cclkMs ≤ s.xref))

/-- Choice of holder (R293). -/
def chosen (m : Member) (p : Option Member) : Bool := match p with
  | none => true
  | some x =>
    if x.info.state ≠ 1 then true
    else if m.info.flags % 2 < x.info.flags % 2 then !(m.fault && !x.fault) else x.fault && !m.fault

/-- A Request (R293). -/
def State.leaseRequest (s : State) (l : LeaseMsg) : State :=
  match (if s.manages then s.member l.unit else none) with
  | none => s
  | some m =>
    let m := { m with reqSeq := l.seq, fault := bitOf l.flags 1, unfit := bitOf l.flags 1 || bitOf l.flags 2 }
    let s := s.setMember m
    let p : Option Member := s.dom.roster.find? (fun (x : Member) => decide (x.info.unit = l.partner ∧ x.info.unit ≠ l.unit))
    if m.info.state ≠ 1 then s
    else if s.memHolds m ∨ (s.dom.holdoff.isSome ∧ bitOf l.flags 0) then
      (if m.unfit ∧ p.any (fun x => decide (x.info.state = 1) && !x.unfit) then s.mgrLease l.unit 3 l.seq 0 else s.leaseGive m l.seq)
    else if s.dom.holdoff.isSome then s
    else if s.mateFree p ∧ chosen m p then s.leaseGive m l.seq
    else s

/-- LEASE_REQUEST. -/
def execLeaseRequest (m : LeaseMsg) (s : State) : Host.Outcome State Fault Refusal := s.live fun s => (if m.kind = 1 then s.leaseRequest m else s).done

/-- LEASE_RELEASE_MSG. -/
def execLeaseReleaseMsg (m : LeaseMsg) (s : State) : Host.Outcome State Fault Refusal := s.live fun s =>
  (match (if s.manages ∧ m.kind = 3 then s.member m.unit else none) with
   | some x => s.setMember { x with leaseEnd := none }
   | none => s).done

/-- RESERVE_REQUEST: to the unit that does not hold and reports no Fault. -/
def execReserveRequest (m : LeaseMsg) (s : State) : Host.Outcome State Fault Refusal := s.live fun s =>
  (match (if s.manages ∧ m.kind = 4 then s.member m.unit else none) with
   | some x =>
     let x := { x with resSeq := m.seq, fault := bitOf m.flags 1, unfit := bitOf m.flags 1 || bitOf m.flags 2 }
     let s := s.setMember x
     if x.info.state = 1 ∧ ¬ s.memHolds x ∧ ¬ x.fault then s.mgrLease m.unit 5 m.seq (s.get R.LEASE_TIME_DurationMs) else s
   | none => s).done

/-- The members whose report that unit u is absent is held (R297). -/
def State.reports (s : State) (u : Nat) : List Member := s.dom.roster.filter (fun y => y.report.any (fun r => decide (r.2 = u)))

/-- PULSE (R295, R297): acknowledged; a report that the unit is absent, still held, is denied. -/
def execPulse (m : LeaseMsg) (s : State) : Host.Outcome State Fault Refusal := s.live fun s =>
  (match (if s.manages ∧ m.kind = 6 then s.member m.unit else none) with
   | some x =>
     let s := (s.setMember { x with pulse := s.xref }).mgrLease m.unit 7 m.seq 0
     (s.reports m.unit).foldl (fun (t : State) (y : Member) =>
       (t.setMember { y with report := none }).mgrLease y.info.unit 10 ((y.report.map Prod.fst).getD 0) 0) s
   | none => s).done

/-- The absence of unit u is confirmed to those who reported it, and the roster marks it Absent (R297). -/
def State.absentConfirm (s : State) (u : Nat) : State :=
  match s.member u with
  | none => s
  | some x =>
    let asks := s.reports u
    let s := asks.foldl (fun (t : State) y => t.setMember { y with report := none }) s
    let s := if x.info.state = 1 then s.departMark x 2 else s
    asks.foldl (fun (t : State) (y : Member) => t.mgrLease y.info.unit 9 ((y.report.map Prod.fst).getD 0) 0) s

/-- ABSENCE_REPORT (R297): held until no Pulse has come for 3 × PulseUs. -/
def execAbsenceReport (m : LeaseMsg) (s : State) : Host.Outcome State Fault Refusal := s.live fun s =>
  (match (if s.manages ∧ m.kind = 8 then s.member m.unit else none), s.member m.partner with
   | some y, some x =>
     let s := s.setMember { y with report := some (m.seq, m.partner) }
     if x.info.state ≠ 1 ∨ x.pulse + s.pulse3 ≤ s.xref then s.absentConfirm m.partner else s
   | _, _ => s).done

/-- ABSENT_CONFIRM_DUE (R297). -/
def execAbsentConfirmDue (unit : Nat) (s : State) : Host.Outcome State Fault Refusal := s.live fun s =>
  (match (if s.manages then s.member unit else none) with
   | some x =>
     if !(s.reports unit).isEmpty then (s.xrefTo (x.pulse + s.pulse3)).absentConfirm unit else s
   | none => s).done

/-- LEASE_GUARD_END (R297, R320): the partner of a departed unit is granted a Lease. -/
def execLeaseGuardEnd (unit : Nat) (s : State) : Host.Outcome State Fault Refusal := s.live fun s =>
  (match (if s.manages ∧ s.dom.holdoff.isNone then s.member unit else none) with
   | some x =>
     if x.info.state = 1 then s
     else
       let s := match x.leaseEnd with | some e => s.xrefTo (e + s.get R.LEASE_TIME_GuardMs * cclkMs) | none => s
       match s.partnerOf x with
       | some p => if p.info.state = 1 ∧ ¬ s.memHolds p ∧ ¬ p.unfit then s.leaseGive p p.reqSeq else s
       | none => s
   | none => s).done

end Sys2Proof.Machine
end

