-- ==== Sys2Proof/Machine/Temple.lean ====
section
/-!
DEFINITION. Temple: sensors, core voltage, SerDes adaptation, the ageing fit and ledger, and planning (15_temple_ageing.md). While
TP_CTRL.Enable is 0 Temple measures nothing.
-/
namespace Sys2Proof.Machine

/-- Temple's state changed. -/
def State.updTemple (s : State) (f : TempleSt → TempleSt) : State := { s with temple := f s.temple }

/-- The day's accumulators changed. -/
def State.updDay (s : State) (f : DaySt → DaySt) : State := { s with day := f s.day }

/-- Temple measures. -/
def State.measures (s : State) : Bool := s.is R.TP_CTRL_Enable

-- ## Temperature (R332)

/-- The mean of a sensor's samples, to the nearest 1/16 °C. -/
def meanOf (xs : List Int) : Int := if xs = [] then 0 else divRoundAway (sumInt xs) xs.length

/-- A lower and an upper bound brought up to date. -/
def lowOf (o : Option Int) (x : Int) : Option Int := some (match o with | some y => min x y | none => x)
def highOf (o : Option Int) (x : Int) : Option Int := some (match o with | some y => max x y | none => x)

/-- The sensors' readings, each the mean of its last 100 samples; a reading at or above TEMP_WARN sets Hot, and its onset counts. -/
def State.tempSample (s : State) (xs : List Int) : State :=
  if !s.measures then s
  else
    let ts := (List.range 4).map (fun k => (xs.getD k 0 :: s.temple.temps.getD k []).take 100)
    let now := ts.map (fun l => satSigned 16 (meanOf l))
    let s := s.updTemple (fun t => { t with temps := ts })
    let s := s.forN 4 (fun k t => t.putI (R.TEMP_Temp k) (now.getD k 0))
    let s := s.updDay (fun d => { d with low := lowOf d.low (now.getD 0 0), high := highOf d.high (now.getD 0 0), hot := now.foldl (fun h x => highOf h x) d.hot })
    let hot := now.any (fun x => decide (s.getI R.TEMP_WARN_Limit ≤ x))
    let was := s.is R.TP_STATUS_Hot
    let s := s.putB R.TP_STATUS_Hot hot
    if hot ∧ ¬ was then s.bump R.CNT_TEMP_WARN_Count else s

/-- TEMP_SAMPLE. -/
def execTempSample (readings : List Int) (s : State) : Host.Outcome State Fault Refusal := s.live fun s => (s.tempSample readings).done

-- ## Core voltage (R335)

/-- The code on AVS_VID. -/
def State.avsPut (s : State) (c : Nat) : State := if s.get R.AVS_STATUS_Code = c then s else (s.put R.AVS_STATUS_Code c).send (.avsVid c)

/-- AvsLimited follows whether a move the bounds forbid is wanted; its onset counts. -/
def State.avsLimited (s : State) (b : Bool) : State :=
  let was := s.is R.TP_STATUS_AvsLimited
  let s := s.putB R.TP_STATUS_AvsLimited b
  if b ∧ ¬ was then s.bump R.CNT_AVS_LIMIT_Count else s

/-- The end of a 1 ms window, with the worst slack of each monitor in it. -/
def State.avsWindow (s : State) (xs : List Int) : State :=
  if !s.measures then s
  else
    let worst := xs.foldl (fun (m : Option Int) x => lowOf m x) none
    let w := satSigned 16 (worst.getD 0)
    let s := (s.putI R.AVS_STATUS_WorstSlack w).put R.AVS_STATUS_WorstMon (xs.findIdx (fun x => decide (some x = worst)))
    let c := s.get R.AVS_STATUS_Code
    let lo := s.get R.AVS_CFG_VminCode
    let hi := s.get R.AVS_CFG_VmaxCode
    let calm := if s.is R.TP_CTRL_AvsEn ∧ (s.get R.AVS_CFG_SlackHigh : Int) ≤ w then s.temple.calm + 1 else 0
    let s := s.updTemple (fun t => { t with calm := calm })
    let s :=
      if !s.is R.TP_CTRL_AvsEn then
        (s.avsPut (if c < hi then c + 1 else if hi < c then c - 1 else c)).avsLimited false
      else if c < lo then s.avsPut (c + 1)
      else if hi < c then s.avsPut (c - 1)
      else if w < s.get R.AVS_CFG_SlackLow then
        (if c < hi then ((s.avsPut (c + 1)).bump R.CNT_AVS_UP_Count).avsLimited false else s.avsLimited true)
      else s.avsLimited (decide (60000 ≤ calm ∧ c ≤ lo))
    let now := s.get R.AVS_STATUS_Code
    s.updDay (fun d => { d with avs := d.avs + now, avsN := d.avsN + 1, avsTop := max d.avsTop now, slack := lowOf d.slack w })

/-- AVS_WINDOW. -/
def execAvsWindow (slack : List Int) (s : State) : Host.Outcome State Fault Refusal := s.live fun s => (s.avsWindow slack).done

/-- AVS_LOWER: every window of 60 s at or above SlackHigh. -/
def execAvsLower (s : State) : Host.Outcome State Fault Refusal := s.live fun s =>
  (if s.measures ∧ s.is R.TP_CTRL_AvsEn ∧ 60000 ≤ s.temple.calm then
     let c := s.get R.AVS_STATUS_Code
     if s.get R.AVS_CFG_VminCode < c then
       (((s.avsPut (c - 1)).bump R.CNT_AVS_DOWN_Count).updTemple (fun t => { t with calm := 0 })).avsLimited false
     else s.avsLimited true
   else s).done

/-- TP_CTRL_WRITE (R335): the code then moves at the end of each window. -/
def execTpCtrlWrite (v : Nat) (s : State) : Host.Outcome State Fault Refusal := s.accept (below v (2 ^ 32)) fun s => (s.wrRW R.TP_CTRL v).done

-- ## Eyes and adaptation (R332, R336)

/-- The TAI time of day lies in the adaptation window. -/
def State.eyeWindow (s : State) : Bool :=
  let m := s.time.tai / unitsPerSec % 86400
  let d := s.get R.EYE_WIN_DurMin * 60
  decide ((m + 86400 - s.get R.EYE_WIN_StartMin * 60) % 86400 < d)

/-- A network port that is the only one in Service to carry some transmit stream may not adapt. -/
def State.soleCarrier (s : State) (n : Nat) : Bool :=
  n < 4 && s.inService n && s.tx.any (fun e => txF e.2.cfg R.TX_CTRL_Valid = 1 && bitOf (txF e.2.cfg R.TX_CTRL_PortMask) n
    && (List.range 4).all (fun m => m == n || !(s.inService m && bitOf (txF e.2.cfg R.TX_CTRL_PortMask) m)))

/-- An adaptation may start on a lane. -/
def State.adaptOk (s : State) (n : Nat) : Bool :=
  s.is R.TP_CTRL_EyeEn && decide (3 ≤ tget 0 s.temple.low n) && s.eyeWindow && s.temple.lanes.isEmpty
    && (s.temple.since.all (fun t => decide (t + s.get R.EYE_CFG_AdaptGapS ≤ s.time.tai / unitsPerSec))) && !s.soleCarrier n

/-- The eyes of the lanes measured: lane, height in mV, width in 1/64 UI. -/
def State.eyeMeasure (s : State) (eyes : List (Nat × Nat × Nat)) : State :=
  if !s.measures then s
  else
    let es := eyes.filter (fun e => decide (e.1 < 9))
    let s := es.foldl (fun (t : State) e =>
      let t := t.setObj 0xA022 (e.1 + 1) (e.2.1 % 256 + e.2.2 % 256 * 256)
      let t := if e.1 < 4 then (t.put (R.EYE_MARGIN_HeightMv e.1) e.2.1).put (R.EYE_MARGIN_Width e.1) e.2.2 else t
      t.updTemple (fun p => { p with low := tput 0 e.1 (if e.2.1 < s.get R.EYE_CFG_EyeMinMv then tget 0 p.low e.1 + 1 else 0) p.low })) s
    let worst := es.foldl (fun (m : Option (Nat × Nat)) e => match m with
      | some x => if e.2.1 < x.2 then some (e.1, e.2.1) else m
      | none => some (e.1, e.2.1)) none
    let s := match worst with
      | some (l, h) =>
        let t := (s.put R.EYE_WORST_Lane l).put R.EYE_WORST_HeightMv h
        t.updDay (fun d => { d with eye := match d.eye with | some x => if h < x.2 then some (l, h) else some x | none => some (l, h) })
      | none => s
    match (List.range 9).find? (fun n => s.adaptOk n) with
    | some n => s.adaptLane n
    | none => s

/-- EYE_MEASURE. -/
def execEyeMeasure (eyes : List (Nat × Nat × Nat)) (s : State) : Host.Outcome State Fault Refusal := s.live fun s => (s.eyeMeasure eyes).done

/-- ADAPT_DONE. -/
def execAdaptDone (lane : Nat) (s : State) : Host.Outcome State Fault Refusal := s.live fun s =>
  (if s.temple.lanes.contains lane then
     let t := s.updTemple (fun p => { p with lanes := p.lanes.filter (fun l => decide (l ≠ lane)) })
     (t.putB R.TP_STATUS_Adapting (!t.temple.lanes.isEmpty)).bump R.CNT_ADAPT_Count
   else s).done

-- ## ECC (R332)

/-- The corrected counts of the sixteen banks. -/
def State.eccCounts (s : State) : List Nat := (List.range 16).map (fun b => s.get (R.ECC_CORR_Count b))

/-- ECC_HOUR. -/
def execEccHour (s : State) : Host.Outcome State Fault Refusal := s.live fun s =>
  (if !s.measures then s
   else
     let now := s.eccCounts
     (s.forN 16 (fun b t => t.setObj 0xA023 (b + 1) ((now.getD b 0 + 2 ^ 32 - s.temple.ecc.getD b 0) % 2 ^ 32))).updTemple (fun t => { t with ecc := now })).done

-- ## Ageing (R333)

/-- The sums a fit works with, centred and times n: of day and day, day and temperature, temperature and temperature, day and
frequency, temperature and frequency, frequency and frequency. -/
structure FitSums where
  n  : Nat
  xx : Int
  xt : Int
  tt : Int
  xf : Int
  tf : Int
  ff : Int
deriving DecidableEq, Repr

/-- The sums of points (day, frequency in 0.001 ppb, temperature in 1/16 °C). -/
def fitSums (ps : List (Int × Int × Int)) : FitSums :=
  let n := ps.length
  let c := fun (f g : Int × Int × Int → Int) => (n : Int) * sumInt (ps.map (fun p => f p * g p)) - sumInt (ps.map f) * sumInt (ps.map g)
  let x := fun (p : Int × Int × Int) => p.1
  let v := fun (p : Int × Int × Int) => p.2.1
  let t := fun (p : Int × Int × Int) => p.2.2
  { n := n, xx := c x x, xt := c x t, tt := c t t, xf := c x v, tf := c t v, ff := c v v }

/-- The quotient of integers with a positive divisor, to the nearest. -/
def fitDiv (a b : Int) : Int := if b < 0 then divRoundAway (-a) (-b).toNat else divRoundAway a b.toNat

/-- The square root of num ÷ den, to the nearest. -/
def rootDiv (num den : Int) : Nat := if den ≤ 0 then 0 else (isqrtBits (4 * num.toNat / den.toNat) 160 0 + 1) / 2

/-- Ageing rate, its standard error and the temperature coefficient of the least squares fit; without the temperature term where
`drop` says so, or where the days and temperatures lie on a line. -/
def fitOf (f : FitSums) (drop : Bool) : Int × Nat × Option Int :=
  let d := f.xx * f.tt - f.xt * f.xt
  if drop ∨ d = 0 then
    (fitDiv f.xf f.xx, rootDiv (f.ff * f.xx - f.xf * f.xf) (f.xx * f.xx * ((f.n : Int) - 2)), none)
  else
    let a := f.xf * f.tt - f.tf * f.xt
    let b := f.tf * f.xx - f.xf * f.xt
    (fitDiv a d, rootDiv ((f.ff * d - a * f.xf - b * f.tf) * f.tt) (d * d * ((f.n : Int) - 3)), some (fitDiv (16 * b) d))

/-- The valid days a ledger record carries: day, mean frequency, mean temperature. -/
def recDay (b : List Byte) : Option (Int × Int × Int) :=
  if bitOf (leNat ((b.drop 6).take 2)) 0 then
    some ((leNat (b.take 4) : Int), toSigned 32 (leNat ((b.drop 8).take 4)), toSigned 16 (leNat ((b.drop 26).take 2)))
  else none

/-- AGEING_FIT at the end of day d, whose own point is `own`. -/
def State.ageFit (s : State) (d : Nat) (own : Option (Int × Int × Int)) : State :=
  let old := (s.ledgerRecs 8192).filterMap recDay
  let w := s.get R.AGE_CFG_WindowDays
  let ps := (old ++ own.toList).filter (fun (p : Int × Int × Int) => decide ((d : Int) < p.1 + (w : Int) ∧ p.1 ≤ (d : Int)))
  let s := s.put R.AGE_DAYS_ValidDays ps.length
  if ps.length < 7 then s.put R.TP_STATUS_AgeValid 0
  else
    let ts := ps.map (fun p => p.2.2)
    let spread := (ts.foldl max (ts.headD 0)) - (ts.foldl min (ts.headD 0))
    let (a, u, t) := fitOf (fitSums ps) (decide (spread < 32))
    let s := ((s.putSat R.AGE_RATE_Rate a).putCap R.AGE_UNC_Unc u).put R.TP_STATUS_AgeValid 1
    match t with
    | some k => (s.putSat R.AGE_TC_Tc k).put R.TP_STATUS_TcValid 1
    | none => (s.putI R.AGE_TC_Tc (s.getI R.AGE_CFG_TcDefault)).put R.TP_STATUS_TcValid 0

-- ## The ledger (R341)

/-- A difference of 32-bit counts. -/
def since32 (now before : Nat) : Nat := (now + 2 ^ 32 - before % 2 ^ 32) % 2 ^ 32

/-- Corrected and uncorrectable ECC words so far. -/
def State.eccSum (s : State) : Nat := s.eccCounts.foldl (· + ·) 0
def State.eccBad (s : State) : Nat := s.get R.ECC_UNCORR_LINK_Count + s.get R.ECC_UNCORR_DATA_Count

/-- The record of day d (R341). -/
def State.ledgerRec (s : State) (d : Nat) (fd td : Int) (valid : Bool) : List Byte :=
  let a := s.day
  let flag := fun (b : Bool) (i : Nat) => if b then 2 ^ i else 0
  let i16 := fun (o : Option Int) => leBytes 2 (ofSigned 16 (satSigned 16 (o.getD 0)))
  let body := leBytes 4 d ++ leBytes 2 (min ((s.xref - a.start) / 37500000000) 1440)
    ++ leBytes 2 (flag valid 0 + flag (s.is R.TP_STATUS_AgeValid) 1 + flag (s.is R.TP_STATUS_TcValid) 2
      + flag (decide (s.get R.CNT_HOLDOVER_Count ≠ a.hold0)) 3 + flag (decide (s.get R.CNT_HOLD_OOS_Count ≠ a.oos0)) 4
      + flag (decide (s.get R.CNT_TEMP_WARN_Count ≠ a.warn0)) 5)
    ++ leBytes 4 (ofSigned 32 fd) ++ leBytes 4 (s.get R.AGE_RATE_Rate) ++ leBytes 4 (s.get R.AGE_UNC_Unc) ++ leBytes 4 (s.get R.AGE_TC_Tc)
    ++ i16 a.low ++ i16 (some td) ++ i16 a.high ++ i16 a.hot
    ++ leBytes 1 (if a.avsN = 0 then 0 else a.avs * 8 / a.avsN) ++ leBytes 1 a.avsTop ++ i16 a.slack
    ++ leBytes 1 ((a.eye.map Prod.fst).getD 0) ++ leBytes 1 ((a.eye.map Prod.snd).getD 0)
    ++ leBytes 2 (min (since32 (s.get R.CNT_ADAPT_Count) a.adapt0) 0xFFFF) ++ leBytes 4 (since32 s.eccSum a.corr0)
    ++ leBytes 2 (min (since32 s.eccBad a.unc0) 0xFFFF) ++ leBytes 2 a.synth ++ leBytes 4 a.hsecs
    ++ leBytes 4 (since32 (s.obj 0xA050 1) a.cues0) ++ leBytes 2 s.unit ++ leBytes 2 0
  body ++ leBytes 4 (crc32c body)

/-- The accumulators of a new day, whose record comes next. -/
def State.dayFresh (s : State) (next : Nat) : State :=
  { s with day := { next := next, start := s.xref, hold0 := s.get R.CNT_HOLDOVER_Count, oos0 := s.get R.CNT_HOLD_OOS_Count, warn0 := s.get R.CNT_TEMP_WARN_Count, adapt0 := s.get R.CNT_ADAPT_Count, corr0 := s.eccSum, unc0 := s.eccBad, cues0 := s.obj 0xA050 1 } }

/-- A record goes to the flash, or waits for the operation in progress, until a time of day where it is the day's first write (R341, R343). -/
def State.ledgerWrite (s : State) (b : List Byte) (by_ : Option Nat) : State :=
  if s.flash.busy.isSome then { s with flash := { s.flash with wait := s.flash.wait ++ [(b, by_)] } }
  else { s with flash := { s.flash with busy := some (.ledger b) } }

/-- The end of a TAI day (R333, R341): the first midnight not yet recorded, now or ahead. -/
def State.dayEnd (s : State) : State :=
  if !s.measures ∨ !s.is R.TIME_STATUS_TodValid then s
  else
    let len := 86400 * unitsPerSec
    let d := max s.day.next (ceilDiv s.time.tai len - 1)
    let s := s.timeTo ((d + 1) * len)
    let n := s.day.secs
    let fd := if n = 0 then 0 else divRoundAway s.day.fSum n
    let td := if n = 0 then 0 else divRoundAway s.day.tSum n
    let valid := decide (43200 ≤ n)
    let s := (s.ageFit d (if valid then some ((d : Int), fd, td) else none)).updTemple (fun t => { t with retry := none })
    let b := s.ledgerRec d fd td valid
    (s.ledgerWrite b (some (((d + 1) * 86400 + 60) * unitsPerSec))).dayFresh (d + 1)

/-- DAY_END. -/
def execDayEnd (s : State) : Host.Outcome State Fault Refusal := s.live fun s => s.dayEnd.done

/-- LEDGER_RETRY (R341). -/
def execLedgerRetry (s : State) : Host.Outcome State Fault Refusal := s.live fun s =>
  (match s.temple.retry with
   | some b => (s.updTemple (fun t => { t with retry := none })).ledgerWrite b none
   | none => s).done

-- ## Planning (R337 to R340)

/-- PlanMode of a stream. -/
def State.planMode (s : State) (i : Nat) : Nat := s.obj (0xA040 + i / 128) (i % 128 + 1)

/-- What a stream's intervals of the last PlanWindow say: ArrMax and Headroom. -/
def State.planWindow (s : State) (i : Nat) : List (Int × Int) :=
  let now := s.time.tai / unitsPerSec
  ((tget [] s.temple.seen i).filter (fun x => decide (now < x.1 + s.obj 0xA030 2))).map Prod.snd

/-- The required offset of a stream (R337); none where no interval counts. -/
def State.required (s : State) (i : Nat) : Option Nat :=
  match s.planWindow i with
  | [] => none
  | x :: xs =>
    let a := xs.foldl (fun (m : Int) y => max m y.1) x.1 + s.obj 0xA030 3 + 24
    let p := -((-(a * s.fs)) / 1000000000) - 1
    some (min (max p.toNat (s.obj 0xA030 5)) (max (s.obj 0xA030 5) (s.obj 0xA030 6)))

/-- The planned value of a stream whose required offset is q (R337). -/
def State.planned (s : State) (i q : Nat) : Option Nat :=
  let p := seF (s.rxs i).cfg R.SE_TIMING_PresentOffset
  if p < q then some q
  else if q + s.obj 0xA030 7 ≤ p ∧ q < p ∧ s.planMode i = 2 then some q
  else none

/-- A stream whose cue was refused is not tried again until PlanPeriod has passed and its quota or bounds have changed (R338). -/
def State.planHeld (s : State) (i : Nat) : Bool :=
  s.temple.stuck.any (fun x => decide (x.1 = i) && (decide (s.time.tai / unitsPerSec < x.2.1 + s.obj 0xA030 1) || decide (x.2.2 = s.planKey i)))

/-- PLAN_CUE_ISSUE (R338, R339): pushed here, and sent to the partner of a pair. -/
def State.planCue (s : State) (i v : Nat) : State :=
  if s.planHeld i then s
  else
    let s := s.updTemple (fun t => { t with stuck := t.stuck.filter (fun x => decide (x.1 ≠ i)) })
    let c : Cue := { pick := s.time.pick + s.get R.STAGE_LEAD_Lead + s.obj 0xA030 4, action := 4, order := 0xE000 + i, issuer := s.unit, arg0 := i % 128 + 1 + (0x4010 + i / 128) * 2 ^ 8, arg1 := v }
    let (code, s) := s.cuePush (wordsOf c.bytes) .firmware 0
    if 1 < code then s.planRefused i
    else
      let s := s.setObj 0xA050 1 ((s.obj 0xA050 1 + 1) % 2 ^ 32)
      if !s.paired then s
      else if s.svUp then s.send (.svCtrl (.cue c.bytes)) else s.send (.cueTo (s.get R.SV_PARTNER_Unit) c.bytes)

/-- The offset a sender plans with: the greater of its own and the partner's, while that is no older than 2 × PlanPeriod (R339). -/
def State.planWith (s : State) (i q : Nat) : Nat × State :=
  match tget none (s.temple.theirs.map (fun x => (x.1, some x.2))) i with
  | some (p, t) =>
    if s.paired ∧ s.time.tai / unitsPerSec ≤ t + 2 * s.obj 0xA030 1 then (max q p, s.setObj 0xA050 3 ((s.obj 0xA050 3 + 1) % 2 ^ 32)) else (q, s)
  | none => (q, s)

/-- HOLD_LIMIT_SET (R340). -/
def State.holdLimitSet (s : State) (streams : List Nat) : State :=
  if s.obj 0xA031 1 ≠ 1 then s
  else
    let run := streams.filter (fun i => decide ((s.rxs i).state = 2))
    let hs := run.flatMap (fun i => (s.planWindow i).map Prod.snd)
    let lo := s.obj 0xA031 3
    let hi := s.obj 0xA031 4
    let v : Option Nat := if run = [] then some hi else match hs with
      | [] => none
      | x :: xs => some (min (max (xs.foldl min x - s.obj 0xA031 2).toNat lo) (max lo hi))
    match v with
    | some k => if s.get R.RD_STATUS_State = 4 ∧ s.get R.HOLD_LIMIT_Ns ≤ k then s else s.put R.HOLD_LIMIT_Ns k
    | none => s

/-- PLAN_PASS (R337 to R340). -/
def State.planPass (s : State) : State :=
  if !s.measures then s
  else
    let is := (s.rx.map Prod.fst).filter (fun i => decide (s.planMode i ≠ 0))
    let qs := is.filterMap (fun i => (s.required i).map (fun q => (i, q)))
    let s := qs.foldl (fun (t : State) x => t.setObj (0xA048 + x.1 / 128) (x.1 % 128 + 1) x.2) s
    let s :=
      if s.paired ∧ ¬ s.senderNow then (if s.svUp ∧ qs ≠ [] then s.send (.svCtrl (.plan qs)) else s)
      else qs.foldl (fun (t : State) x =>
        let (q, t) := t.planWith x.1 x.2
        match t.planned x.1 q with
        | some v => t.planCue x.1 v
        | none => t) s
    s.holdLimitSet is

/-- PLAN_PASS. -/
def execPlanPass (s : State) : Host.Outcome State Fault Refusal := s.live fun s => s.planPass.done

end Sys2Proof.Machine
end

