-- ==== Sys2Proof/Machine/Power.lean ====
section
/-!
DEFINITION. Power, resets, the watchdog, the boot ROM, Doze and the OTP (18_power_reset_boot.md, R117, R118, R170, R193, R448).
-/
namespace Sys2Proof.Machine

/-- The state of power, reset and boot changed. -/
def State.updLife (s : State) (f : LifeSt → LifeSt) : State := { s with life := f s.life }

-- ## The OTP shadow (R407, R419 to R421)

/-- The lifecycle of the low four bits of word 34 (R421); a pattern that is no thermometer is taken as Retired. -/
def lifecycleOf (b : Nat) : Nat := if b = 0 then 0 else if b = 1 then 1 else if b = 3 then 2 else 3

/-- A word of the shadow. -/
def State.fuseWord (s : State) (w : Nat) : Nat := (tget 0#32 s.shadow w).toNat

/-- Lifecycle in force. -/
def State.lifecycle (s : State) : Nat := lifecycleOf (s.fuseWord 34 % 16)

/-- Fields that the OTP sets at reset: Lifecycle, TEMP_WARN and TSD (R408, R419); none before the shadow is loaded. -/
def State.fuseDefaults (s : State) : State :=
  if !s.is R.FUSE_STATUS_ShadowValid then s
  else
    let ib := bitOf (s.fuseWord 3) 16
    ((s.put R.FUSE_STATUS_Lifecycle s.lifecycle).put R.PWR_THERM_Tsd (if ib then 1920 else 1840)).put R.TEMP_WARN_Limit (if ib then 1680 else 1600)

/-- FUSE_SHADOW_LOADED (R407). -/
def execFuseShadowLoaded (s : State) : Host.Outcome State Fault Refusal := s.live fun s =>
  (if s.is R.FUSE_STATUS_ShadowValid then s
   else (({ s with shadow := s.otp } : State).put R.FUSE_STATUS_ShadowValid 1).fuseDefaults).done

-- ## Resets (R404 to R406, R193, R424)

/-- A reset that reinitialises blocks (R404). -/
inductive ResetKind where
  | powerOn
  | pin
  | warm
  | pool
deriving DecidableEq, Repr

/-- A register keeps its word through a reset of a kind (R405): LEASE and AON; what the shadow and the straps set; levels of a supply and
of AVS_VID; the PCIe link and its MSI-X table; the pool's split and its InitDone. -/
def keepReg (k : ResetKind) (a : Nat) : Bool := match k with
  | .powerOn => false
  | k => decide (0x74000 ≤ a ∧ a < 0x78000 ∨ 0x8C000 ≤ a ∧ a < 0x90000 ∨ a = R.SYS_STRAPS ∨ a = R.SUPPLY_STATUS ∨ a = R.FUSE_STATUS ∨ a = R.AVS_STATUS
      ∨ k ≠ .pin ∧ (a = R.PCIE_STATUS ∨ 0x84800 ≤ a ∧ a < 0x84A08) ∨ k = .pool ∧ (a = R.POOL_SPLIT ∨ a = R.BOB_STATUS))

/-- A flash operation in progress is abandoned (R424): a slot being written fails its CRC, and a ledger record is not written. -/
def State.flashAbandon (s : State) : State :=
  let s := match s.flash.busy with
    | some (.save p img _) => s.flashPut (slotAddr p) (patch img 48 (leBytes 4 (leNat ((img.drop 48).take 4) ^^^ 1)))
    | _ => s
  { s with flash := { s.flash with busy := none, wait := [] } }

/-- A word being programmed is left partly programmed (R422): which of its bits have been set is a free value. -/
def State.fuseAbandon (s : State) : State := match s.life.fuse with
  | none => s
  | some f =>
    let (w, s) := s.free
    { s with otp := tput 0#32 f.word (tget 0#32 s.otp f.word ||| (BitVec.ofNat 32 f.bits &&& w)) s.otp }

/-- Temple's day goes on through a reset that sets its sources to 0: the counts at the day's start move with them (R333, R405). -/
def State.dayKept (s : State) : DaySt :=
  let d := s.day
  let f := fun (old now : Nat) => since32 old now
  { d with
    hold0 := f d.hold0 (s.get R.CNT_HOLDOVER_Count)
    oos0 := f d.oos0 (s.get R.CNT_HOLD_OOS_Count)
    warn0 := f d.warn0 (s.get R.CNT_TEMP_WARN_Count)
    adapt0 := f d.adapt0 (s.get R.CNT_ADAPT_Count)
    corr0 := f d.corr0 s.eccSum
    unc0 := f d.unc0 s.eccBad
    cues0 := f d.cues0 (s.obj 0xA050 1) }

/-- Queues at the release of a pool-preserving reset (R193): Host queues lose their open items, all others are flushed. -/
def State.queuesKept (s : State) : State :=
  s.forL s.queues (fun e t =>
    if e.2.state = 0 then t
    else if e.2.cls = 3 then t.forL (e.2.items.filter (fun i => !QItem.done i)) (fun i u => u.qDrop e.1 i.by_ 4)
    else t.qFlush e.1 5)

/-- Everything a reset of a kind reinitialises takes its reset value (R405), with the cause recorded in AON_RST_CAUSE. -/
def State.resetTo (s : State) (k : ResetKind) (cause : Nat) : State :=
  let s := s.flashAbandon.fuseAbandon
  let por := decide (k = .powerOn)
  let t : State := {
    regs := s.regs.filter (fun (e : Nat × BitVec 32) => keepReg k e.1)
    freeCtr := s.freeCtr
    xref := s.xref
    day := if por then { start := s.xref } else s.dayKept
    lease := if por then {} else { s.lease with seq := 0, reqSeq := none, resSeq := none }
    flash := s.flash
    otp := s.otp
    shadow := if por then [] else s.shadow
    blobs := if por then [] else s.blobs.filter (fun (e : Nat × List Byte) => decide (e.1 / 256 = 0xA111))
    pool := if k = .pool then s.pool else []
    queues := if k = .pool then s.queues else []
    host := if k = .warm ∨ k = .pool then { d3 := s.host.d3, aerAbort := s.host.aerAbort } else {}
    outbox := s.outbox
    pending := s.pending }
  let t := if por then t
    else ((t.wr R.AVS_STATUS (regReset R.AVS_STATUS)).put R.AVS_STATUS_Code (s.get R.AVS_STATUS_Code)).fuseDefaults
  let t := ((t.put R.AON_STATUS_Busy 0).put R.FUSE_STATUS_Busy 0).put R.AON_BOOT_STATUS_LoadWindow 0
  let t := if k = .pool then t.queuesKept else t
  let t := t.wr R.AON_RST_CAUSE (BitVec.ofNat 32 cause)
  if por then t else t.leaseEval

/-- The straps are latched at the release of a power-on or pin reset (R405, R410). -/
def State.latch (s : State) (st : Straps) : State :=
  let s := (s.put R.SYS_STRAPS_Boot st.boot).put R.SYS_STRAPS_PairId st.pair
  (s.put R.AON_BOOT_STATUS_Mode st.boot).put R.LEASE_STATUS_PairId st.pair

/-- The rank of the reset that has acted in this very cycle, its kind's place in the table of R404 from below (R424); the ROM has not begun. -/
def State.sameCycle (s : State) : Option Nat := match s.life.rst with
  | some (t, r) => if t = s.xref ∧ s.life.stage = .reset then some r else none
  | none => none

/-- A cause beside that of a reset of the same cycle (R424). -/
def State.causeWith (s : State) (cause : Nat) : BitVec 32 :=
  if s.sameCycle.isSome then s.rd R.AON_RST_CAUSE ||| BitVec.ofNat 32 cause else BitVec.ofNat 32 cause

/-- A reset is asked for: of two in one cycle the kind higher in the table of R404 acts, and both causes are recorded (R424). -/
def State.resetBy (s : State) (rank cause : Nat) (act : State → State) : State :=
  if s.sameCycle.all (fun r => decide (r ≤ rank)) then
    ((act s).wr R.AON_RST_CAUSE (s.causeWith cause)).updLife (fun l => { l with rst := some (s.xref, rank) })
  else s.wr R.AON_RST_CAUSE (s.causeWith cause)

/-- A pin reset with a cause. -/
def State.pinReset (s : State) (cause : Nat) (st : Straps) : State :=
  s.resetBy 3 cause (fun s => ((s.resetTo .pin cause).latch st).leaseEval)

/-- A warm and a pool-preserving reset with a cause. -/
def State.warmReset (s : State) (cause : Nat) : State := s.resetBy 2 cause (fun s => s.resetTo .warm cause)
def State.poolReset (s : State) (cause : Nat) : State := s.resetBy 1 cause (fun s => s.resetTo .pool cause)

/-- POWER_ON_RESET. -/
def execPowerOnReset (st : Straps) (s : State) : Host.Outcome State Fault Refusal := s.always (st.wf) fun s =>
  (s.resetBy 4 1 (fun s => (s.resetTo .powerOn 1).latch st)).done

/-- PIN_RESET: in thermal shutdown, and while XREF is lost, the device is held in reset already (R408, R448). -/
def execPinReset (st : Straps) (s : State) : Host.Outcome State Fault Refusal := s.always (st.wf) fun s =>
  (if s.life.held = .thermal ∨ s.life.held = .xref then s else s.pinReset 2 st).done

/-- WARM_RESET. -/
def execWarmReset (s : State) : Host.Outcome State Fault Refusal := s.live fun s => (s.warmReset 0x10).done

/-- POOL_PRESERVING_RESET. -/
def execPoolPreservingReset (s : State) : Host.Outcome State Fault Refusal := s.live fun s => (s.poolReset 0x40).done

/-- A Spindle reset (R370, R405): the firmware's own state is lost, and every other block keeps running. -/
def State.spindleRestart (s : State) : State :=
  let s := s.flashAbandon
  let t : State := { s with
    objs := []
    blobs := s.blobs.filter (fun (e : Nat × List Byte) => decide (e.1 / 256 = 0xA111))
    ovl := {}, patDue := none, sram := [], partnerLedger := [], subCount := 0, lcp := {}, dom := {}, temple := {}, recovering := false
    lease := { s.lease with seq := 0, reqSeq := none, resSeq := none }
    life := { s.life with stage := .reset, wdog := none, wantTime := false, wantSvc := false } }
  let t := (t.forN 2 (fun m u => u.put (R.MBX_STATUS_Busy m) 0)).put R.AON_BOOT_STATUS_LoadWindow 0
  (t.masterReset 0 0).masterReset 1 0

/-- The reset of the Spindle cores as a reset of R404's table. -/
def State.spindleReset (s : State) : State := s.resetBy 0 0x80 State.spindleRestart

/-- SPINDLE_RESET. -/
def execSpindleReset (s : State) : Host.Outcome State Fault Refusal := s.live fun s => s.spindleReset.done

/-- A write of PWR_CMD (R404): another key or kind is ignored with a record. -/
def State.pwrCmd (s : State) (v : Nat) : State :=
  let k := v % 8
  if bitsOf v 16 16 ≠ 0xA5C3 then s.ignored R.PWR_CMD
  else if k = 1 then s.warmReset 0x10
  else if k = 2 then s.poolReset 0x40
  else if k = 3 then s.spindleReset
  else s.ignored R.PWR_CMD

-- ## Supplies and temperature (R402, R408)

/-- BROWN_OUT. -/
def execBrownOut (st : Straps) (s : State) : Host.Outcome State Fault Refusal := s.accept (st.wf) fun s => (s.pinReset 4 st).done

/-- SUPPLY_UNDERVOLTAGE: the rails now below their thresholds; each onset is counted. -/
def execSupplyUndervoltage (low : Nat) (s : State) : Host.Outcome State Fault Refusal := s.accept (below low 256) fun s =>
  let old := s.get R.SUPPLY_STATUS_Low
  ((s.put R.SUPPLY_STATUS_Low low).add R.CNT_SUPPLY_FAULT_Count ((List.range 8).filter (fun i => bitOf low i && !bitOf old i)).length).done

/-- LeaseValid and ReserveValid are cleared as Release does, so LEASE_OUT falls (R408, R417, R448). -/
def State.leaseDrop (s : State) : State := s.leaseRelease.reserveRelease

/-- Every domain but PD0 is held (R408, R417, R448); a domain whose bit `on` has stays on. -/
def State.hold (s : State) (why : Held) (k : ResetKind) (on : Nat) : State :=
  let t := s.leaseDrop.resetTo k (s.rd R.AON_RST_CAUSE).toNat
  ({ t with life := { t.life with held := why } } : State).put R.PWR_STATUS_On on

/-- THERMAL_SHUTDOWN. -/
def execThermalShutdown (s : State) : Host.Outcome State Fault Refusal := s.live fun s => (s.hold .thermal .pin 0xFFF).done

/-- THERMAL_RELEASE. -/
def execThermalRelease (st : Straps) (s : State) : Host.Outcome State Fault Refusal := s.always (st.wf) fun s =>
  (if s.life.held = .thermal then s.pinReset 8 st else s).done

/-- XREF_LOSS (R448). -/
def execXrefLoss (s : State) : Host.Outcome State Fault Refusal := s.live fun s => (s.hold .xref .pin 0xFFF).done

/-- XREF_RETURN (R448). -/
def execXrefReturn (st : Straps) (s : State) : Host.Outcome State Fault Refusal := s.always (st.wf) fun s =>
  (if s.life.held = .xref then s.pinReset 2 st else s).done

-- ## The watchdog (R409)

/-- WATCHDOG_KICK. -/
def execWatchdogKick (v : Nat) (s : State) : Host.Outcome State Fault Refusal := s.accept (below v (2 ^ 32)) fun s =>
  (s.slow R.AON_WDOG_KICK (fun s => s.wdogKick v)).done

/-- WATCHDOG_CFG_WRITE. -/
def execWatchdogCfgWrite (v : Nat) (s : State) : Host.Outcome State Fault Refusal := s.accept (below v (2 ^ 32)) fun s =>
  (s.slow R.AON_WDOG_CFG (fun s => s.regApply R.AON_WDOG_CFG v)).done

/-- WATCHDOG_WARN: half the timeout has passed without a kick; once in a count. -/
def execWatchdogWarn (s : State) : Host.Outcome State Fault Refusal := s.live fun s =>
  (match s.life.wdog with
   | some (t, false) => ((s.xrefTo (t + s.wdogSpan / 2)).updLife (fun l => { l with wdog := some (t, true) })).bump R.CNT_WDOG_WARN_Count
   | _ => s).done

/-- WATCHDOG_EXPIRE. -/
def execWatchdogExpire (s : State) : Host.Outcome State Fault Refusal := s.live fun s =>
  (match s.life.wdog with
   | some (t, _) => (s.xrefTo (t + s.wdogSpan)).warmReset 0x20
   | none => s).done

-- ## Power domains (R398, R403)

/-- PWR_CTRL_WRITE. -/
def execPwrCtrlWrite (v : Nat) (s : State) : Host.Outcome State Fault Refusal := s.accept (below v (2 ^ 32)) fun s => (s.regApply R.PWR_CTRL v).done

/-- The acknowledged count of an event whose source lies in a domain (R383). -/
def ackIn (d a : Nat) : Bool :=
  decide (R.EVT_ACK 0 ≤ a ∧ a < R.EVT_ACK 128) && (match evtSource ((a - R.EVT_ACK 0) / 4) with
    | some f => decide (domainOf f.reg = d)
    | none => false)

/-- What the blocks of a switchable domain hold takes its reset value, and the acknowledged counts of their events become 0 (R383, R403). -/
def State.domainFresh (s : State) (d : Nat) : State :=
  let s : State := { s with regs := s.regs.filter (fun (e : Nat × BitVec 32) => decide (domainOf e.1 ≠ d) && !ackIn d e.1) }
  if d = 3 then { s with ports := s.ports.filter (fun (e : Nat × PortSt) => decide (2 ≤ e.1)) }
  else if d = 4 then { s with ports := s.ports.filter (fun (e : Nat × PortSt) => decide (e.1 < 2)) }
  else if d = 7 then { s with dec := {} }
  else if d = 10 then { s with host := { s.host with d3 := false, aerAbort := false } }
  else if d = 11 then ({ s with sv := {} } : State).leaseEval
  else s

/-- PD_POWER_UP_DONE: a switchable domain that PWR_CTRL asks for, and that is not yet on. -/
def execPdPowerUpDone (d : Nat) (s : State) : Host.Outcome State Fault Refusal := s.accept (below d 12) fun s =>
  (match (List.range 5).find? (fun b => decide (pwrDomain b = d)) with
   | some b =>
     if bitOf (s.rd R.PWR_CTRL).toNat b ∧ ¬ bitOf (s.get R.PWR_STATUS_On) d then (s.domainFresh d).put ⟨R.PWR_STATUS, d, 1⟩ 1 else s
   | none => s).done

-- ## The boot ROM (R410 to R414, R421)

/-- Bytes of words of the shadow. -/
def State.fuseBytes (s : State) (w n : Nat) : List Byte := (List.range n).flatMap (fun i => leBytes 4 (s.fuseWord (w + i)))

/-- SecVer minimum: the number of 1 bits of word 35 (R419). -/
def State.secVerMin (s : State) : Nat := ((List.range 32).filter (fun i => bitOf (s.fuseWord 35) i)).length

/-- An image's key is one the lifecycle admits (R412, R421). -/
def State.bootKeyOk (s : State) (key : List Byte) : Bool :=
  let a := s.fuseBytes 16 8
  let h := sha256 key
  decide (s.lifecycle = 0 ∨ s.lifecycle = 1 ∧ a.all (fun b => decide (b = 0#8)))
  || decide (h = a ∧ ¬ bitOf (s.fuseWord 36) 8 ∨ h = s.fuseBytes 24 8)

/-- The payload length of an image header. -/
def imageLen (img : List Byte) : Nat := leNat ((img.drop 16).take 4)

/-- A header looks valid: magic and format version (R413). -/
def headerOk (img : List Byte) : Bool := decide (img.take 4 = [0x57#8, 0x44#8, 0x58#8, 0x46#8] ∧ leNat ((img.drop 4).take 2) = 1)

/-- The result of checking a firmware image (R412), the first condition that fails, in the order R412 gives them: the codes of
AON_BOOT_STATUS.Result. `img` is the header and what follows it. -/
def State.bootCheck (s : State) (img : List Byte) : Nat :=
  let n := imageLen img
  let payload := (img.drop 256).take n
  if s.lifecycle = 3 then 9
  else if img.take 4 ≠ [0x57#8, 0x44#8, 0x58#8, 0x46#8] then 2
  else if !headerOk img ∨ n < 4 then 3
  else if 982784 < n then 8
  else if !s.bootKeyOk ((img.drop 128).take 64) then 4
  else if !ecdsaOk ((img.drop 128).take 64) ((img.drop 192).take 64) (img.take 128) then 5
  else if sha256 payload ≠ (img.drop 24).take 32 then 6
  else if leNat ((img.drop 12).take 4) < s.secVerMin then 7
  else 1

/-- A result of the boot ROM. -/
def State.bootResult (s : State) (c : Nat) : State := (s.put R.AON_BOOT_STATUS_Result c).bump R.AON_BOOT_STATUS_Seq

/-- Spindle A starts the image that lies in the load area (R412). -/
def State.launch (s : State) : State :=
  let s := (s.bootResult 1).put R.AON_BOOT_STATUS_LoadWindow 0
  (s.setObj 0x1004 0 (leNat (Memory.readBytes s.sram 56 4))).updLife (fun l => { l with stage := .launched })

/-- The header and the payload of flash image slot k (R411, R412); only the header where the payload does not fit. -/
def State.flashImage (s : State) (k : Nat) : List Byte :=
  let h := Memory.readBytes s.flash.mem (k * 0x400000) 256
  h ++ (if headerOk h ∧ imageLen h ≤ 982784 then Memory.readBytes s.flash.mem (k * 0x400000 + 256) (imageLen h) else [])

/-- A flash slot is tried: launched from the load area where its image passes. -/
def State.tryImage (s : State) (k : Nat) : State :=
  let img := s.flashImage k
  let c := s.bootCheck img
  if c = 1 then (({ s with sram := Memory.writeBytes s.sram 0 img } : State).launch).put R.AON_BOOT_STATUS_Slot k
  else s.bootResult c

/-- The ROM runs recovery: N0 comes up at 1000BASE-X with the base station address (R93, R414). A port that is enabled goes down first, since
Mode and RsFec change only while Enable is 0 (R91). -/
def State.recover (s : State) : State :=
  let a := s.fuseWord 4 + s.fuseWord 5 % 65536 * 2 ^ 32
  let s := if s.is (R.PCS_CTRL_Enable 0) then ((s.pcsLocks 0 false).enterPort 0 0).put (R.PCS_CTRL_Enable 0) 0 else s
  let s := { s with recovering := true }
  let s := (((s.put (R.PCS_CTRL_Mode 0) 2).put (R.PCS_CTRL_RsFec 0) 0).put (R.PCS_CTRL_Enable 0) 1).put (R.STA_ADDR_LO_Addr 0 0) (a % 2 ^ 32)
  let s := (s.put (R.STA_ADDR_HI_Addr 0 0) (a / 2 ^ 32)).put (R.STA_ADDR_HI_Valid 0 0) 1
  (s.put (R.MAC_CTRL_RxEnable 0) 1).put (R.MAC_CTRL_TxEnable 0) 1

/-- Flash mode (R413): the valid-looking header with the greater Sequence first, slot 0 where they are equal; then the other slot, and
recovery where both fail. -/
def State.flashBoot (s : State) : State :=
  let h := fun (k : Nat) => Memory.readBytes s.flash.mem (k * 0x400000) 256
  let q := fun (k : Nat) => if headerOk (h k) then leNat (((h k).drop 8).take 4) + 1 else 0
  let first := if q 0 < q 1 then 1 else 0
  let s := s.tryImage first
  if s.life.stage = .launched then s
  else
    let s := s.tryImage (1 - first)
    if s.life.stage = .launched then (s.put R.AON_BOOT_STATUS_Fallback 1).bump R.CNT_BOOT_FALLBACK_Count
    else (s.put R.AON_RST_CAUSE_AutoRecovery 1).recover

/-- BOOT_ROM_START (R407, R410): once after a reset, with the shadow loaded. -/
def State.romStart (s : State) : State :=
  if s.life.stage ≠ .reset ∨ ¬ s.is R.FUSE_STATUS_ShadowValid then s
  else
    let s := ((s.updLife (fun l => { l with stage := .rom })).put R.AON_BOOT_STATUS_Fallback 0).pd8Up
    let mode := s.get R.AON_BOOT_STATUS_Mode
    if s.lifecycle = 3 then (s.bootResult 9).recover
    else if mode = 0 then s.flashBoot
    else if mode = 3 then s.recover
    else s.put R.AON_BOOT_STATUS_LoadWindow 1

/-- BOOT_ROM_START. -/
def execBootRomStart (s : State) : Host.Outcome State Fault Refusal := s.live fun s => s.romStart.done

/-- The image in the load area is checked: launched, or its failure given. -/
def State.loadLaunch (s : State) : State :=
  let h := Memory.readBytes s.sram 0 256
  let c := s.bootCheck (h ++ Memory.readBytes s.sram 256 (min (imageLen h) 982784))
  if c = 1 then s.launch else s.bootResult c

/-- A write of AON_BOOT_CMD.Go (R413, R424): ignored with a record while the window is closed; a failure opens the window again. -/
def State.bootGo (s : State) : State :=
  if s.is R.AON_BOOT_STATUS_LoadWindow then s.loadLaunch else s.ignored R.AON_BOOT_CMD

/-- BOOT_GO. -/
def execBootGo (s : State) : Host.Outcome State Fault Refusal := s.live fun s => (s.slow R.AON_BOOT_CMD State.bootGo).done

/-- A message of the Recovery class passes the ROM's checks (R355, R356, R414): Counter is ignored, and the tag checked where the domain
key is fused. -/
def State.recoveryOk (s : State) (kind : Nat) (m : List Byte) : Bool :=
  decide (s.recovering ∧ s.life.stage = .rom ∧ s.portState 0 = 5 ∧ 44 ≤ m.length ∧ m.length ≤ 1472)
  && decide (m.take 5 = [0x57#8, 0x4C#8, 1#8, 3#8, BitVec.ofNat 8 kind] ∧ m.getD 5 0#8 = 0#8 ∧ leNat ((m.drop 6).take 2) = m.length)
  && (!s.keyFused || decide (m.drop (m.length - 16) = (hmac (s.lcpKey (leNat ((m.drop 8).take 2))) (m.take (m.length - 16))).take 16))

/-- The ROM's reply, from N0. -/
def State.recoveryReply (s : State) (ip udp kind : Nat) (m body : List Byte) : State :=
  s.lcpSend 0 ip udp 3 kind 1 (leNat ((m.drop 10).take 2)) (leNat ((m.drop 16).take 4)) body

/-- RECOVERY_IDENTIFY (R414). -/
def execRecoveryIdentify (ip udp : Nat) (msg : List (BitVec 8)) (s : State) : Host.Outcome State Fault Refusal := s.live fun s =>
  (if !s.recoveryOk 1 msg then s
   else s.recoveryReply ip udp 1 msg ([0#8] ++ s.fuseBytes 0 2 ++ leBytes 1 s.lifecycle ++ leBytes 4 Config.romVersion.toNat
     ++ (s.fuseBytes 4 2).take 6)).done

/-- A Load (R414): data at an offset within the load area; Range where it passes the area's end. -/
def State.recoveryLoad (s : State) (body : List Byte) : List Byte × State :=
  let off := leNat (body.take 4)
  let n := leNat ((body.drop 4).take 2)
  if body.length < 8 ∨ 1024 < n ∨ body.length < 8 + n then ([1#8] ++ leBytes 4 off, s)
  else if 0xF0000 < off + n then ([9#8] ++ leBytes 4 off, s)
  else ([0#8] ++ leBytes 4 (off + n), { s with sram := Memory.writeBytes s.sram off ((body.drop 8).take n) })

/-- RECOVERY_LOAD; a Retired device answers only Identify (R421). -/
def execRecoveryLoad (ip udp : Nat) (msg : List (BitVec 8)) (s : State) : Host.Outcome State Fault Refusal := s.live fun s =>
  (if !s.recoveryOk 2 msg ∨ s.lifecycle = 3 then s
   else
     let (b, t) := s.recoveryLoad ((msg.drop 28).take (msg.length - 44))
     t.recoveryReply ip udp 2 msg b).done

/-- RECOVERY_LAUNCH. -/
def execRecoveryLaunch (ip udp : Nat) (msg : List (BitVec 8)) (s : State) : Host.Outcome State Fault Refusal := s.live fun s =>
  (if !s.recoveryOk 3 msg ∨ s.lifecycle = 3 then s
   else
     let t := s.loadLaunch
     t.recoveryReply ip udp 3 msg [BitVec.ofNat 8 (t.get R.AON_BOOT_STATUS_Result)]).done

-- ## Start-up (R415)

/-- The frequency of the newest ledger record whose day-valid flag is set, or 0. -/
def State.ledgerFreq (s : State) : Int := match (s.ledgerRecs 8192).filterMap recDay with
  | r :: _ => r.2.1
  | [] => 0

/-- Launched firmware starts the unit (R409, R415): the watchdog, MCS0, the boot pattern, DPLL_FREQ_SET, and the PCS of the ports in the
mask `ports`, which the settings and the boot pattern name; then it waits for a time and for its domain. -/
def State.firmwareStart (s : State) (ports : Nat) : State :=
  if s.life.stage ≠ .launched then s
  else
    let s := s.updLife (fun l => { l with stage := .running })
    let s := ((s.regApply R.AON_WDOG_CFG 1000).wdogKick 0x5A5A).synCtrlApply (setBits (s.rd R.SYN_CTRL).toNat 0 1 1)
    let s := s.bootPattern.regApply R.DPLL_FREQ_SET (ofSigned 32 s.ledgerFreq)
    let s := s.forN 4 (fun n t => if bitOf ports n then t.pcsRegApply n 0 (setBits (t.rd (R.PCS_CTRL n)).toNat 0 1 1) else t)
    (s.updLife (fun l => { l with wantTime := true, wantSvc := true })).roleRefs.startTime s.sv.tod

/-- FIRMWARE_START. -/
def execFirmwareStart (ports : Nat) (s : State) : Host.Outcome State Fault Refusal := s.live fun s => (s.firmwareStart ports).done

-- ## Doze and wake (R117, R118, R417, R418)

/-- A write of AON_DOZE_CMD.Enter (R417). -/
def State.dozeEnter (s : State) : State :=
  let p := s.get R.AON_WAKE_CFG_Port
  let src := s.is R.AON_WAKE_CFG_MagicEn || decide (s.get R.AON_WAKE_CFG_PatternEn ≠ 0) || s.is R.AON_WAKE_CFG_WakePinEn
  if !src ∨ ¬ bitOf (s.get R.PWR_STATUS_On) (3 + p / 2) then s.refusedAt R.AON_DOZE_CMD
  else
    let a := s.station p 0
    let keep := s.is R.AON_WAKE_CFG_PoolRetain
    let s := s.hold .doze (if keep then .pool else .pin) (if keep then 5 else 1)
    ((s.put R.AON_WAKE_ADDR_LO_Addr (a % 2 ^ 32)).put R.AON_WAKE_ADDR_HI_Addr (a / 2 ^ 32)).wr R.AON_WAKE_CAUSE 0#32

/-- DOZE_ENTER. -/
def execDozeEnter (s : State) : Host.Outcome State Fault Refusal := s.live fun s => (s.slow R.AON_DOZE_CMD State.dozeEnter).done

/-- A frame, the bytes before its FCS, is a magic packet for a station address (R118). -/
def magicIn (addr : Nat) (f : List Byte) : Bool :=
  let da := beAt f 0 6
  let want := List.replicate 6 0xFF#8 ++ (List.replicate 16 (beBytes 6 addr)).flatten
  (decide (da = addr) || isGroup da)
  && (List.range (f.length - 12)).any (fun i => decide ((f.drop (12 + i)).take 102 = want))

/-- A frame matches a wake pattern of 128 pattern bytes and 16 mask bytes (R118). -/
def patternIn (pat f : List Byte) : Bool :=
  let mask := leNat ((pat.drop 128).take 16)
  decide (mask ≠ 0) && (List.range 128).all (fun i => !bitOf mask i || (decide (i < f.length) && decide (f.getD i 0#8 = pat.getD i 0#8)))

/-- AON_WAKE_CAUSE bits of a frame with a good FCS. -/
def State.wakeBits (s : State) (f : List Byte) : Nat :=
  let a := s.get R.AON_WAKE_ADDR_LO_Addr + s.get R.AON_WAKE_ADDR_HI_Addr * 2 ^ 32
  (if s.is R.AON_WAKE_CFG_MagicEn && magicIn a f then 1 else 0)
  + ((List.range 4).filter (fun j => bitOf (s.get R.AON_WAKE_CFG_PatternEn) j && patternIn (s.wakePattern j) f)).foldl (fun t j => t + 2 ^ (j + 1)) 0

/-- A wake request with its cause bits (R418). -/
def State.wake (s : State) (bits : Nat) (st : Straps) : State :=
  if s.life.held ≠ .doze ∨ bits = 0 then s
  else
    let s := s.wr R.AON_WAKE_CAUSE (BitVec.ofNat 32 bits)
    if s.is R.AON_WAKE_CFG_PoolRetain then s.poolReset 0x100 else s.pinReset 0x100 st

/-- The cause bit of WAKE_N. -/
def State.wakePinBit (s : State) (low : Bool) : Nat := if low && s.is R.AON_WAKE_CFG_WakePinEn then 0x20 else 0

/-- WAKE_PIN. -/
def execWakePin (st : Straps) (s : State) : Host.Outcome State Fault Refusal := s.always (st.wf) fun s => (s.wake (s.wakePinBit true) st).done

/-- WAKE_FRAME_MATCH: a frame at the wake port, whether its FCS is good, and whether WAKE_N asks at the same time (R424). -/
def execWakeFrameMatch (frame : List (BitVec 8)) (good pin : Bool) (st : Straps) (s : State) : Host.Outcome State Fault Refusal := s.always (st.wf) fun s =>
  (s.wake ((if good then s.wakeBits frame else 0) + s.wakePinBit pin) st).done

-- ## Programming the OTP (R421, R422)

/-- The lock group of a word (R419): none for 34 to 36, 7 for a reserved word. -/
def lockGroup (w : Nat) : Option Nat :=
  if w < 6 then some 0 else if w < 8 then some 7 else if w < 16 then some 1 else if w < 24 then some 2 else if w < 32 then some 3
  else if w = 32 then some 4 else if w = 33 then some 5 else if w < 37 then none else if w < 64 then some 7 else some 6

/-- A word's group is locked, or the word is reserved. -/
def State.fuseLocked (s : State) (w : Nat) : Bool := match lockGroup w with
  | some 7 => true
  | some g => bitOf (s.fuseWord 36) g
  | none => false

/-- The lifecycle admits a word (R421). -/
def State.fuseWordOk (s : State) (w : Nat) : Bool :=
  decide (s.lifecycle < 2 ∨ s.lifecycle = 2 ∧ (w = 32 ∨ w = 33 ∨ w = 35 ∨ w = 36 ∨ 64 ≤ w))

/-- The lifecycle may advance (R421). -/
def State.advanceOk (s : State) : Bool :=
  let l := s.lifecycle
  let locks := s.fuseWord 36
  if l = 0 then bitOf locks 0
  else if l = 1 then bitOf locks 1 && bitOf locks 2 && (s.fuseBytes 16 8).any (fun b => decide (b ≠ 0#8))
  else decide (l = 2)

/-- A sensor reads below 0 °C or above 85 °C. -/
def State.fuseTemp (s : State) : Bool := (List.range 4).any (fun k => decide (s.getI (R.TEMP_Temp k) < 0 ∨ 85 * 16 < s.getI (R.TEMP_Temp k)))

/-- A command's result: the code, and the count of the event it raises. -/
def State.fuseResult (s : State) (c : Nat) : State :=
  ((s.put R.FUSE_RESULT_Code c).bump R.FUSE_RESULT_Seq).bump (if c = 0 then R.CNT_FUSE_PROG_Count else R.CNT_FUSE_ERR_Count)

/-- Programming begins, or the code that refuses it is given (R422); `vpp` is the level of VPP. -/
def State.fuseStart (s : State) (vpp : Bool) (locked lifeOk : Bool) (op : FuseOp) : State :=
  let s := s.putB R.FUSE_STATUS_VppOk vpp
  if !vpp then s.fuseResult 1
  else if locked then s.fuseResult 2
  else if !lifeOk then s.fuseResult 3
  else if s.fuseTemp then s.fuseResult 4
  else (s.updLife (fun l => { l with fuse := some op })).put R.FUSE_STATUS_Busy 1

/-- A write of FUSE_CMD.Program. -/
def State.fuseProgram (s : State) (vpp asked : Bool) : State :=
  let w := s.get R.FUSE_ADDR_Word
  s.fuseStart vpp (s.fuseLocked w) (s.fuseWordOk w) { word := w, bits := s.get R.FUSE_DATA_Bits, asked := asked }

/-- A write of FUSE_CMD.Advance. -/
def State.fuseAdvance (s : State) (vpp : Bool) : State :=
  s.fuseStart vpp false s.advanceOk { word := 34, bits := 2 ^ s.lifecycle, asked := false }

/-- FUSE_PROGRAM. -/
def execFuseProgram (vpp : Bool) (s : State) : Host.Outcome State Fault Refusal := s.live fun s =>
  (s.slow R.FUSE_CMD (fun s => s.fuseProgram vpp false)).done

/-- FUSE_ADVANCE. -/
def execFuseAdvance (vpp : Bool) (s : State) : Host.Outcome State Fault Refusal := s.live fun s =>
  (s.slow R.FUSE_CMD (fun s => s.fuseAdvance vpp)).done

/-- Programming ends (R422): `failed` has the bits that read back 0. -/
def State.fuseDone (s : State) (f : FuseOp) (failed : Nat) : State :=
  let bad := BitVec.ofNat 32 f.bits &&& BitVec.ofNat 32 failed &&& ~~~ (tget 0#32 s.otp f.word)
  let v := tget 0#32 s.otp f.word ||| (BitVec.ofNat 32 f.bits &&& ~~~ bad)
  let s : State := { s with otp := tput 0#32 f.word v s.otp, life := { s.life with fuse := none } }
  let s := s.put R.FUSE_STATUS_Busy 0
  if bad ≠ 0#32 then s.fuseResult 5
  else (({ s with shadow := tput 0#32 f.word v s.shadow } : State).put R.FUSE_STATUS_Lifecycle
    (lifecycleOf ((tget 0#32 (tput 0#32 f.word v s.shadow) 34).toNat % 16))).fuseResult 0

end Sys2Proof.Machine
end

