-- ==== Sys2Proof/Machine/Errs.lean ====
section
/-!
DEFINITION. Error records and event acknowledgement (R383, R385, R388 to R390).
-/
namespace Sys2Proof.Machine

-- ## The ERR block (R390)

/-- Where the next report to be entered stands among those that wait: of the lowest Block, the earliest. -/
def nextReport : List ErrReport → Option ErrReport
  | [] => none
  | r :: rs => match nextReport rs with
    | some q => if q.block < r.block then some q else some r
    | none => some r

/-- The first report equal to r taken out. -/
def dropReport (r : ErrReport) : List ErrReport → List ErrReport
  | [] => []
  | q :: qs => if q = r then qs else q :: dropReport r qs

/-- A report as a record of four words (R388). -/
def ErrReport.record (r : ErrReport) (seq pick : Nat) : ErrRec :=
  { w0 := seq % 65536 + r.code % 256 * 2 ^ 16 + r.block % 64 * 2 ^ 24 + (if r.write then 2 ^ 30 else 0)
    w1 := r.addr % 2 ^ 32
    w2 := r.detail % 256 + (match r.master with | some (m, i) => m % 8 * 256 + i % 16 * 2048 + 2 ^ 15 | none => 0) + r.aux % 65536 * 2 ^ 16
    w3 := pick % 2 ^ 32 }

/-- ERR accepts one report: it is counted, entered where the FIFO has room, and held as the first record where none is held. -/
def State.errAccept (s : State) : State := match nextReport s.errWait with
  | none => s
  | some r =>
    let s := ({ s with errWait := dropReport r s.errWait } : State).bump R.CNT_REC_Count
    let e := r.record (s.get R.CNT_REC_Count) s.time.pick
    let s := if s.errFifo.length < 16 then { s with errFifo := s.errFifo ++ [e] } else s.bump R.ERR_CNT_LOST_Count
    if s.is R.ERR_STATUS_FirstValid then s
    else (s.wrWords (R.ERR_FIRST_W 0) [BitVec.ofNat 32 e.w0, BitVec.ofNat 32 e.w1, BitVec.ofNat 32 e.w2, BitVec.ofNat 32 e.w3]).put R.ERR_STATUS_FirstValid 1

/-- ERROR_RECORD_ACCEPT. -/
def execErrorRecordAccept (s : State) : Host.Outcome State Fault Refusal := s.live fun s => s.errAccept.done

/-- A read of ERR_POP that includes byte 3: word 0 with Valid, and words 1 to 3 latched; 0 where the FIFO is empty. -/
def State.errPop (s : State) : Nat × State := match s.errFifo with
  | [] => (0, s)
  | e :: es =>
    (e.w0 + 2 ^ 31, ({ s with errFifo := es } : State).wrWords (R.ERR_POP_W 0) [BitVec.ofNat 32 e.w1, BitVec.ofNat 32 e.w2, BitVec.ofNat 32 e.w3])

/-- ERR_POP. -/
def execErrPop (s : State) : Host.Outcome State Fault Refusal := s.live fun s =>
  let (v, t) := s.errPop
  (t.send (.readData R.ERR_POP v)).done

/-- A write of ERR_FIRST_ACK: the held first record is released by its Seq. -/
def State.errFirstAck (s : State) (v : Nat) : State :=
  if s.is R.ERR_STATUS_FirstValid ∧ v % 65536 = (s.rd (R.ERR_FIRST_W 0)).toNat % 65536 then s.put R.ERR_STATUS_FirstValid 0 else s

/-- ERR_FIRST_ACK. -/
def execErrFirstAck (v : Nat) (s : State) : Host.Outcome State Fault Refusal := s.accept (below v (2 ^ 32)) fun s => (s.errFirstAck v).done

-- ## Acknowledgement and MSI-X (R383, R385)

/-- MSIX_RESEND: after an acknowledgement every vector whose level is still 1 sends its message again. -/
def State.resend (s : State) : State :=
  let now := s.levels 32
  { s.forN 32 (fun v t => if bitOf now v then t.vecFire v else t) with msixLevel := now }

/-- A write of EVT_ACKe. -/
def State.evtAck (s : State) (e v : Nat) : State := if e < 128 then (s.put (R.EVT_ACK_Ack e) v).resend else s

/-- EVT_ACK_WRITE. -/
def execEvtAckWrite (e v : Nat) (s : State) : Host.Outcome State Fault Refusal := s.accept (below e 128 && below v (2 ^ 32)) fun s => (s.evtAck e v).done

/-- A write of EVT_ACKALLw. -/
def State.evtAckAll (s : State) (w v : Nat) : State :=
  if w < 4 then (s.forN 32 (fun i t => if bitOf v i then t.put (R.EVT_ACK_Ack (32 * w + i)) (t.evtCount (32 * w + i)) else t)).resend else s

/-- EVT_ACKALL_WRITE. -/
def execEvtAckallWrite (w v : Nat) (s : State) : Host.Outcome State Fault Refusal := s.accept (below w 4 && below v (2 ^ 32)) fun s => (s.evtAckAll w v).done

/-- A vector that is no longer masked: its Pending Bit Array bit clears, and its message is sent if its level is still 1 (R385, R396). -/
def State.unmasked (s : State) (v : Nat) : State :=
  if s.vecMasked v ∨ ¬ bitOf (s.get (R.MSIX_PBA_Pending 0)) v then s
  else
    let s := s.put ⟨R.MSIX_PBA 0, v, 1⟩ 0
    if s.vecLevel v then s.vecFire v else s

/-- Vector v's mask is cleared, or the function mask. -/
def State.msixUnmask (s : State) : Option Nat → State
  | some v => if v < 32 then (s.put (R.MSIX_VCTRL_Mask v) 0).unmasked v else s
  | none => (s.put R.PCIE_STATUS_FunctionMask 0).forN 32 (fun v t => t.unmasked v)

/-- MSIX_UNMASK. -/
def execMsixUnmask (v : Option Nat) (s : State) : Host.Outcome State Fault Refusal := s.accept (optBelow v 32) fun s => (s.msixUnmask v).done

end Sys2Proof.Machine
end

