-- ==== Sys2Proof/Machine/Lcp.lean ====
section
/-!
DEFINITION. The Loom Control Protocol and the mailboxes (R354 to R370): what a received message must pass, how requests are served, and the
flash and fuse operations that requests wait for.
-/
namespace Sys2Proof.Machine

-- ## Zones (R349, R350)

/-- A requester may read objects of a zone. -/
def State.mayRead (s : State) (who : Requester) (zone : Nat) : Bool := match who with
  | .net .. => decide (zone = 0) || !bitOf (s.fuseWord 32) 16
  | .mbox _ => true

/-- The item status a requester's write to a zone gets: 0 where it may write. -/
def State.writeZone (s : State) (who : Requester) (zone : Nat) : Nat := match who with
  | .net .. => if zone = 0 then 0 else if zone = 1 then 7 else 6
  | .mbox m => if zone = 2 then 6 else if m = 1 ∧ bitOf (s.fuseWord 32) 17 then 7 else 0

-- ## Replies (R360, R368)

/-- A reply to a request, over its own path: the mailbox's reply goes to its window, and Busy clears. The reply to a request whose
mailbox has been reset since goes nowhere. -/
def State.answer (s : State) (who : Requester) (msg body : List Byte) : State :=
  let kind := leNat ((msg.drop 4).take 1)
  let target := leNat ((msg.drop 10).take 2)
  let txn := leNat ((msg.drop 16).take 4)
  match who with
  | .net port ip udp _ => s.lcpSend port ip udp 0 kind 1 target txn body
  | .mbox m =>
    if 2 ≤ m then s else
    let all := lcpHeader 0 kind 1 (28 + body.length) (s.obj 0x1200 0) (s.get R.SH_UNIT_Unit) target txn 0 ++ body
    let s := (s.wrWords (R.MBX_REPLY m 0) (wordsOf (pad4 all))).put (R.MBX_REPLY_LEN_Len m) all.length
    (s.put (R.MBX_STATUS_Busy m) 0).bump (R.MBX_STATUS_Seq m)

/-- Two requests come from one requester: the same peer, or the same mailbox (R360). -/
def samePeer : Requester → Requester → Bool
  | .net _ ip _ u, .net _ ip' _ u' => decide (ip = ip' ∧ u = u')
  | .mbox m, .mbox m' => decide (m = m')
  | _, _ => false

/-- A kept reply that a request's key matches and whose second has not passed. -/
def State.keptFor (s : State) (who : Requester) (msg : List Byte) : Option Kept :=
  s.lcp.kept.find? (fun k => samePeer k.who who && decide (k.txn = leNat ((msg.drop 16).take 4) ∧ k.kind = leNat ((msg.drop 4).take 1)
    ∧ s.xref < k.made + 1000 * cclkMs))

/-- A request is answered: the reply is sent, kept and counted; an action that ends the firmware's run follows it: 1 to 3 a reset, 4 Doze. -/
def State.finish (s : State) (who : Requester) (msg body : List Byte) (after : Nat) : State :=
  let s := (s.answer who msg body).lcpCount 10
  let k : Kept := { who := who, txn := leNat ((msg.drop 16).take 4), kind := leNat ((msg.drop 4).take 1), body := body, made := s.xref }
  let s := s.updLcp (fun l => { l with kept := (k :: l.kept.filter (fun x => !(samePeer x.who who && decide (x.txn = k.txn ∧ x.kind = k.kind)))).take 64 })
  if after = 4 then s.dozeEnter else if after = 0 then s else s.pwrCmd (0xA5C30000 + after)

/-- KEPT_REPLY_EXPIRE (R360): the oldest kept reply's second ends. -/
def execKeptReplyExpire (s : State) : Host.Outcome State Fault Refusal := s.live fun s =>
  (match s.lcp.kept.getLast? with
   | none => s
   | some k =>
     let s := s.xrefTo (k.made + 1000 * cclkMs)
     s.updLcp (fun l => { l with kept := l.kept.filter (fun x => decide (s.xref < x.made + 1000 * cclkMs)) })).done

/-- A reply body: message status, item count, items. -/
def replyBody (status count : Nat) (items : List Byte) : List Byte := leBytes 1 status ++ [0#8] ++ leBytes 2 count ++ items

-- ## READ (R362)

/-- One item's reply: `room` the bytes it may take. -/
def State.readOne (s : State) (who : Requester) (room i j mode : Nat) : List Byte × State := match objFind i j with
  | none => (readItem (if indexUsed i then 5 else 4) 0 0 [], s)
  | some (r, e) =>
    let z := s.zone r i
    let out := fun (typ : Nat) (v : List Byte) (t : State) =>
      if room < 8 + (pad4 v).length then (readItem 0x0C 0 0 [], s) else (readItem 0 0 typ v, t)
    if !s.mayRead who z then (readItem 7 0 0 [], s)
    else if mode = 2 then out 12 (descriptor r z (objDefault r ((i - r.lo) * r.per) i r.first)) s
    else if 2 < mode then (readItem 9 0 0 [], s)
    else if r.acc = 2 then (readItem 6 0 0 [], s)
    else match typeBytes r.typ with
      | some n => out r.typ (leBytes n (if mode = 1 then s.objBase r e i j else s.objLive r e i j)) s
      | none =>
        if i = 0xF000 then
          let (w, t) := s.errPop
          out 12 (leBytes 4 w ++ (List.range 3).flatMap (fun k => leBytes 4 (t.rd (R.ERR_POP_W k)).toNat)) t
        else out r.typ (s.blobNow e i j) s

/-- The items of a READ, with 8 bytes kept for each that is still to come. -/
def State.readAll (s : State) (who : Requester) (room : Nat) : Nat → List Byte → List Byte × State
  | 0, _ => ([], s)
  | n + 1, bs =>
    let (a, t) := s.readOne who (room - 8 * n) (leNat (bs.take 2)) (leNat ((bs.drop 2).take 1)) (leNat ((bs.drop 3).take 1))
    let (b, u) := t.readAll who (room - a.length) n (bs.drop 4)
    (a ++ b, u)

-- ## WRITE (R363)

/-- What became of a write item: its status and detail, whether it waits for an operation's end, whether that end gives its code, and an
action that follows the reply. -/
structure ItemOut where
  status : Nat := 0
  detail : Nat := 0
  left   : Nat := 0
  fuse   : Bool := false
  after  : Nat := 0
deriving DecidableEq, Repr

/-- An owner's result code as an item's outcome. -/
def ownerOut (c : Nat) : ItemOut := if c = 0 then {} else { status := 0x0A, detail := c }

/-- A flash operation asked for by a write item: its code, and the wait where it has begun, no other being in progress. -/
def flashOut (busy : Bool) (c : Nat) : ItemOut := if c = 0 then { left := 1 } else { status := 0x0A, detail := c, left := if busy then 0 else 1 }

/-- A write of FuseProgram (R425). -/
def State.fuseWrite (s : State) (v : List Byte) : ItemOut × State :=
  let w := leNat (v.take 1)
  if v.length ≠ 8 then ({ status := 8 }, s)
  else if 128 ≤ w ∨ (v.drop 1).take 3 ≠ [0#8, 0#8, 0#8] then ({ status := 9 }, s)
  else if s.is R.FUSE_STATUS_Busy then ({ status := 0x0C }, s)
  else
    let t := ((s.put R.FUSE_ADDR_Word w).put R.FUSE_DATA_Bits (leNat (v.drop 4))).fuseProgram (s.is R.FUSE_STATUS_VppOk) true
    if t.life.fuse.isSome then ({ left := 1, fuse := true }, t) else (ownerOut (t.get R.FUSE_RESULT_Code), t)

/-- The path a requester's cues come by (R41, R364). -/
def cuePathOf : Requester → CueOrigin
  | .net port ip udp _ => .lcp port ip udp
  | .mbox m => .mailbox m

/-- A cue pushed for a requester, with the Sender of its message as Issuer; 0xFFFF for a mailbox (R364, R368). -/
def State.cueFor (s : State) (who : Requester) (cue : List Byte) : Nat × State :=
  let sender := match who with | .net _ _ _ u => u | .mbox _ => 0xFFFF
  s.cuePush (wordsOf (patch cue 12 (leBytes 2 sender))) (cuePathOf who) 0

/-- A write of an object whose type, zone and range have passed, by its owner's rules; objects that are commands act (R41, R210, R325,
R326, R390, R404, R417, R425). -/
def State.writeAct (s : State) (who : Requester) (r : ObjRow) (e i j : Nat) (v : List Byte) : ItemOut × State :=
  let n := leNat v
  if i = 0x9110 then
    let (c, t) := s.cueFor who v
    if v.length ≠ 32 then ({ status := 8 }, s) else ((if c ≤ 1 then { detail := c } else { status := 0x0A, detail := c }), t)
  else if i = 0x9111 then
    let (c, t) := s.cueCancel (leNat (v.take 8)) (leNat (v.drop 8))
    if v.length ≠ 10 then ({ status := 8 }, s) else ((if c = 0x0C then { detail := c } else { status := 0x0A, detail := c }), t)
  else if i = 0x5181 then let (c, t) := s.xtCommitNow n; (ownerOut c, t)
  else if i = 0x5182 then let (c, t) := s.xtAbandon n; (ownerOut c, t)
  else if i = 0x9002 then
    if 8 ≤ n then ({ status := 9 }, s) else (flashOut s.flash.busy.isSome (s.loadCode n (s.image n)).1, s.patternLoad n .request)
  else if i = 0x9003 then
    if 8 ≤ n then ({ status := 9 }, s) else (flashOut s.flash.busy.isSome (if s.flash.busy.isSome then 5 else 0), s.patternSave n .request)
  else if i = 0x9004 then
    let (c, t) := s.imageWrite e v .request
    (if c = 0 then { left := 1 } else ownerOut c, t)
  else if i = 0xF002 then ({}, s.errFirstAck n)
  else if i = 0xA100 then (if n = 0 ∨ 3 < n then { status := 9 } else { after := n }, s)
  else if i = 0xA112 then
    if n = 0 then ({}, s) else if s.dozeEnter.life.held = .doze then ({ after := 4 }, s) else ({ status := 0x0A, detail := 0xFF }, s.dozeEnter)
  else if i = 0xA130 then s.fuseWrite v
  else match typeBytes r.typ with
    | some _ => let (c, t) := s.objSet r e i j n none; ({ status := c.1, detail := c.2 }, t)
    | none => let (c, t) := s.blobPut r e i j v; ({ status := c.1, detail := c.2 }, t)

/-- The block that owns an object of a table or of the crosspoint commands, by its code in error records (R388). -/
def ownerBlock (r : ObjRow) (e i : Nat) : Option Nat := match r.home e with
  | .rx _ => some 13
  | .tx _ => some 14
  | .dst _ => some 16
  | .ch _ => some 17
  | .dt _ => some 19
  | _ =>
    if 0x4000 ≤ i ∧ i < 0x4008 then some 13 else if 0x4100 ≤ i ∧ i < 0x4108 then some 14 else if 0xF410 ≤ i ∧ i < 0xF420 then some 15
    else if 0x5180 ≤ i ∧ i < 0x5184 then some 16 else if 0x6000 ≤ i ∧ i < 0x6008 then some 17 else if 0x5200 ≤ i ∧ i < 0x5241 then some 19 else none

/-- An object write with what its owner does; one that a block refuses writes an error record, as a refused command of the block does, where the
refusal has not written its own (R361, R389). -/
def State.writeOwn (s : State) (who : Requester) (r : ObjRow) (e i j : Nat) (v : List Byte) : ItemOut × State :=
  let (o, t) := s.writeAct who r e i j v
  if o.status ≠ 0x0A ∨ t.errWait.length ≠ s.errWait.length then (o, t)
  else match ownerBlock r e i with
    | some b => (o, t.report { code := 0x10, block := b, detail := o.detail, aux := e })
    | none => (o, t)

/-- An object is held by an open write session (R367). -/
def State.bulkLocked (s : State) (i j : Nat) : Bool := s.lcp.bulk.any (fun b => decide (b.write ∧ b.index = i ∧ b.sub = j))

/-- A write item: access, zone, type, range, then its owner; `own` for the write that ends a session, which its lock does not stop. -/
def State.writeItem (s : State) (who : Requester) (i j : Nat) (v : List Byte) (own : Bool) : ItemOut × State := match objFind i j with
  | none => ({ status := if indexUsed i then 5 else 4 }, s)
  | some (r, e) =>
    let z := s.writeZone who (s.zone r i)
    if r.acc = 0 ∨ r.acc = 3 then ({ status := 6 }, s)
    else if z ≠ 0 then ({ status := z }, s)
    else if s.bulkLocked i j ∧ ¬ own then ({ status := 0x0C }, s)
    else match typeBytes r.typ with
      | some n =>
        if v.length ≠ n then ({ status := 8 }, s)
        else if !s.valueOk r e i j (leNat v) then ({ status := 9 }, s)
        else s.writeOwn who r e i j v
      | none => if r.maxLen < v.length then ({ status := 8 }, s) else s.writeOwn who r e i j v

/-- The items of a WRITE body: index, subindex, value; none where they do not parse. -/
def writeItems : Nat → List Byte → Option (List (Nat × Nat × List Byte))
  | 0, bs => if bs = [] then some [] else none
  | n + 1, bs =>
    let len := leNat ((bs.drop 4).take 2)
    let pad := (len + 3) / 4 * 4
    if bs.length < 8 + pad then none
    else (writeItems n (bs.drop (8 + pad))).map (fun r => (leNat (bs.take 2), leNat ((bs.drop 2).take 1), (bs.drop 8).take len) :: r)

/-- Items written in order. -/
def State.writeAll (s : State) (who : Requester) : List (Nat × Nat × List Byte) → List ItemOut × State
  | [] => ([], s)
  | (i, j, v) :: rs =>
    let (a, t) := s.writeItem who i j v false
    let (b, u) := t.writeAll who rs
    (a :: b, u)

/-- What serving a request gives: its reply's body, and what ItemOut says of its items together. -/
structure Served where
  body  : List Byte
  left  : Nat := 0
  fuse  : Option Nat := none
  after : Nat := 0
deriving DecidableEq, Repr

/-- Where in a WRITE reply the item stands that takes a FuseProgram's code. -/
def fuseAt (k : Nat) : List ItemOut → Option Nat
  | [] => none
  | o :: os => if o.fuse then some k else fuseAt (k + 4) os

/-- A WRITE: with Atomic one failing item fails the message, and only the error records of its owners stay. -/
def State.serveWrite (s : State) (who : Requester) (atomic : Bool) (items : List (Nat × Nat × List Byte)) : Served × State :=
  let (outs, t) := s.writeAll who items
  let row := fun (st d : Nat) => leBytes 1 st ++ leBytes 1 d ++ [0#8, 0#8]
  if atomic ∧ outs.any (fun o => decide (o.status ≠ 0)) then
    ({ body := replyBody 0 outs.length (outs.flatMap (fun o => if o.status = 0 then row 0x0B 0 else row o.status o.detail)) }, { s with errWait := t.errWait })
  else
    ({ body := replyBody 0 outs.length (outs.flatMap (fun o => row o.status o.detail))
       left := (outs.map ItemOut.left).foldl (· + ·) 0
       fuse := fuseAt 4 outs
       after := (outs.map ItemOut.after).foldl max 0 }, t)

-- ## WRITE_AT (R364)

/-- Cues pushed in message order; each item carries the code of its push. -/
def State.writeAtAll (s : State) (who : Requester) : Nat → List Byte → List Byte × State
  | 0, _ => ([], s)
  | n + 1, bs =>
    let (c, t) := s.cueFor who (bs.take 32)
    let (b, u) := t.writeAtAll who n (bs.drop 32)
    (leBytes 1 c ++ [0#8, 0#8, 0#8] ++ b, u)

-- ## SUBSCRIBE and NOTIFY (R365, R366)

/-- XREF-derived time in milliseconds. -/
def State.nowMs (s : State) : Nat := s.xref / cclkMs

/-- A subscription's destination: address and port, or mailbox. -/
def sameDest : Requester → Requester → Bool
  | .net _ ip udp _, .net _ ip' udp' _ => decide (ip = ip' ∧ udp = udp')
  | .mbox m, .mbox m' => decide (m = m')
  | _, _ => false

/-- The subscriptions replaced, with their number. -/
def State.setSubs (s : State) (xs : List Sub) : State := { s.updLcp (fun l => { l with subs := xs }) with subCount := xs.length }

/-- A subscription put in its place in rising order of index and subindex. -/
def subIns (x : Sub) : List Sub → List Sub
  | [] => [x]
  | y :: ys => if objKey x.index x.sub < objKey y.index y.sub then x :: y :: ys else y :: subIns x ys

/-- One item of a SUBSCRIBE: its status. -/
def State.subscribeOne (s : State) (who : Requester) (i j mode period : Nat) : Nat × State := match objFind i j with
  | none => (if indexUsed i then 5 else 4, s)
  | some (r, _) =>
    let mine := fun (x : Sub) => sameDest x.who who && decide (x.index = i ∧ x.sub = j)
    let rest := s.lcp.subs.filter (fun x => !mine x)
    if r.acc = 2 then (6, s)
    else if !s.mayRead who (s.zone r i) then (7, s)
    else if (typeBytes r.typ).isNone then (8, s)
    else if mode = 0 then (0, s.setSubs rest)
    else if 2 < mode ∨ period < 10 ∨ 60000 < period then (9, s)
    else match s.lcp.subs.find? mine with
      | some x => (0, s.setSubs (subIns { x with who := who, mode := mode, period := period, fresh := s.nowMs } rest))
      | none =>
        if 256 ≤ rest.length then (0x0D, s)
        else (0, s.setSubs (subIns { who := who, index := i, sub := j, mode := mode, period := period, sent := s.nowMs, fresh := s.nowMs } rest))

/-- The items of a SUBSCRIBE. -/
def State.subscribeAll (s : State) (who : Requester) : Nat → List Byte → List Byte × State
  | 0, _ => ([], s)
  | n + 1, bs =>
    let (c, t) := s.subscribeOne who (leNat (bs.take 2)) (leNat ((bs.drop 2).take 1)) (leNat ((bs.drop 3).take 1)) (leNat ((bs.drop 4).take 2))
    let (b, u) := t.subscribeAll who n (bs.drop 8)
    (leBytes 1 c ++ [0#8, 0#8, 0#8] ++ b, u)

/-- The live value of a subscribed object. -/
def State.subValue (s : State) (x : Sub) : Nat := match objFind x.index x.sub with
  | some (r, e) => s.objLive r e x.index x.sub
  | none => 0

/-- A subscription is due (R366). -/
def State.subDue (s : State) (x : Sub) : Bool :=
  if x.mode = 1 then
    match x.value with
    | none => true
    | some v => decide (s.subValue x ≠ v ∧ x.sent + x.period ≤ s.nowMs)
  else decide (x.sent + (x.period + 9) / 10 * 10 ≤ s.nowMs)

/-- Items packed into NOTIFY messages of at most 1,420 bytes of items. -/
def notifyPacks : List (List Byte) → List (List (List Byte))
  | [] => []
  | i :: is => match notifyPacks is with
    | [] => [[i]]
    | p :: ps => if (i ++ p.flatten).length ≤ 1420 then (i :: p) :: ps else [i] :: p :: ps

/-- SUBSCRIPTION_EVAL: every due item of one requester in its messages. -/
def State.subEval (s : State) : State :=
  let due := s.lcp.subs.filter s.subDue
  let whos := due.foldl (fun (ws : List Requester) x => if ws.any (fun w => sameDest w x.who) then ws else ws ++ [x.who]) []
  let item := fun (x : Sub) => match objFind x.index x.sub with
    | some (r, _) => readItem 0 0 r.typ (leBytes ((typeBytes r.typ).getD 0) (s.subValue x))
    | none => []
  let subs := s.lcp.subs.map (fun x => if s.subDue x then { x with value := some (s.subValue x), sent := s.nowMs } else x)
  (s.forL whos (fun w t => t.forL (notifyPacks ((due.filter (fun x => sameDest x.who w)).map item)) (fun p u => u.notify w p))).setSubs subs

/-- SUBSCRIPTION_EVAL (R366). -/
def execSubscriptionEval (s : State) : Host.Outcome State Fault Refusal := s.live fun s => s.subEval.done

/-- SUBSCRIPTION_LAPSE (R365): SubLife seconds have passed for the subscription renewed the longest ago. -/
def State.subLapse (s : State) : State :=
  let life := s.obj 0x1103 0 * 1000
  match s.lcp.subs with
  | [] => s
  | x :: xs =>
    let s := s.xrefTo ((xs.foldl (fun m y => min m y.fresh) x.fresh + life) * cclkMs)
    s.setSubs (s.lcp.subs.filter (fun y => decide (s.nowMs < y.fresh + life)))

/-- SUBSCRIPTION_LAPSE. -/
def execSubscriptionLapse (s : State) : Host.Outcome State Fault Refusal := s.live fun s => s.subLapse.done

-- ## BULK (R367)

/-- The cells a session of `total` bytes takes of BulkQueue's quota; none where there is no such Host-class queue or too little quota. -/
def State.staging (s : State) (total : Nat) : Option Nat :=
  let q := s.obj 0x1104 0
  let v := s.queue q
  let need := ceilDiv total 124 + 1
  let used := v.cells + (s.lcp.bulk.map Bulk.cells).foldl (· + ·) 0
  if 4096 ≤ q ∨ v.cls ≠ 3 ∨ ¬ v.enable ∨ v.quota < used + need then none else some need

/-- A BULK reply item: status, detail, and the body layout of R367. -/
def bulkItem (status detail sess op i j off total : Nat) (data : List Byte) : List Byte :=
  leBytes 1 status ++ leBytes 1 detail ++ [0#8, 0#8] ++ leBytes 2 sess ++ leBytes 1 op ++ [0#8] ++ leBytes 2 i ++ leBytes 1 j ++ [0#8]
    ++ leBytes 4 off ++ leBytes 4 total ++ leBytes 2 data.length ++ [0#8, 0#8] ++ pad4 data

/-- The status of opening a session on an object, and its row where it may open. -/
def State.bulkCheck (s : State) (who : Requester) (write : Bool) (i j total : Nat) : Nat × Nat := match objFind i j with
  | none => (if indexUsed i then 5 else 4, 0)
  | some (r, e) =>
    let z := s.zone r i
    if write then
      if r.acc = 0 ∨ r.acc = 3 then (6, 0)
      else if s.writeZone who z ≠ 0 then (s.writeZone who z, 0)
      else if (typeBytes r.typ).isSome ∨ r.maxLen < total then (8, 0)
      else if s.bulkLocked i j then (0x0C, 0)
      else (0, e)
    else if r.acc = 2 then (6, 0)
    else if !s.mayRead who z then (7, 0)
    else if (typeBytes r.typ).isSome then (8, 0)
    else (0, e)

/-- A session opened; at most four are open at once. -/
def State.bulkOpen (s : State) (who : Requester) (write : Bool) (i j total : Nat) (data : List Byte) (op : Nat) : List Byte × State :=
  if 4 ≤ s.lcp.bulk.length then (bulkItem 0x0C 0 0 op i j 0 0 [], s)
  else match s.staging total with
    | none => (bulkItem 0x10 0 0 op i j 0 0 [], s)
    | some c =>
      let id := s.lcp.next
      let b : Bulk := { id := id, who := who, write := write, index := i, sub := j, total := total, data := data, cells := c, seen := s.nowMs }
      (bulkItem 0 0 id op i j 0 (if write then 0 else total) [],
       s.updLcp (fun l => { l with bulk := l.bulk ++ [b], next := if id = 65535 then 1 else id + 1 }))

/-- A session replaced, or ended where none. -/
def State.bulkSet (s : State) (id : Nat) (b : Option Bulk) : State :=
  s.updLcp (fun l => { l with bulk := l.bulk.filterMap (fun (x : Bulk) => if x.id = id then b else some x) })

/-- A Data request of a write session. -/
def State.bulkPut (s : State) (b : Bulk) (off : Nat) (data : List Byte) : Served × State :=
  let got := b.data.length
  let one := fun (st d : Nat) (n : Nat) => replyBody 0 1 (bulkItem st d b.id 3 b.index b.sub off n [])
  if off ≠ got then ({ body := one 0x0F 0 got }, s.bulkSet b.id (some { b with seen := s.nowMs }))
  else if 1024 < data.length ∨ b.total < got + data.length ∨ (data.length % 4 ≠ 0 ∧ got + data.length ≠ b.total) then
    ({ body := one 9 0 got }, s.bulkSet b.id (some { b with seen := s.nowMs }))
  else if got + data.length < b.total then
    ({ body := one 0 0 (got + data.length) }, s.bulkSet b.id (some { b with data := b.data ++ data, seen := s.nowMs }))
  else
    let (o, t) := (s.bulkSet b.id none).writeItem b.who b.index b.sub (b.data ++ data) true
    ({ body := one o.status o.detail b.total, left := o.left, fuse := if o.fuse then some 4 else none, after := o.after }, t)

/-- A BULK request; `b` its body. -/
def State.serveBulk (s : State) (who : Requester) (b : List Byte) : Served × State :=
  let sess := leNat (b.take 2)
  let op := leNat ((b.drop 2).take 1)
  let i := leNat ((b.drop 4).take 2)
  let j := leNat ((b.drop 6).take 1)
  let off := leNat ((b.drop 8).take 4)
  let total := leNat ((b.drop 12).take 4)
  let len := leNat ((b.drop 16).take 2)
  let one := fun (x : List Byte) => ({ body := replyBody 0 1 x } : Served)
  let mine := s.lcp.bulk.find? (fun x => decide (x.id = sess) && samePeer x.who who)
  if op = 1 then
    let (c, e) := s.bulkCheck who false i j 0
    if c ≠ 0 then (one (bulkItem c 0 0 op i j 0 0 []), s)
    else
      let v := s.blobNow e i j
      let (x, t) := s.bulkOpen who false i j v.length v op
      (one x, t)
  else if op = 2 then
    let (c, _) := s.bulkCheck who true i j total
    if c ≠ 0 then (one (bulkItem c 0 0 op i j 0 0 []), s)
    else
      let (x, t) := s.bulkOpen who true i j total [] op
      (one x, t)
  else if 4 < op ∨ op = 0 then ({ body := replyBody 1 0 [] }, s)
  else match mine with
    | none => (one (bulkItem 0x0E 0 sess op i j off 0 []), s)
    | some x =>
      if op = 4 then (one (bulkItem 0 0 sess op x.index x.sub off 0 []), s.bulkSet sess none)
      else if x.write then s.bulkPut x off ((b.drop 20).take len)
      else if 1024 < len then (one (bulkItem 9 0 sess op x.index x.sub off x.total []), s)
      else (one (bulkItem 0 0 sess op x.index x.sub off x.total ((x.data.drop off).take len)), s.bulkSet sess (some { x with seen := s.nowMs }))

/-- BULK_TIMEOUT (R367): the session idle the longest has been so for 2 s. -/
def State.bulkTimeout (s : State) : State := match s.lcp.bulk with
  | [] => s
  | x :: xs =>
    let s := s.xrefTo ((xs.foldl (fun m y => min m y.seen) x.seen + 2000) * cclkMs)
    let old := s.lcp.bulk.filter (fun y => decide (y.seen + 2000 ≤ s.nowMs))
    s.forL old (fun y t => (t.bulkSet y.id none).lcpCount 9)

/-- BULK_TIMEOUT. -/
def execBulkTimeout (s : State) : Host.Outcome State Fault Refusal := s.live fun s => s.bulkTimeout.done

-- ## Serving (R358 to R360)

/-- A request served, from its message without tag: its reply and what it waits for; none for a NOTIFY, which is not answered. -/
def State.serveBody (s : State) (who : Requester) (msg : List Byte) : Option (Served × State) :=
  let kind := leNat ((msg.drop 4).take 1)
  let flags := leNat ((msg.drop 5).take 1)
  let body := msg.drop 28
  let n := leNat (body.take 2)
  let items := body.drop 4
  let bad := fun (st : Nat) => some (({ body := replyBody st 0 [] } : Served), s)
  let plain := fun (p : List Byte × State) => some (({ body := replyBody 0 n p.1 } : Served), p.2)
  if leNat ((msg.drop 3).take 1) ≠ 0 ∨ kind = 0 ∨ 6 < kind then bad 3
  else if kind = 5 then none
  else if bitOf flags 0 ∨ body.length < (if kind = 6 then 20 else 4) ∨ (kind ≠ 6 ∧ n = 0) then bad 1
  else if kind = 1 then
    if 128 < n then bad 2 else if items.length ≠ 4 * n then bad 1 else plain (s.readAll who 1424 n items)
  else if kind = 2 then
    if 64 < n then bad 2
    else match writeItems n items with
      | none => bad 1
      | some ws => some (s.serveWrite who (bitOf flags 1) ws)
  else if kind = 3 then
    if 16 < n then bad 2 else if items.length ≠ 32 * n then bad 1 else plain (s.writeAtAll who n items)
  else if kind = 4 then
    if 32 < n then bad 2 else if items.length ≠ 8 * n then bad 1 else plain (s.subscribeAll who n items)
  else if body.length ≠ 20 + (leNat ((body.drop 16).take 2) + 3) / 4 * 4 then bad 1
  else some (s.serveBulk who body)

/-- A request at the head of the queue: a kept reply is sent again; otherwise the request is served, and answered unless it waits. -/
def State.serve (s : State) (who : Requester) (msg : List Byte) : State := match s.keptFor who msg with
  | some k => (s.answer who msg k.body).lcpCount 6
  | none => match s.serveBody who msg with
    | none => s
    | some (r, t) =>
      if r.left = 0 then t.finish who msg r.body r.after
      else t.updLcp (fun l => { l with held := some { who := who, msg := msg, body := r.body, left := r.left, fuse := r.fuse } })

/-- Requests wait: an earlier one waits for an operation's end, or a pattern load runs (R359). -/
def State.lcpWaits (s : State) : Bool := s.lcp.held.isSome || (match s.flash.busy with | some (.load ..) => true | _ => false)

/-- A request joins the queue of R359. -/
def State.request (s : State) (who : Requester) (msg : List Byte) : State :=
  if s.lcpWaits then s.updLcp (fun l => { l with wait := l.wait ++ [(who, msg)] }) else s.serve who msg

/-- Waiting requests are served in order, until one waits again. -/
def State.drain (s : State) : Nat → State
  | 0 => s
  | n + 1 => match s.lcp.wait with
    | [] => s
    | (who, msg) :: rest => if s.lcpWaits then s else ((s.updLcp (fun l => { l with wait := rest })).serve who msg).drain n

/-- An operation has ended: the request that waits for it goes on, with the code of a FuseProgram in its place. -/
def State.release (s : State) (code : Option Nat) : State :=
  let s := match s.lcp.held with
    | none => s
    | some h =>
      let body := match code, h.fuse with
        | some c, some k => patch h.body k (if c = 0 then [0#8, 0#8] else [0x0A#8, BitVec.ofNat 8 c])
        | _, _ => h.body
      if h.left ≤ 1 then (s.updLcp (fun l => { l with held := none })).finish h.who h.msg body 0
      else s.updLcp (fun l => { l with held := some { h with body := body, left := h.left - 1, fuse := if code.isSome then none else h.fuse } })
  s.drain s.lcp.wait.length

/-- A request row of the table: a message of that kind, and for BULK of that op, reaches the firmware's queue. -/
def State.requestRow (s : State) (who : Requester) (msg : List Byte) (kind : Nat) (op : Option Nat) : State :=
  if leNat ((msg.drop 4).take 1) = kind ∧ (op = none ∨ op = some (leNat ((msg.drop 30).take 1))) then s.request who msg else s

/-- READ. -/
def execRead (who : Requester) (msg : List (BitVec 8)) (s : State) : Host.Outcome State Fault Refusal := s.accept (who.wf) fun s => (s.requestRow who msg 1 none).done
/-- WRITE. -/
def execWrite (who : Requester) (msg : List (BitVec 8)) (s : State) : Host.Outcome State Fault Refusal := s.accept (who.wf) fun s => (s.requestRow who msg 2 none).done
/-- WRITE_AT. -/
def execWriteAt (who : Requester) (msg : List (BitVec 8)) (s : State) : Host.Outcome State Fault Refusal := s.accept (who.wf) fun s => (s.requestRow who msg 3 none).done
/-- SUBSCRIBE. -/
def execSubscribe (who : Requester) (msg : List (BitVec 8)) (s : State) : Host.Outcome State Fault Refusal := s.accept (who.wf) fun s => (s.requestRow who msg 4 none).done
/-- BULK_OPEN_READ. -/
def execBulkOpenRead (who : Requester) (msg : List (BitVec 8)) (s : State) : Host.Outcome State Fault Refusal := s.accept (who.wf) fun s => (s.requestRow who msg 6 (some 1)).done
/-- BULK_OPEN_WRITE. -/
def execBulkOpenWrite (who : Requester) (msg : List (BitVec 8)) (s : State) : Host.Outcome State Fault Refusal := s.accept (who.wf) fun s => (s.requestRow who msg 6 (some 2)).done
/-- BULK_DATA. -/
def execBulkData (who : Requester) (msg : List (BitVec 8)) (s : State) : Host.Outcome State Fault Refusal := s.accept (who.wf) fun s => (s.requestRow who msg 6 (some 3)).done
/-- BULK_ABORT. -/
def execBulkAbort (who : Requester) (msg : List (BitVec 8)) (s : State) : Host.Outcome State Fault Refusal := s.accept (who.wf) fun s => (s.requestRow who msg 6 (some 4)).done

-- ## Received messages (R354 to R358)

/-- A peer's entry finds a counter new (R357). -/
def Peer.fresh (p : Peer) (c : Nat) : Bool := decide (p.high < c) || (decide (c < p.high ∧ p.high ≤ c + 64) && !bitOf p.map (p.high - 1 - c))

/-- A peer's entry with a counter taken. -/
def Peer.take (p : Peer) (c : Nat) : Peer :=
  if p.high < c then
    let d := c - p.high
    { p with high := c, map := if 64 < d then 0 else (p.map * 2 ^ d + 2 ^ (d - 1)) % 2 ^ 64 }
  else { p with map := p.map ||| 2 ^ (p.high - 1 - c) }

/-- A counter's time is acceptable (R357): bit 63 marks an untimed one. -/
def State.ctrTime (s : State) (c : Nat) : Bool :=
  if 2 ^ 63 ≤ c then !s.is R.TIME_STATUS_TodValid || decide (s.obj 0x1102 0 = 1)
  else !s.is R.TIME_STATUS_TodValid || decide (((c : Int) - (s.taiNs : Int)).natAbs ≤ s.obj 0x1101 0 * 1000000)

/-- The peer table with a counter accepted from a peer, or none where the counter is not fresh; the entry used last comes first. -/
def State.peerTake (s : State) (dom unit ip c : Nat) : Option (List Peer) :=
  let mine := fun (p : Peer) => decide (p.dom = dom ∧ p.unit = unit ∧ p.ip = ip)
  if !s.ctrTime c then none
  else match s.lcp.peers.find? mine with
    | some p => if p.fresh c then some (p.take c :: s.lcp.peers.filter (fun q => !mine q)) else none
    | none => some (({ dom := dom, unit := unit, ip := ip, high := c } :: s.lcp.peers).take 2048)

/-- A received message is checked in the order of R358; a Control-class request that passes is queued. -/
def State.lcpRx (s : State) (port ip udp : Nat) (m : List Byte) : State :=
  let cls := leNat ((m.drop 3).take 1)
  let dom := leNat ((m.drop 8).take 2)
  let unit := leNat ((m.drop 10).take 2)
  let target := leNat ((m.drop 12).take 2)
  let n := m.length - 16
  if 4 ≤ port ∨ s.portState port < 2 ∨ 4 < s.portState port then s
  else if m.length < 44 ∨ 1472 < m.length ∨ m.take 3 ≠ [0x57#8, 0x4C#8, 1#8] ∨ 2 < cls ∨ leNat ((m.drop 6).take 2) ≠ m.length then s.lcpCount 1
  else if cls = 0 ∧ (bitOf (s.fuseWord 32) 18 ∨ s.obj 0x1100 (port + 1) = 0) then s.lcpCount 2
  else if dom ≠ s.obj 0x1200 0 ∨ (target ≠ 0xFFFF ∧ target ≠ s.get R.SH_UNIT_Unit) then s.lcpCount 3
  else if !s.keyFused ∨ m.drop n ≠ (hmac (s.lcpKey dom) (m.take n)).take 16 then s.lcpCount 4
  else match s.peerTake dom unit ip (leNat ((m.drop 20).take 8)) with
    | none => s.lcpCount 5
    | some ps =>
      let s := s.updLcp (fun l => { l with peers := ps })
      if cls = 0 then s.request (.net port ip udp unit) (m.take n) else s

/-- LCP_RX: a message of the Domain or Pair class that passes is acted on by the row of its kind. -/
def execLcpRx (port ip udp : Nat) (msg : List (BitVec 8)) (s : State) : Host.Outcome State Fault Refusal := s.accept (below port 4) fun s =>
  (s.lcpRx port ip udp msg).done

-- ## Mailboxes (R368, R369)

/-- A write of MBX_DOORBELL. A message that R358 would drop leaves a reply length of 0. -/
def State.doorbell (s : State) (m v : Nat) : State :=
  let len := v % 2048
  let off := R.MBX_DOORBELL m
  let res := fun (t : State) (c : Nat) => t.put (R.MBX_STATUS_Result m) c
  let drop := fun (t : State) => ((t.put (R.MBX_REPLY_LEN_Len m) 0).put (R.MBX_STATUS_Busy m) 0).bump (R.MBX_STATUS_Seq m)
  if 2 ≤ m then s
  else if s.is (R.MBX_STATUS_Busy m) then (res s 1).errAt 0x21 off
  else if !s.is (R.MBX_CTRL_Enable m) then res s 3
  else if len < 28 ∨ 1456 < len then res s 2
  else
    let s := (res s 0).put (R.MBX_STATUS_Busy m) 1
    let msg := (bytesOf (s.rdWords (R.MBX_REQ m 0) ((len + 3) / 4))).take len
    let target := leNat ((msg.drop 12).take 2)
    if msg.take 3 ≠ [0x57#8, 0x4C#8, 1#8] ∨ 3 < leNat ((msg.drop 3).take 1) ∨ leNat ((msg.drop 6).take 2) ≠ len then drop (s.lcpCount 1)
    else if leNat ((msg.drop 8).take 2) ≠ s.obj 0x1200 0 ∨ (target ≠ 0xFFFF ∧ target ≠ s.get R.SH_UNIT_Unit) then drop (s.lcpCount 3)
    else if leNat ((msg.drop 4).take 1) = 5 then drop s
    else s.request (.mbox m) msg

/-- MBX_DOORBELL. -/
def execMbxDoorbell (m v : Nat) (s : State) : Host.Outcome State Fault Refusal := s.accept (below m 2 && below v (2 ^ 32)) fun s => (s.doorbell m v).done

-- ## Operations that requests wait for (R325, R326, R341, R359, R411, R422)

/-- The first of the ledger records that wait begins; one that has waited past 60 s after its day's end has failed and is retried (R341, R343). -/
def State.ledgerStart (s : State) : List (List Byte × Option Nat) → State
  | [] => { s with flash := { s.flash with wait := [] } }
  | (b, by_) :: bs =>
    if by_.any (fun t => decide (t < s.time.tai)) then ((s.updTemple (fun t => { t with retry := some b })).bump R.CNT_LEDGER_FAIL_Count).ledgerStart bs
    else { s with flash := { s.flash with busy := some (.ledger b), wait := bs } }

/-- The next ledger record that waits for the flash begins. -/
def State.ledgerNext (s : State) : State := if s.flash.busy.isSome ∨ s.flash.wait = [] then s else s.ledgerStart s.flash.wait

/-- The flash operation in progress ends; `ok` says whether the flash took it. The result of a save that the flash did not take is a
free value. -/
def State.flashEnd (s : State) (ok : Bool) : State := match s.flash.busy with
  | none => s
  | some op =>
    let s : State := { s with flash := { s.flash with busy := none } }
    match op with
    | .load _ c asker => if asker = .none then s.send (.opResult 0x9002 0 c) else if asker = .request then s.release none else s
    | .save p img asker =>
      let (c, s) : Nat × State := if ok then (0, s.flashPut (slotAddr p) img)
        else
          let t := ({ s with flash := { s.flash with busy := some op } } : State).flashAbandon
          (t.free.1.toNat % 256, { t.free.2 with flash := { t.free.2.flash with wait := s.flash.wait } })
      if asker = .none then s.send (.opResult 0x9003 0 c) else if asker = .request then s.release none else s
    | .ledger b =>
      if ok then
        let s := s.flashPut (0x2800000 + s.flash.ledger % 8192 * 64) b
        ({ s with flash := { s.flash with ledger := s.flash.ledger + 1 }, sv := { s.sv with ledger := s.sv.ledger ++ [b] } } : State).bump R.CNT_LEDGER_WRITE_Count
      else (s.updTemple (fun t => { t with retry := some b })).bump R.CNT_LEDGER_FAIL_Count

/-- FLASH_OPERATION_END. -/
def execFlashOperationEnd (ok : Bool) (s : State) : Host.Outcome State Fault Refusal := s.live fun s =>
  (let t := (s.flashEnd ok).ledgerNext
   t.drain t.lcp.wait.length).done

/-- FUSE_PROGRAM_DONE (R422). -/
def execFuseProgramDone (failed : Nat) (s : State) : Host.Outcome State Fault Refusal := s.live fun s =>
  (match s.life.fuse with
   | none => s
   | some f =>
     let t := s.fuseDone f failed
     if f.asked then t.release (some (t.get R.FUSE_RESULT_Code)) else t).done

/-- SAP_ANNOUNCE (R163): the stream's announcement, every SapInterval. -/
def State.sapAnnounce (s : State) (i : Nat) : State := s.sapSend i (s.txs i).cfg false

/-- SAP_ANNOUNCE. -/
def execSapAnnounce (i : Nat) (s : State) : Host.Outcome State Fault Refusal := s.accept (below i 1024) fun s => (s.sapAnnounce i).done

end Sys2Proof.Machine
end

