-- ==== Sys2Proof/Machine/Bus.lean ====
section
/-!
DEFINITION. The bus matrix and the host ports (R372 to R381, R386, R387, R391 to R396, R450): which target an address reaches, the
checks an access passes, register reads with their side effects, register writes by byte, slow blocks, window locks, SPI frames and
the PCIe endpoint. A transaction is performed within its command, so a master's Outstanding and Draining read 0 between commands
(notes/assumptions/31.md).
-/
namespace Sys2Proof.Machine

-- ## Writes of one register (R379, R386, R450)

/-- How many of the low n bits of a word are 1. -/
def onesOf (v n : Nat) : Nat := ((List.range n).filter (fun i => bitOf v i)).length

/-- A window command with several command bits set (R450): refused with Range in its block's result register; none for any other write. -/
def State.cmdMulti (s : State) (a v : Nat) : Option State :=
  if a = R.SE_CMD then (if 2 ≤ onesOf v 3 then some (s.seResult 1) else none)
  else if a = R.ST_CMD then (if 2 ≤ onesOf v 3 then some (s.stResult 1) else none)
  else if a = R.Q_CMD then (if 2 ≤ onesOf v 4 then some (s.qResult 1) else none)
  else if a = R.XT_CMD then (if 2 ≤ onesOf v 4 then some (State.xtResult (1, s) a) else none)
  else if a = R.DS_CMD then (if 2 ≤ onesOf v 2 then some (s.dsResult 1) else none)
  else if a = R.FC_CMD then (if 2 ≤ onesOf v 3 then some (s.fcResult 1) else none)
  else if a = R.DT_CMD then (if 2 ≤ onesOf v 3 then some (s.dtResult 1) else none)
  else if R.W_CMD 0 ≤ a ∧ a < R.W_CMD 4 ∧ a % 0x40 = R.W_CMD 0 % 0x40 then
    (if 2 ≤ onesOf v 2 then some (s.windowCmd ((a - R.W_CMD 0) / 0x40) v) else none)
  else none

/-- CMD_MULTI_BIT: a write of v to a window command register. -/
def execCmdMultiBit (a v : Nat) (s : State) : Host.Outcome State Fault Refusal := s.accept (below a (2 ^ 24) && below v (2 ^ 32)) fun s => ((s.cmdMulti a v).getD s).done

/-- WIN_LOCKk is released by a write of 0 by its owner (R387). -/
def State.lockRelease (s : State) (m k : Nat) : State :=
  if s.get (R.WIN_LOCK_Owner k) = m + 1 then s.put (R.WIN_LOCK_Owner k) 0 else s

/-- WIN_LOCKk is taken by a read that includes byte 3, if it is free (R387): the owner read, and the state after. -/
def State.lockAcquire (s : State) (m k : Nat) : Nat × State :=
  if s.get (R.WIN_LOCK_Owner k) = 0 then (m + 1, s.put (R.WIN_LOCK_Owner k) (m + 1)) else (s.get (R.WIN_LOCK_Owner k), s)

/-- WIN_LOCK_ACQUIRE by master m. -/
def execWinLockAcquire (m k : Nat) (s : State) : Host.Outcome State Fault Refusal := s.accept (below m 7 && below k 8) fun s =>
  (if m < 7 ∧ k < 8 then
     let (v, t) := s.lockAcquire m k
     t.send (.readData (R.WIN_LOCK k) v)
   else s).done

/-- WIN_LOCK_RELEASE by master m. -/
def execWinLockRelease (m k : Nat) (s : State) : Host.Outcome State Fault Refusal := s.accept (below m 7 && below k 8) fun s =>
  (if m < 7 ∧ k < 8 then s.lockRelease m k else s).done

/-- A word written to a command register that acts beyond its block, or to any other register by its block's rules. `w` holds the
written bytes and, in RW fields, the bytes kept; `vpp` is the level of VPP, `ms` the whole milliseconds a running ramp has spent in
its segment. -/
def State.regWord (s : State) (m a w : Nat) (vpp : Bool) (ms : Nat) : State :=
  match s.cmdMulti a w with
  | some t => t
  | none =>
    if a = R.TIME_CAPTURE then (if bitOf w 0 then s.timeCapture else s)
    else if a = R.TIME_SET_CMD then (if bitOf w 0 then s.timeSet.startTime none else s)
    else if a = R.TRD_CTRL then s.trdCtrlWrite w
    else if R.W_CMD 0 ≤ a ∧ a < R.W_CMD 4 ∧ a % 0x40 = R.W_CMD 0 % 0x40 then s.windowCmd ((a - R.W_CMD 0) / 0x40) w
    else if a = R.EPOCH_CMD then
      let s := if bitOf w 0 then s.epochSendFull else s
      if bitOf w 1 then s.epochRequestFull else s
    else if a = R.MBX_DOORBELL 0 then s.doorbell 0 w
    else if a = R.MBX_DOORBELL 1 then s.doorbell 1 w
    else if R.MBX_REQ 0 0 ≤ a ∧ a < R.MBX_REQ 0 512 then (if s.is (R.MBX_STATUS_Busy 0) then s else s.wrRW a w)
    else if R.MBX_REQ 1 0 ≤ a ∧ a < R.MBX_REQ 1 512 then (if s.is (R.MBX_STATUS_Busy 1) then s else s.wrRW a w)
    else if R.EVT_ACKALL 0 ≤ a ∧ a < R.EVT_ACKALL 4 then s.evtAckAll ((a - R.EVT_ACKALL 0) / 4) w
    else if R.EVT_ACK 0 ≤ a ∧ a < R.EVT_ACK 128 then s.evtAck ((a - R.EVT_ACK 0) / 4) w
    else if a = R.ERR_FIRST_ACK then s.errFirstAck w
    else if a = R.PWR_CMD then s.pwrCmd w
    else if a = R.AON_DOZE_CMD then (if bitOf w 0 then s.dozeEnter else s)
    else if a = R.AON_BOOT_CMD then (if bitOf w 0 then s.bootGo else s)
    else if a = R.FUSE_CMD then
      let s := if bitOf w 0 then s.fuseProgram vpp false else s
      if bitOf w 1 ∧ s.life.fuse.isNone then s.fuseAdvance vpp else s
    else if R.MSIX_VCTRL 0 ≤ a ∧ a < R.MSIX_VCTRL 32 ∧ a % 16 = 12 then (s.wrRW a w).unmasked ((a - R.MSIX_VCTRL 0) / 16)
    else if R.WIN_LOCK 0 ≤ a ∧ a < R.WIN_LOCK 8 then s.lockRelease m ((a - R.WIN_LOCK 0) / 4)
    else if a = R.RAMP_CTRL 0 ∨ a = R.RAMP_CTRL 1 then (s.rampAge ms).regApply a w
    else s.regApply a w

/-- The records a write has caused name its transaction (R388). -/
def State.tagged (s : State) (n m id : Nat) : State :=
  { s with errWait := s.errWait.take n ++ (s.errWait.drop n).map (fun (r : ErrReport) =>
      if r.addr = 0 ∨ r.master.isSome then r else { r with write := true, master := some (m, id) }) }

/-- The bytes of a word that a write enables act on the register at an offset (R9, R10, R374, R379, R403): no register, no effect; a write
only to bytes that hold none of a command register's fields has none; one to a block whose domain is off is ignored with a record. A
field that a cue may write too is marked (R22, R49). -/
def State.regWrite (s : State) (m id a v en : Nat) (vpp : Bool) (ms : Nat) : State :=
  match findRow (blockRows a) a with
  | none => s
  | some (r, _) =>
    if !s.powered a then (s.ignored a).tagged s.errWait.length m id
    else if r.fields.all (fun f => (decide (f.acc = .wo) || decide (f.acc = .rse)) && decide (bitsOf en f.lsb f.wid = 0)) then s
    else
      let mask := rwMask a
      let w := (v &&& en) ||| ((s.regView a).toNat &&& mask &&& (2 ^ 32 - 1 - en))
      let t := (s.regWord m a w vpp ms).tagged s.errWait.length m id
      if mask ≠ 0 ∧ (t.regView a).toNat &&& mask = w &&& mask then t.mark (regKey a) else t

-- ## Reads of one register (R9, R379)

/-- A register read: its value, and the state after the side effect of an RSE register, which only an access that includes byte 3
has; `full` says that this one does. -/
def State.rseRead (s : State) (m a : Nat) (ecc : Ecc) : Option (Nat × State) :=
  if a = R.PICK_LO then some s.pickLoRead
  else if a = R.SYS_CYCLES_LO then some s.cyclesRead
  else if a = R.DONE_INFO then some s.donePop
  else if 0x10000 ≤ a ∧ a < 0x14000 then
    let n := (a - 0x10000) / 0x1000
    let o := a % 0x1000
    if o = 0x8C then some (s.tsPop n)
    else if o = 0xA0 then some (s.lostPop n)
    else if 0x600 ≤ o ∧ o < 0x6D0 then some (s.harvest n ((o - 0x600) / 4))
    else none
  else if a = R.MM_INFO then some s.mmPop
  else if a = R.PM_INFO then some s.pmPop
  else if R.QP_POP_LO 0 ≤ a ∧ a < R.QP_POP_LO 4 ∧ a % 0x20 = R.QP_POP_LO 0 % 0x20 then some (s.qpPop ((a - R.QP_POP_LO 0) / 0x20) ecc)
  else if a = R.OV_INFO then some s.ovPop
  else if 0x50000 ≤ a ∧ a < 0x54000 ∧ a % 0x1000 = 0x70 then some (s.ccPop ((a - 0x50000) / 0x1000))
  else if R.WIN_LOCK 0 ≤ a ∧ a < R.WIN_LOCK 8 then some (s.lockAcquire m ((a - R.WIN_LOCK 0) / 4))
  else if a = R.ERR_POP then some s.errPop
  else none

/-- An OTP word as a master reads it (R420). -/
def State.fuseFor (s : State) (m w : Nat) : Nat :=
  if m = 0 ∨ m = 6 ∧ s.lifecycle < 2 then s.fuseWord w else (s.fuseSeen w).toNat

/-- A register read by a master; `full` where the access includes byte 3. -/
def State.regRead (s : State) (m id a : Nat) (full : Bool) (ecc : Ecc) : Nat × State :=
  match findRow (blockRows a) a with
  | none => (0, s)
  | some _ =>
    if !s.powered a then
      (0, s.report { code := 0x11, block := blockOf a, write := false, addr := regBase + a, master := some (m, id) })
    else if R.FUSE_WORD 0 ≤ a ∧ a < R.FUSE_WORD 128 then (s.fuseFor m ((a - R.FUSE_WORD 0) / 4), s)
    else match s.rseRead m a ecc with
      | some (v, t) =>
        if full then (v, t)
        else if R.WIN_LOCK 0 ≤ a ∧ a < R.WIN_LOCK 8 then (s.get (R.WIN_LOCK_Owner ((a - R.WIN_LOCK 0) / 4)), s)
        else (v, s)
      | none => ((s.regView a).toNat, s)

-- ## Targets (R372, R375)

/-- The target an internal address reaches, by its ID; none where none lies there. -/
def targetOf (x : Nat) : Option Nat :=
  if x < 0x40000 then some 0
  else if 0x100000 ≤ x ∧ x < 0x200000 then some 1
  else if 0x2000000 ≤ x ∧ x < 0x4000000 then some 2
  else if regBase ≤ x ∧ x < 0x5000000 then (regCanon (x - regBase)).map (fun o => if (slowBusy o).isSome then 4 else 3)
  else if 0x5000000 ≤ x ∧ x < 0x5100000 then some 5
  else if 0x6000000 ≤ x ∧ x < 0x6000200 then some 6
  else if 0x8000000 ≤ x ∧ x < 0x10000000 then some 7
  else none

/-- The Block of an access error at an internal address (R388). -/
def blockAt (x : Nat) : Nat :=
  if regBase ≤ x ∧ x < 0x5000000 then (match regCanon (x - regBase) with
    | some o => blockOf o
    | none => busBlock)
  else busBlock

/-- The boot ROM has opened the load window in a boot mode: 1 PCIe, 2 SPI (R413). -/
def State.loadOpen (s : State) (mode : Nat) : Bool := s.is R.AON_BOOT_STATUS_LoadWindow && decide (s.get R.AON_BOOT_STATUS_Mode = mode)

/-- Where a master's address leads: BAR2's first 960 KiB reach SRAM while the PCIe load window is open (R413). -/
def State.landing (s : State) (m x : Nat) : Nat :=
  if m = 2 ∧ s.loadOpen 1 ∧ 0x2000000 ≤ x ∧ x < 0x20F0000 then x - 0x2000000 + 0x100000 else x

/-- A master reaches a target at an address (R375, R413, R421). -/
def State.pathOk (s : State) (m t x : Nat) : Bool := match m with
  | 0 => true
  | 1 => decide (t ≠ 6)
  | 2 => decide (t = 2 ∨ t = 3 ∨ t = 4) || (decide (t = 1) && s.loadOpen 1 && decide (x < 0x1F0000))
  | 3 => decide (t = 2 ∨ t = 3 ∨ t = 4) || (decide (t = 1) && s.loadOpen 2 && decide (x < 0x1F0000))
  | 4 => decide (t = 0 ∨ t = 1 ∨ t = 2 ∨ t = 5 ∨ t = 7)
  | 5 => decide (t = 1 ∨ t = 2)
  | 6 => decide (s.lifecycle < 2)
  | _ => false

/-- A master can issue a transaction: the PCIE master has none while its link is down or the endpoint is in D3hot (R391). -/
def State.canIssue (s : State) (a : BusAcc) : Bool := !decide (a.master = 2) || (s.is R.PCIE_STATUS_LinkUp && !s.host.d3)

-- ## Transactions (R376, R379 to R381)

/-- Words of a coefficient write (R244): whether one was refused, each refusal with its record. -/
def State.coefWrites (s : State) (a : BusAcc) (w data : Nat) : Nat → Bool × State
  | 0 => (false, s)
  | n + 1 =>
    let (ok, t) := s.coefStore w (BitVec.ofNat 32 data)
    let t := if ok then t else t.accErr a 0x10 9 17
    let (bad, u) := t.coefWrites a (w + 1) (data / 2 ^ 32) n
    (!ok || bad, u)

/-- The coefficient words of a read (R245): none where one is uncorrectable. -/
def State.coefReads (s : State) (w : Nat) : Nat → Option Nat
  | 0 => some 0
  | n + 1 => if s.filt.bad.contains w then none else (s.coefReads (w + 1) n).map (fun r => (s.coefAt w).toNat + r * 2 ^ 32)

/-- An access to coefficient memory: error response, data, state after. -/
def State.coefAccess (s : State) (a : BusAcc) (x : Nat) (ecc : Ecc) : Bool × Nat × State :=
  let o := x - 0x5000000
  let n := max 1 (a.width * a.beats / 4)
  if a.write then
    let d := if a.width < 4 then setBits (s.coefAt (o / 4)).toNat (8 * (o % 4)) (8 * a.width) a.data else a.data
    let (bad, t) := s.coefWrites a (o / 4) d n
    (bad, 0, t)
  else match s.coefReads (o / 4) n with
    | some v => if ecc = .bad then (true, 0, s.accErr a 0x0B 5) else (false, v / 2 ^ (8 * (o % 4)) % 2 ^ (8 * a.width * a.beats), s)
    | none => (true, 0, s.accErr a 0x0B 5)

/-- The words of a read of the ROM or of the OTP shadow, by a function of the word's number. -/
def wordsFrom (f : Nat → Nat) (w : Nat) : Nat → Nat
  | 0 => 0
  | n + 1 => f w + wordsFrom f (w + 1) n * 2 ^ 32

/-- Bytes read from an offset, out of words numbered from 0. -/
def bytesFrom (f : Nat → Nat) (off n : Nat) : Nat := wordsFrom f (off / 4) ((off % 4 + n + 3) / 4) / 2 ^ (8 * (off % 4)) % 2 ^ (8 * n)

/-- An access to SRAM, ROM, FUSE or FLASH. -/
def State.memAccess (s : State) (a : BusAcc) (t x : Nat) (ecc : Ecc) : Bool × Nat × State :=
  let n := a.width * a.beats
  if a.write then
    if t = 1 then (false, 0, { s with sram := Memory.writeBytes s.sram (x - 0x100000) (leBytes n a.data) })
    else (true, 0, s.accErr a 0x04 t)
  else if ecc = .bad then (true, 0, s.accErr a 0x0B t)
  else if t = 1 then (false, leNat (Memory.readBytes s.sram (x - 0x100000) n), s)
  else if t = 0 then (false, bytesFrom (fun w => (Config.romWord w).toNat) x n, s)
  else if t = 6 then (false, bytesFrom (s.fuseFor a.master) (x - 0x6000000) n, s)
  else (false, leNat (Memory.readBytes s.flash.mem (x - 0x8000000) n), s)

/-- Register accesses of a fast or slow block's read, in ascending address order: `sub` bytes each (R379). -/
def State.regReads (s : State) (m id : Nat) (ecc : Ecc) (sub o : Nat) : Nat → Nat × State
  | 0 => (0, s)
  | n + 1 =>
    let c := (regCanon o).getD 0
    let (w, t) := s.regRead m id (c / 4 * 4) (decide (c % 4 + sub = 4)) ecc
    let (r, u) := t.regReads m id ecc sub (o + sub) n
    (w / 2 ^ (8 * (c % 4)) % 2 ^ (8 * sub) + r * 2 ^ (8 * sub), u)

/-- Register accesses of a fast block's write, in ascending address order. -/
def State.regWrites (s : State) (m id sub o data : Nat) : Nat → State
  | 0 => s
  | n + 1 =>
    let c := (regCanon o).getD 0
    let at_ := 2 ^ (8 * (c % 4))
    let v := data % 2 ^ (8 * sub)
    (s.regWrite m id (c / 4 * 4) (v * at_) ((2 ^ (8 * sub) - 1) * at_) false 0).regWrites m id sub (o + sub) (data / 2 ^ (8 * sub)) n

/-- A write posted to a slow block (R380, R381): dropped, counted and recorded while the block is busy. -/
def State.post (s : State) (a : BusAcc) (o : Nat) : State :=
  match slowBusy o with
  | none => s
  | some busy =>
    if !s.powered o then (s.ignored o).tagged s.errWait.length a.master a.id
    else if s.is busy then (s.bump R.CNT_SLOW_DROP_Count).accErr a 0x08 0 (blockOf o)
    else
      let one := fun (k : Nat) => ({ off := o + 4 * k, word := a.data / 2 ^ (32 * k) % 2 ^ 32, master := a.master, id := a.id } : Posted)
      (s.updLife (fun l => { l with posted := l.posted ++ (List.range (a.width * a.beats / 4)).map one })).put busy 1

/-- An access to register space that has passed its path. -/
def State.regAccess (s : State) (a : BusAcc) (t x : Nat) (ecc : Ecc) : Bool × Nat × State :=
  let o := x - regBase
  let bytes := a.width * a.beats
  let sub := min a.width 4
  if t = 4 ∧ 4 < bytes ∧ ¬ (a.width = 8 ∧ a.beats = 1) then (true, 0, s.accErr a 0x07 a.beats (blockAt x))
  else if t = 4 ∧ a.write ∧ a.width < 4 then (true, 0, s.accErr a 0x06 a.width (blockAt x))
  else if a.write then (false, 0, if t = 4 then s.post a ((regCanon o).getD 0) else s.regWrites a.master a.id sub o a.data (bytes / sub))
  else
    let (v, u) := s.regReads a.master a.id ecc sub o (bytes / sub)
    (false, v, u)

/-- A transaction: whether it gets an error response, the data of a read, and the state after it. The checks come in the order of its way:
its address, its path, its alignment and length, then the target's own (notes/assumptions/31.md). -/
def State.access (s : State) (a : BusAcc) (ecc : Ecc) : Bool × Nat × State :=
  let x := s.landing a.master a.addr
  match targetOf x with
  | none => (true, 0, s.accErr a 0x02 0)
  | some t =>
    if !s.pathOk a.master t x then (true, 0, s.accErr a 0x03 t (blockAt x))
    else if x % a.width ≠ 0 then (true, 0, s.accErr a 0x01 0 (blockAt x))
    else if 4096 < x % 4096 + a.width * a.beats then (true, 0, s.accErr a 0x0A a.beats (blockAt x))
    else if t = 2 then s.poolAccess { a with addr := x } ecc
    else if t = 3 ∨ t = 4 then s.regAccess a t x ecc
    else if t = 5 then s.coefAccess a x ecc
    else s.memAccess a t x ecc

/-- An error response reaches a master: it is counted, and the Completer Aborts of the PCIe endpoint too; one to a posted write is logged
in the endpoint's AER capability (R391). -/
def State.aborted (a : BusAcc) (s : State) : State :=
  let t := s.bump R.CNT_BUSERR_Count
  if a.master = 2 then
    let u := t.bump R.CNT_PCIE_CA_Count
    { u with host := { u.host with aerAbort := u.host.aerAbort || a.write } }
  else t

/-- The response goes to the master. -/
def State.respond (a : BusAcc) (r : Bool × Nat × State) : State :=
  let t := if r.1 then r.2.2.aborted a else r.2.2
  t.reply a r.1 r.2.1

/-- A transaction from its issue to its response. -/
def State.transact (s : State) (a : BusAcc) (ecc : Ecc) : State := if s.canIssue a then State.respond a (s.access a ecc) else s

/-- POOL_TARGET_ACCESS: a transaction whose address lies in the POOL window. -/
def execPoolTargetAccess (a : BusAcc) (ecc : Ecc) (s : State) : Host.Outcome State Fault Refusal := s.accept (a.wf) fun s =>
  (if targetOf a.addr = some 2 then s.transact a ecc else s).done

/-- COEF_WRITE: a write whose address lies in coefficient memory. -/
def execCoefWrite (a : BusAcc) (s : State) : Host.Outcome State Fault Refusal := s.accept (a.wf) fun s =>
  (if targetOf a.addr = some 5 ∧ a.write then s.transact a .clean else s).done

/-- REGISTER_WRITE: a write of a register; and any other transaction of the matrix that has no row of its own. -/
def execRegisterWrite (a : BusAcc) (ecc : Ecc) (s : State) : Host.Outcome State Fault Refusal := s.accept (a.wf) fun s => (s.transact a ecc).done

/-- The slow block of an offset, numbered as the bits of SLOW_BUSY: 0 REED, 1 SYNTH, 2 to 5 PCS0 to PCS3, 6 AON, 7 FUSE. -/
def slowIndex (o : Nat) : Nat :=
  if 0x60000 ≤ o ∧ o < 0x64000 then 0
  else if 0x64000 ≤ o ∧ o < 0x68000 then 1
  else if 0x18000 ≤ o ∧ o < 0x1C000 then 2 + (o - 0x18000) / 0x1000
  else if 0x8C000 ≤ o ∧ o < 0x90000 then 6
  else 7

/-- The write posted to slow block b is applied, and its Busy clears (R381). -/
def State.slowApply (s : State) (b : Nat) (vpp : Bool) (ms : Nat) : State :=
  let mine := s.life.posted.filter (fun (p : Posted) => decide (slowIndex p.off = b))
  match mine with
  | [] => s
  | p :: _ =>
    let s := s.updLife (fun l => { l with posted := l.posted.filter (fun (p : Posted) => decide (slowIndex p.off ≠ b)) })
    let s := match slowBusy p.off with
      | some f => s.put f 0
      | none => s
    s.forL mine (fun (p : Posted) t => t.regWrite p.master p.id p.off p.word (2 ^ 32 - 1) vpp ms)

/-- SLOW_WRITE_APPLY: `vpp` is the level of VPP, `ms` the whole milliseconds a running ramp has spent in its segment. -/
def execSlowWriteApply (b : Nat) (vpp : Bool) (ms : Nat) (s : State) : Host.Outcome State Fault Refusal := s.accept (below b 8) fun s => (s.slowApply b vpp ms).done

-- ## The matrix (R377, R378)

/-- BUS_PROMOTE: a transaction that has waited more than 64 CCLK is promoted and counted. -/
def execBusPromote (s : State) : Host.Outcome State Fault Refusal := s.live fun s => (s.bump R.CNT_PROMOTE_Count).done

/-- MASTER_RESET of master m with the number of its outstanding responses dropped. -/
def execMasterReset (m dropped : Nat) (s : State) : Host.Outcome State Fault Refusal := s.accept (below m 7) fun s =>
  (if m < 7 then s.masterReset m dropped else s).done

-- ## The SPI host port (R392 to R395)

/-- A transaction of the SPI master. -/
def spiAcc (write : Bool) (addr width data : Nat) : BusAcc :=
  { master := 3, id := 0, write := write, addr := addr, width := width, beats := 1, data := data }

/-- A word of an SPI frame on the bus: whether it got an error response, its data, and the state after. -/
def State.spiBus (s : State) (a : BusAcc) (ecc : Ecc) : Bool × Nat × State :=
  let r := s.access a ecc
  (r.1, r.2.1, if r.1 then { r.2.2.bump R.CNT_BUSERR_Count with host := { r.2.2.host with spiErr := true } } else r.2.2)

/-- CS_N rises (R394, R395): the last word of a write frame is written or discarded; `cut` where a word's access has been issued and has not
completed. -/
def State.csRise (s : State) (cut : Bool) : State :=
  let t : State := { s with host := { s.host with spi := none } }
  let bad := fun (u : State) => ({ u.masterReset 3 0 with host := { u.host with spiErr := true } } : State)
  let t := match s.host.spi with
    | none => t
    | some (x, bs) =>
      if bs.isEmpty then t
      else if bs.length < 3 ∧ x % bs.length = 0 then (t.spiBus (spiAcc true x bs.length (leNat bs)) .clean).2.2
      else (bad t).bump R.CNT_SPI_CUT_Count
  if cut then bad t else t

/-- SPI_CS_RISE. -/
def execSpiCsRise (cut : Bool) (s : State) : Host.Outcome State Fault Refusal := s.live fun s => (s.csRise cut).done

/-- A frame begins: the frame before it has ended. -/
def State.spiBegin (s : State) : State :=
  let t := s.csRise false
  { t with host := { t.host with spiErr := false } }

/-- The whole words of a write frame, and what is left over with its address. -/
def State.spiWords (s : State) (x : Nat) : Nat → List Byte → State
  | 0, bs => { s with host := { s.host with spi := some (x, bs) } }
  | n + 1, bs => (s.spiBus (spiAcc true x 4 (leNat (bs.take 4))) .clean).2.2.spiWords (x + 4) n (bs.drop 4)

/-- A write frame up to its last bit: each whole word is written as it completes. -/
def State.spiWrite (s : State) (x : Nat) (bytes : List Byte) : State := s.spiBegin.spiWords x (bytes.length / 4) bytes

/-- The words of a read frame: the marker and four bytes of each (R393). -/
def State.spiReads (s : State) (x : Nat) (ecc : Ecc) : Nat → List Byte × State
  | 0 => ([], s)
  | n + 1 =>
    let (e, v, t) := s.spiBus (spiAcc false x 4 0) ecc
    let (bs, u) := (if e then t.bump R.CNT_SPI_ERR_Count else t).spiReads (x + 4) ecc n
    ((if e then [0xE5#8, 0#8, 0#8, 0#8, 0#8] else 0x5A#8 :: leBytes 4 v) ++ bs, u)

/-- A read frame whose first `words` words are clocked out. -/
def State.spiRead (s : State) (x words : Nat) (ecc : Ecc) : State :=
  let (bs, t) := s.spiBegin.spiReads x ecc words
  t.send (.spi bs)

/-- The internal address of a frame's 24-bit address: register space, or through SPI_WIN. -/
def State.spiAddr (s : State) (win : Bool) (addr : Nat) : Nat := (if win then s.get R.SPI_WIN_Base * 2 ^ 24 else regBase) + addr % 2 ^ 24

/-- SPI_WRITE: command 0x02. -/
def execSpiWrite (addr : Nat) (bytes : List (BitVec 8)) (s : State) : Host.Outcome State Fault Refusal := s.accept (below addr (2 ^ 24)) fun s =>
  (s.spiWrite (s.spiAddr false addr) bytes).done
/-- SPI_READ: command 0x03. -/
def execSpiRead (addr words : Nat) (ecc : Ecc) (s : State) : Host.Outcome State Fault Refusal := s.accept (below addr (2 ^ 24)) fun s =>
  (s.spiRead (s.spiAddr false addr) words ecc).done
/-- SPI_WRITE_WIN: command 0x12. -/
def execSpiWriteWin (addr : Nat) (bytes : List (BitVec 8)) (s : State) : Host.Outcome State Fault Refusal := s.accept (below addr (2 ^ 24)) fun s =>
  (s.spiWrite (s.spiAddr true addr) bytes).done
/-- SPI_READ_WIN: command 0x13. -/
def execSpiReadWin (addr words : Nat) (ecc : Ecc) (s : State) : Host.Outcome State Fault Refusal := s.accept (below addr (2 ^ 24)) fun s =>
  (s.spiRead (s.spiAddr true addr) words ecc).done
/-- SPI_QUAD_WRITE: command 0x82, which differs in its lanes only. -/
def execSpiQuadWrite (addr : Nat) (bytes : List (BitVec 8)) (s : State) : Host.Outcome State Fault Refusal := s.accept (below addr (2 ^ 24)) fun s =>
  (s.spiWrite (s.spiAddr false addr) bytes).done
/-- SPI_QUAD_READ: command 0x83. -/
def execSpiQuadRead (addr words : Nat) (ecc : Ecc) (s : State) : Host.Outcome State Fault Refusal := s.accept (below addr (2 ^ 24)) fun s =>
  (s.spiRead (s.spiAddr false addr) words ecc).done
/-- SPI_QUAD_WRITE_WIN: command 0x92. -/
def execSpiQuadWriteWin (addr : Nat) (bytes : List (BitVec 8)) (s : State) : Host.Outcome State Fault Refusal := s.accept (below addr (2 ^ 24)) fun s =>
  (s.spiWrite (s.spiAddr true addr) bytes).done
/-- SPI_QUAD_READ_WIN: command 0x93. -/
def execSpiQuadReadWin (addr words : Nat) (ecc : Ecc) (s : State) : Host.Outcome State Fault Refusal := s.accept (below addr (2 ^ 24)) fun s =>
  (s.spiRead (s.spiAddr true addr) words ecc).done

/-- The byte of an SPI STATUS frame. -/
def State.spiStatus (s : State) : Nat :=
  (if s.spiIrq then 1 else 0) + (if s.is (R.MBX_STATUS_Busy 1) then 2 else 0) + (if s.host.spiErr then 4 else 0)

/-- SPI_STATUS: command 0x05; the frame before it has ended. -/
def execSpiStatus (s : State) : Host.Outcome State Fault Refusal := s.live fun s =>
  let t := s.csRise false
  (t.send (.spi [BitVec.ofNat 8 t.spiStatus])).done

/-- The command bytes of R392. -/
def spiCommands : List Nat := [0x02, 0x03, 0x05, 0x12, 0x13, 0x82, 0x83, 0x92, 0x93]

/-- SPI_BAD_CMD: any other command byte is counted and recorded, and its frame ignored. -/
def execSpiBadCmd (b : Nat) (s : State) : Host.Outcome State Fault Refusal := s.accept (below b 256) fun s =>
  (if spiCommands.contains (b % 256) then s
   else
     let t := (s.spiBegin.bump R.CNT_SPI_BADCMD_Count).report { code := 0x20, block := 48, write := false, detail := b % 256 }
     { t with host := { t.host with spiErr := true } }).done

-- ## The PCIe endpoint (R391)

/-- The PCIe mailbox resets (R368): its registers and windows, and the acknowledged count of its event; no reply to its requests comes. -/
def State.mailboxReset (s : State) (m : Nat) : State :=
  let lo := R.MBX_CTRL m
  let s : State := { s with regs := s.regs.filter (fun (e : Nat × BitVec 32) => decide (¬ (lo ≤ e.1 ∧ e.1 < lo + 0x14 ∨ R.MBX_REQ m 0 ≤ e.1 ∧ e.1 < R.MBX_REPLY m 512))) }
  let gone := fun (who : Requester) => match who with
    | .mbox k => decide (k = m)
    | .net .. => false
  (s.updLcp (fun l => { l with
    wait := l.wait.filter (fun (e : Requester × List Byte) => !gone e.1)
    held := l.held.map (fun (h : HeldReq) => if gone h.who then { h with who := .mbox 2 } else h) })).put (R.EVT_ACK_Ack (112 + m)) 0

/-- PCIE_LINK_RESET: a link down (`down`), a hot reset or a function-level reset; the MSI-X enable and function mask go with the
function's configuration (PRESUMED, notes/assumptions/32.md). -/
def execPcieLinkReset (down : Bool) (dropped : Nat) (s : State) : Host.Outcome State Fault Refusal := s.live fun s =>
  (let s := (s.bump R.CNT_PCIE_RESET_Count).masterReset 2 dropped
   let s : State := { s with regs := s.regs.filter (fun (e : Nat × BitVec 32) => decide (e.1 < 0x84800 ∨ 0x84A08 ≤ e.1)), host := { s.host with d3 := false } }
   let s := ((s.mailboxReset 0).put R.PCIE_STATUS_MsixEnable 0).put R.PCIE_STATUS_FunctionMask 0
   if down then ((s.put R.PCIE_STATUS_LinkUp 0).put R.PCIE_STATUS_Speed 0).put R.PCIE_STATUS_Width 0 else s).done

/-- PCIE_LINK_UP: the link trains at a speed and width, or the root changes the MSI-X capability's enable and function mask or the power
state of a link that is up; nothing while PD10 is off. Messages pending behind a function mask that clears are sent. -/
def execPcieLinkUp (speed width : Nat) (msix mask d3 : Bool) (s : State) : Host.Outcome State Fault Refusal := s.accept (decide (1 ≤ speed) && decide (speed ≤ 3) && decide (1 ≤ width) && decide (width ≤ 2)) fun s =>
  (if !s.powered R.PCIE_STATUS then s
   else
     let was := s.is R.PCIE_STATUS_FunctionMask
     let s := ((s.put R.PCIE_STATUS_LinkUp 1).put R.PCIE_STATUS_Speed speed).put R.PCIE_STATUS_Width width
     let s := (s.putB R.PCIE_STATUS_MsixEnable msix).putB R.PCIE_STATUS_FunctionMask mask
     let s : State := { s with host := { s.host with d3 := d3 } }
     if was && !mask then s.msixUnmask none else s).done

end Sys2Proof.Machine
end

