-- ==== Sys2Proof/Machine/PortFrames.lean ====
section
/-!
DEFINITION. Frames at the ports: reception, filtering and classification (R94 to R98, R102, R107), cut-through (R109 to R113),
and what a free transmitter starts (R154, R155, R101, R105, R108).
-/
namespace Sys2Proof.Machine

-- ## Cut-through frames (R111, R178)

/-- The pick whose low 32 bits a word holds, no later than the current one. -/
def State.pickOfWord (s : State) (w : BitVec 32) : Nat := s.time.pick - (s.time.pick + 2 ^ 32 - w.toNat) % 2 ^ 32

/-- Shuttle copies that wait for a port, in the order the port starts them: those of earlier picks, then those of the current one,
each in ascending stream number: stream, queue, and release pick (R154). -/
def State.shuttleWaiting (s : State) (n : Nat) : List (Nat × Nat × Nat) :=
  let heads := s.queues.filterMap (fun e => if e.2.cls ≠ 1 then none else (e.2.current n).map (fun j =>
    (bitsOf (e.2.word (j.start + 3)).toNat 0 10, e.1, s.pickOfWord (e.2.word (j.start + 1)))))
  let all := s.tx.filterMap (fun e => heads.find? (fun h => decide (h.1 = e.1)))
  all.filter (fun x => decide (x.2.2 ≠ s.time.pick)) ++ all.filter (fun x => decide (x.2.2 = s.time.pick))

/-- A cut-through frame is on a port's wire. -/
def State.ctOnWire (s : State) (n : Nat) : Bool := (s.port n).ct.isSome || decide (s.time.tai < (s.port n).ctEnd)

/-- The window of a pick is open on a port, and a cut-through frame has started since its strobe or is still on the wire (R111). -/
def State.ctHeld (s : State) (n : Nat) : Bool :=
  (s.shuttleWaiting n).any (fun x => s.ctOnWire n || (match (s.port n).ctPick with
    | some k => decide (x.2.2 ≤ k)
    | none => false))

/-- A frame on the wire when its transmitter is free again has left whole. -/
def State.wireEnd (s : State) (n : Nat) : State :=
  match (s.port n).wire with
  | some w => (s.frameOut n w.bytes false).updPort n (fun p => { p with wire := none })
  | none => s

/-- The first cut-through frame that waits for a port starts (R111, R178): one that has come whole is sent; one that has not, from Threshold
words on, is followed. -/
def State.ctNext (s : State) (n : Nat) : State :=
  match (s.port n).ctWait with
  | [] => s
  | q :: rest =>
    let go := fun (t : State) => t.updPort n (fun p => { p with ctWait := rest, ctPick := some s.time.pick })
    match s.qTake q n with
    | some (ws, t) =>
      let ends := t.time.tai + bitUnits (t.lineMode n) (8 * ((itemFrame ws).length + 24))
      (((go t).ctOut n (itemFrame ws) false).updPort n (fun p => { p with ctEnd := ends, busy := ends })).pfcAll
    | none => match (s.queue q).next n with
      | some i => if i.words ≥ (s.queue q).thresh then (go s).updPort n (fun p => { p with ct := some q }) else s
      | none => s

/-- CT_FRAME_START: a waiting cut-through frame starts on a port whose transmitter is free, after a pending PFC frame (R101, R111). -/
def execCtFrameStart (n : Nat) (s : State) : Host.Outcome State Fault Refusal := s.accept (below n 4) fun s =>
  (if s.carries n ∧ (s.port n).ct = none ∧ (s.port n).pfc = [] ∧ ¬ s.ctHeld n then (s.wireEnd n).ctNext n else s).done

-- ## Sending

/-- The PFC frame of a port's pending priorities (R101, IEEE 802.1Qbb). -/
def pfcFrame (sa : Nat) (times : List (Nat × Nat)) : List Byte :=
  let vec := times.foldl (fun w t => w + 2 ^ t.1) 0
  let body := beBytes 6 0x0180C2000001 ++ beBytes 6 sa ++ beBytes 2 0x8808 ++ beBytes 2 0x0101 ++ beBytes 2 vec
    ++ (List.range 8).flatMap (fun p => beBytes 2 (tget 0 times p))
  body ++ List.replicate (60 - body.length) 0#8

/-- The order of R154 among the classes of Spindle and host frames; Audio class frames from them stand after Ptp
(notes/assumptions/22.md). -/
def classRank (c : Nat) : Nat := if c = 3 then 3 else if c = 2 then 2 else c

/-- A Spindle or host frame of a priority and a length with its FCS may start on the port now (R103, R105, R155). -/
def State.mayStart (s : State) (n pri len cclk : Nat) : Bool :=
  let held := if s.inService n then s.paused n pri else decide (s.get (R.MAC_STATUS_Paused n) ≠ 0)
  let fits := decide (cclk + bitTimes (s.lineMode n) ((len + 20) * 8) ≤
    s.get R.SH_RELPT_RelPt + 180 + txAdder (s.lineMode n) (s.is (R.PCS_CTRL_RsFec n)))
  !held && ((s.shuttleWaiting n).isEmpty || fits)

/-- The order number of a priority on a port: its class first, then the priority (R154). -/
def State.priRank (s : State) (n pri : Nat) : Nat := classRank (s.get (R.PRI_CFG_Class n pri)) * 8 + pri

/-- A frame that step 4 of R154 may start: the head of a queue, or a frame of the firmware. -/
inductive TxHead where
  | queue (q : Nat)
  | fw (f : FwFrame)
deriving DecidableEq, Repr

/-- The frame at the head of a Spindle or host queue, if it may start on the port now. -/
def State.hostHead (s : State) (n q cclk : Nat) : Option (Nat × TxHead) :=
  let v := s.queue q
  match v.current 0 with
  | none => none
  | some i =>
    let pri := bitsOf (v.word (i.start + 1)).toNat 17 3
    if v.cls < 2 ∨ !s.mayStart n pri (slotLen (v.word i.start) - 16 + 4) cclk then none
    else some (s.priRank n pri, .queue q)

/-- The firmware's frame of a priority that is first in, if it may start on the port now. -/
def State.fwHead (s : State) (n pri cclk : Nat) : Option (Nat × TxHead) :=
  match (s.fwFrames n).find? (fun f => decide (f.pri = pri)) with
  | none => none
  | some f => if s.mayStart n pri f.len cclk then some (s.priRank n pri, .fw f) else none

/-- The best of the frames that may start. -/
def bestHead : List (Nat × TxHead) → Option (Nat × TxHead)
  | [] => none
  | x :: xs => match bestHead xs with
    | some y => if x.1 ≥ y.1 then some x else some y
    | none => some x

/-- The timestamp of a frame whose timestamp point leaves after a time, with the port's correction (R106). -/
def State.txStamp (s : State) (n lead : Nat) : Nat := ((s.time.tai : Int) + lead + s.getI (R.TX_TS_ADJ_Adj n)).toNat

/-- A frame of the firmware leaves a port; a Sync's Follow_Up and a Pdelay_Resp's, with the time captured, join the frames that wait (R33, R106). -/
def State.fwStart (s : State) (n lead : Nat) (f : FwFrame) : State :=
  let s : State := { s with fwq := tupd [] n (fun l => l.erase f) s.fwq }
  let s := (((s.txBusy n f.len).txCount n f.len f.cast f.event false).send f.out)
  match f.out with
  | .ptp _ 0 _ _ id _ => s.fwPtp n 8 (s.txStamp n lead) id
  | .ptp _ 3 _ _ id _ => s.fwPtp n 10 (s.txStamp n lead) id
  | _ => s

/-- What a transmit MAC reads of an item: the words as it sends them; how many bytes of its frame leave, with the inverted FCS, where the item is
not read whole; and the places of the structural words that reset the queue. -/
structure ItemRead where
  words : List (BitVec 32)
  cut   : Option Nat
  reset : List Nat

/-- A word that reads with an error is a structural one: a link word, a length slot, a prefix word of an Assembly item (R188, R189). -/
def errStructural (cls : Nat) (e : WordErr) : Bool := e.link || decide (e.word = 0) || (decide (cls = 1) && decide (e.word < 4))

/-- An item as a transmit MAC reads it (R188, R189). -/
def Queue.readItem (v : Queue) (i : QItem) (errs : List WordErr) : ItemRead :=
  let bad := errs.filter (fun e => e.bad && decide (e.word < i.words))
  let str := bad.filter (fun e => errStructural v.cls e)
  let dat := bad.filter (fun e => !errStructural v.cls e)
  let place := fun (e : WordErr) => if e.link then 31 else (v.cellAt (i.start + e.word)).2
  let last := fun (e : WordErr) => if e.link then e.word + 31 - (v.cellAt (i.start + e.word)).2 else e.word
  let ws := v.itemWords i
  let stops := (str.map last) ++ (if v.cls = 1 then [] else dat.map WordErr.word)
  let stop := stops.foldl min i.words
  { words := if v.cls = 1 then dat.foldl (fun l e => setAt l e.word 0#32) ws else ws
    cut := if stop < i.words then some (4 * (stop - 4)) else none
    reset := str.map place }

/-- A transmit MAC takes the committed item it comes to, and what it reads of it: corrected words count for their banks, uncorrectable data words
are poisoned, and a Control or Host item with one is aborted (R188, R189). -/
def State.itemTake (s : State) (q r : Nat) (errs : List WordErr) : Option (ItemRead × State) :=
  let v := s.queue q
  match v.current r, s.qTake q r with
  | some i, some (_, t) =>
    let here := errs.filter (fun e => decide (e.word < i.words))
    let t := t.forL (here.filter (fun e => !e.bad)) (fun e u => u.eccCorr (v.cellAt (i.start + e.word)).1)
    let dat := here.filter (fun e => e.bad && !errStructural v.cls e)
    let t := t.forL (if v.cls = 1 then dat else dat.take 1) (fun _ u => u.qPoison q)
    some (v.readItem i errs, if v.cls ≠ 1 ∧ dat ≠ [] then t.setQueue q ((t.queue q).bump 4) else t)
  | _, _ => none

/-- The frame of an item starts on a port: it leaves whole, or stays on the wire until the next command, or ends with the inverted FCS where the
item could not be read; then uncorrectable structural words reset its queue. -/
def State.itemOut (s : State) (n q : Nat) (bytes : List Byte) (rd : ItemRead) (part : Option Nat) : State :=
  let s := match rd.cut with
    | some 0 => s
    | some k => s.sendFrame n (bytes.take k) true
    | none => match part with
      | none => s.sendFrame n bytes false
      | some k => (s.txBusy n (bytes.length + 4)).updPort n (fun p => { p with wire := some { queue := q, bytes := bytes, sent := k } })
  s.qReset q rd.reset

/-- A Shuttle copy starts on a port (R149, R152, R164, R165). -/
def State.shuttleStart (s : State) (n : Nat) (tx : TxSlot) (i q pick : Nat) : State :=
  match s.itemTake q n tx.errs with
  | none => s
  | some (rd, t) =>
    let eff := (s.txs i).eff
    let frame := txOwn (itemFrame rd.words) (s.station n 0) (s.get (R.PORT_IP_Addr n)) (decide (txF eff R.TX_CTRL_UdpCsum = 1))
    let t := if rd.cut = some 0 then t else t.updTx i (fun e => if pick ≠ s.time.pick then (e.bump 1).bump 5 else e.bump 1)
    t.itemOut n q frame rd tx.part

/-- The head of a Spindle or host queue starts on a port; a timestamp it asks for is entered (R108). -/
def State.hostStart (s : State) (n : Nat) (tx : TxSlot) (q : Nat) : State :=
  match s.itemTake q 0 tx.errs with
  | none => s
  | some (rd, t) =>
    let w1 := (rd.words.getD 1 0#32).toNat
    let frame := itemFrame rd.words
    let ptp := decide (ptpInfo (ethInfo frame) = some true)
    let t := if bitOf w1 16 ∧ rd.cut ≠ some 0 then t.tsPush n { tag := w1 % 65536, ptp := ptp, time := s.txStamp n tx.lead } else t
    (t.itemOut n q frame rd tx.part).pfcAll

/-- A free transmitter starts the first frame of R154. Recovery sends the firmware's frames only, and a port that generates a PRBS pattern in Test
sends none (R94). -/
def State.txPick (s : State) (n : Nat) (tx : TxSlot) : State :=
  let p := s.port n
  let rec_ := decide (s.portState n = 5)
  if p.pfc ≠ [] ∧ !rec_ then
    ((s.sendFrame n (pfcFrame (s.station n 0) p.pfc) false).cnt n 41).updPort n (fun p => { p with pfc := [] })
  else if s.inService n ∧ p.ctWait ≠ [] ∧ ¬ s.ctHeld n then s.ctNext n
  else match (if s.inService n then s.shuttleWaiting n else []) with
    | (i, q, pick) :: _ => s.shuttleStart n tx i q pick
    | [] =>
      let host := if rec_ then [] else tx.queues.filterMap (fun q => s.hostHead n q tx.cclk)
      match bestHead (host ++ (List.range 8).filterMap (fun p => s.fwHead n p tx.cclk)) with
      | none => s
      | some (_, .fw f) => s.fwStart n tx.lead f
      | some (_, .queue q) => s.hostStart n tx q

/-- The port sends: its transmitter is enabled, the state lets frames out, no cut-through frame is on the wire and no PRBS pattern (R94, R454). -/
def State.txRuns (s : State) (n : Nat) : Bool :=
  s.is (R.MAC_CTRL_TxEnable n) && decide (2 ≤ s.portState n) && decide ((s.port n).ct = none)
    && !(decide (s.portState n = 4) && s.is (R.PCS_CTRL_PrbsGen n))

-- ## Receiving

/-- The address filter (R97). -/
def State.rxPasses (s : State) (n : Nat) (e : EthInfo) : Bool :=
  let da := e.da
  (List.range 4).any (fun k => s.is (R.STA_ADDR_HI_Valid n k) && decide (da = s.station n k))
  || (isBroadcast da && s.is (R.MAC_CTRL_AcceptBroadcast n))
  || (isGroup da && s.rx.any (fun x => x.2.valid && bitOf (seF x.2.eff R.SE_CTRL_PortMask) n
        && decide (da = addr48 (seF x.2.eff R.SE_DA_LO_Addr) (seF x.2.eff R.SE_DA_HI_Addr))))
  || (isGroup da && (List.range 256).any (fun g => s.is (R.MGRP_HI_Valid n g)
        && decide (da = addr48 (s.get (R.MGRP_LO_Addr n g)) (s.get (R.MGRP_HI_Addr n g)))))
  || (decide (da = 0x0180C2000001) && decide (e.typ = 0x8808))
  || (decide (da = 0x0180C200000E) && (s.is (R.MAC_CTRL_LldpEnable n) || s.is (R.MAC_CTRL_PtpEnable n)))
  || ((decide (da = 0x01005E000181) || decide (da = 0x01005E00006B)) && s.is (R.MAC_CTRL_PtpEnable n))
  || (isGroup da && s.is (R.MAC_CTRL_PassAllGroups n))
  || s.is (R.MAC_CTRL_Promiscuous n)

/-- The cut-through rule a frame matches (R109); of several, the one of the lowest number acts (DESIGN CHOICE, notes/assumptions/36.md). -/
def State.ctRule (s : State) (n : Nat) (e : EthInfo) : Option Nat :=
  (List.range 16).find? (fun k => s.is (R.CT_RULE_DA_HI_Valid n k)
    && decide (e.da = addr48 (s.get (R.CT_RULE_DA_LO_Addr n k)) (s.get (R.CT_RULE_DA_HI_Addr n k)))
    && (!s.is (R.CT_RULE_DA_HI_VidMatch n k) || decide (e.tag.map (fun t => t.2) = some (s.get (R.CT_RULE_DA_HI_Vid n k)))))

/-- The words of a received frame's item after its length slot (R176). -/
def rxItem (n pri time : Nat) (ptp : Bool) (bytes : List Byte) : List (BitVec 32) :=
  let sec := time / unitsPerSec
  [BitVec.ofNat 32 (time % unitsPerSec / 65536 + n * 2 ^ 30), BitVec.ofNat 32 sec,
   BitVec.ofNat 32 (time % 65536 + sec / 2 ^ 32 % 256 * 2 ^ 16 + pri * 2 ^ 24 + (if ptp then 2 ^ 27 else 0))]
    ++ wordsOf (bytes ++ List.replicate ((4 - bytes.length % 4) % 4) 0#8)

-- ## Frames written into a queue as they come (R109 to R113, R175 to R179)

/-- What becomes of a frame that passes the filter, by the order of R98 and the states of R94. -/
inductive RxDest where
  | macControl
  | rule (k : Nat)
  | stateDrop
  /-- 0 the PTP queue, 1 discovery, 2 LCP, 3 the port's control queue, 4 the boot ROM's recovery. -/
  | spindle (kind : Nat)
  /-- ARP in Recovery, which the boot ROM answers (R414). -/
  | arp
  | warp (i : Nat)
  | queue (q : Nat)
deriving DecidableEq, Repr

/-- The priority of a received frame (R92). -/
def State.rxPri (s : State) (n : Nat) (e : EthInfo) : Nat := match e.tag with
  | some (p, _) => p
  | none => s.get (R.MAC_CTRL_DefaultPri n)

/-- The classification of R98 under the port states of R94. -/
def State.rxDest (s : State) (n : Nat) (e : EthInfo) : RxDest :=
  let st := s.portState n
  let lcp := match udpInfo e with
    | some u => decide (u.dport = 52470)
    | none => false
  if e.typ = 0x8808 then .macControl
  else match s.ctRule n e with
  | some k => if st ≠ 3 then .stateDrop else .rule k
  | none =>
    if st = 5 then (if lcp then .spindle 4 else if e.typ = 0x0806 then .arp else .stateDrop)
    else if s.is (R.MAC_CTRL_PtpEnable n) ∧ ptpInfo e ≠ none then .spindle 0
    else if e.typ = 0x88CC ∧ s.is (R.MAC_CTRL_LldpEnable n) then .spindle 1
    else match s.seFind n e with
      | some i => if st = 3 then .warp i else .stateDrop
      | none =>
        if lcp then .spindle 2
        else if s.is (R.PRI_CFG_UseQueue n (s.rxPri n e)) then .queue (s.get (R.PRI_CFG_RxQueue n (s.rxPri n e)))
        else .spindle 3

/-- The words of a frame's item as far as the frame has come: whole words, or with `all` its last one too. -/
def State.rxWords (s : State) (n : Nat) (rx : RxFrame) (all : Bool) : List (BitVec 32) :=
  let e := ethInfo rx.bytes
  let bytes := if all then rx.bytes else rx.bytes.take (rx.bytes.length / 4 * 4)
  rxItem n (s.rxPri n e) (s.rxStamp n rx.ago) (decide (ptpInfo e = some true)) bytes

/-- Egress ports of a rule that carry its frames (R110, R454). -/
def State.ctLive (s : State) (n k : Nat) : List Nat :=
  (List.range 4).filter (fun m => bitOf (s.get (R.CT_RULE_ACT_EgressMask n k)) m && s.carries m)

/-- The item of a frame that comes in is opened, in the transit queue of a rule or in a receive queue (R98, R109); with a rule, CT_DROP counts
at an egress port that does not carry it. -/
def State.rxOpenItem (s : State) (n q : Nat) (rule : Option Nat) : State :=
  let (res, s) := if (s.queue q).state = 0 then (PutResult.off, s) else match s.qStart q (n + 1) with
    | some t => (.ok, t)
    | none => (.noQuota, s.setQueue q ((s.queue q).bump 4))
  let s := s.updPort n (fun p => { p with rxOpen := some { queue := q, rule := rule, alive := decide (res = .ok), res := res } })
  match rule with
  | none => s
  | some k =>
    let live := s.ctLive n k
    let s := s.setQueue q ((s.queue q).updOpen (n + 1) (fun i => { i with need := live.foldl (fun w m => w + 2 ^ m) 0 }))
    s.forN 4 (fun m t => if bitOf (t.get (R.CT_RULE_ACT_EgressMask n k)) m ∧ ¬ live.contains m then t.cnt m 49 else t)

/-- Egress ports that have yet to start the open item of a transit queue: from Threshold words on, or at its end, one that is idle starts to
follow it where R111 lets it, and any other puts it in its list, counted CT_WAIT (R111, R178). -/
def State.ctOffer (s : State) (n q idle : Nat) (ended : Bool) : State :=
  match (s.queue q).openOf (n + 1) with
  | none => s
  | some i =>
    if i.words < (s.queue q).thresh ∧ ¬ ended then s
    else s.forN 4 (fun m t =>
      let p := t.port m
      if !bitOf i.need m ∨ p.ct = some q ∨ t.ctQueued m q then t
      else if bitOf idle m ∧ p.ctWait = [] ∧ p.ct = none ∧ p.wire = none ∧ p.pfc = [] ∧ ¬ t.ctHeld m then
        t.updPort m (fun p => { p with ct := some q, ctPick := some t.time.pick })
      else (t.cnt m 47).updPort m (fun p => { p with ctWait := p.ctWait ++ [q] }))

/-- A port that follows a transit queue has needed a word that had not come: its frame ends with the inverted FCS (R178). -/
def State.ctDry (s : State) (q dry : Nat) : State :=
  s.forN 4 (fun m t =>
    if bitOf dry m ∧ (t.port m).ct = some q then
      let t := t.ctCut m q none
      t.setQueue q (((t.queue q).leaveOpen m).bump 8)
    else t)

/-- Words of a frame that comes in are written into its item (R175, R183, R184): where they meet the quota or pass MaxItem the item goes, and what
has started of it ends. -/
def State.rxFill (s : State) (n : Nat) (rx : RxFrame) (all : Bool) : State :=
  match (s.port n).rxOpen with
  | none => s
  | some o =>
    if !o.alive then s
    else
      let q := o.queue
      let s := s.ctDry q rx.dry
      let have_ := (((s.queue q).openOf (n + 1)).map QItem.words).getD 1 - 1
      match s.qFill q (n + 1) (16 + rx.bytes.length) ((s.rxWords n rx all).drop have_) with
      | (.ok, t) => t
      | (r, t) => ((t.ctBreak q none).qDropAs q (n + 1) r).updPort n (fun p => { p with rxOpen := some { o with alive := false, res := r } })

/-- The queue and the rule of a frame that is written as it comes; none where its header has not come, or where it goes nowhere of the kind. -/
def State.rxStream (s : State) (n : Nat) (rx : RxFrame) : Option (Nat × Option Nat) :=
  let e := ethInfo rx.bytes
  if rx.bytes.length < 18 ∨ !s.rxPasses n e then none
  else match s.rxDest n e with
    | .rule k => some (s.get (R.CT_RULE_ACT_Queue n k), some k)
    | .queue q => if rx.bytes.length < 60 then none else some (q, none)
    | _ => none

/-- A frame has come so far: what has come of it is written, and ports follow it. -/
def State.rxMore (s : State) (n : Nat) (rx : RxFrame) (all : Bool) : State :=
  let s := match (s.port n).rxOpen with
    | some _ => s
    | none => match s.rxStream n rx with
      | some (q, rule) => s.rxOpenItem n q rule
      | none => s
  let s := s.rxFill n rx all
  match (s.port n).rxOpen with
  | some o => if o.alive ∧ o.rule ≠ none then s.ctOffer n o.queue rx.idle all else s
  | none => s

/-- A frame that was written as it came has ended (R112, R113, R175, R179): a good one's item is committed for the ports where it waits, or for
the queue's readers, and the ports that follow it end it; a bad one's is aborted. -/
def State.rxClose (s : State) (n : Nat) (rx : RxFrame) (good : Bool) : State :=
  match (s.port n).rxOpen with
  | none => s
  | some o =>
    let q := o.queue
    let s := s.updPort n (fun p => { p with rxOpen := none })
    let code := rx.codeErr || rx.cut
    let s := if o.rule ≠ none ∧ !code then s.cnt n 26 else s
    let s := if o.res = .noQuota ∧ !code then s.cnt n 19 else s
    let s := if !o.alive then s
      else if !good then (s.ctBreak q (some rx.bytes)).qDrop q (n + 1) 4
      else if o.rule = none then s.qCommit q (n + 1) (16 + rx.bytes.length)
      else
        let need := (((s.queue q).openOf (n + 1)).map QItem.need).getD 0
        let on := (List.range 4).filter (fun m => decide ((s.port m).ct = some q))
        let s := s.forL on (fun m t => t.ctOut m rx.bytes false)
        (s.qCommitFor q (n + 1) (16 + rx.bytes.length) (on.foldl (fun w m => w - w / 2 ^ m % 2 * 2 ^ m) need)).qFreeDone q 1
    s.pfcAll

/-- A MAC Control frame (R102): the time of each priority it names. -/
def State.macControl (s : State) (n : Nat) (e : EthInfo) : State :=
  let op := beAt e.body 0 2
  let mine := decide (e.da = 0x0180C2000001) || (List.range 4).any (fun k => s.is (R.STA_ADDR_HI_Valid n k) && decide (e.da = s.station n k))
  if !mine then s
  else if op = 0x0001 then
    let s := s.cnt n 20
    if s.is (R.PAUSE_CFG_AcceptGlobalPause n) then s.pauseReqs n ((List.range 8).map (fun p => (p, beAt e.body 2 2))) else s.cnt n 22
  else if op = 0x0101 then
    (s.cnt n 21).pauseReqs n (((List.range 8).filter (fun p => bitOf (beAt e.body 2 2) p)).map (fun p => (p, beAt e.body (4 + 2 * p) 2)))
  else s.cnt n 18

/-- A frame handed to a queue of Spindle (R98): one that finds it at quota is dropped whole. -/
def State.toSpindle (s : State) (kind n : Nat) (rx : RxFrame) : State :=
  if rx.full then s.cnt n 19 else s.send (.spindle kind n (s.rxStamp n rx.ago) rx.bytes)

/-- The boot ROM's IPv4 address in recovery, 169.254.x.y from DeviceId (R414). -/
def State.romIp (s : State) : Nat :=
  let d := (tget 0#32 s.shadow 0).toNat
  0xA9FE0000 + (1 + bitsOf d 8 8 % 254) * 256 + (1 + d % 256 % 254)

/-- The boot ROM's answer to an ARP request for its address (R414). -/
def State.romArp (s : State) (n : Nat) (e : EthInfo) : State :=
  if beAt e.body 0 8 = 0x0001080006040001 ∧ beAt e.body 24 4 = s.romIp then
    let mac := beBytes 6 (s.station n 0)
    s.fwBytes n (sliceB e.body 8 6 ++ mac ++ beBytes 2 0x0806 ++ beBytes 8 0x0001080006040002 ++ mac ++ beBytes 4 s.romIp ++ sliceB e.body 8 10
      ++ List.replicate 18 0#8)
  else s

/-- A copy of stream i's frame goes to Warp. -/
def State.toWarp (s : State) (n i : Nat) (e : EthInfo) (rx : RxFrame) : State :=
  let s := s.cnt n 25
  if s.warpRuns then s.streamCopy i e rx.cclk else s

/-- A good frame that passes the filter, where it was not written as it came. -/
def State.rxGood (s : State) (n : Nat) (rx : RxFrame) (e : EthInfo) : State :=
  match s.rxDest n e with
  | .macControl => s.macControl n e
  | .stateDrop => s.cnt n 27
  | .spindle kind => s.toSpindle kind n rx
  | .arp => s.romArp n e
  | .warp i => s.toWarp n i e rx
  | _ => s

/-- A frame ends at the receive MAC (R96 to R98, R112 to R114). -/
def State.rxEnd (s : State) (n : Nat) (rx : RxFrame) : State :=
  let e := ethInfo rx.bytes
  let len := rx.bytes.length + 4
  let max_ := s.get (R.MAX_FRAME_Bytes n)
  let code := rx.codeErr || rx.cut
  let good := !code && rx.fcsOk && decide (64 ≤ len) && decide (len ≤ max_)
  if good then
    let s := (((s.cnt n 0).cntAdd n 1 len).cnt n (2 + castBin e.da)).cnt n (5 + sizeBin len)
    let s := if e.tag ≠ none then s.cnt n 24 else s
    let s := if ptpInfo e = some true then s.cnt n 23 else s
    let s := s.rxMore n rx true
    match (s.port n).rxOpen with
    | some o =>
      let s := s.rxClose n rx true
      match (if o.rule = none then none else s.seFind n e) with
      | some i => s.toWarp n i e rx
      | none => s
    | none => if !s.rxPasses n e then s.cnt n 18 else s.rxGood n rx e
  else
    let s := if code then s.cnt n 17
      else if len < 64 then s.cnt n (if rx.fcsOk then 13 else 14)
      else if max_ < len then s.cnt n (if rx.fcsOk then 15 else 16)
      else s.cnt n 12
    (s.rxMore n rx false).rxClose n rx false

/-- What comes to a port's receive MAC (R454): nothing below Startup, nor while RxEnable is 0. -/
def State.rxTake (s : State) (n : Nat) (rx : RxFrame) : State :=
  if s.portState n < 2 ∨ ¬ s.is (R.MAC_CTRL_RxEnable n) then s.rxAbandon n
  else if rx.more then s.rxMore n rx false else s.rxEnd n rx

/-- In Test a port hears itself where Loopback is set (R94). -/
def State.loops (s : State) (n : Nat) : Bool := decide (s.portState n = 4) && decide (s.get (R.PCS_CTRL_Loopback n) = 1 ∨ s.get (R.PCS_CTRL_Loopback n) = 2)

/-- RX_FRAME: what the PCS counts (R94, R114, R454), and the frame, which a port in Test does not take from the line while it loops its own
frames back or checks a PRBS pattern. -/
def State.rxFrame (s : State) (n : Nat) (rx : RxFrame) : State :=
  let s := s.add (R.ERR_BLOCKS_Count n) rx.blocks
  let test := decide (s.portState n = 4)
  let s := if test && s.is (R.PCS_CTRL_PrbsCheck n) then s.add (R.PRBS_ERR_Count n) rx.prbs else s
  let s := if s.is (R.PCS_CTRL_RsFec n) && s.is (R.MAC_CTRL_RxEnable n) then (s.cntAdd n 50 rx.fixed).cntAdd n 51 rx.unfixed else s
  if s.loops n ∨ (test ∧ s.is (R.PCS_CTRL_PrbsCheck n)) then s else s.rxTake n rx

/-- RX_FRAME. -/
def execRxFrame (n : Nat) (rx : RxFrame) (s : State) : Host.Outcome State Fault Refusal := s.accept (below n 4) fun s => (s.rxFrame n rx).done

/-- The frames that have left port n since a number of messages came back to it, where it loops (R94). -/
def State.loopBack (s : State) (n was : Nat) : State :=
  if !s.loops n then s
  else s.forL (s.outbox.drop was) (fun m t => match m with
    | .frame k bytes fcs => if k = n then t.rxTake n { bytes := bytes, fcsOk := decide (fcs = frameFcs bytes false) } else t
    | _ => t)

/-- A free transmitter: the frame that was on the wire has left, and the first of R154 starts. -/
def State.txStart (s : State) (n : Nat) (tx : TxSlot) : State :=
  if !s.txRuns n then s
  else ((s.wireEnd n).txPick n tx).loopBack n s.outbox.length

/-- TX_FRAME_START. -/
def execTxFrameStart (n : Nat) (tx : TxSlot) (s : State) : Host.Outcome State Fault Refusal := s.accept (below n 4) fun s => (s.txStart n tx).done

/-- PORT_LINK_LOSS (R93): `signal` says whether the signal is still detected, `hiBer` whether a high bit-error rate lost it, `cut` what had come
of a frame that the loss ends (R113). -/
def execPortLinkLoss (n : Nat) (loss : LinkLoss) (cut : Option RxFrame) (s : State) : Host.Outcome State Fault Refusal := s.accept (below n 4) fun s =>
  if s.portState n < 2 then s.done
  else
    let s := match cut with
      | some rx => s.rxFrame n { rx with cut := true, more := false }
      | none => s.rxAbandon n
    let s := s.putB (R.PCS_STATUS_SignalDetect n) loss.signal
    ((s.linkLost n).putB (R.PCS_STATUS_HiBer n) loss.hiBer).done

end Sys2Proof.Machine
end

