-- ==== Sys2Proof/Machine/Dispatch.lean ====
section
/-!
DEFINITION. The dispatch: one arm per command, each a direct call of the command's meaning.
-/
namespace Sys2Proof.Machine

def exec (i : Instr) (s : State) : Host.Outcome State Fault Refusal :=
  match i with
  | .pickStrobe bits bad host => Sys2Proof.Machine.execPickStrobe bits bad host s
  | .filterChainStart j ecc => Sys2Proof.Machine.execFilterChainStart j ecc s
  | .fadeEnd j => Sys2Proof.Machine.execFadeEnd j s
  | .realignPeriodEnd => Sys2Proof.Machine.execRealignPeriodEnd s
  | .closingCrossfadeEnd j => Sys2Proof.Machine.execClosingCrossfadeEnd j s
  | .delayFadeEnd d => Sys2Proof.Machine.execDelayFadeEnd d s
  | .cueArmed pick order => Sys2Proof.Machine.execCueArmed pick order s
  | .cuePush path words => Sys2Proof.Machine.execCuePush path words s
  | .cueCancel path pick order => Sys2Proof.Machine.execCueCancel path pick order s
  | .doneInfoPop => Sys2Proof.Machine.execDoneInfoPop s
  | .timeCtrlWrite v => Sys2Proof.Machine.execTimeCtrlWrite v s
  | .pickCounterStart => Sys2Proof.Machine.execPickCounterStart s
  | .pickCounterResume => Sys2Proof.Machine.execPickCounterResume s
  | .timeSet => Sys2Proof.Machine.execTimeSet s
  | .timeCapture => Sys2Proof.Machine.execTimeCapture s
  | .pickLoRead => Sys2Proof.Machine.execPickLoRead s
  | .ptpMessageRx port msg => Sys2Proof.Machine.execPtpMessageRx port msg s
  | .ptpMessageTx port kind => Sys2Proof.Machine.execPtpMessageTx port kind s
  | .reedTick samples freq phase => Sys2Proof.Machine.execReedTick samples freq phase s
  | .refGateExpire e => Sys2Proof.Machine.execRefGateExpire e s
  | .refWtrExpire e => Sys2Proof.Machine.execRefWtrExpire e s
  | .refEdgeTimeout k => Sys2Proof.Machine.execRefEdgeTimeout k s
  | .ptpAnnounceTimeout k => Sys2Proof.Machine.execPtpAnnounceTimeout k s
  | .refEnableWrite k v => Sys2Proof.Machine.execRefEnableWrite k v s
  | .rdCtrlWrite v => Sys2Proof.Machine.execRdCtrlWrite v s
  | .dpllAcquireLock err => Sys2Proof.Machine.execDpllAcquireLock err s
  | .dpllLockLoss err => Sys2Proof.Machine.execDpllLockLoss err s
  | .switchCommit phase => Sys2Proof.Machine.execSwitchCommit phase s
  | .holdHistorySample use => Sys2Proof.Machine.execHoldHistorySample use s
  | .holdoverSecond => Sys2Proof.Machine.execHoldoverSecond s
  | .pstepGo v => Sys2Proof.Machine.execPstepGo v s
  | .phaseStepApply => Sys2Proof.Machine.execPhaseStepApply s
  | .fpoInputPulse j err => Sys2Proof.Machine.execFpoInputPulse j err s
  | .fpoStepApply j => Sys2Proof.Machine.execFpoStepApply j s
  | .synthUnlock m => Sys2Proof.Machine.execSynthUnlock m s
  | .synthLocked m => Sys2Proof.Machine.execSynthLocked m s
  | .synthOutputRestart m => Sys2Proof.Machine.execSynthOutputRestart m s
  | .synthStopped m => Sys2Proof.Machine.execSynthStopped m s
  | .synthNcdReturn m => Sys2Proof.Machine.execSynthNcdReturn m s
  | .synCtrlWrite v => Sys2Proof.Machine.execSynCtrlWrite v s
  | .rampStart m => Sys2Proof.Machine.execRampStart m s
  | .rampAbort m ms => Sys2Proof.Machine.execRampAbort m ms s
  | .rampZero m => Sys2Proof.Machine.execRampZero m s
  | .rampSegmentEnd m => Sys2Proof.Machine.execRampSegmentEnd m s
  | .glideEnd => Sys2Proof.Machine.execGlideEnd s
  | .ckoCfgWrite idx v => Sys2Proof.Machine.execCkoCfgWrite idx v s
  | .ckoEnableApply => Sys2Proof.Machine.execCkoEnableApply s
  | .ckoPhaseWrite idx v => Sys2Proof.Machine.execCkoPhaseWrite idx v s
  | .ckoWalkStep idx => Sys2Proof.Machine.execCkoWalkStep idx s
  | .ckoSecondRealign => Sys2Proof.Machine.execCkoSecondRealign s
  | .pcsCtrlWrite n v => Sys2Proof.Machine.execPcsCtrlWrite n v s
  | .pcsRestart n => Sys2Proof.Machine.execPcsRestart n s
  | .pcsAdapt n => Sys2Proof.Machine.execPcsAdapt n s
  | .macCtrlWrite n v => Sys2Proof.Machine.execMacCtrlWrite n v s
  | .portSignalDetect n => Sys2Proof.Machine.execPortSignalDetect n s
  | .portLinkUp n => Sys2Proof.Machine.execPortLinkUp n s
  | .portLinkLoss n loss cut => Sys2Proof.Machine.execPortLinkLoss n loss cut s
  | .rxFrame n rx => Sys2Proof.Machine.execRxFrame n rx s
  | .ctFrameStart n => Sys2Proof.Machine.execCtFrameStart n s
  | .pauseTimerExpire n p => Sys2Proof.Machine.execPauseTimerExpire n p s
  | .pauseWatchdog n p => Sys2Proof.Machine.execPauseWatchdog n p s
  | .pauseSpentTimeout n p => Sys2Proof.Machine.execPauseSpentTimeout n p s
  | .pfcRefresh n => Sys2Proof.Machine.execPfcRefresh n s
  | .txFrameStart n tx => Sys2Proof.Machine.execTxFrameStart n tx s
  | .tsPopTag n => Sys2Proof.Machine.execTsPopTag n s
  | .lostTagPop n => Sys2Proof.Machine.execLostTagPop n s
  | .counterHarvest n idx => Sys2Proof.Machine.execCounterHarvest n idx s
  | .wakeFrameMatch frame good pin st => Sys2Proof.Machine.execWakeFrameMatch frame good pin st s
  | .streamLost idx => Sys2Proof.Machine.execStreamLost idx s
  | .pdvWindowEnd => Sys2Proof.Machine.execPdvWindowEnd s
  | .seRead => Sys2Proof.Machine.execSeRead s
  | .seWrite => Sys2Proof.Machine.execSeWrite s
  | .seClearCnt => Sys2Proof.Machine.execSeClearCnt s
  | .mmInfoPop => Sys2Proof.Machine.execMmInfoPop s
  | .digestMissing pick => Sys2Proof.Machine.execDigestMissing pick s
  | .stRead => Sys2Proof.Machine.execStRead s
  | .stWrite => Sys2Proof.Machine.execStWrite s
  | .stClearCnt => Sys2Proof.Machine.execStClearCnt s
  | .pmInfoPop => Sys2Proof.Machine.execPmInfoPop s
  | .sapAnnounce idx => Sys2Proof.Machine.execSapAnnounce idx s
  | .poolInitDone => Sys2Proof.Machine.execPoolInitDone s
  | .qRead => Sys2Proof.Machine.execQRead s
  | .qWrite => Sys2Proof.Machine.execQWrite s
  | .qFlush => Sys2Proof.Machine.execQFlush s
  | .qClearCnt => Sys2Proof.Machine.execQClearCnt s
  | .reclaimDone e => Sys2Proof.Machine.execReclaimDone e s
  | .qpSelWrite k v => Sys2Proof.Machine.execQpSelWrite k v s
  | .qpPushStart k => Sys2Proof.Machine.execQpPushStart k s
  | .qpPushData k v => Sys2Proof.Machine.execQpPushData k v s
  | .qpPushEnd k last => Sys2Proof.Machine.execQpPushEnd k last s
  | .qpPushAbort k => Sys2Proof.Machine.execQpPushAbort k s
  | .qpPop k ecc => Sys2Proof.Machine.execQpPop k ecc s
  | .poolTargetAccess a ecc => Sys2Proof.Machine.execPoolTargetAccess a ecc s
  | .xtOpen id => Sys2Proof.Machine.execXtOpen id s
  | .xePush id => Sys2Proof.Machine.execXePush id s
  | .xtSeal id => Sys2Proof.Machine.execXtSeal id s
  | .xtAbandon id => Sys2Proof.Machine.execXtAbandon id s
  | .xtCommitNow id => Sys2Proof.Machine.execXtCommitNow id s
  | .xpEditsApplied id => Sys2Proof.Machine.execXpEditsApplied id s
  | .xpTransactionWrite data => Sys2Proof.Machine.execXpTransactionWrite data s
  | .xpTableWrite data => Sys2Proof.Machine.execXpTableWrite data s
  | .dsRead => Sys2Proof.Machine.execDsRead s
  | .dsWrite => Sys2Proof.Machine.execDsWrite s
  | .hdRepack => Sys2Proof.Machine.execHdRepack s
  | .grpGo => Sys2Proof.Machine.execGrpGo s
  | .xqLookup => Sys2Proof.Machine.execXqLookup s
  | .decSyncNow => Sys2Proof.Machine.execDecSyncNow s
  | .dsmSyncEdge falling => Sys2Proof.Machine.execDsmSyncEdge falling s
  | .decClearPoint => Sys2Proof.Machine.execDecClearPoint s
  | .decSettled k => Sys2Proof.Machine.execDecSettled k s
  | .decClockFault k => Sys2Proof.Machine.execDecClockFault k s
  | .decClockValid k => Sys2Proof.Machine.execDecClockValid k s
  | .decGrpWrite k v => Sys2Proof.Machine.execDecGrpWrite k v s
  | .fcRead => Sys2Proof.Machine.execFcRead s
  | .fcWrite => Sys2Proof.Machine.execFcWrite s
  | .fcSwap fade => Sys2Proof.Machine.execFcSwap fade s
  | .fadeCfgWrite v => Sys2Proof.Machine.execFadeCfgWrite v s
  | .filtCtrlWrite v => Sys2Proof.Machine.execFiltCtrlWrite v s
  | .coefWrite a => Sys2Proof.Machine.execCoefWrite a s
  | .coefImageWrite data => Sys2Proof.Machine.execCoefImageWrite data s
  | .dtRead => Sys2Proof.Machine.execDtRead s
  | .dtWrite => Sys2Proof.Machine.execDtWrite s
  | .dtClearMax => Sys2Proof.Machine.execDtClearMax s
  | .ovInfoPop => Sys2Proof.Machine.execOvInfoPop s
  | .tdmEnable k v => Sys2Proof.Machine.execTdmEnable k v s
  | .tdmFmtWrite k v => Sys2Proof.Machine.execTdmFmtWrite k v s
  | .tdmFrameRx k f => Sys2Proof.Machine.execTdmFrameRx k f s
  | .tdmClockLoss k => Sys2Proof.Machine.execTdmClockLoss k s
  | .tdmDriveOn k => Sys2Proof.Machine.execTdmDriveOn k s
  | .llFrameTx k => Sys2Proof.Machine.execLlFrameTx k s
  | .llFrameRx k f => Sys2Proof.Machine.execLlFrameRx k f s
  | .llLinkDown k => Sys2Proof.Machine.execLlLinkDown k s
  | .llPartnerSeenTimeout k => Sys2Proof.Machine.execLlPartnerSeenTimeout k s
  | .ccTxSend k => Sys2Proof.Machine.execCcTxSend k s
  | .ccRxPop k => Sys2Proof.Machine.execCcRxPop k s
  | .leaseCapture => Sys2Proof.Machine.execLeaseCapture s
  | .leaseGrant ms => Sys2Proof.Machine.execLeaseGrant ms s
  | .reserveCapture => Sys2Proof.Machine.execReserveCapture s
  | .reserveGrant ms => Sys2Proof.Machine.execReserveGrant ms s
  | .leaseRelease => Sys2Proof.Machine.execLeaseRelease s
  | .releaseReserve => Sys2Proof.Machine.execReleaseReserve s
  | .pulseAck => Sys2Proof.Machine.execPulseAck s
  | .setRosterAbsent => Sys2Proof.Machine.execSetRosterAbsent s
  | .clearRosterAbsent => Sys2Proof.Machine.execClearRosterAbsent s
  | .leaseExpire => Sys2Proof.Machine.execLeaseExpire s
  | .reserveExpire => Sys2Proof.Machine.execReserveExpire s
  | .leaseInChange level => Sys2Proof.Machine.execLeaseInChange level s
  | .driveokArm => Sys2Proof.Machine.execDriveokArm s
  | .fenceTimeout => Sys2Proof.Machine.execFenceTimeout s
  | .pulseTx => Sys2Proof.Machine.execPulseTx s
  | .leaseRenewTx reserve => Sys2Proof.Machine.execLeaseRenewTx reserve s
  | .absenceReportTx => Sys2Proof.Machine.execAbsenceReportTx s
  | .leaseRequest m => Sys2Proof.Machine.execLeaseRequest m s
  | .leaseGrantMsg m => Sys2Proof.Machine.execLeaseGrantMsg m s
  | .leaseReleaseMsg m => Sys2Proof.Machine.execLeaseReleaseMsg m s
  | .reserveRequest m => Sys2Proof.Machine.execReserveRequest m s
  | .reserveGrantMsg m => Sys2Proof.Machine.execReserveGrantMsg m s
  | .pulse m => Sys2Proof.Machine.execPulse m s
  | .pulseAckMsg m => Sys2Proof.Machine.execPulseAckMsg m s
  | .absenceReport m => Sys2Proof.Machine.execAbsenceReport m s
  | .absentConfirmDue unit => Sys2Proof.Machine.execAbsentConfirmDue unit s
  | .absentConfirm m => Sys2Proof.Machine.execAbsentConfirm m s
  | .deny m => Sys2Proof.Machine.execDeny m s
  | .fallbackRequest => Sys2Proof.Machine.execFallbackRequest s
  | .silentTakeover => Sys2Proof.Machine.execSilentTakeover s
  | .selvedgeDown => Sys2Proof.Machine.execSelvedgeDown s
  | .selvedgeBeatTx => Sys2Proof.Machine.execSelvedgeBeatTx s
  | .selvedgeBeatRx bytes => Sys2Proof.Machine.execSelvedgeBeatRx bytes s
  | .timeFrameTx => Sys2Proof.Machine.execTimeFrameTx s
  | .timeFrameRx bytes arrival => Sys2Proof.Machine.execTimeFrameRx bytes arrival s
  | .selvedgeCtrlRx m ok => Sys2Proof.Machine.execSelvedgeCtrlRx m ok s
  | .epochBuild => Sys2Proof.Machine.execEpochBuild s
  | .copyFrameRx bytes => Sys2Proof.Machine.execCopyFrameRx bytes s
  | .commitFrameRx bytes => Sys2Proof.Machine.execCommitFrameRx bytes s
  | .epochApply => Sys2Proof.Machine.execEpochApply s
  | .epochTimeout => Sys2Proof.Machine.execEpochTimeout s
  | .epochSendFull => Sys2Proof.Machine.execEpochSendFull s
  | .epochRequestFull => Sys2Proof.Machine.execEpochRequestFull s
  | .lldpTx n => Sys2Proof.Machine.execLldpTx n s
  | .lldpRx n frame => Sys2Proof.Machine.execLldpRx n frame s
  | .lldpTtlExpire n => Sys2Proof.Machine.execLldpTtlExpire n s
  | .beaconTx => Sys2Proof.Machine.execBeaconTx s
  | .beaconRx b nonce => Sys2Proof.Machine.execBeaconRx b nonce s
  | .joinRequest r nonce => Sys2Proof.Machine.execJoinRequest r nonce s
  | .joinChallenge nonceM nonceW proof => Sys2Proof.Machine.execJoinChallenge nonceM nonceW proof s
  | .joinResponse nonceM proof => Sys2Proof.Machine.execJoinResponse nonceM proof s
  | .joinAccept unit term version => Sys2Proof.Machine.execJoinAccept unit term version s
  | .joinDeny reason => Sys2Proof.Machine.execJoinDeny reason s
  | .heartbeat unit seq flags pick => Sys2Proof.Machine.execHeartbeat unit seq flags pick s
  | .leave unit => Sys2Proof.Machine.execLeave unit s
  | .rosterDelta version recs => Sys2Proof.Machine.execRosterDelta version recs s
  | .rosterSyncTx => Sys2Proof.Machine.execRosterSyncTx s
  | .rosterSync version recs => Sys2Proof.Machine.execRosterSync version recs s
  | .joinTimeout => Sys2Proof.Machine.execJoinTimeout s
  | .joinRetry nonce => Sys2Proof.Machine.execJoinRetry nonce s
  | .challengeTimeout device => Sys2Proof.Machine.execChallengeTimeout device s
  | .beaconLoss => Sys2Proof.Machine.execBeaconLoss s
  | .managerStart => Sys2Proof.Machine.execManagerStart s
  | .backupTakeover => Sys2Proof.Machine.execBackupTakeover s
  | .managerHoldoffEnd => Sys2Proof.Machine.execManagerHoldoffEnd s
  | .unitAbsent unit => Sys2Proof.Machine.execUnitAbsent unit s
  | .patternLoad n => Sys2Proof.Machine.execPatternLoad n s
  | .patternSave n => Sys2Proof.Machine.execPatternSave n s
  | .patternImageWrite n data => Sys2Proof.Machine.execPatternImageWrite n data s
  | .overlayDefWrite k data => Sys2Proof.Machine.execOverlayDefWrite k data s
  | .overlayDeferredApply => Sys2Proof.Machine.execOverlayDeferredApply s
  | .tempSample readings => Sys2Proof.Machine.execTempSample readings s
  | .avsWindow slack => Sys2Proof.Machine.execAvsWindow slack s
  | .avsLower => Sys2Proof.Machine.execAvsLower s
  | .tpCtrlWrite v => Sys2Proof.Machine.execTpCtrlWrite v s
  | .eyeMeasure eyes => Sys2Proof.Machine.execEyeMeasure eyes s
  | .adaptDone lane => Sys2Proof.Machine.execAdaptDone lane s
  | .eccHour => Sys2Proof.Machine.execEccHour s
  | .dayEnd => Sys2Proof.Machine.execDayEnd s
  | .ledgerRetry => Sys2Proof.Machine.execLedgerRetry s
  | .planPass => Sys2Proof.Machine.execPlanPass s
  | .lcpRx port ip udp msg => Sys2Proof.Machine.execLcpRx port ip udp msg s
  | .read who msg => Sys2Proof.Machine.execRead who msg s
  | .write who msg => Sys2Proof.Machine.execWrite who msg s
  | .writeAt who msg => Sys2Proof.Machine.execWriteAt who msg s
  | .subscribe who msg => Sys2Proof.Machine.execSubscribe who msg s
  | .subscriptionEval => Sys2Proof.Machine.execSubscriptionEval s
  | .subscriptionLapse => Sys2Proof.Machine.execSubscriptionLapse s
  | .bulkOpenRead who msg => Sys2Proof.Machine.execBulkOpenRead who msg s
  | .bulkOpenWrite who msg => Sys2Proof.Machine.execBulkOpenWrite who msg s
  | .bulkData who msg => Sys2Proof.Machine.execBulkData who msg s
  | .bulkAbort who msg => Sys2Proof.Machine.execBulkAbort who msg s
  | .bulkTimeout => Sys2Proof.Machine.execBulkTimeout s
  | .mbxDoorbell m v => Sys2Proof.Machine.execMbxDoorbell m v s
  | .registerWrite a ecc => Sys2Proof.Machine.execRegisterWrite a ecc s
  | .slowWriteApply b vpp ms => Sys2Proof.Machine.execSlowWriteApply b vpp ms s
  | .cmdMultiBit a v => Sys2Proof.Machine.execCmdMultiBit a v s
  | .busPromote => Sys2Proof.Machine.execBusPromote s
  | .masterReset m dropped => Sys2Proof.Machine.execMasterReset m dropped s
  | .winLockAcquire m k => Sys2Proof.Machine.execWinLockAcquire m k s
  | .winLockRelease m k => Sys2Proof.Machine.execWinLockRelease m k s
  | .evtAckWrite e v => Sys2Proof.Machine.execEvtAckWrite e v s
  | .evtAckallWrite w v => Sys2Proof.Machine.execEvtAckallWrite w v s
  | .msixUnmask v => Sys2Proof.Machine.execMsixUnmask v s
  | .errorRecordAccept => Sys2Proof.Machine.execErrorRecordAccept s
  | .errPop => Sys2Proof.Machine.execErrPop s
  | .errFirstAck v => Sys2Proof.Machine.execErrFirstAck v s
  | .sysCyclesRead => Sys2Proof.Machine.execSysCyclesRead s
  | .spiWrite addr bytes => Sys2Proof.Machine.execSpiWrite addr bytes s
  | .spiRead addr words ecc => Sys2Proof.Machine.execSpiRead addr words ecc s
  | .spiWriteWin addr bytes => Sys2Proof.Machine.execSpiWriteWin addr bytes s
  | .spiReadWin addr words ecc => Sys2Proof.Machine.execSpiReadWin addr words ecc s
  | .spiQuadWrite addr bytes => Sys2Proof.Machine.execSpiQuadWrite addr bytes s
  | .spiQuadRead addr words ecc => Sys2Proof.Machine.execSpiQuadRead addr words ecc s
  | .spiQuadWriteWin addr bytes => Sys2Proof.Machine.execSpiQuadWriteWin addr bytes s
  | .spiQuadReadWin addr words ecc => Sys2Proof.Machine.execSpiQuadReadWin addr words ecc s
  | .spiStatus => Sys2Proof.Machine.execSpiStatus s
  | .spiBadCmd b => Sys2Proof.Machine.execSpiBadCmd b s
  | .spiCsRise cut => Sys2Proof.Machine.execSpiCsRise cut s
  | .pcieLinkReset down dropped => Sys2Proof.Machine.execPcieLinkReset down dropped s
  | .powerOnReset st => Sys2Proof.Machine.execPowerOnReset st s
  | .pinReset st => Sys2Proof.Machine.execPinReset st s
  | .warmReset => Sys2Proof.Machine.execWarmReset s
  | .poolPreservingReset => Sys2Proof.Machine.execPoolPreservingReset s
  | .spindleReset => Sys2Proof.Machine.execSpindleReset s
  | .brownOut st => Sys2Proof.Machine.execBrownOut st s
  | .supplyUndervoltage low => Sys2Proof.Machine.execSupplyUndervoltage low s
  | .thermalShutdown => Sys2Proof.Machine.execThermalShutdown s
  | .thermalRelease st => Sys2Proof.Machine.execThermalRelease st s
  | .watchdogKick v => Sys2Proof.Machine.execWatchdogKick v s
  | .watchdogCfgWrite v => Sys2Proof.Machine.execWatchdogCfgWrite v s
  | .watchdogWarn => Sys2Proof.Machine.execWatchdogWarn s
  | .watchdogExpire => Sys2Proof.Machine.execWatchdogExpire s
  | .pwrCtrlWrite v => Sys2Proof.Machine.execPwrCtrlWrite v s
  | .pdPowerUpDone d => Sys2Proof.Machine.execPdPowerUpDone d s
  | .fuseShadowLoaded => Sys2Proof.Machine.execFuseShadowLoaded s
  | .bootRomStart => Sys2Proof.Machine.execBootRomStart s
  | .bootGo => Sys2Proof.Machine.execBootGo s
  | .recoveryIdentify ip udp msg => Sys2Proof.Machine.execRecoveryIdentify ip udp msg s
  | .recoveryLoad ip udp msg => Sys2Proof.Machine.execRecoveryLoad ip udp msg s
  | .recoveryLaunch ip udp msg => Sys2Proof.Machine.execRecoveryLaunch ip udp msg s
  | .firmwareStart ports => Sys2Proof.Machine.execFirmwareStart ports s
  | .dozeEnter => Sys2Proof.Machine.execDozeEnter s
  | .wakePin st => Sys2Proof.Machine.execWakePin st s
  | .fuseProgram vpp => Sys2Proof.Machine.execFuseProgram vpp s
  | .fuseProgramDone failed => Sys2Proof.Machine.execFuseProgramDone failed s
  | .fuseAdvance vpp => Sys2Proof.Machine.execFuseAdvance vpp s
  | .xrefLoss => Sys2Proof.Machine.execXrefLoss s
  | .xrefReturn st => Sys2Proof.Machine.execXrefReturn st s
  | .portSignalLoss n => Sys2Proof.Machine.execPortSignalLoss n s
  | .leaseGuardEnd unit => Sys2Proof.Machine.execLeaseGuardEnd unit s
  | .rosterDeltaRequest unit version => Sys2Proof.Machine.execRosterDeltaRequest unit version s
  | .keptReplyExpire => Sys2Proof.Machine.execKeptReplyExpire s
  | .pcieLinkUp speed width msix mask d3 => Sys2Proof.Machine.execPcieLinkUp speed width msix mask d3 s
  | .repackDone => Sys2Proof.Machine.execRepackDone s
  | .flashOperationEnd ok => Sys2Proof.Machine.execFlashOperationEnd ok s

end Sys2Proof.Machine
end

