-- ==== Sys2Proof/Machine/Tick.lean ====
section
/-!
DEFINITION. A cycle of CCLK in which no command waits: time passes (R36, R291), the lease timers run (R289, R295), and paused ports
count their microseconds (R114). Everything else that happens at a time has a command of its own (notes/assumptions/4.md).
-/
namespace Sys2Proof.Machine

/-- One CCLK of XREF-derived time, for PD0 (R291, R448): it stands still while XREF is lost. -/
def State.tickXref (s : State) : State :=
  if s.life.held = .xref then s else ({ s with xref := s.xref + 1 } : State).leaseTimers

/-- One CCLK of the cycle count and of the timekeeper: 104,857.6 units of 2^-16 ns. -/
def State.tickTime (s : State) : State :=
  { s with time := { s.time with
      cycles := (s.time.cycles + 1) % 2 ^ 64
      tai := s.time.tai + 104857 + (s.time.taiRem + 3) / 5
      taiRem := (s.time.taiRem + 3) % 5 } }

/-- A cycle without a command. -/
def State.tick (s : State) : State :=
  (if s.life.held = .none then s.tickXref.tickTime.forN 4 (fun n t => t.pausedUs n) else s.tickXref).settle

end Sys2Proof.Machine
end

