-- ==== Sys2Proof/Safety.lean ====
section
/-!
DEFINITION. The terms the statements are written in: when commands act, what a command answers, and what it leaves alone.
-/
namespace Sys2Proof.Machine

/-- Nothing but PD0 is held back, so commands act (R408, R418, R448). -/
def Ready (s : State) : Prop := s.life.held = .none

/-- The command answers a next state that has a property. -/
def Gives (c : Instr) (s : State) (P : State → Prop) : Prop := ∃ t, exec c s = .next t ∧ P t

/-- The command ends in state u: interrupts are settled there (R385), and nothing else differs from u. -/
def Ends (c : Instr) (s u : State) : Prop := exec c s = .next u.settle

/-- Every register word but those listed, and but the MSI-X Pending Bit Array, reads as before. -/
def SameRegs (offs : List Nat) (s t : State) : Prop := ∀ a, a ∉ offs → a ≠ R.MSIX_PBA 0 → t.rd a = s.rd a

/-- What the device has sent: these messages, and then MSI-X messages (R385). -/
def Sends (ms : List Sent) (s t : State) : Prop := ∃ vs : List Nat, t.outbox = s.outbox ++ ms ++ vs.map Sent.msix

/-- Everything but the register words listed, MSI-X and the messages sent is as before: every table, memory, queue, log, timer and object. -/
def OnlyRegs (offs : List Nat) (s t : State) : Prop :=
  SameRegs offs s t ∧ ({ t with regs := s.regs, outbox := s.outbox, msixLevel := s.msixLevel } : State) = s

/-- The same, where reports to the ERR block have been made (R388, R390). -/
def OnlyReports (offs : List Nat) (es : List ErrReport) (s t : State) : Prop :=
  SameRegs offs s t ∧ t.errWait = s.errWait ++ es
    ∧ ({ t with regs := s.regs, outbox := s.outbox, msixLevel := s.msixLevel, errWait := s.errWait } : State) = s

/-- The levels of the lease logic follow from its registers (R289, R296): who holds, who collides, and that the drivers are released
where a condition of DriveOk fails. -/
def LeaseLevels (t : State) : Prop :=
  (t.is R.LEASE_STATUS_ReserveActive = true → t.is R.LEASE_STATUS_ReserveValid = true)
  ∧ t.is R.LEASE_STATUS_Holding = (decide (t.get R.LEASE_CTRL_Mode = 3)
      || (decide (t.get R.LEASE_CTRL_Mode ≠ 0) && (t.is R.LEASE_STATUS_LeaseValid || t.is R.LEASE_STATUS_ReserveActive)))
  ∧ t.is R.LEASE_STATUS_LeaseOut = t.is R.LEASE_STATUS_Holding
  ∧ t.is R.LEASE_STATUS_PartnerAsserted = (t.is R.LEASE_STATUS_LeaseIn || (t.svUp && t.is R.SV_STATUS_PartnerLeaseOut))
  ∧ t.is R.LEASE_STATUS_Collision = (t.is R.LEASE_STATUS_Holding && t.is R.LEASE_STATUS_PartnerAsserted)
  ∧ (t.is R.LEASE_STATUS_Holding = false ∨ t.is R.LEASE_STATUS_PartnerAsserted = true ∨ t.is R.LEASE_STATUS_Fenced = true →
      t.is R.LEASE_STATUS_DriveOk = false)

/-- The interrupt levels last seen are the levels now, so the next rise of a vector's level is seen as one (R385). -/
def Settled (s : State) : Prop := s.msixLevel = s.levels 32

/-- The commands that act whatever is held: resets by POR_N, RST_N and returning XREF, release from thermal shutdown, the wake requests, and
the level of the lease input, which PD0 follows (R291, R408, R418, R448). -/
def actsHeld : Instr → Bool
  | .powerOnReset _ => true
  | .pinReset _ => true
  | .thermalRelease _ => true
  | .xrefReturn _ => true
  | .wakePin _ => true
  | .wakeFrameMatch _ _ _ _ => true
  | .leaseInChange _ => true
  | _ => false

/-- A report of a register write that its block turns down: 0x10 Refused, 0x11 Ignored (R389). -/
def turnedDown (code off detail aux : Nat) : ErrReport :=
  { code := code, block := blockOf off, addr := regBase + off, detail := detail, aux := aux }

end Sys2Proof.Machine
end

