-- ==== Sys2Proof/Certificates/Slice0/Obligations.lean ====
section
/-!
DEFINITION. The statements about the WDX-6400: what its commands answer and do (Gives, Ends), what they leave alone (OnlyRegs, SameRegs), and
what holds of every step. Offsets, fields and operations are those of the model.
-/
open Sys2Proof Sys2Proof.Machine

/-- A step takes the command at the front of the queue and runs it on the state with the queue's rest. -/
def Obligations.StepRunsFrontCommand : Prop := ∀ (s : State) (c : Instr) (rest : List Instr),
  step { s with pending := c :: rest } = exec c { s with pending := rest }

/-- The model's own choice (notes/assumptions/4.md): a step on an empty queue lets one cycle pass. Cycle count and XREF-derived time advance by
one, and the time of day by 104,857.6 units of 2^-16 ns, so by 524,288 units in five cycles. The pick count stays, and beside register words only the
timers of the lease logic, what Reed and Selvedge make of them, and the ports' count of paused microseconds change. -/
def Obligations.IdleStepLetsACyclePass : Prop := ∀ s : State, s.pending = [] → Ready s → ∃ t, step s = .next t
  ∧ t.time.cycles = (s.time.cycles + 1) % 2 ^ 64 ∧ t.xref = s.xref + 1
  ∧ t.time.tai * 5 + t.time.taiRem = s.time.tai * 5 + s.time.taiRem + 524288
  ∧ t.time.pick = s.time.pick ∧ t.time.running = s.time.running ∧ t.time.resume = s.time.resume
  ∧ ({ t with
       regs := s.regs, time := s.time, xref := s.xref, lease := s.lease, reed := s.reed, sv := s.sv, ports := s.ports, outbox := s.outbox,
       msixLevel := s.msixLevel } : State) = s

/-- R408, R418, R448: while every domain but PD0 is held, a command whose operands name what the device has changes nothing, unless it is one
that PD0 acts on. The model's own choice (notes/assumptions/2.md): a command whose operands name nothing the device has is refused by name, in every
state, and no command ends in a fault. -/
def Obligations.HeldDeviceIgnoresCommands : Prop := ∀ (c : Instr) (s : State),
  (c.wf = false → exec c s = .refused .illFormed)
  ∧ (c.wf = true → s.life.held ≠ .none → actsHeld c = false → exec c s = .next s)
  ∧ (c.wf = true → ∃ t, exec c s = .next t)

/-- R385: the interrupt levels last seen are the levels now, at the end of every step that began so. -/
def Obligations.EveryStepKeepsInterruptsSettled : Prop := ∀ s t : State, Settled s → step s = .next t → Settled t

/-- R385: the levels last seen are the levels now in the state after reset. -/
def Obligations.InterruptsAreSettledAtReset : Prop := Settled State.reset

/-- R385: where a command ends in state u with interrupts settled, each vector whose level is 1 there and was 0 when levels were last seen sends
its message, where the link is up with MSI-X enabled and the vector is not masked; a masked one has its pending bit set; and no register word but the
Pending Bit Array changes. -/
def Obligations.RisenVectorsSendMessages : Prop := ∀ (c : Instr) (s u : State), Ends c s u →
  let rises := fun (v : Nat) => u.vecLevel v && !bitOf u.msixLevel v
  let may := u.is R.PCIE_STATUS_LinkUp = true ∧ u.is R.PCIE_STATUS_MsixEnable = true ∧ u.host.d3 = false
  Gives c s (fun t => (may → t.outbox = u.outbox ++ ((List.range 32).filter (fun v => rises v && !u.vecMasked v)).map Sent.msix)
    ∧ (¬ may → t.outbox = u.outbox)
    ∧ (∀ v, v < 32 → bitOf (t.rd (R.MSIX_PBA 0)).toNat v = (bitOf (u.rd (R.MSIX_PBA 0)).toNat v || (rises v && u.vecMasked v)))
    ∧ (∀ a, a ≠ R.MSIX_PBA 0 → t.rd a = u.rd a) ∧ Settled t)

/-- R381: a write to a slow block whose Busy is 1 is dropped: it is counted, recorded with code 0x08, and has no other effect. -/
def Obligations.BusySlowBlocksDropWrites : Prop := ∀ (s : State) (v i n m ms : Nat), Ready s → v < 2 ^ 32 → n < 4 → m < 2 → i < 12 →
  let drops := fun (c : Instr) (off : Nat) => Ends c s ((s.bump R.CNT_SLOW_DROP_Count).report (turnedDown 0x08 off 0 0))
  (s.is R.RD_STATUS_Busy = true → (∀ k, k < 10 → drops (.refEnableWrite k v) (R.REF_CFG k)) ∧ drops (.rdCtrlWrite v) R.RD_CTRL ∧ drops (.pstepGo v) R.PSTEP_CMD)
  ∧ (s.is R.SYN_STATUS_Busy = true → drops (.synCtrlWrite v) R.SYN_CTRL ∧ drops (.rampStart m) (R.RAMP_CTRL m) ∧ drops (.rampAbort m ms) (R.RAMP_CTRL m)
      ∧ drops (.rampZero m) (R.RAMP_CTRL m) ∧ drops (.ckoCfgWrite i v) (R.CKO_CFG i) ∧ drops (.ckoPhaseWrite i v) (R.CKO_PHASE i))
  ∧ (s.is (R.PCS_STATUS_Busy n) = true → drops (.pcsCtrlWrite n v) (R.PCS_CTRL n) ∧ drops (.pcsRestart n) (R.PCS_CMD n) ∧ drops (.pcsAdapt n) (R.PCS_CMD n))
  ∧ (s.is R.AON_STATUS_Busy = true → drops (.watchdogKick v) R.AON_WDOG_KICK ∧ drops (.watchdogCfgWrite v) R.AON_WDOG_CFG ∧ drops .dozeEnter R.AON_DOZE_CMD
      ∧ drops .bootGo R.AON_BOOT_CMD)
  ∧ (s.is R.FUSE_STATUS_Busy = true → ∀ vpp, drops (.fuseProgram vpp) R.FUSE_CMD ∧ drops (.fuseAdvance vpp) R.FUSE_CMD)

/-- R35: Set loads the time to set while TodValid is 0 and the nanoseconds are below 10^9, and a unit whose firmware waits for a time starts its pick
counter with it (R415); otherwise it loads nothing and a record of code Ignored is written. -/
def Obligations.TimeIsSetWhileInvalid : Prop := ∀ s : State, Ready s →
  (¬ s.is R.TIME_STATUS_TodValid → s.get R.SET_NS_Ns ≤ 999999999 → Gives .timeSet s (fun t =>
      t.is R.TIME_STATUS_TodValid = true
      ∧ t.time = { s.time with tai := (s.get R.SET_SEC_LO_Sec + s.get R.SET_SEC_HI_Sec * 2 ^ 32) * unitsPerSec + s.get R.SET_NS_Ns * 65536, taiRem := 0 }
      ∧ (s.life.wantTime = false → SameRegs [R.TIME_STATUS] s t ∧ t.errWait = s.errWait) ∧ (s.life.wantTime = true → t.is R.TIME_CTRL_Run = true)))
  ∧ (s.is R.TIME_STATUS_TodValid ∨ 999999999 < s.get R.SET_NS_Ns → Gives .timeSet s (OnlyReports [] [turnedDown 0x11 R.TIME_SET_CMD 0 0] s))

/-- R50: TIME_CAPTURE copies the time of day and the pick count of one cycle into the snapshot registers, and nothing else changes.

R9: a read of PICK_LO or SYS_CYCLES_LO that includes byte 3 returns the low word of a count and latches its high word. -/
def Obligations.CapturesAreCoherent : Prop :=
  (∀ s : State, Ready s →
      Gives .timeCapture s (fun t =>
        t.get R.SNAP_NS_Ns = s.time.tai % unitsPerSec / 65536 ∧ t.get R.SNAP_FRAC_Frac = s.time.tai % 65536
        ∧ t.get R.SNAP_SEC_LO_Sec = s.time.tai / unitsPerSec % 2 ^ 32 ∧ t.get R.SNAP_SEC_HI_Sec = s.time.tai / unitsPerSec / 2 ^ 32 % 2 ^ 16
        ∧ t.get R.SNAP_PICK_LO_Pick = s.time.pick % 2 ^ 32 ∧ t.get R.SNAP_PICK_HI_Pick = s.time.pick / 2 ^ 32 % 2 ^ 32
        ∧ OnlyRegs [R.SNAP_NS, R.SNAP_FRAC, R.SNAP_SEC_LO, R.SNAP_SEC_HI, R.SNAP_PICK_LO, R.SNAP_PICK_HI] s t))
  ∧ (∀ s : State, Ready s →
      Gives .pickLoRead s (fun t => Sends [.readData R.PICK_LO (s.time.pick % 2 ^ 32)] s t
        ∧ t.get R.PICK_HI_Pick = s.time.pick / 2 ^ 32 % 2 ^ 32 ∧ OnlyRegs [R.PICK_HI] s t)
      ∧ Gives .sysCyclesRead s (fun t => Sends [.readData R.SYS_CYCLES_LO (s.time.cycles % 2 ^ 32)] s t
        ∧ t.get R.SYS_CYCLES_HI_Cycles = s.time.cycles / 2 ^ 32 % 2 ^ 32 ∧ OnlyRegs [R.SYS_CYCLES_HI] s t))

/-- R38: TIME_CTRL takes its Run bit in every write; a rate code that is not in the table, or a rate that a block in use refuses, is refused, another
rate while Run is 1 is ignored, each with its record and the rate kept; a rate that fits is in force at once while Run is 0.

R38: a write of TIME_CTRL that takes Run from 1 to 0 stops the pick counter. What a ramp of MCS0 does where Run goes to 1 is the model's own choice
(notes/assumptions/20.md). -/
def Obligations.TimeCtrlAndTheCounter : Prop :=
  (∀ (s : State) (v : Nat), Ready s → v < 2 ^ 32 →
      ¬ (s.is R.TIME_CTRL_Run = true ∧ bitOf v 0 = false) →
      let begun := fun (u : State) => if s.is R.TIME_CTRL_Run = false ∧ bitOf v 0 = true then u.rampStop else u
      (bitsOf v 1 3 = s.get R.TIME_CTRL_Rate → Ends (.timeCtrlWrite v) s (begun (s.putB R.TIME_CTRL_Run (bitOf v 0))))
      ∧ (bitsOf v 1 3 ≠ s.get R.TIME_CTRL_Rate → 6 ≤ bitsOf v 1 3 →
          Ends (.timeCtrlWrite v) s (begun ((s.report (turnedDown 0x10 R.TIME_CTRL 0xFF 0)).putB R.TIME_CTRL_Run (bitOf v 0))))
      ∧ (bitsOf v 1 3 ≠ s.get R.TIME_CTRL_Rate → bitsOf v 1 3 < 6 → s.is R.TIME_CTRL_Run = true →
          Ends (.timeCtrlWrite v) s ((s.report (turnedDown 0x11 R.TIME_CTRL 0 0)).putB R.TIME_CTRL_Run (bitOf v 0)))
      ∧ (bitsOf v 1 3 ≠ s.get R.TIME_CTRL_Rate → bitsOf v 1 3 < 6 → s.is R.TIME_CTRL_Run = false → s.rateFits (bitsOf v 1 3) = true →
          Gives (.timeCtrlWrite v) s (fun t => t.get R.TIME_CTRL_Rate = bitsOf v 1 3 ∧ t.get R.TIME_STATUS_RateNow = bitsOf v 1 3
            ∧ t.is R.TIME_CTRL_Run = bitOf v 0 ∧ t.errWait = s.errWait))
      ∧ (bitsOf v 1 3 ≠ s.get R.TIME_CTRL_Rate → bitsOf v 1 3 < 6 → s.is R.TIME_CTRL_Run = false → s.rateFits (bitsOf v 1 3) = false →
          Ends (.timeCtrlWrite v) s (begun ((s.report (turnedDown 0x10 R.TIME_CTRL 0xFF 0)).putB R.TIME_CTRL_Run (bitOf v 0)))))
  ∧ (∀ (s : State) (v : Nat), Ready s → v < 2 ^ 32 →
      s.is R.TIME_CTRL_Run = true → bitOf v 0 = false →
      Gives (.timeCtrlWrite v) s (fun t => t.is R.TIME_CTRL_Run = false ∧ t.time = { s.time with running := false, resume := false } ∧ t.marks = []
        ∧ t.get R.TIME_CTRL_Rate = s.get R.TIME_CTRL_Rate ∧ t.errWait = s.errWait ++ (if bitsOf v 1 3 = s.get R.TIME_CTRL_Rate then []
            else if 6 ≤ bitsOf v 1 3 then [turnedDown 0x10 R.TIME_CTRL 0xFF 0] else [turnedDown 0x11 R.TIME_CTRL 0 0])))

/-- R38, R46: the pick counter starts at the first boundary at or after the time of day once Run and TodValid are 1 at a rate in force, and
resumes at the first whole second once MCS0 has locked after a change of family; the strobe that starts it begins that pick. Otherwise it neither starts
nor resumes.

R15, R37, R63: a pick strobe while the counter runs begins the next pick at its boundary time, which PHASE_ADJ moves; while it does not run there is no strobe. Stated
where no cue, pattern or epoch waits that could move the count itself (R46, R47). -/
def Obligations.PicksBegin : Prop :=
  (∀ s : State, Ready s → s.time.running = false → s.patDue = none →
      s.is R.TIME_CTRL_Run = true → s.is R.TIME_STATUS_TodValid = true →
      (s.is R.TIME_STATUS_RateSwitching = false → s.time.resume = false → 0 < s.fs → Gives .pickCounterStart s (fun t =>
          t.time.running = true ∧ t.time.pick = s.firstEdgeAt s.time.tai ∧ t.time.tai = max s.time.tai (s.edge (s.firstEdgeAt s.time.tai))))
      ∧ (s.time.resume = true → Gives .pickCounterResume s (fun t =>
          t.time.running = true ∧ t.time.resume = false ∧ t.time.pick = ceilDiv (s.media s.time.tai) unitsPerSec * s.fs)))
  ∧ (∀ s : State, Ready s →
      let may := s.is R.TIME_CTRL_Run = true ∧ s.is R.TIME_STATUS_TodValid = true ∧ s.time.running = false
      (¬ (may ∧ s.is R.TIME_STATUS_RateSwitching = false ∧ s.time.resume = false ∧ 0 < s.fs) → Ends .pickCounterStart s s)
      ∧ (¬ (may ∧ s.time.resume = true) → Ends .pickCounterResume s s))
  ∧ (∀ (s : State) (bits : List (Nat × Nat)) (bad : List Nat), Ready s →
      (s.time.running = false → ∀ host, Ends (.pickStrobe bits bad host) s s)
      ∧ (s.time.running = true → s.cues = [] → s.patDue = none → s.sv.due = none → Gives (.pickStrobe bits bad []) s (fun t =>
          t.time.pick = s.time.pick + 1 ∧ t.time.running = true ∧ t.time.tai = max s.time.tai (s.edge (s.time.pick + 1))
          ∧ t.heddle.last = some s.time.pick)))

/-- R41, R453: a push from the firmware or a WRITE_AT message answers the code of the check order. Treadle disabled is 0x0E; a full queue 0x03
and a key already pending 0x04 where nothing earlier fails. With code 0x00 or 0x01 the cue joins the end of the queue; with any other the
queue stays as it is, and CNT_STALE or CNT_REFUSED counts.

R41, R49: a window's own words are pushed or cancelled, and the code is put into its Wk_RESULT, which counts it. -/
def Obligations.CuePushes : Prop :=
  (∀ (s : State) (path : CuePath) (ws : List (BitVec 32)), Ready s → (∀ k, path ≠ .window k) → path.wf = true →
      let c := cueOf ws (originOf path)
      let code := s.cueCheck c (cueReserved ws)
      (s.is R.TRD_CTRL_Enable = false → code = 0x0E)
      ∧ (code = 0 ∨ code = 1 → s.cues.length < 256 ∧ (∀ d ∈ s.cues, ¬ (d.pick = c.pick ∧ d.order = c.order)))
      ∧ Gives (.cuePush path ws) s (fun t => Sends [.opResult 0x9110 0 code] s t
          ∧ (code = 0 ∨ code = 1 → t.cues.map (fun d => (d.pick, d.order)) = s.cues.map (fun d => (d.pick, d.order)) ++ [(c.pick, c.order)])
          ∧ (code = 2 → t.cues = s.cues ∧ t.get R.CNT_STALE_Count = (s.get R.CNT_STALE_Count + 1) % 2 ^ 32)
          ∧ (1 < code → code ≠ 2 → t.cues = s.cues ∧ t.get R.CNT_REFUSED_Count = (s.get R.CNT_REFUSED_Count + 1) % 2 ^ 32)))
  ∧ (∀ (s : State) (k : Nat) (ws : List (BitVec 32)) (pick order : Nat), Ready s → k < 4 →
      let c := cueOf (s.windowCue k) (.window k)
      let code := s.cueCheck c (cueReserved (s.windowCue k))
      Gives (.cuePush (.window k) ws) s (fun t => t.get (R.W_RESULT_Code k) = code ∧ t.get (R.W_RESULT_Seq k) = (s.get (R.W_RESULT_Seq k) + 1) % 2 ^ 16
        ∧ (code = 0 ∨ code = 1 → t.cues.map (fun d => (d.pick, d.order)) = s.cues.map (fun d => (d.pick, d.order)) ++ [(c.pick, c.order)])
        ∧ (1 < code → t.cues = s.cues))
      ∧ Gives (.cueCancel (.window k) pick order) s (fun t =>
          t.get (R.W_RESULT_Code k) = (if s.cues.any (fun d => decide (d.pick = c.pick ∧ d.order = c.order)) then 0x0C else 0x0B)
          ∧ t.get (R.W_RESULT_Seq k) = (s.get (R.W_RESULT_Seq k) + 1) % 2 ^ 16
          ∧ t.cues = s.cues.filter (fun d => decide (¬ (d.pick = c.pick ∧ d.order = c.order)))))

/-- R42: a push never leaves two pending cues with one pick and order, nor more than 256 cues. -/
def Obligations.CueKeysStayDistinct : Prop := ∀ (s t : State) (path : CuePath) (ws : List (BitVec 32)),
  s.cues.length ≤ 256 → (s.cues.map (fun d => (d.pick, d.order))).Nodup → exec (.cuePush path ws) s = .next t →
  t.cues.length ≤ 256 ∧ (t.cues.map (fun d => (d.pick, d.order))).Nodup

/-- R49, R44, R45: a cancel takes the cue with the key from the queue and answers 0x0C, or answers 0x0B where none has it; a cue whose
staging completes is armed while Treadle is enabled, and no other cue changes; a read of DONE_INFO hands out the oldest completion record and removes it. -/
def Obligations.CueQueueCommands : Prop := ∀ s : State, Ready s →
  (∀ (path : CuePath) (pick order : Nat), (∀ k, path ≠ .window k) → path.wf = true →
    ((∀ d ∈ s.cues, ¬ (d.pick = pick ∧ d.order = order)) → Ends (.cueCancel path pick order) s (s.send (.opResult 0x9111 0 0x0B)))
    ∧ ((∃ d ∈ s.cues, d.pick = pick ∧ d.order = order) → Gives (.cueCancel path pick order) s (fun t =>
        t.cues = s.cues.filter (fun d => decide (¬ (d.pick = pick ∧ d.order = order)))
        ∧ t.get R.CNT_CANCEL_Count = (s.get R.CNT_CANCEL_Count + 1) % 2 ^ 32)))
  ∧ (s.is R.TRD_CTRL_Enable = false → ∀ pick order : Nat, Ends (.cueArmed pick order) s s)
  ∧ (s.is R.TRD_CTRL_Enable = true → ∀ pick order : Nat, Gives (.cueArmed pick order) s (fun t =>
      t.cues = s.cues.map (fun c => if c.pick = pick ∧ c.order = order ∧ c.staging ∧ c.action ≠ 3 then { c with armed := true } else c)
      ∧ OnlyRegs [R.TRD_STATUS, R.NEXT_PICK_LO, R.NEXT_PICK_HI, R.HD_STATUS, R.TIME_STATUS] s { t with cues := s.cues }))
  ∧ (s.doneLog = [] → Ends .doneInfoPop s (s.send (.readData R.DONE_INFO 0xFF00)))
  ∧ (∀ d ds, s.doneLog = d :: ds → Gives .doneInfoPop s (fun t => t.doneLog = ds
      ∧ Sends [.readData R.DONE_INFO (d.action + d.status * 2 ^ 8 + d.order * 2 ^ 16)] s t
      ∧ t.get R.DONE_PICK_LO_Pick = d.pick % 2 ^ 32 ∧ OnlyRegs [R.DONE_PICK_LO, R.DONE_PICK_HI, R.DONE_EXEC] s { t with doneLog := s.doneLog }))

/-- R33, R34, R51: with the port's PTP profile off no PTP message acts. Otherwise a one-step Sync or a Follow_Up of the best master gives the
reference its measured offset, a two-step Sync shows that Sync arrives, its Announce gives UtcOffset and says whether it is on the PTP timescale, a Delay_Req is answered while the device
is master there outside profile 3, a Pdelay_Req in profile 3. What the device sends joins the firmware's frames for the port.

R36: a time of the selected PTP reference that differs from the timekeeper by TIME_STEP_LIMIT or more sets JumpPending and is counted the
first time; one that does not clears it. -/
def Obligations.PtpAndTimeJumps : Prop :=
  (∀ (s : State) (n : Nat), Ready s → n < 4 →
      (s.ptpProfile n = 0xFF → (∀ m, Ends (.ptpMessageRx n m) s s) ∧ (∀ k, Ends (.ptpMessageTx n k) s s))
      ∧ (s.ptpProfile n ≠ 0xFF →
        (∀ x, Gives (.ptpMessageRx n (.sync true true x)) s (fun t => (t.refSt n).off = x ∧ (t.refSt n).sync = true ∧ (t.refSt n).present = (s.refSt n).announce))
        ∧ (∀ x, Gives (.ptpMessageRx n (.sync true false x)) s (fun t => (t.refSt n).off = (s.refSt n).off ∧ (t.refSt n).sync = true
            ∧ (t.refSt n).present = (s.refSt n).announce))
        ∧ (∀ x, Ends (.ptpMessageRx n (.followUp false x)) s s)
        ∧ (∀ x, Gives (.ptpMessageRx n (.followUp true x)) s (fun t => (t.refSt n).off = x ∧ (t.refSt n).sync = true))
        ∧ (∀ o x, Ends (.ptpMessageRx n (.sync false o x)) s s) ∧ Ends (.ptpMessageRx n .other) s s
        ∧ (∀ ts utc gm, Ends (.ptpMessageRx n (.announce false ts utc gm)) s s
            ∧ Gives (.ptpMessageRx n (.announce true ts utc gm)) s (fun t => t.obj 0x2003 0 = ofSigned 32 utc ∧ (t.refSt n).timescale = ts
                ∧ (t.refSt n).present = (s.refSt n).sync))
        ∧ (∀ id ago, Ends (.ptpMessageRx n (.delayReq id ago)) s (if s.ptpMaster n = true ∧ s.ptpProfile n ≠ 3 then s.fwPtp n 9 (s.rxStamp n ago) id else s))
        ∧ (∀ id ago, Ends (.ptpMessageRx n (.pdelayReq id ago)) s (if s.ptpProfile n = 3 then s.fwPtp n 3 (s.rxStamp n ago) id else s))
        ∧ (∀ k, k = 0 ∨ k = 11 → Ends (.ptpMessageTx n k) s (if s.ptpMaster n then s.fwPtp n k s.time.tai 0 else s))
        ∧ Ends (.ptpMessageTx n 1) s (if s.ptpProfile n ≠ 3 ∧ s.ptpMaster n = false then s.fwPtp n 1 s.time.tai 0 else s)
        ∧ Ends (.ptpMessageTx n 2) s (if s.ptpProfile n = 3 then s.fwPtp n 2 s.time.tai 0 else s)
        ∧ (∀ k, 3 ≤ k → k ≠ 11 → Ends (.ptpMessageTx n k) s s)))
  ∧ (∀ (s : State) (n : Nat) (x : Int), Ready s → n < 4 → s.ptpProfile n ≠ 0xFF →
      s.is R.TIME_STATUS_TodValid = true → s.get R.RD_STATUS_Selected = n →
      (max 1 (s.get R.TIME_STEP_LIMIT_LimitNs) * 65536 ≤ x.natAbs → s.is R.TIME_STATUS_JumpPending = false →
        Gives (.ptpMessageRx n (.sync true true x)) s (fun t => t.is R.TIME_STATUS_JumpPending = true
          ∧ t.get R.CNT_JUMP_Count = (s.get R.CNT_JUMP_Count + 1) % 2 ^ 32 ∧ t.get64I R.TIME_JUMP_OFFSET_LO_Offset R.TIME_JUMP_OFFSET_HI_Offset = toSigned 64 (ofSigned 64 (divRoundAway x 65536))))
      ∧ (x.natAbs < max 1 (s.get R.TIME_STEP_LIMIT_LimitNs) * 65536 →
        Gives (.ptpMessageRx n (.sync true true x)) s (fun t => t.is R.TIME_STATUS_JumpPending = false)))

/-- R52, R54, R57, R62: in a tick every monitor shows what it measured, saturated to its field; a pin reference without an edge that had
left Absent becomes Absent, one that is Off stays Off; the output stays within FREQ_RANGE; and in Freerun it goes towards DPLL_FREQ_SET by at most
FREQ_SLEW. -/
def Obligations.ReedTickMonitors : Prop := ∀ (s : State) (ms : List RefSample) (freq phase : Int), Ready s →
  Gives (.reedTick ms freq phase) s (fun t =>
    (∀ k, k < 10 → t.getI (R.REF_FREQ_Freq k) = satSigned 32 (if s.vsOutput then (sampleOf ms k).vsDpll else (sampleOf ms k).vsXref)
      ∧ t.get (R.REF_PHPP_Ns k) = min (sampleOf ms k).php (2 ^ 32 - 1))
    ∧ (∀ k, 4 ≤ k → k < 9 → (t.refSt k).present = (sampleOf ms k).edge ∧ ((sampleOf ms k).edge = false → 2 ≤ s.refState k → t.refState k = 1))
    ∧ (∀ k, k < 10 → s.refState k = 0 → t.refState k = 0)
    ∧ (t.getI R.DPLL_FREQ_Freq).natAbs ≤ s.get R.FREQ_RANGE_Ppm * 1000000
    ∧ (t.get R.RD_STATUS_State = 0 →
        let lim : Int := (s.get R.FREQ_RANGE_Ppm * 1000000 : Nat)
        let slew : Int := (max 1 (s.get R.FREQ_SLEW_Slew) * 100 : Nat)
        let cur := s.getI R.DPLL_FREQ_Freq
        t.getI R.DPLL_FREQ_Freq = max (-lim) (min lim (max (cur - slew) (min (cur + slew) (s.getI R.DPLL_FREQ_SET_Freq))))))

/-- R34, R54: the gate timer of a present reference that is Qualifying, and the wait-to-restore timer of one that waits, make it Qualified, but not
a PTP reference off the PTP timescale; in any other state they change nothing.

R51, R54: a pin reference whose edges stay away, or a PTP reference whose messages do, is absent: one that had left Absent becomes
Absent, and RefFail counts one that was Qualified. The timers mean nothing for a reference of another type. -/
def Obligations.ReferencesQualifyAndFail : Prop :=
  (∀ (s : State) (k : Nat), Ready s → k < 10 →
      let fit := s.refPresent k = true ∧ (k < 4 → (s.refSt k).timescale = true)
      (∀ x, ¬ (s.refState k = 2 ∧ fit) → Ends (.refGateExpire ⟨k, x⟩) s s)
      ∧ (∀ x, ¬ (s.refState k = 5 ∧ fit) → Ends (.refWtrExpire ⟨k, x⟩) s s)
      ∧ (∀ x, s.refState k = 2 → fit → Gives (.refGateExpire ⟨k, x⟩) s (fun t =>
          t.refState k = 3 ∧ t.is (R.REF_STATUS_EverQual k) = true ∧ t.get (R.REF_STATUS_Timer k) = 0))
      ∧ (∀ x, s.refState k = 5 → fit → Gives (.refWtrExpire ⟨k, x⟩) s (fun t =>
          t.refState k = 3 ∧ t.is (R.REF_STATUS_EverQual k) = true ∧ t.get (R.REF_STATUS_Timer k) = 0)))
  ∧ (∀ (s : State) (k : Nat), Ready s → k < 10 →
      (¬ (4 ≤ k ∧ k < 9) → Ends (.refEdgeTimeout k) s s) ∧ (4 ≤ k → Ends (.ptpAnnounceTimeout k) s s)
      ∧ (∀ c, (c = .refEdgeTimeout k ∧ 4 ≤ k ∧ k < 9) ∨ (c = .ptpAnnounceTimeout k ∧ k < 4) → Gives c s (fun t =>
          (t.refSt k).present = false ∧ t.refState k = (if 2 ≤ s.refState k then 1 else s.refState k)
          ∧ t.get (R.CNT_REF_FAIL_Count k) = (s.get (R.CNT_REF_FAIL_Count k) + (if s.refState k = 3 then 1 else 0)) % 2 ^ 32)))

/-- R54, R57: writes that Reed takes. REFk_CFG.Enable 0 makes the reference Off, 0 to 1 Absent; RD_CTRL takes its fields, or refuses a
forced reference above 9; during a switch the mode in force stays (R68); Mode 3 is free run with the history cleared, the output going to DPLL_FREQ_SET tick by tick. -/
def Obligations.ReedConfigurationWrites : Prop := ∀ (s : State) (v : Nat), Ready s → s.is R.RD_STATUS_Busy = false → v < 2 ^ 32 →
  (∀ k, k < 10 → Gives (.refEnableWrite k v) s (fun t => t.is (R.REF_CFG_Enable k) = bitOf v 0 ∧ t.get (R.REF_CFG_Rank k) = bitsOf v 1 4
      ∧ t.refState k = (if bitOf v 0 then (if s.is (R.REF_CFG_Enable k) then s.refState k else 1) else 0)))
  ∧ (10 ≤ bitsOf v 2 4 → Ends (.rdCtrlWrite v) s (s.report (turnedDown 0x10 R.RD_CTRL 0xFF 0)))
  ∧ (bitsOf v 2 4 < 10 → Gives (.rdCtrlWrite v) s (fun t => t.get R.RD_CTRL_Mode = bitsOf v 0 2 ∧ t.get R.RD_CTRL_ForcedRef = bitsOf v 2 4
      ∧ (s.get R.RD_STATUS_State = 3 → t.rdMode = s.rdMode ∧ t.get R.RD_STATUS_State = 3)
      ∧ (s.get R.RD_STATUS_State ≠ 3 → bitsOf v 0 2 = 2 → t.get R.RD_STATUS_State = 4)
      ∧ (s.get R.RD_STATUS_State ≠ 3 → bitsOf v 0 2 = 3 → t.get R.RD_STATUS_State = 0 ∧ t.reed.hist = []
          ∧ t.get R.DPLL_FREQ_Freq = s.get R.DPLL_FREQ_Freq)))

/-- R56, R57: a phase error within the lock window of the selected reference turns Acquire into Locked, one above four windows Locked into
Acquire, where it goes into the build-out while audio runs; nothing else changes.

R59, R68: at the end of a switch to a target that is still Qualified the measured phase becomes the build-out and the switch is counted; the target is
Selected, unless Mode 2 or 3 was written during the switch, which then comes into force; without such a target nothing changes.

R64, R65, R332: each second in Locked the output's frequency and TS0's temperature enter a history of 3,600 with its time; each second in Holdover the
estimate grows by Fu, ageing and temperature, HOLD_EST shows it, and HOLD_FREQ is f0 with the known ageing; out of spec once it exceeds HOLD_LIMIT. In
other states neither changes Reed; while Temple is enabled the synthesizers' use is shown in every state. -/
def Obligations.LocksSwitchesAndHoldover : Prop :=
  (∀ (s : State) (err : Int), Ready s →
      Ends (.dpllAcquireLock err) s (if s.get R.RD_STATUS_State = 1 ∧ err.natAbs ≤ s.selWindow then s.put R.RD_STATUS_State 2 else s)
      ∧ Ends (.dpllLockLoss err) s (if s.get R.RD_STATUS_State = 2 ∧ 4 * s.selWindow < err.natAbs then
          (if s.is R.TIME_CTRL_Run then
            (s.put R.RD_STATUS_State 1).put64I R.BUILDOUT_LO_Bo R.BUILDOUT_HI_Bo (s.get64I R.BUILDOUT_LO_Bo R.BUILDOUT_HI_Bo + err)
          else s.put R.RD_STATUS_State 1)
        else s))
  ∧ (∀ (s : State) (phase : Int), Ready s →
      let k := s.get R.RD_STATUS_Target
      (¬ (s.get R.RD_STATUS_State = 3 ∧ s.refState k = 3) → Ends (.switchCommit phase) s s)
      ∧ (s.get R.RD_STATUS_State = 3 → s.refState k = 3 → k < 10 → Gives (.switchCommit phase) s (fun t =>
          let mode := s.reed.modeHeld.isSome = true ∧ 2 ≤ s.get R.RD_CTRL_Mode
          (¬ mode → t.get R.RD_STATUS_Selected = k) ∧ (mode → t.get R.RD_STATUS_Selected = 15
            ∧ t.get R.RD_STATUS_State = (if s.get R.RD_CTRL_Mode = 2 then 4 else 0)) ∧ t.reed.modeHeld = none
          ∧ t.get64 R.BUILDOUT_LO_Bo R.BUILDOUT_HI_Bo = ofSigned 64 phase
          ∧ t.get R.CNT_SWITCH_Count = (s.get R.CNT_SWITCH_Count + 1) % 2 ^ 32 ∧ t.time = s.time)))
  ∧ (∀ s : State, Ready s →
      (∀ use, s.is R.TP_CTRL_Enable = false → s.get R.RD_STATUS_State ≠ 2 → Ends (.holdHistorySample use) s s)
      ∧ (∀ use, s.is R.TP_CTRL_Enable = true → s.get R.RD_STATUS_State ≠ 2 → Gives (.holdHistorySample use) s (fun t =>
          t.obj 0xA024 1 = use.getD 0 0 % 65536 ∧ t.obj 0xA024 2 = use.getD 1 0 % 65536 ∧ OnlyRegs [] s { t with objs := s.objs, day := s.day }))
      ∧ (∀ use, s.get R.RD_STATUS_State = 2 → Gives (.holdHistorySample use) s (fun t =>
          t.reed.hist = (⟨s.getI R.DPLL_FREQ_Freq, s.getI (R.TEMP_Temp 0), t.xref⟩ :: s.reed.hist).take 3600
          ∧ (s.reed.hist = [] → t.xref = s.xref) ∧ (∀ e es, s.reed.hist = e :: es → t.xref = max s.xref (e.time + 625000000))
          ∧ t.is R.RD_STATUS_HistValid = decide (9 ≤ s.reed.hist.length) ∧ t.day.secs = s.day.secs + 1))
      ∧ (s.get R.RD_STATUS_State ≠ 4 → Ends .holdoverSecond s s)
      ∧ (s.get R.RD_STATUS_State = 4 →
          let k := s.get R.HOLD_STATUS_Seconds + 1
          let aged := s.is R.HOLD_CFG_AgeCorrect = true ∧ s.is R.TP_STATUS_AgeValid = true
          let ag : Int := if aged then s.get R.AGE_UNC_Unc else (s.getI R.AGE_RATE_Rate).natAbs
          let e := s.reed.est + (s.get R.HOLD_FU_Fu : Int) * 1382400 * s.reed.holdN + ag * k * 16 * s.reed.holdN
            + s.getI R.AGE_TC_Tc * ((s.getI (R.TEMP_Temp 0) * s.reed.holdN - s.reed.tSum).natAbs : Int) * 86400
          let unit := 1382400000 * s.reed.holdN
          Gives .holdoverSecond s (fun t => t.reed.est = e ∧ t.get R.HOLD_STATUS_Seconds = min k (2 ^ 31 - 1)
            ∧ t.get R.HOLD_EST_Ns = min (e / unit).toNat (2 ^ 32 - 1)
            ∧ t.getI R.HOLD_FREQ_Freq = satSigned 32 (divRoundAway (s.reed.f0Sum * 86400 + (if aged then s.getI R.AGE_RATE_Rate * k * s.reed.holdN else 0))
                (s.reed.holdN * 86400))
            ∧ t.is R.HOLD_STATUS_OutOfSpec = (s.is R.HOLD_STATUS_OutOfSpec || decide ((s.get R.HOLD_LIMIT_Ns * unit : Nat) < e)))))

/-- R63: Go submits the phase step of PSTEP_LO and PSTEP_HI within ±2,500 ns, or ±200 ns for a step, and refuses a larger one; at the
next pick boundary, not during a switch, what waits is taken: a step at once, a slew, or a step above STEP_MAX, over time, and one beyond ±2,500 ns in all
is clipped. Result says which.

R67: an input pulse in Aligned mode shows the grid's error; within AlignTol the output is Aligned; beyond it the error is counted, and
removed by a step where StepAllowed; any other error by a slew, which Realigning shows; a step is taken at the next pulse. In other modes a pulse
changes nothing. -/
def Obligations.PhaseStepsAndFramePulses : Prop :=
  (∀ (s : State) (v : Nat), Ready s → s.is R.RD_STATUS_Busy = false → v < 2 ^ 32 →
      let r : PhaseReq := ⟨s.get64I R.PSTEP_LO_Step R.PSTEP_HI_Step, bitOf v 1⟩
      let fits := r.size.natAbs ≤ 2500 * 65536 ∧ (r.step = true → r.size.natAbs ≤ 200 * 65536)
      (bitOf v 0 = false → Ends (.pstepGo v) s s)
      ∧ (bitOf v 0 = true → fits → Ends (.pstepGo v) s { s with reed := { s.reed with steps := s.reed.steps ++ [r] } })
      ∧ (bitOf v 0 = true → ¬ fits → Ends (.pstepGo v) s ((s.put R.PSTEP_STATUS_Result 2).report (turnedDown 0x10 R.PSTEP_CMD 0xFF 0)))
      ∧ (s.get R.RD_STATUS_State = 3 → Ends .phaseStepApply s s)
      ∧ (s.get R.RD_STATUS_State ≠ 3 → Gives .phaseStepApply s (fun t => t.reed.steps = []
          ∧ (s.reed.steps = [] → OnlyRegs [] s t)
          ∧ (∀ r, s.reed.steps = [r] →
              let clip := fun (x : Int) => max (-163840000) (min 163840000 x)
              let now := r.step = true ∧ r.size.natAbs ≤ s.get R.STEP_MAX_Ns * 65536
              let goal := s.getI R.PHASE_ADJ_Adj + (if now then r.size else 0)
              let rest := s.reed.slewRem + (if now then 0 else r.size)
              t.getI R.PHASE_ADJ_Adj = clip goal ∧ t.reed.slewRem = clip (clip goal + rest) - clip goal
              ∧ t.is R.PSTEP_STATUS_Slewing = decide (t.reed.slewRem ≠ 0)
              ∧ t.get R.PSTEP_STATUS_Result = (if clip goal ≠ goal ∨ t.reed.slewRem ≠ rest then 1 else if r.step = true ∧ ¬ now then 3 else 0)))))
  ∧ (∀ (s : State) (j : Nat) (err : Int), Ready s → j < 4 →
      (s.get (R.FPO_CFG_Mode j) ≠ 2 → Ends (.fpoInputPulse j err) s s)
      ∧ (s.get (R.FPO_CFG_Mode j) = 2 → Gives (.fpoInputPulse j err) s (fun t =>
          t.getI (R.FPO_ERR_Err j) = satSigned 32 err ∧ t.is (R.FPO_STATUS_Flywheel j) = false
          ∧ (let small := err.natAbs * 4 ≤ s.get (R.FPO_ALIGN_AlignTol j) * 5
             let steps := ¬ small ∧ s.is (R.FPO_CFG_StepAllowed j) = true
             t.is (R.FPO_STATUS_Aligned j) = decide small ∧ t.is (R.FPO_STATUS_Realigning j) = decide (¬ steps ∧ err ≠ 0)
             ∧ t.get (R.CNT_FPO_REALIGN_Count j) = (s.get (R.CNT_FPO_REALIGN_Count j) + (if small then 0 else 1)) % 2 ^ 32
             ∧ t.fpoSt j = (if steps then { s.fpoSt j with step := some (err * fpoUnit), slew := 0 } else { s.fpoSt j with step := none, slew := err * fpoUnit }))
          ∧ OnlyRegs [R.FPO_ERR j, R.FPO_STATUS j, R.CNT_FPO_REALIGN j] s { t with reed := s.reed }))
      ∧ ((s.fpoSt j).step = none → Ends (.fpoStepApply j) s s)
      ∧ (∀ e, (s.fpoSt j).step = some e → Gives (.fpoStepApply j) s (fun t => t.fpoSt j = { s.fpoSt j with step := none, corr := (s.fpoSt j).corr + e }
          ∧ t.is (R.FPO_STATUS_Aligned j) = true ∧ OnlyRegs [R.FPO_STATUS j] s { t with reed := s.reed })))

/-- R74, R75: the states of a synthesizer. Acquire becomes Locked; an enabled one that has left Acquire and loses lock counts it and
relocks; NCD edges that return to a Stopped one start a relock; with the edges gone it is Stopped; held outputs are let go in Locked.

R75: a write of SYN_CTRL enables and disables the synthesizers: one that is enabled relocks, one that is disabled is Off, and one whose
enable does not change keeps its state. -/
def Obligations.SynthesizerStates : Prop :=
  (∀ (s : State) (m : Nat), Ready s → m < 2 →
      (s.mcsState m ≠ 1 → Ends (.synthLocked m) s s)
      ∧ (s.mcsState m = 1 → Gives (.synthLocked m) s (fun t => t.mcsState m = 2
          ∧ (m = 0 → s.is R.TIME_STATUS_RateSwitching = true → t.is R.TIME_STATUS_RateSwitching = false ∧ t.time.resume = true)))
      ∧ (¬ (s.mcsEn m = true ∧ 2 ≤ s.mcsState m) → Ends (.synthUnlock m) s s)
      ∧ (s.mcsEn m = true → 2 ≤ s.mcsState m → Gives (.synthUnlock m) s (fun t => t.mcsState m = 1
          ∧ t.get (R.MCS_CNT_UNLOCK_Count m) = (s.get (R.MCS_CNT_UNLOCK_Count m) + 1) % 2 ^ 32 ∧ t.is (R.MCS_STATUS_Held m) = s.is (R.MCS_CFG_HoldOutputs m)))
      ∧ (¬ (s.mcsEn m = true ∧ s.mcsState m = 0) → Ends (.synthNcdReturn m) s s)
      ∧ (s.mcsEn m = true → s.mcsState m = 0 → Gives (.synthNcdReturn m) s (fun t => t.mcsState m = 1 ∧ t.is (R.MCS_STATUS_Held m) = s.is (R.MCS_CFG_HoldOutputs m)))
      ∧ (s.mcsEn m = false → Ends (.synthStopped m) s s)
      ∧ (s.mcsEn m = true → Gives (.synthStopped m) s (fun t => t.mcsState m = 0
          ∧ ∀ i, i < 12 → s.get (R.CKO_CFG_Source i) = m → (s.cko i).on = true → t.is (R.CKO_STATUS_Running i) = false))
      ∧ (¬ (s.mcsState m = 2 ∧ s.is (R.MCS_STATUS_Held m) = true) → Ends (.synthOutputRestart m) s s)
      ∧ (s.mcsState m = 2 → s.is (R.MCS_STATUS_Held m) = true → Gives (.synthOutputRestart m) s (fun t => t.is (R.MCS_STATUS_Held m) = false
          ∧ ∀ i, i < 12 → s.get (R.CKO_CFG_Source i) = m → (s.cko i).on = true → t.is (R.CKO_STATUS_Running i) = true)))
  ∧ (∀ (s : State) (v : Nat), Ready s → s.is R.SYN_STATUS_Busy = false → v < 2 ^ 32 →
      Gives (.synCtrlWrite v) s (fun t => ∀ m, m < 2 → t.mcsEn m = bitOf v m
        ∧ t.mcsState m = (if s.mcsEn m = bitOf v m then s.mcsState m else if bitOf v m then 1 else 0)))

/-- R78: a ramp does not start while one runs on the synthesizer, nor on MCS0 while Run is 1, and a profile that breaks a limit is refused;
either way Result shows it and a record is written. Otherwise Start takes the profile of the segment registers, and Zero one segment back to
offset 0 at ZeroSlope, or none where the offset is 0. Abort stops a running profile at its offset.

R78, R79: at the end of a segment the offset stands at its end, which a ramp back to 0 ends at exactly, and the next segment runs, or the
profile ends; without a ramp, and in a glide, nothing changes; the time is that of the segment's end at the least. The end of a glide sets offset 0, takes the plan of the rate's family and leaves MCS0 Locked. -/
def Obligations.Ramps : Prop :=
  (∀ (s : State) (m : Nat), Ready s → s.is R.SYN_STATUS_Busy = false → m < 2 →
      let off := s.getI (R.RAMP_OFFSET_Ppb m)
      let slope := max 1 (s.get (R.RAMP_CTRL_ZeroSlope m))
      (s.rampFree m = false ∨ profileOk off (s.profile m 8) = false →
        Ends (.rampStart m) s ((s.put (R.RAMP_STATUS_Result m) 1).report (turnedDown 0x10 (R.RAMP_CTRL m) 1 0)))
      ∧ (s.rampFree m = true → profileOk off (s.profile m 8) = true → Gives (.rampStart m) s (fun t => t.get (R.RAMP_STATUS_Result m) = 0
          ∧ t.ramp m = (if s.profile m 8 = [] then none else some { segs := s.profile m 8, start := s.xref }) ∧ t.is (R.RAMP_STATUS_Running m) = !(s.profile m 8).isEmpty
          ∧ t.getI (R.RAMP_OFFSET_Ppb m) = off))
      ∧ (s.rampFree m = false → Ends (.rampZero m) s ((s.put (R.RAMP_STATUS_Result m) 1).report (turnedDown 0x10 (R.RAMP_CTRL m) 1 0)))
      ∧ (s.rampFree m = true → off ≠ 0 → Gives (.rampZero m) s (fun t => t.is (R.RAMP_STATUS_Running m) = true
          ∧ t.ramp m = some { segs := [(if 0 < off then -(slope : Int) else slope, ceilDiv off.natAbs slope)], endAt := some 0, start := s.xref }))
      ∧ (s.rampFree m = true → off = 0 → Gives (.rampZero m) s (fun t => t.get (R.RAMP_STATUS_Result m) = 0 ∧ t.ramp m = none))
      ∧ (∀ ms, s.ramp m = none → Ends (.rampAbort m ms) s s)
      ∧ (∀ ms r sl d rest, s.ramp m = some r → r.segs = (sl, d) :: rest → Gives (.rampAbort m ms) s (fun t => t.ramp m = none
          ∧ t.is (R.RAMP_STATUS_Running m) = false ∧ t.getI (R.RAMP_OFFSET_Ppb m) = satSigned 32 (off + sl * (min ms d : Nat))))
      ∧ (∀ ms r, s.ramp m = some r → r.segs = [] → Gives (.rampAbort m ms) s (fun t => t.ramp m = none ∧ t.is (R.RAMP_STATUS_Running m) = false)))
  ∧ (∀ s : State, Ready s →
      (∀ m, m < 2 → s.ramp m = none → Ends (.rampSegmentEnd m) s s)
      ∧ (∀ m r, m < 2 → s.ramp m = some r → r.glide = true → Ends (.rampSegmentEnd m) s s)
      ∧ (∀ m r, m < 2 → s.ramp m = some r → r.glide = false → r.segs = [] → Gives (.rampSegmentEnd m) s (fun t => t.ramp m = none))
      ∧ (∀ m r sl d, m < 2 → s.ramp m = some r → r.glide = false →
          (r.segs = [(sl, d)] → Gives (.rampSegmentEnd m) s (fun t => t.ramp m = none ∧ t.xref = max s.xref (r.start + d * cclkMs) ∧ t.is (R.RAMP_STATUS_Running m) = false
            ∧ t.getI (R.RAMP_OFFSET_Ppb m) = satSigned 32 (r.endAt.getD (s.getI (R.RAMP_OFFSET_Ppb m) + sl * d))))
          ∧ (∀ x rest, r.segs = (sl, d) :: x :: rest → Gives (.rampSegmentEnd m) s (fun t => t.ramp m = some { r with segs := x :: rest, start := r.start + d * cclkMs }
            ∧ t.xref = max s.xref (r.start + d * cclkMs) ∧ t.get (R.RAMP_STATUS_Segment m) = (s.get (R.RAMP_STATUS_Segment m) + 1) % 8
            ∧ t.getI (R.RAMP_OFFSET_Ppb m) = satSigned 32 (s.getI (R.RAMP_OFFSET_Ppb m) + sl * d))))
      ∧ (s.mcsState 0 ≠ 3 → Ends .glideEnd s s)
      ∧ (s.mcsState 0 = 3 → Gives .glideEnd s (fun t => t.mcsState 0 = 2 ∧ t.ramp 0 = none ∧ t.getI (R.RAMP_OFFSET_Ppb 0) = 0
          ∧ t.get (R.MCS_STATUS_Family 0) = rateFamily (s.get R.TIME_STATUS_RateNow))))

/-- R80 to R83: a clock output. Its source and alignment do not change while it is enabled, and its configuration must keep R80 and R81: another
write is refused with a record. A changed
enable waits for the next pick boundary; its phase goes to Target at once while it is off and walks one code at a time while it is on; one that was
enabled with Align before the time of day was known or picks ran is re-aligned at a whole second once they do. -/
def Obligations.ClockOutputs : Prop := ∀ (s : State) (i v : Nat), Ready s → s.is R.SYN_STATUS_Busy = false → i < 12 → v < 2 ^ 32 →
  (s.is (R.CKO_CFG_Enable i) = true → bitsOf v 1 1 ≠ s.get (R.CKO_CFG_Source i) ∨ bitOf v 2 ≠ s.is (R.CKO_CFG_Align i) →
    Ends (.ckoCfgWrite i v) s (s.report (turnedDown 0x10 (R.CKO_CFG i) 0xFF 0)))
  ∧ (s.ckoOk (bitsOf v 1 1) (bitOf v 2) (decide (i < 4) && bitOf v 3) (s.get (R.CKO_DIV_Div i)) = false →
    Ends (.ckoCfgWrite i v) s (s.report (turnedDown 0x10 (R.CKO_CFG i) 0xFF 0)))
  ∧ (s.is (R.CKO_CFG_Enable i) = false ∨ (bitsOf v 1 1 = s.get (R.CKO_CFG_Source i) ∧ bitOf v 2 = s.is (R.CKO_CFG_Align i)) →
    s.ckoOk (bitsOf v 1 1) (bitOf v 2) (decide (i < 4) && bitOf v 3) (s.get (R.CKO_DIV_Div i)) = true →
    Gives (.ckoCfgWrite i v) s (fun t => t.is (R.CKO_CFG_Enable i) = bitOf v 0 ∧ t.get (R.CKO_CFG_Source i) = bitsOf v 1 1 ∧ t.is (R.CKO_CFG_Align i) = bitOf v 2
      ∧ t.cko i = { s.cko i with pend := if bitOf v 0 = (s.cko i).on then none else some (bitOf v 0) } ∧ t.errWait = s.errWait))
  ∧ Gives .ckoEnableApply s (fun t =>
      ((s.cko i).pend = none → t.cko i = s.cko i)
      ∧ ((s.cko i).pend = some true → (t.cko i).on = true ∧ (t.cko i).pend = none
          ∧ t.is (R.CKO_STATUS_Running i) = (decide (s.mcsState (s.get (R.CKO_CFG_Source i)) ≠ 0) && !s.is (R.MCS_STATUS_Held (s.get (R.CKO_CFG_Source i)))))
      ∧ ((s.cko i).pend = some false → t.cko i = {} ∧ t.is (R.CKO_STATUS_Running i) = false ∧ t.get (R.CKO_STATUS_Phase i) = s.get (R.CKO_PHASE_Target i)))
  ∧ Gives (.ckoPhaseWrite i v) s (fun t => t.get (R.CKO_PHASE_Target i) = bitsOf v 0 16
      ∧ t.get (R.CKO_STATUS_Phase i) = (if (s.cko i).on then s.get (R.CKO_STATUS_Phase i) else bitsOf v 0 16)
      ∧ t.is (R.CKO_STATUS_Walking i) = ((s.cko i).on && decide (s.get (R.CKO_STATUS_Phase i) ≠ bitsOf v 0 16)))
  ∧ ((s.cko i).on = false → Ends (.ckoWalkStep i) s s)
  ∧ ((s.cko i).on = true → Gives (.ckoWalkStep i) s (fun t => OnlyRegs [R.CKO_STATUS i] s t
      ∧ t.get (R.CKO_STATUS_Phase i) = (if s.get (R.CKO_STATUS_Phase i) < s.get (R.CKO_PHASE_Target i) then s.get (R.CKO_STATUS_Phase i) + 1
          else if s.get (R.CKO_PHASE_Target i) < s.get (R.CKO_STATUS_Phase i) then s.get (R.CKO_STATUS_Phase i) - 1 else s.get (R.CKO_STATUS_Phase i))))
  ∧ (¬ (s.is R.TIME_CTRL_Run = true ∧ s.is R.TIME_STATUS_TodValid = true) → Ends .ckoSecondRealign s s)
  ∧ (s.is R.TIME_CTRL_Run = true → s.is R.TIME_STATUS_TodValid = true → Gives .ckoSecondRealign s (fun t => t.cko i = { s.cko i with realign := false } ∧ OnlyRegs [] s { t with synth := s.synth }))

/-- R93: the states of a port. A signal takes an enabled port from Down to Training, its loss back; LinkUp takes Training to Startup, and N0 in
recovery from Down to Recovery where it is enabled at 1000BASE-X; a port in Recovery stays there. Losing the link leaves a port in Startup,
Service or Test in Training or Down, and LinkDown counts a link that was up; HiBer shows that a high bit-error rate lost it. -/
def Obligations.PortStatesFollowTheLink : Prop := ∀ (s : State) (n : Nat), Ready s → n < 4 →
  let rec0 := n = 0 ∧ s.recovering = true
  let rec1 := rec0 ∧ s.is (R.PCS_CTRL_Enable n) = true ∧ s.lineMode n = 2
  Gives (.portSignalDetect n) s (fun t => t.is (R.PCS_STATUS_SignalDetect n) = true
    ∧ t.portState n = (if s.portState n = 0 ∧ s.is (R.PCS_CTRL_Enable n) = true ∧ ¬ rec0 then 1 else s.portState n))
  ∧ Gives (.portSignalLoss n) s (fun t => t.is (R.PCS_STATUS_SignalDetect n) = false ∧ t.portState n = (if s.portState n = 1 then 0 else s.portState n))
  ∧ (s.portState n = 1 → Gives (.portLinkUp n) s (fun t => t.portState n = 2 ∧ t.is (R.PCS_STATUS_LinkUp n) = true))
  ∧ (s.portState n = 0 → rec1 → Gives (.portLinkUp n) s (fun t => t.portState n = 5 ∧ t.is (R.PCS_STATUS_LinkUp n) = true))
  ∧ (s.portState n = 5 → Gives (.portLinkUp n) s (fun t => t.portState n = 5 ∧ t.is (R.PCS_STATUS_LinkUp n) = true))
  ∧ (s.portState n ≠ 1 → s.portState n ≠ 5 → ¬ (s.portState n = 0 ∧ rec1) → Ends (.portLinkUp n) s s)
  ∧ (∀ loss cut, s.portState n < 2 → Ends (.portLinkLoss n loss cut) s s)
  ∧ (∀ loss cut, 2 ≤ s.portState n → Gives (.portLinkLoss n loss cut) s (fun t => t.is (R.PCS_STATUS_LinkUp n) = false
      ∧ t.is (R.PCS_STATUS_HiBer n) = loss.hiBer ∧ t.is (R.PCS_STATUS_SignalDetect n) = loss.signal
      ∧ t.get (R.LINK_DOWN_Count n) = (s.get (R.LINK_DOWN_Count n) + (if s.is (R.PCS_STATUS_LinkUp n) then 1 else 0)) % 2 ^ 32
      ∧ t.portState n = (if s.portState n ≤ 4 then (if loss.signal then 1 else 0) else s.portState n)))

/-- R91, R93, R336: PCS commands. The line mode and RS-FEC do not change while a port is enabled; RS-FEC needs mode 0 and loopback code 3
is refused, as is a change with which a cut-through rule or the transmit budget no longer holds (R110, R157); disabling takes the port Down, and
enabling one that has a signal takes it to Training; Restart and Adapt act on an enabled port, and Adapt keeps its state.

R93, R94: MAC_CTRL. StateReq 3 is refused; a StateReq that names no transition of the port's state is ignored with a record and keeps
its old value while the other fields are taken; one that names a transition takes the port to Startup, Service or Test. -/
def Obligations.PortConfiguration : Prop :=
  (∀ (s : State) (n v : Nat), Ready s → s.is (R.PCS_STATUS_Busy n) = false → n < 4 → v < 2 ^ 32 →
      let en := s.is (R.PCS_CTRL_Enable n)
      let change := bitsOf (s.rd (R.PCS_CTRL n)).toNat 1 3 ≠ bitsOf v 1 3
      let new := s.wrRW (R.PCS_CTRL n) v
      let keeps := new.budgetNow = true ∧ ∀ i, i < 4 → new.rulesOk i = true
      (en = true → change → Ends (.pcsCtrlWrite n v) s (s.report (turnedDown 0x11 (R.PCS_CTRL n) 0 0)))
      ∧ (¬ (en = true ∧ change) → (bitOf v 3 = true ∧ bitsOf v 1 2 ≠ 0) ∨ bitsOf v 6 2 = 3 →
          Ends (.pcsCtrlWrite n v) s (s.report (turnedDown 0x10 (R.PCS_CTRL n) 0xFF 0)))
      ∧ (en = false → change → ¬ keeps → ¬ (bitOf v 3 = true ∧ bitsOf v 1 2 ≠ 0) → bitsOf v 6 2 ≠ 3 →
          Ends (.pcsCtrlWrite n v) s (s.report (turnedDown 0x10 (R.PCS_CTRL n) 0xFF 0)))
      ∧ (¬ change ∨ (en = false ∧ keeps) → ¬ (bitOf v 3 = true ∧ bitsOf v 1 2 ≠ 0) → bitsOf v 6 2 ≠ 3 →
          (en = true → bitOf v 0 = false → Gives (.pcsCtrlWrite n v) s (fun t => t.is (R.PCS_CTRL_Enable n) = false ∧ t.portState n = 0 ∧ t.is (R.PCS_STATUS_LinkUp n) = false))
          ∧ (en = false ∨ bitOf v 0 = true → Gives (.pcsCtrlWrite n v) s (fun t => t.is (R.PCS_CTRL_Enable n) = bitOf v 0
              ∧ t.lineMode n = bitsOf v 1 2 ∧ t.is (R.PCS_CTRL_RsFec n) = bitOf v 3
              ∧ t.portState n = (if bitOf v 0 = true ∧ s.portState n = 0 ∧ s.is (R.PCS_STATUS_SignalDetect n) = true ∧ ¬ (n = 0 ∧ s.recovering = true) then 1 else s.portState n))))
      ∧ (en = false → Ends (.pcsRestart n) s s ∧ Ends (.pcsAdapt n) s s)
      ∧ (en = true → Gives (.pcsAdapt n) s (fun t => n ∈ t.temple.lanes ∧ t.is R.TP_STATUS_Adapting = true ∧ OnlyRegs [R.TP_STATUS] s { t with temple := s.temple }))
      ∧ (en = true → Gives (.pcsRestart n) s (fun t => t.is (R.PCS_STATUS_LinkUp n) = false
          ∧ t.get (R.LINK_DOWN_Count n) = (s.get (R.LINK_DOWN_Count n) + (if s.is (R.PCS_STATUS_LinkUp n) ∧ 2 ≤ s.portState n then 1 else 0)) % 2 ^ 32
          ∧ t.portState n = (if 2 ≤ s.portState n ∧ s.portState n < 5 then (if s.is (R.PCS_STATUS_SignalDetect n) then 1 else 0) else s.portState n))))
  ∧ (∀ (s : State) (n v : Nat), Ready s → n < 4 → v < 2 ^ 32 →
      let req := bitsOf v 2 2
      let old := s.get (R.MAC_CTRL_StateReq n)
      let st := s.portState n
      let named := (st = 2 ∧ req ≠ 0) ∨ (st = 3 ∧ req ≠ 1) ∨ (st = 4 ∧ req ≠ 2)
      (req = 3 → Ends (.macCtrlWrite n v) s (s.report (turnedDown 0x10 (R.MAC_CTRL n) 0xFF 0)))
      ∧ (req ≠ 3 → Gives (.macCtrlWrite n v) s (fun t => t.is (R.MAC_CTRL_RxEnable n) = bitOf v 0 ∧ t.is (R.MAC_CTRL_TxEnable n) = bitOf v 1
          ∧ t.portState n = (if req ≠ old ∧ named then req + 2 else st)
          ∧ t.get (R.MAC_CTRL_StateReq n) = (if req ≠ old ∧ ¬ named then old else req)
          ∧ t.errWait = s.errWait ++ (if req ≠ old ∧ ¬ named then [turnedDown 0x11 (R.MAC_CTRL n) 0 0] else []))))

/-- R101, R103, R104: a pause ends with its timer; one of BestEffort or Control that reaches WdLimit in Service before its timer ends, is counted, and
marks the priority Spent until that time passes without a request; while a watched queue stays above LowCells a PFC frame of Quanta waits for the port.

R108, R116: reads that act. TS_POP_TAG hands out the oldest transmit timestamp and removes it, LOST_TAG the oldest lost tag; a counter's
HARVEST alias returns it and takes 2^31 off where bit 31 is set. An empty queue or list reads 0 and nothing changes. -/
def Obligations.PausesAndPortReads : Prop :=
  (∀ (s : State) (n p : Nat), Ready s → n < 4 → p < 8 →
      (s.paused n p = false → Ends (.pauseTimerExpire n p) s s)
      ∧ (s.paused n p = true → Gives (.pauseTimerExpire n p) s (fun t => t.time = { s.time with tai := max s.time.tai (s.pauseOf n p).ends } ∧ t.paused n p = false
          ∧ (∀ q, q < 8 → t.paused n q = (s.paused n q && decide (t.time.tai < (s.pauseOf n q).ends)))
          ∧ OnlyRegs [R.MAC_STATUS n] s { t with ports := s.ports, time := s.time }))
      ∧ (let reach := (s.pauseOf n p).start + s.get (R.PAUSE_CFG_WdLimit n) * 65536000
         let fires := s.inService n = true ∧ s.paused n p = true ∧ s.get (R.PRI_CFG_Class n p) < 2 ∧ reach ≤ (s.pauseOf n p).ends
         (¬ fires → Ends (.pauseWatchdog n p) s s)
         ∧ (fires → Gives (.pauseWatchdog n p) s (fun t => t.paused n p = false ∧ t.spent n p = true ∧ t.time.tai = max s.time.tai reach
             ∧ t.get (R.PORT_CNT_Count n 43) = min (s.get (R.PORT_CNT_Count n 43) + 1) 0xFFFFFFFF)))
      ∧ (s.spent n p = false → Ends (.pauseSpentTimeout n p) s s)
      ∧ (s.spent n p = true → Gives (.pauseSpentTimeout n p) s (fun t => t.spent n p = false
          ∧ t.time.tai = max s.time.tai (tget 0 (s.port n).asked p + s.get (R.PAUSE_CFG_WdLimit n) * 65536000)
          ∧ OnlyRegs [R.MAC_STATUS n] s { t with time := s.time }))
      ∧ Gives (.pfcRefresh n) s (fun t => OnlyRegs [] s { t with ports := s.ports }
          ∧ (s.pfcWatch n = true → s.pfcOut n p = true → s.get (R.PFC_WM_LowCells n p) < (s.queue (s.get (R.PRI_CFG_RxQueue n p))).cells →
              tget 0 (t.port n).pfc p = s.get (R.PFC_QUANTA_Quanta n))
          ∧ (¬ (s.pfcWatch n = true ∧ s.pfcOut n p = true ∧ s.get (R.PFC_WM_LowCells n p) < (s.queue (s.get (R.PRI_CFG_RxQueue n p))).cells) →
              tget 0 (t.port n).pfc p = tget 0 (s.port n).pfc p)))
  ∧ (∀ (s : State) (n : Nat), Ready s → n < 4 →
      ((s.port n).tsq = [] → Ends (.tsPopTag n) s (s.send (.readData (R.TS_POP_TAG n) 0)))
      ∧ (∀ e r, (s.port n).tsq = e :: r → Gives (.tsPopTag n) s (fun t => (t.port n).tsq = r ∧ (t.port n).lost = (s.port n).lost
          ∧ Sends [.readData (R.TS_POP_TAG n) (e.tag + 0x10000 + (if e.ptp then 0x20000 else 0))] s t
          ∧ t.get (R.TS_NS_Ns n) = e.time % unitsPerSec / 65536 ∧ t.get (R.TS_FRAC_Frac n) = e.time % 65536
          ∧ OnlyRegs [R.TS_STATUS n, R.TS_SEC_LO n, R.TS_SEC_HI n, R.TS_NS n, R.TS_FRAC n] s { t with ports := s.ports }))
      ∧ ((s.port n).lost = [] → Ends (.lostTagPop n) s (s.send (.readData (R.LOST_TAG n) 0)))
      ∧ (∀ x r, (s.port n).lost = x :: r → Gives (.lostTagPop n) s (fun t => (t.port n).lost = r ∧ (t.port n).tsq = (s.port n).tsq
          ∧ Sends [.readData (R.LOST_TAG n) (x + 0x10000)] s t ∧ OnlyRegs [R.TS_STATUS n] s { t with ports := s.ports }))
      ∧ (∀ i, i < 52 → Gives (.counterHarvest n i) s (fun t => Sends [.readData (R.PORT_HARVEST n i) (s.get (R.PORT_CNT_Count n i))] s t
          ∧ t.get (R.PORT_CNT_Count n i) = s.get (R.PORT_CNT_Count n i) % 2 ^ 31
          ∧ (s.get (R.PORT_CNT_Count n i) < 2 ^ 31 → OnlyRegs [] s t))))

/-- R94, R96 to R98, R454: code errors of the line are counted; a port takes no frame below Startup or with RxEnable 0, nor in Test while it loops its
own frames back. A frame of right length that the address filter does not pass is counted: with a wrong FCS as such, and a good one as received and
filtered; nothing of it is handed on. In Startup and Service a good frame that passes goes where R98 sends it: one for a queue of Spindle is handed
over with its timestamp, or is dropped whole and counted where that queue is at quota, and one that only Service carries is counted as dropped in Startup.

R94, R101, R111, R154, R178, R454: what a free transmitter sends. With TxEnable 0, below Startup, while it follows a cut-through frame or generates a PRBS
pattern, or with nothing that waits, nothing leaves. A frame on the wire leaves first. Then a PFC frame that waits goes before all others, but in Recovery
only the firmware's frames do. A waiting cut-through frame starts where the port carries frames, no PFC frame waits and the window lets it; one that has
not come whole is followed from Threshold words on. -/
def Obligations.FramesInAndOut : Prop :=
  (∀ (s : State) (n : Nat) (rx : RxFrame), Ready s → n < 4 →
      let e := ethInfo rx.bytes
      let len := rx.bytes.length + 4
      let regsOnly := fun (t : State) => ({ t with regs := s.regs, outbox := s.outbox, msixLevel := s.msixLevel } : State) = s ∧ Sends [] s t
        ∧ t.get (R.ERR_BLOCKS_Count n) = (s.get (R.ERR_BLOCKS_Count n) + rx.blocks) % 2 ^ 32
      let counts := fun (t : State) (i k : Nat) => t.get (R.PORT_CNT_Count n i) = min (s.get (R.PORT_CNT_Count n i) + k) 0xFFFFFFFF
      (s.portState n < 2 ∨ s.is (R.MAC_CTRL_RxEnable n) = false → (s.port n).rxOpen = none → Gives (.rxFrame n rx) s (fun t => regsOnly t
          ∧ ∀ i, i < 50 → t.get (R.PORT_CNT_Count n i) = s.get (R.PORT_CNT_Count n i)))
      ∧ (s.loops n = true → Gives (.rxFrame n rx) s (fun t => regsOnly t ∧ ∀ i, i < 50 → t.get (R.PORT_CNT_Count n i) = s.get (R.PORT_CNT_Count n i)))
      ∧ (2 ≤ s.portState n → s.loops n = false → ¬ (s.portState n = 4 ∧ s.is (R.PCS_CTRL_PrbsCheck n) = true) → s.is (R.MAC_CTRL_RxEnable n) = true → rx.more = false → rx.codeErr = false → rx.cut = false → 64 ≤ len →
          len ≤ s.get (R.MAX_FRAME_Bytes n) → s.rxPasses n e = false → (s.port n).rxOpen = none →
          (rx.fcsOk = false → Gives (.rxFrame n rx) s (fun t => regsOnly t ∧ counts t 12 1))
          ∧ (rx.fcsOk = true → Gives (.rxFrame n rx) s (fun t => regsOnly t ∧ counts t 0 1 ∧ counts t 1 len ∧ counts t 18 1)))
      ∧ (s.portState n = 2 ∨ s.portState n = 3 → s.is (R.MAC_CTRL_RxEnable n) = true → rx.more = false → rx.codeErr = false → rx.cut = false → 64 ≤ len →
          len ≤ s.get (R.MAX_FRAME_Bytes n) → rx.fcsOk = true → s.rxPasses n e = true → (s.port n).rxOpen = none →
          (s.rxDest n e = .stateDrop → Gives (.rxFrame n rx) s (fun t => regsOnly t ∧ counts t 0 1 ∧ counts t 1 len ∧ counts t 27 1))
          ∧ (∀ k, s.rxDest n e = .spindle k → rx.full = true → Gives (.rxFrame n rx) s (fun t => regsOnly t ∧ counts t 0 1 ∧ counts t 1 len ∧ counts t 19 1))
          ∧ (∀ k, s.rxDest n e = .spindle k → rx.full = false → Gives (.rxFrame n rx) s (fun t => counts t 0 1 ∧ counts t 1 len
              ∧ Sends [.spindle k n (s.rxStamp n rx.ago) rx.bytes] s t
              ∧ ({ t with regs := s.regs, outbox := s.outbox, msixLevel := s.msixLevel } : State) = s))))
  ∧ (∀ (s : State) (n : Nat), Ready s → n < 4 →
      let p := s.port n
      let good := fun (bytes : List Byte) => Sent.frame n bytes (frameFcs bytes false)
      let quiet := s.is (R.MAC_CTRL_TxEnable n) = false ∨ s.portState n < 2 ∨ p.ct ≠ none ∨ (s.portState n = 4 ∧ s.is (R.PCS_CTRL_PrbsGen n) = true)
      (∀ tx, quiet → Ends (.txFrameStart n tx) s s)
      ∧ (∀ tx, tx.queues = [] → p.wire = none → p.pfc = [] → s.inService n = false → s.fwFrames n = [] → Ends (.txFrameStart n tx) s s)
      ∧ (∀ tx w, ¬ quiet → s.loops n = false → p.wire = some w → tx.queues = [] → p.pfc = [] → s.inService n = false → s.fwFrames n = [] →
          Gives (.txFrameStart n tx) s (fun t => Sends [good w.bytes] s t ∧ (t.port n).wire = none ∧ t.queues = s.queues))
      ∧ (∀ tx, ¬ quiet → s.loops n = false → s.portState n ≠ 5 → p.wire = none → p.pfc ≠ [] → Gives (.txFrameStart n tx) s (fun t =>
          (t.port n).pfc = [] ∧ Sends [good (pfcFrame (s.station n 0) p.pfc)] s t
          ∧ t.get (R.PORT_CNT_Count n 41) = min (s.get (R.PORT_CNT_Count n 41) + 1) 0xFFFFFFFF ∧ t.queues = s.queues))
      ∧ (∀ tx f k b c, ¬ quiet → s.loops n = false → p.wire = none → p.pfc = [] → s.inService n = false → tx.queues = [] → s.fwFrames n = [f] → f.pri < 8 →
          f.out = .frame k b c → s.mayStart n f.pri f.len tx.cclk = true → Gives (.txFrameStart n tx) s (fun t => Sends [f.out] s t ∧ t.fwFrames n = []
            ∧ t.queues = s.queues))
      ∧ (s.carries n = false ∨ p.ct ≠ none ∨ p.pfc ≠ [] ∨ s.ctHeld n = true ∨ (p.ctWait = [] ∧ p.wire = none) → Ends (.ctFrameStart n) s s)
      ∧ (∀ q rest, s.carries n = true → p.ct = none → p.pfc = [] → s.ctHeld n = false → p.wire = none → p.ctWait = q :: rest →
          (∀ ws u, s.qTake q n = some (ws, u) → Gives (.ctFrameStart n) s (fun t =>
            Sends [good (itemFrame ws)] s t ∧ (t.port n).ctWait = rest ∧ (t.port n).ctPick = some s.time.pick ∧ t.queues = u.queues))
          ∧ (∀ i, s.qTake q n = none → (s.queue q).next n = some i →
              (i.words < (s.queue q).thresh → Ends (.ctFrameStart n) s s)
              ∧ ((s.queue q).thresh ≤ i.words → Gives (.ctFrameStart n) s (fun t => Sends [] s t ∧ (t.port n).ct = some q ∧ (t.port n).ctWait = rest
                  ∧ t.queues = s.queues)))))

/-- R170, R174, R185, R187: before the pool is initialised, and for Write and Flush before Bobbin is enabled, a queue command answers NotReady
and no queue changes; the end of initialisation sets InitDone and leaves the pool all 0.

R174, R185, R187, R195: the queue window. Read shows the selected queue; Write answers the first failing check and changes the queue
only where none fails; a disable, and Flush of a queue that is not Off, empty it and give its cells to reclaim; ClearCnt zeroes its counters; once its
cells are returned an enabled queue is Ready and a disabled one Off, but an uncorrectable link word that the scan reads resets the queue (R188). -/
def Obligations.QueueWindow : Prop :=
  (∀ s : State, Ready s →
      (s.is R.BOB_STATUS_InitDone = true → Ends .poolInitDone s s)
      ∧ (s.is R.BOB_STATUS_InitDone = false →
          Ends .poolInitDone s { s.put R.BOB_STATUS_InitDone 1 with pool := [] }
          ∧ (∀ c, c = .qRead ∨ c = .qClearCnt → Ends c s (s.resultErr R.Q_RESULT_Code R.Q_RESULT_Seq R.Q_CMD 7 (s.get R.Q_SEL_Queue))))
      ∧ (s.is R.BOB_STATUS_InitDone = false ∨ s.is R.BOB_CTRL_Enable = false → ∀ c, c = .qWrite ∨ c = .qFlush →
          Gives c s (fun t => t.get R.Q_RESULT_Code = 7 ∧ t.queues = s.queues ∧ t.pool = s.pool)))
  ∧ (∀ s : State, Ready s → s.is R.BOB_STATUS_InitDone = true → s.is R.BOB_CTRL_Enable = true →
      let q := s.get R.Q_SEL_Queue
      let v := s.queue q
      let n := v.ofWords (s.rdWords R.Q_CFG 4)
      Gives .qRead s (fun t => t.queues = s.queues ∧ t.get R.Q_STATE_State = v.state % 4 ∧ t.is R.Q_STATE_Open = v.isOpen
        ∧ t.get R.Q_QUOTA_Quota = v.quota % 2 ^ 19 ∧ t.get R.Q_RESULT_Code = 0)
      ∧ Gives .qWrite s (fun t => t.get R.Q_RESULT_Code = s.qCheck q n ∧ t.get R.Q_RESULT_Seq = (s.get R.Q_RESULT_Seq + 1) % 2 ^ 16
          ∧ (s.qCheck q n ≠ 0 → t.queues = s.queues)
          ∧ (s.qCheck q n = 0 → n.enable = true → t.queue q = { n with state := if v.state = 0 then 1 else v.state })
          ∧ (s.qCheck q n = 0 → n.enable = false → v.state = 0 → t.queue q = n)
          ∧ (s.qCheck q n = 0 → n.enable = false → v.state ≠ 0 → (t.queue q).enable = false ∧ (t.queue q).state = 2 ∧ (t.queue q).items = []
              ∧ (t.queue q).chain = [] ∧ (t.queue q).reclaim = v.reclaim ++ v.chain))
      ∧ (v.state = 0 → Gives .qFlush s (fun t => t.queue q = v.bump 5 ∧ t.get R.Q_RESULT_Code = 0))
      ∧ (v.state ≠ 0 → Gives .qFlush s (fun t => (t.queue q).state = 2 ∧ (t.queue q).chain = [] ∧ (t.queue q).items = [] ∧ (t.queue q).data = []
          ∧ (t.queue q).reclaim = v.reclaim ++ v.chain ∧ t.is R.BOB_STATUS_Reclaiming = true ∧ t.get R.Q_RESULT_Code = 0))
      ∧ Gives .qClearCnt s (fun t => t.queue q = { v with cnt := [] } ∧ t.get R.Q_RESULT_Code = 0)
      ∧ (∀ k errs, k < 4096 → Gives (.reclaimDone ⟨k, errs⟩) s (fun t =>
          let bad := ∃ e ∈ errs, e.2 = true ∧ e.1 ∈ (s.queue k).reclaim
          ((s.queue k).state ≠ 2 → t.queue k = s.queue k)
          ∧ ((s.queue k).state = 2 → ¬ bad → t.queue k = { s.queue k with reclaim := [], state := if (s.queue k).enable then 1 else 0 })
          ∧ ((s.queue k).state = 2 → bad → (t.queue k).state = 2 ∧ tget 0 (t.queue k).cnt 6 = (tget 0 (s.queue k).cnt 6 + 1) % 2 ^ 32))))

/-- R183, R184, R190, R456: a queue port with an open item keeps its binding. Start opens an item in a Host or Control queue that is on and where no port
holds one open; data joins it within MaxItem; End commits it with its length; a word or a length past MaxItem drops it as Oversize; Abort drops it and
counts Aborted. Start and data that need a cell of a queue at its quota answer 1 and change nothing else. Commands for a queue of another class answer 4,
Start on a queue that is Off 5, on one with an open item 3, and data, End and Abort without an open item 3.

R181, R188, R189, R191: a read of QPk_POP_LO from a queue with no committed item returns 0 with the tag NotValid, and the queue stays. With
one it returns the next word, and its tag says whether it is the first and whether it is the last of the item; a corrected word counts for its cell's
bank, an uncorrectable data word is tagged and counted, and an uncorrectable length slot or link word resets the queue and gives no word. -/
def Obligations.QueuePorts : Prop :=
  (∀ (s : State) (k v : Nat), Ready s → k < 4 → v < 2 ^ 32 →
      let q := s.qpQueue k
      let d := s.queue q
      let room := d.data.length < 31 * d.chain.length ∨ d.cells < d.quota
      ((s.qpHeld k).isSome = true → Ends (.qpSelWrite k v) s (s.report (turnedDown 0x11 (R.QP_SEL k) 0 0)))
      ∧ (s.qpHeld k = none → Ends (.qpSelWrite k v) s (s.put (R.QP_SEL_Queue k) v))
      ∧ (∀ c, c = .qpPushStart k ∨ c = .qpPushData k v ∨ c = .qpPushEnd k (v % 4) ∨ c = .qpPushAbort k →
          Gives c s (fun t => t.get (R.QP_RESULT_Seq k) = (s.get (R.QP_RESULT_Seq k) + 1) % 2 ^ 16
            ∧ (d.cls < 2 → t.get (R.QP_RESULT_Code k) = 4 ∧ t.queues = s.queues)
            ∧ (2 ≤ d.cls → s.qpHeld k = none → c ≠ .qpPushStart k → t.get (R.QP_RESULT_Code k) = 3 ∧ t.queues = s.queues)))
      ∧ (2 ≤ d.cls → Gives (.qpPushStart k) s (fun t =>
          (d.state = 0 → t.get (R.QP_RESULT_Code k) = 5)
          ∧ (d.state ≠ 0 → (∃ i ∈ d.items, QItem.done i = false ∧ 8 ≤ i.by_) → t.get (R.QP_RESULT_Code k) = 3)
          ∧ (d.state ≠ 0 → (∀ i ∈ d.items, QItem.done i = true ∨ i.by_ < 8) → s.qpHeld k = none → ¬ room →
              t.get (R.QP_RESULT_Code k) = 1 ∧ t.queue q = d.bump 2)
          ∧ (d.state ≠ 0 → (∀ i ∈ d.items, QItem.done i = true ∨ i.by_ < 8) → s.qpHeld k = none → room →
              t.get (R.QP_RESULT_Code k) = 0 ∧ t.qpHeld k = some q ∧ (t.queue q).items.length = d.items.length + 1
              ∧ (t.queue q).items.getLast? = some { start := d.tail, by_ := 8 + k })))
      ∧ (∀ i, 2 ≤ d.cls → s.qpHeld k = some q → d.openOf (8 + k) = some i →
          let at_ := i.start + i.words - d.base
          let len := if v % 4 = 0 then 4 * i.words else 4 * i.words - (4 - v % 4)
          (i.words + 1 ≤ ceilDiv d.maxItem 4 → ¬ room → Gives (.qpPushData k v) s (fun t => t.get (R.QP_RESULT_Code k) = 1 ∧ t.queue q = d.bump 2))
          ∧ (ceilDiv d.maxItem 4 ≤ i.words → Gives (.qpPushData k v) s (fun t => t.get (R.QP_RESULT_Code k) = 2 ∧ t.qpHeld k = none
            ∧ tget 0 (t.queue q).cnt 3 = (tget 0 d.cnt 3 + 1) % 2 ^ 32))
          ∧ (i.words + 1 ≤ ceilDiv d.maxItem 4 → room → Gives (.qpPushData k v) s (fun t => t.get (R.QP_RESULT_Code k) = 0
            ∧ (t.queue q).data = d.data.take at_ ++ [BitVec.ofNat 32 v] ++ d.data.drop at_
            ∧ ((t.queue q).openOf (8 + k)).map QItem.words = some (i.words + 1)))
          ∧ (len ≤ d.maxItem → Gives (.qpPushEnd k (v % 4)) s (fun t => t.get (R.QP_RESULT_Code k) = 0 ∧ t.qpHeld k = none
            ∧ (t.queue q).items = d.items.map (fun j => if QItem.done j = false ∧ j.by_ = 8 + k then { j with done := true, by_ := 0, need := readerMask d.readers } else j)
            ∧ (d.base ≤ i.start → i.start < d.tail → (t.queue q).word i.start = slotWord 1 len)))
          ∧ (d.maxItem < len → Gives (.qpPushEnd k (v % 4)) s (fun t => t.get (R.QP_RESULT_Code k) = 2 ∧ t.qpHeld k = none
            ∧ tget 0 (t.queue q).cnt 3 = (tget 0 d.cnt 3 + 1) % 2 ^ 32))
          ∧ Gives (.qpPushAbort k) s (fun t => t.get (R.QP_RESULT_Code k) = 0 ∧ t.qpHeld k = none
            ∧ tget 0 (t.queue q).cnt 4 = (tget 0 d.cnt 4 + 1) % 2 ^ 32)))
  ∧ (∀ (s : State) (k : Nat), Ready s → k < 4 →
      let q := s.get (R.QP_SEL_Queue k)
      let v := s.queue q
      (∀ ecc, 2 ≤ v.cls → v.current 0 = none → Ends (.qpPop k ecc) s ((s.put (R.QP_POP_HI_Tag k) 0x80).send (.readData (R.QP_POP_LO k) 0)))
      ∧ (∀ ecc, v.cls < 2 → Ends (.qpPop k ecc) s (((s.report (turnedDown 0x10 (R.QP_POP_LO k) 4 0)).put (R.QP_POP_HI_Tag k) 0x80).send (.readData (R.QP_POP_LO k) 0)))
      ∧ (∀ i, 2 ≤ v.cls → v.current 0 = some i →
          let p := tget 0 v.pos 0
          let tag := (if p = 0 then 0x40 else 0) + (if i.words ≤ p + 1 then 0x20 else 0)
          let bank := (v.cellAt (i.start + p)).1 % 16
          let reads := fun (w tag : Nat) (t : State) => Sends [.readData (R.QP_POP_LO k) w] s t ∧ t.get (R.QP_POP_HI_Tag k) = tag
          let word := (v.word (i.start + p)).toNat
          Gives (.qpPop k .clean) s (reads word tag)
          ∧ Gives (.qpPop k .corrected) s (fun t => reads word tag t ∧ t.get (R.ECC_CORR_Count bank) = (s.get (R.ECC_CORR_Count bank) + 1) % 2 ^ 32)
          ∧ (p ≠ 0 → Gives (.qpPop k .bad) s (fun t => reads word (tag + 0x10) t ∧ tget 0 (t.queue q).cnt 7 = (tget 0 v.cnt 7 + 1) % 2 ^ 32
              ∧ t.get R.ECC_UNCORR_DATA_Count = (s.get R.ECC_UNCORR_DATA_Count + 1) % 2 ^ 32))
          ∧ (∀ e, e = .link ∨ (e = .bad ∧ p = 0) → Gives (.qpPop k e) s (fun t => (∃ pre, Sends (pre ++ [.readData (R.QP_POP_LO k) 0]) s t)
              ∧ t.get (R.QP_POP_HI_Tag k) = 0x80 ∧ (t.queue q).state = 2 ∧ (t.queue q).items = []
              ∧ tget 0 (t.queue q).cnt 6 = (tget 0 v.cnt 6 + 1) % 2 ^ 32))))

/-- R133, R139, R143: the receive stream window and the mismatch log. Read shows the selected entry; Write answers the code of the check and
stores the words only where it passes, with an error record where it does not; ClearCnt zeroes the counters; MM_INFO pops the oldest record.

R136, R138: a Running stream that has passed LossPicks indices without a sample is Lost, counted, forgets its window, and its slots read 0; any other
is left alone. At the end of a PdvWindow every entry shows what it measured, zeros without a measurement, and measures anew. -/
def Obligations.ReceiveStreams : Prop :=
  (∀ s : State, Ready s →
      let i := s.get R.SE_SEL_Stream
      let ws := s.rdWords R.SE_CTRL 16
      ((s.rxs i).cfg.length = 16 → (s.rxs i).stat.length = 5 → Gives .seRead s (fun t => t.rx = s.rx ∧ t.get R.SE_STATE_State = (s.rxs i).state % 4
          ∧ (∀ k, k < 15 → t.get (R.SE_CNT_Count k) = tget 0 (s.rxs i).cnt k % 2 ^ 32) ∧ t.get R.SE_RESULT_Code = 0
          ∧ t.get R.SE_RESULT_Seq = (s.get R.SE_RESULT_Seq + 1) % 2 ^ 16 ∧ t.queues = s.queues))
      ∧ Gives .seWrite s (fun t => t.get R.SE_RESULT_Code = s.seCheck i ws ∧ t.get R.SE_RESULT_Seq = (s.get R.SE_RESULT_Seq + 1) % 2 ^ 16
          ∧ (s.seCheck i ws ≠ 0 → t.rx = s.rx ∧ t.queues = s.queues ∧ t.errWait = s.errWait ++ [turnedDown 0x10 R.SE_CMD (s.seCheck i ws) 0])
          ∧ (s.seCheck i ws = 0 → (t.rxs i).cfg = ws ∧ ((s.rxs i).valid = false → seF ws R.SE_CTRL_Valid = 1 → (t.rxs i).state = 1)))
      ∧ Gives .seClearCnt s (fun t => t.rxs i = { s.rxs i with cnt := [] } ∧ (∀ j, j ≠ i → t.rxs j = s.rxs j) ∧ t.get R.SE_RESULT_Code = 0
          ∧ OnlyRegs [R.SE_RESULT] s { t with rx := s.rx })
      ∧ (s.mmLog = [] → Ends .mmInfoPop s (s.send (.readData R.MM_INFO 0)))
      ∧ (∀ r rs, s.mmLog = r :: rs → Gives .mmInfoPop s (fun t => t.mmLog = rs ∧ t.get R.MM_SEQ_Seq = r.seq % 2 ^ 16
          ∧ t.get R.MM_UNITS_First = r.first % 2 ^ 16 ∧ t.get R.MM_UNITS_Second = r.second % 2 ^ 16
          ∧ Sends [.readData R.MM_INFO (r.stream + 1024 + (if r.timestamp then 2048 else 0))] s t
          ∧ OnlyRegs [R.MM_SEQ, R.MM_UNITS] s { t with mmLog := s.mmLog })))
  ∧ (∀ s : State, Ready s →
      (∀ i, i < 1024 →
          let e := s.rxs i
          let first := seF e.eff R.SE_SLOT_FirstSlot
          let lost := e.state = 2 ∧ max 1 (s.get R.LOSS_PICKS_Picks) ≤ e.lossRun ∧ s.time.pick ∉ e.gotIdx
          (¬ lost → Ends (.streamLost i) s s)
          ∧ (lost → Gives (.streamLost i) s (fun t =>
              t.rxs i = { e with state := 3, high := none, win := [] } ∧ (∀ j, j ≠ i → t.rxs j = s.rxs j)
              ∧ (∀ k, tget 0#32 t.src k = (if first ≤ k ∧ k < first + seChans e.eff then 0#32 else tget 0#32 s.src k))
              ∧ t.get R.WARP_CNT_LOST_Count = (s.get R.WARP_CNT_LOST_Count + 1) % 2 ^ 32
              ∧ OnlyRegs [R.WARP_CNT_LOST] s { t with rx := s.rx, src := s.src })))
      ∧ ((s.rx.map Prod.fst).Nodup → Gives .pdvWindowEnd s (fun t => ∀ i,
          ((s.rxs i).meas = none → t.rxs i = { s.rxs i with stat := [0, 0, 0, 0, 0], skew := 0 })
          ∧ (∀ m, (s.rxs i).meas = some m → (t.rxs i).meas = none ∧ (t.rxs i).skew = 0
              ∧ (t.rxs i).stat = [ofSigned 32 m.arrMin, ofSigned 32 m.arrMax, ofSigned 32 (m.arrMax - m.arrMin), min (s.rxs i).skew (2 ^ 32 - 1), ofSigned 32 m.head]))))

/-- R156, R161, R165: the transmit stream window and the pair mismatch log, as the receive side's.

R160: a digest whose other side is absent after 64 picks is dropped and counted once; a pick that holds none, or that is younger, changes
nothing. R163: the message of an announced stream joins the firmware's frames on the ports of its mask that are up; an entry that is not announced has
none, nor has the unit of a pair that does not hold the lease. -/
def Obligations.TransmitStreams : Prop :=
  (∀ s : State, Ready s →
      let i := s.get R.ST_SEL_Stream
      let ws := s.rdWords R.TX_CTRL 16
      ((s.txs i).cfg.length = 16 → Gives .stRead s (fun t => t.tx = s.tx
          ∧ t.get R.ST_STATE_State = (if (s.txs i).valid then (if (s.txs i).running then 2 else 1) else 0)
          ∧ (∀ k, k < 6 → t.get (R.ST_CNT_Count k) = tget 0 (s.txs i).cnt k % 2 ^ 32) ∧ t.get R.ST_RESULT_Code = 0
          ∧ t.get R.ST_RESULT_Seq = (s.get R.ST_RESULT_Seq + 1) % 2 ^ 16 ∧ t.queues = s.queues))
      ∧ Gives .stWrite s (fun t => t.get R.ST_RESULT_Code = s.txCheck i ws ∧ t.get R.ST_RESULT_Seq = (s.get R.ST_RESULT_Seq + 1) % 2 ^ 16
          ∧ (s.txCheck i ws ≠ 0 → t.tx = s.tx ∧ t.queues = s.queues ∧ t.errWait = s.errWait ++ [turnedDown 0x10 R.ST_CMD (s.txCheck i ws) 0])
          ∧ (s.txCheck i ws = 0 → (t.txs i).cfg = ws))
      ∧ Gives .stClearCnt s (fun t => t.txs i = { s.txs i with cnt := [] } ∧ (∀ j, j ≠ i → t.txs j = s.txs j) ∧ t.get R.ST_RESULT_Code = 0
          ∧ OnlyRegs [R.ST_RESULT] s { t with tx := s.tx })
      ∧ (s.pmLog = [] → Ends .pmInfoPop s (s.send (.readData R.PM_INFO 0)))
      ∧ (∀ r rs, s.pmLog = r :: rs → Gives .pmInfoPop s (fun t => t.pmLog = rs ∧ t.get R.PM_PICK_LO_Pick = r.pick % 2 ^ 32
          ∧ t.get R.PM_STREAMS_FirstStream = r.first % 2 ^ 16 ∧ t.get R.PM_STREAMS_Count = r.count % 2 ^ 16
          ∧ Sends [.readData R.PM_INFO (1 + (if r.input then 2 else 0) + r.block * 4)] s t
          ∧ OnlyRegs [R.PM_PICK_LO, R.PM_PICK_HI, R.PM_STREAMS] s { t with pmLog := s.pmLog })))
  ∧ (∀ s : State, Ready s →
      (∀ p, s.time.pick < p + 64 → Ends (.digestMissing p) s s)
      ∧ (∀ p, (∀ e ∈ s.dig.ownOut, e.1 ≠ p) → (∀ e ∈ s.dig.parOut, e.1 ≠ p) → (∀ e ∈ s.dig.ownIn, e.1 ≠ p) → (∀ e ∈ s.dig.parIn, e.1 ≠ p) →
          Ends (.digestMissing p) s s)
      ∧ (∀ p, p + 64 ≤ s.time.pick → (∃ e ∈ s.dig.ownOut, e.1 = p) ∨ (∃ e ∈ s.dig.parOut, e.1 = p) ∨ (∃ e ∈ s.dig.ownIn, e.1 = p) ∨ (∃ e ∈ s.dig.parIn, e.1 = p) → Gives (.digestMissing p) s (fun t =>
          t.dig.ownOut = s.dig.ownOut.filter (fun e => decide (e.1 ≠ p)) ∧ t.dig.parOut = s.dig.parOut.filter (fun e => decide (e.1 ≠ p))
          ∧ t.dig.ownIn = s.dig.ownIn.filter (fun e => decide (e.1 ≠ p)) ∧ t.dig.parIn = s.dig.parIn.filter (fun e => decide (e.1 ≠ p))
          ∧ t.dig.hist = s.dig.hist ∧ t.get R.CNT_DIG_MISSING_Count = (s.get R.CNT_DIG_MISSING_Count + 1) % 2 ^ 32
          ∧ OnlyRegs [R.CNT_DIG_MISSING] s { t with dig := s.dig }))
      ∧ (∀ i, i < 1024 →
          let e := s.txs i
          let on := e.valid = true ∧ txF e.cfg R.TX_CTRL_Announce = 1 ∧ fmtRtp (txF e.cfg R.TX_CTRL_Format) = true
          ((s.paired = true ∧ s.is R.LEASE_STATUS_Holding = false) ∨ ¬ on → Ends (.sapAnnounce i) s s)
          ∧ (on → s.paired = false ∨ s.is R.LEASE_STATUS_Holding = true → Gives (.sapAnnounce i) s (fun t => t.tx = s.tx ∧ Sends [] s t
              ∧ ∀ n, n < 4 → t.fwFrames n = (if bitOf (txF e.cfg R.TX_CTRL_PortMask) n ∧ 2 ≤ s.portState n ∧ s.portState n < 5 then
                  s.fwFrames n ++ [s.wholeFrame n (s.sapFrame i e.cfg n false)] else s.fwFrames n)))))

/-- R210, R211: each transaction command answers its code in XT_RESULT. Open needs a free slot (7) and an unused ID that is not 0 (9); the
others need the transaction (9) in the state they act on (10); a push has room for the edit (8); a seal passes its checks or counts as refused.
A command that answers a code other than 0 changes no transaction.

R210, R212, R213: an XpTransaction write that is refused leaves the transactions and the table as they were, and one that is accepted
leaves its edits sealed; an XpTable write that is refused changes nothing, and one accepted waits for the next strobe;
when its edits are applied, while Treadle is enabled, the XpCommit cue of a transaction whose staging has begun is armed. -/
def Obligations.CrosspointTransactions : Prop :=
  (∀ (s : State) (id : Nat), Ready s → id < 65536 →
      (∀ k, (List.range 8).find? (fun k => !s.heddle.trans.any (fun x => decide (x.slot = k))) = some k → Gives (.xtOpen id) s (fun t =>
          t.get R.XT_RESULT_Code = (if id = 0 ∨ (s.trans id).isSome then 9 else 0)
          ∧ t.heddle.trans = (if id = 0 ∨ (s.trans id).isSome then s.heddle.trans else s.heddle.trans ++ [{ slot := k, id := id }])))
      ∧ ((∀ k, k < 8 → ∃ x ∈ s.heddle.trans, x.slot = k) → Gives (.xtOpen id) s (fun t => t.get R.XT_RESULT_Code = 7 ∧ t.heddle = s.heddle))
      ∧ (s.trans id = none → ∀ c, c = .xePush id ∨ c = .xtSeal id ∨ c = .xtAbandon id ∨ c = .xtCommitNow id →
          Gives c s (fun t => t.get R.XT_RESULT_Code = 9 ∧ t.get R.XT_RESULT_Seq = (s.get R.XT_RESULT_Seq + 1) % 2 ^ 16 ∧ t.heddle = s.heddle))
      ∧ (∀ x, s.trans id = some x →
          let full := 1024 ≤ x.edits.length ∨ 4096 ≤ s.heddle.trans.foldl (fun n y => n + y.edits.length) 0
          let all := fun (f : Trans → Trans) => s.heddle.trans.map (fun y => if y.id = id then f y else y)
          Gives (.xePush id) s (fun t => t.get R.XT_RESULT_Code = (if x.state ≠ 1 then 10 else if full then 8 else 0)
            ∧ t.heddle.trans = (if x.state ≠ 1 ∨ full then s.heddle.trans else all (fun y => { y with edits := y.edits ++ [s.xeRecord] })))
          ∧ Gives (.xtSeal id) s (fun t => t.get R.XT_RESULT_Code = (if x.state ≠ 1 then 10 else (s.sealCheck x).1)
            ∧ t.heddle.trans = (if x.state ≠ 1 ∨ (s.sealCheck x).1 ≠ 0 then s.heddle.trans else all (fun y => { y with state := 2, growth := (s.sealCheck x).2 }))
            ∧ (x.state = 1 → (s.sealCheck x).1 ≠ 0 → t.get R.CNT_XT_REFUSED_Count = (s.get R.CNT_XT_REFUSED_Count + 1) % 2 ^ 32))
          ∧ Gives (.xtAbandon id) s (fun t => t.get R.XT_RESULT_Code = (if x.state = 3 then 10 else 0)
            ∧ t.heddle.trans = (if x.state = 3 then s.heddle.trans else s.heddle.trans.filter (fun y => decide (y.id ≠ id))))
          ∧ Gives (.xtCommitNow id) s (fun t => t.get R.XT_RESULT_Code = (if x.state = 2 then 0 else 10)
            ∧ t.heddle.trans = (if x.state = 2 then all (fun y => { y with state := 3, direct := true }) else s.heddle.trans))))
  ∧ (∀ (s : State) (data : List Byte), Ready s →
      (let id := leNat (data.take 2)
       let code := (s.xpTransaction data).1
       Gives (.xpTransactionWrite data) s (fun t => Sends [.opResult 0x5180 0 code] s t
          ∧ (data.length < 2 ∨ (data.length - 2) % 12 ≠ 0 → code = 1) ∧ (code ≠ 0 → t.heddle = s.heddle)
          ∧ (code = 0 → ∃ x ∈ t.heddle.trans, x.id = id ∧ x.state = 2 ∧ x.edits = editsOf ((data.length - 2) / 12) (data.drop 2))
          ∧ t.heddle.xps = s.heddle.xps))
      ∧ (let code := (s.xpTable data).1
         Gives (.xpTableWrite data) s (fun t => Sends [.opResult 0x5183 0 code] s t
          ∧ (data.length < 32768 ∨ (data.length - 32768) % 12 ≠ 0 → code = 1) ∧ (code ≠ 0 → t.heddle = s.heddle)
          ∧ (code = 0 → t.heddle.xps = s.heddle.xps ∧ t.heddle.next = some (tableOf (editsOf ((data.length - 32768) / 12) data)))))
      ∧ (∀ id, id < 65536 → s.is R.TRD_CTRL_Enable = false → Ends (.xpEditsApplied id) s s)
      ∧ (∀ id, id < 65536 → s.is R.TRD_CTRL_Enable = true → Gives (.xpEditsApplied id) s (fun t => t.heddle = s.heddle
          ∧ t.cues = s.cues.map (fun c => if c.action = 3 ∧ c.arg0 % 65536 = id ∧ c.staging then { c with armed := true } else c))))

/-- R214, R217: the destination window. Read shows the selected destination; Write answers the code of the check and stores the words only
where it passes. Repack is taken only while Run is 0; when it completes every ring with no other allocation waiting stands after the rings of the
destinations before it, and has a fresh Z.

R205, R208: a group gain ramp waits for the next strobe, and group 0 takes none; a lookup latches the gain, target, group and law of a
crosspoint, or Found 0 and zeros where the table does not hold the key, and counts the lookup. -/
def Obligations.DestinationsAndGroups : Prop :=
  (∀ s : State, Ready s →
      let d := s.get R.DS_SEL_Dest
      let ws := s.rdWords R.DS_PATCH 5
      Gives .dsRead s (fun t => t.heddle = s.heddle ∧ t.get R.DS_DSTATE_DelayNow = (s.dest d).now % 2 ^ 17
          ∧ t.is R.DS_DSTATE_Fading = (s.dest d).fade.isSome ∧ t.is R.DS_DSTATE_Held = (s.dest d).held.isSome ∧ t.get R.DS_RESULT_Code = 0)
      ∧ Gives .dsWrite s (fun t => t.get R.DS_RESULT_Code = s.dsCheck d ws ∧ t.get R.DS_RESULT_Seq = (s.get R.DS_RESULT_Seq + 1) % 2 ^ 16
          ∧ (s.dsCheck d ws ≠ 0 → t.heddle = s.heddle ∧ t.errWait = s.errWait ++ [turnedDown 0x10 R.DS_CMD (s.dsCheck d ws) d])
          ∧ (s.dsCheck d ws = 0 → (t.dest d).cfg = ws))
      ∧ Ends .hdRepack s (if s.is R.TIME_CTRL_Run then s.report (turnedDown 0x11 R.HD_CMD 0 0) else s.put R.HD_STATUS_Repacking 1)
      ∧ (s.is R.HD_STATUS_Repacking = false → Ends .repackDone s s)
      ∧ (s.is R.HD_STATUS_Repacking = true → Gives .repackDone s (fun t => t.is R.HD_STATUS_Repacking = false ∧ t.heddle.xps = s.heddle.xps
          ∧ t.heddle.dests.map Prod.fst = s.heddle.dests.map Prod.fst ∧ (∀ e ∈ t.heddle.dests, e.2.z = none)
          ∧ (∀ pre k x post, s.heddle.dests = pre ++ (k, x) :: post → x.next = none → x.ring.2 ≠ 0 →
              (k, { x with ring := (pre.foldl (fun n e => n + e.2.alloc.2) 0, x.ring.2), z := none }) ∈ t.heddle.dests))))
  ∧ (∀ s : State, Ready s →
      (s.get R.GRP_SEL_Group = 0 → Ends .grpGo s s)
      ∧ (s.get R.GRP_SEL_Group ≠ 0 → Gives .grpGo s (fun t =>
          tget none t.heddle.goes (s.get R.GRP_SEL_Group) = some (toSigned 32 (s.get R.GRP_TARGET_Gain), s.get R.GRP_RAMP_Picks, s.is R.GRP_RAMP_Law)
          ∧ t.heddle.groups = s.heddle.groups ∧ OnlyRegs [] s { t with heddle := s.heddle, objs := s.objs }))
      ∧ Gives .xqLookup s (fun t => t.get R.XQ_INFO_Seq = (s.get R.XQ_INFO_Seq + 1) % 2 ^ 16 ∧ OnlyRegs [R.XQ_GAIN, R.XQ_TARGET, R.XQ_INFO] s t
          ∧ (xpFind s.heddle.xps (s.get R.XQ_KEY_Dest) (s.get R.XQ_KEY_Src) = none → t.is R.XQ_INFO_Found = false ∧ t.get R.XQ_GAIN_Gain = 0 ∧ t.get R.XQ_TARGET_Gain = 0
              ∧ t.get R.XQ_INFO_Group = 0 ∧ t.is R.XQ_INFO_Law = false)
          ∧ (∀ x, xpFind s.heddle.xps (s.get R.XQ_KEY_Dest) (s.get R.XQ_KEY_Src) = some x → t.is R.XQ_INFO_Found = true
              ∧ t.get R.XQ_GAIN_Gain = ofSigned 32 (x.ramp.shown s.heddle.last) ∧ t.get R.XQ_TARGET_Gain = ofSigned 32 x.ramp.g1
              ∧ t.get R.XQ_INFO_Group = x.group % 2 ^ 8 ∧ t.is R.XQ_INFO_Law = x.ramp.db)))

/-- R224, R239: a group that is enabled waits for a sync, or is in ClockFault where its clock is not valid; one that is disabled is Off;
its profile does not change while it is Running. A clock that stops puts a group that is on into ClockFault and is counted, one that returns puts
it into WaitSync. R235: SyncNow, and an edge of the configured polarity on DSM_SYNC, ask for a sync.

R234: at the clear point the chains of the Running groups start from cleared state, and not before it; an input is Settled once its
profile's SettleLen and its integer delay have passed since the sync. -/
def Obligations.Decimators : Prop :=
  (∀ (s : State) (k v : Nat), Ready s → k < 4 → v < 2 ^ 32 →
      (s.decState k = 3 → bitOf v 1 ≠ s.is (R.DEC_GRP_Profile k) → Ends (.decGrpWrite k v) s (s.report (turnedDown 0x10 (R.DEC_GRP k) 0xFF 0)))
      ∧ (¬ (s.decState k = 3 ∧ bitOf v 1 ≠ s.is (R.DEC_GRP_Profile k)) → Gives (.decGrpWrite k v) s (fun t =>
          t.is (R.DEC_GRP_Enable k) = bitOf v 0 ∧ t.is (R.DEC_GRP_Profile k) = bitOf v 1
          ∧ t.decState k = (if s.is (R.DEC_GRP_Enable k) = bitOf v 0 then s.decState k else if bitOf v 0 then (if (s.decOsr k).isSome then 2 else 1) else 0)))
      ∧ (¬ (2 ≤ s.decState k ∧ s.decOsr k = none) → Ends (.decClockFault k) s s)
      ∧ (2 ≤ s.decState k → s.decOsr k = none → Gives (.decClockFault k) s (fun t => t.decState k = 1
          ∧ t.get R.CNT_DEC_CLKFAULT_Count = (s.get R.CNT_DEC_CLKFAULT_Count + 1) % 2 ^ 32 ∧ OnlyRegs [R.DEC_GSTAT k, R.CNT_DEC_CLKFAULT, R.DEC_STATUS] s t))
      ∧ (¬ (s.decState k = 1 ∧ (s.decOsr k).isSome) → Ends (.decClockValid k) s s)
      ∧ (s.decState k = 1 → (s.decOsr k).isSome → Gives (.decClockValid k) s (fun t => t.decState k = 2 ∧ OnlyRegs [R.DEC_GSTAT k, R.DEC_STATUS] s t))
      ∧ Ends .decSyncNow s { s with dec := { s.dec with syncNow := true } }
      ∧ (∀ falling, ¬ (s.is R.DEC_CTRL_SyncPinEn = true ∧ falling = s.is R.DEC_CTRL_SyncPol ∧ s.time.running = true) → Ends (.dsmSyncEdge falling) s s)
      ∧ (s.is R.DEC_CTRL_SyncPinEn = true → s.time.running = true → Gives (.dsmSyncEdge (s.is R.DEC_CTRL_SyncPol)) s (fun t =>
          s.time.pick + 1 ∈ t.dec.pin ∧ (∀ p ∈ s.dec.pin, p ∈ t.dec.pin) ∧ OnlyRegs [] s { t with dec := s.dec })))
  ∧ (∀ s : State, Ready s →
      (s.dec.clear = none → Ends .decClearPoint s s)
      ∧ (∀ c, s.dec.clear = some c → s.time.pick < c → Ends .decClearPoint s s)
      ∧ (∀ c, s.dec.clear = some c → c ≤ s.time.pick → Gives .decClearPoint s (fun t => t.dec.clear = none
          ∧ (∀ k, k < 64 → s.decState (k / 16) = 3 → (t.din k).ints = [0, 0, 0, 0, 0] ∧ (t.din k).combs = [0, 0, 0, 0, 0] ∧ (t.din k).bits = []
              ∧ (t.din k).h1 = [] ∧ (t.din k).h2 = [] ∧ (t.din k).h3 = [] ∧ (t.din k).delay = (s.din k).delay)
          ∧ (∀ k, k < 64 → s.decState (k / 16) ≠ 3 → t.din k = s.din k) ∧ OnlyRegs [R.DEC_STATUS] s { t with dec := s.dec }))
      ∧ (∀ k, k < 64 → s.dec.pick = none → Ends (.decSettled k) s s)
      ∧ (∀ k p, k < 64 → s.dec.pick = some p →
          let due := p + settleLen (s.get (R.DEC_GRP_Profile (k / 16))) + s.get (R.DIN_STATUS_IntDelayNow k)
          (¬ (s.decState (k / 16) = 3 ∧ due ≤ s.time.pick) → Ends (.decSettled k) s s)
          ∧ (s.decState (k / 16) = 3 → due ≤ s.time.pick → Gives (.decSettled k) s (fun t => t.is (R.DIN_STATUS_Settled k) = true
              ∧ OnlyRegs [R.DIN_STATUS k, R.DEC_STATUS] s t))))

/-- R250, R252, R457: the chain window, FADE_CFG and FILT_CTRL. Read shows the selected chain; Write answers the code of the check and stores
the words only where it passes; Swap joins the requests for the next index; MaxFades is taken where the budget holds it. Enable waits for the
next strobe: the engine's own state is not touched.

R244: a CoefImage write of a length or an address out of range does nothing; otherwise every word that is not locked takes its value, and a
locked word that is not poisoned keeps its own; the write is answered refused exactly where it would have changed such a word. -/
def Obligations.FilterChains : Prop :=
  (∀ (s : State) (v : Nat), Ready s → v < 2 ^ 32 →
      let j := s.get R.FC_SEL_Chain
      let ws := s.rdWords R.FC_CFG 3
      Gives .fcRead s (fun t => t.filt = s.filt ∧ t.get R.FC_STATE_ActiveBank = (s.chain j).active % 2 ∧ t.is R.FC_STATE_Fading = (s.chain j).fade.isSome
          ∧ t.is R.FC_STATE_Pending = (s.chain j).pend.isSome ∧ t.is R.FC_STATE_Poisoned = (s.chain j).poison.isSome ∧ t.get R.FC_RESULT_Code = 0)
      ∧ Gives .fcWrite s (fun t => t.get R.FC_RESULT_Code = s.fcCheck j ws ∧ t.get R.FC_RESULT_Seq = (s.get R.FC_RESULT_Seq + 1) % 2 ^ 16
          ∧ (s.fcCheck j ws ≠ 0 → t.filt = s.filt ∧ t.errWait = s.errWait ++ [turnedDown 0x10 R.FC_CMD (s.fcCheck j ws) j])
          ∧ (s.fcCheck j ws = 0 → (t.chain j).cfg = ws ∧ (t.chain j).active = (s.chain j).active))
      ∧ (∀ fade, fade < 65536 → Gives (.fcSwap fade) s (fun t => t.filt = { s.filt with reqs := s.filt.reqs ++ [(j, fade)] }
          ∧ t.get R.FC_RESULT_Code = 0 ∧ OnlyRegs [R.FC_RESULT] s { t with filt := s.filt }))
      ∧ (s.maxFadesCheck (v % 128) ≠ 0 → Ends (.fadeCfgWrite v) s (s.report (turnedDown 0x10 R.FADE_CFG (s.maxFadesCheck (v % 128)) 0)))
      ∧ (s.maxFadesCheck (v % 128) = 0 → Gives (.fadeCfgWrite v) s (fun t => t.get R.FADE_CFG_MaxFades = v % 128 ∧ t.errWait = s.errWait ∧ t.filt = s.filt))
      ∧ Gives (.filtCtrlWrite v) s (fun t => t.is R.FILT_CTRL_Enable = bitOf v 0 ∧ OnlyRegs [R.FILT_CTRL] s t))
  ∧ (∀ (s : State) (data : List Byte), Ready s →
      let w := leNat (data.take 4)
      let ws := wordsOf (data.drop 4)
      let bad := data.length < 4 ∨ data.length % 4 ≠ 0 ∨ 262144 < w + ws.length
      let kept := fun (i : Nat) => s.coefLocked (w + i) = true ∧ s.filt.bad.contains (w + i) = false
      (bad → Ends (.coefImageWrite data) s (s.send (.opResult 0x6070 0 2)))
      ∧ (¬ bad → Gives (.coefImageWrite data) s (fun t =>
          (∀ i, i < ws.length → (kept i → t.coefAt (w + i) = s.coefAt (w + i)) ∧ (¬ kept i → t.coefAt (w + i) = ws.getD i 0#32))
          ∧ (∀ a, a < w ∨ w + ws.length ≤ a → t.coefAt a = s.coefAt a)
          ∧ ((∃ i, i < ws.length ∧ kept i ∧ s.coefAt (w + i) ≠ ws.getD i 0#32) → Sends [.opResult 0x6070 0 1] s t)
          ∧ ((∀ i, i < ws.length → kept i → s.coefAt (w + i) = ws.getD i 0#32) → Sends [.opResult 0x6070 0 0] s t ∧ t.errWait = s.errWait))))

/-- R20, R216, R245, R254, R255, R30: the engine runs an enabled chain once for the index mixed last: its source slot takes the chain's output; an
uncorrectable coefficient or state word poisons it, counted and recorded, and a poisoned chain gives nothing. A fade, a closing cross-fade, a delay fade and
a Realign period end once their last index lies in the past, and not before: a held chain configuration comes into force, a held delay starts its own
fade, and shadows begin to close where the period of the engine ends; before the first index nothing of this acts. -/
def Obligations.FilterEngineEvents : Prop := ∀ (s : State) (j : Nat), Ready s → j < 1024 →
  (s.heddle.last = none → (∀ ecc, Ends (.filterChainStart j ecc) s s) ∧ Ends (.fadeEnd j) s s ∧ Ends (.closingCrossfadeEnd j) s s ∧ Ends .realignPeriodEnd s s
      ∧ ∀ d, d < 8192 → Ends (.delayFadeEnd d) s s)
  ∧ (∀ n, s.heddle.last = some n →
      let x := s.chain j
      let c := { x with ran := some n, poison := if x.poison = some none then none else x.poison }
      let runs := s.time.running = true ∧ s.filt.on = true ∧ fcOn x.eff = true ∧ x.ran ≠ some n
      let poisons := fun (w : Option Nat) (t : State) => t.chain j = { c.zero with poison := some w } ∧ t.src = s.src ∧ t.dst = s.dst
        ∧ t.get R.CNT_FILT_POISON_Count = (s.get R.CNT_FILT_POISON_Count + 1) % 2 ^ 32
        ∧ t.errWait = s.errWait ++ [{ code := 0x14, block := 17, write := false, aux := j }]
      (∀ ecc, ¬ runs → Ends (.filterChainStart j ecc) s s)
      ∧ (∀ ecc, runs → c.poison.isSome = true → Gives (.filterChainStart j ecc) s (fun t => t.chain j = c ∧ OnlyRegs [] s { t with filt := s.filt }))
      ∧ (runs → c.poison = none → Gives (.filterChainStart j .chainState) s (poisons none))
      ∧ (∀ ecc u, runs → c.poison = none → (ecc = .clean ∧ u = s ∨ ∃ w, ecc = .coef w
            ∧ u = { s with filt := { s.filt with bad := if s.filt.bad.contains w then s.filt.bad else s.filt.bad ++ [w] } }) →
          (∀ w, u.chainBad c = some w → Gives (.filterChainStart j ecc) s (poisons (some w)))
          ∧ (u.chainBad c = none → Gives (.filterChainStart j ecc) s (fun t => (t.chain j).ran = some n
            ∧ tget 0#32 t.src (6720 + j) = BitVec.ofInt 32 (s.chainOut c n (tget 0#32 s.dst (6720 + j)).toInt).1 ∧ t.dst = s.dst
            ∧ t.get R.CNT_FILT_SAT_Count = (s.get R.CNT_FILT_SAT_Count
                + (if (s.chainOut c n (tget 0#32 s.dst (6720 + j)).toInt).2.1 then 1 else 0)) % 2 ^ 32)))
      ∧ (x.fade = none → Ends (.fadeEnd j) s s) ∧ (x.closing = none → Ends (.closingCrossfadeEnd j) s s)
      ∧ (∀ f, x.fade = some f → n + 1 < f.s + f.n → Ends (.fadeEnd j) s s)
      ∧ (∀ f, x.fade = some f → f.s + f.n ≤ n + 1 → Gives (.fadeEnd j) s (fun t => (t.chain j).fade = none ∧ (t.chain j).eff = x.cfg ∧ (t.chain j).cfg = x.cfg))
      ∧ (∀ a len, x.closing = some (a, len) → n + 1 < a + len → Ends (.closingCrossfadeEnd j) s s)
      ∧ (∀ a len, x.closing = some (a, len) → a + len ≤ n + 1 → Gives (.closingCrossfadeEnd j) s (fun t => (t.chain j).closing = none ∧ (t.chain j).shadow = none))
      ∧ (s.filt.period = none → s.det.period = none → Ends .realignPeriodEnd s s)
      ∧ (∀ a k, s.filt.period = some (a, k) ∨ (s.filt.period = none ∧ s.det.period = some (a, k)) → n + 1 < a + k → Ends .realignPeriodEnd s s)
      ∧ (∀ a k, s.filt.period = some (a, k) → a + k ≤ n + 1 → Gives .realignPeriodEnd s (fun t =>
          let y := s.filterPhase.chain j
          t.filt.period = none ∧ (y.shadow.isSome = true → y.closing = none → (t.chain j).closing = some (a + k, fcF y.eff R.FC_CFG_FadeLen))
          ∧ (∀ b l, s.det.period = some (b, l) → b + l ≤ n + 1 → t.det.period = none ∧ ∀ e, (t.detEnt e).val = (s.detEnt e).sh)
          ∧ ((∀ b l, s.det.period = some (b, l) → n + 1 < b + l) → t.det = s.det)))
      ∧ (∀ a k, s.filt.period = none → s.det.period = some (a, k) → a + k ≤ n + 1 → Gives .realignPeriodEnd s (fun t =>
          t.filt = s.filt ∧ t.det.period = none ∧ ∀ e, (t.detEnt e).val = (s.detEnt e).sh))
      ∧ (∀ d, d < 8192 → Gives (.delayFadeEnd d) s (fun t => OnlyRegs [] s { t with heddle := s.heddle }
          ∧ ((∀ f, (s.dest d).fade = some f → n + 1 < f.s + f.f) → t.dest d = s.dest d)
          ∧ (∀ f, (s.dest d).fade = some f → f.s + f.f ≤ n + 1 → (s.dest d).held = none → t.dest d = { s.dest d with fade := none })
          ∧ (∀ f h, (s.dest d).fade = some f → f.s + f.f ≤ n + 1 → (s.dest d).held = some h →
              let g := dsF (s.dest d).eff R.DS_DFADE_Fade
              t.dest d = { s.dest d with now := h, held := none, fade := if g ≤ 1 then none else some { old := (s.dest d).now, s := n + 1, f := g } }))))

/-- R256, R257, R260: the detector window and the over log. Read shows the selected entry; Write answers the code of the check and stores
the words only where it passes; ClearMax sets PeakMax to the peak; an entry above 8,255 is out of range; OV_INFO pops the oldest over record. -/
def Obligations.DetectorWindow : Prop := ∀ s : State, Ready s →
  let e := s.get R.DT_SEL_Entry
  let ws := s.rdWords R.DT_CFG 6
  (8255 < e → ∀ c, c = .dtRead ∨ c = .dtClearMax → Gives c s (fun t => t.get R.DT_RESULT_Code = 1 ∧ t.det = s.det
      ∧ t.errWait = s.errWait ++ [turnedDown 0x10 R.DT_CMD 1 e]))
  ∧ (e ≤ 8255 → Gives .dtRead s (fun t => t.det = s.det ∧ t.get R.DT_PEAK_P = (s.detEnt e).val.p % 2 ^ 32 ∧ t.get R.DT_PEAKMAX_PeakMax = (s.detEnt e).top % 2 ^ 32
        ∧ t.get R.DT_GAIN_G = (s.detEnt e).val.g % 2 ^ 32 ∧ t.is R.DT_FLAGS_Over = (s.detEnt e).val.ovr ∧ t.get R.DT_RESULT_Code = 0)
      ∧ Gives .dtClearMax s (fun t => t.detEnt e = { s.detEnt e with top := (s.detEnt e).val.p } ∧ (∀ k, k ≠ e → t.detEnt k = s.detEnt k)
        ∧ t.get R.DT_RESULT_Code = 0))
  ∧ Gives .dtWrite s (fun t => t.get R.DT_RESULT_Code = dtCheck e ws ∧ (dtCheck e ws ≠ 0 → t.det = s.det) ∧ (dtCheck e ws = 0 → (t.detEnt e).cfg = ws))
  ∧ (∀ k n r, s.det.log = (k, n) :: r → Gives .ovInfoPop s (fun t => t.det = { s.det with log := r } ∧ t.get R.OV_INFO_Entry = k % 2 ^ 14
      ∧ t.is R.OV_INFO_Valid = true ∧ t.get R.OV_PICK_LO_Pick = n % 2 ^ 32 ∧ OnlyRegs [R.OV_INFO, R.OV_PICK_LO, R.OV_PICK_HI] s { t with det := s.det }))
  ∧ (s.det.log = [] → Gives .ovInfoPop s (fun t => Sends [.readData R.OV_INFO 0] s t ∧ OnlyRegs [R.OV_INFO, R.OV_PICK_LO, R.OV_PICK_HI] s t))

/-- R268, R270, R271: TDM port configuration. TDM_FMT is taken only while the port is disabled. Enabling checks the configuration: one that
fails leaves the port disabled with its result and a record; a slave port that passes waits for frames, a master outside running picks is
Running at once; disabling takes a port Off with its drivers. A permitted driver turns on at a frame start; a master outside running picks then
sends its frame of zeros.

R267, R270: a slave port's frames. In Running a frame that does not follow the last in pick slips the port to Waiting, one of a wrong length
does with a frame error; in Waiting two good frames of consecutive picks make it Running; the loss of BCLK takes a slave from Running to Waiting.
A port that is Off takes no frame. -/
def Obligations.TdmPorts : Prop :=
  (∀ (s : State) (k v : Nat), Ready s → k < 16 → v < 2 ^ 32 →
      let was := s.is (R.TDM_CTRL_Enable k)
      let code := (s.wrRW (R.TDM_CTRL k) v).tdmVerdict k
      (was = true → Ends (.tdmFmtWrite k v) s ((s.put (R.TDM_STATUS_LastResult k) 5).report (turnedDown 0x10 (R.TDM_FMT k) 5 0)))
      ∧ (was = false → Ends (.tdmFmtWrite k v) s (s.wrRW (R.TDM_FMT k) v))
      ∧ (was = bitOf v 0 → let u := s.wrRW (R.TDM_CTRL k) v
          let gated := u.is (R.TDM_STATUS_Driving k) = true ∧ u.is (R.TDM_CTRL_LeaseDrive k) = true ∧ s.is R.LEASE_STATUS_DriveOk = false
          (¬ gated → Ends (.tdmEnable k v) s u)
          ∧ (gated → Ends (.tdmEnable k v) s ((u.put (R.TDM_STATUS_Driving k) 0).bump (R.CNT_TDM_DRIVEOFF_Count k))))
      ∧ (was = true → bitOf v 0 = false → Gives (.tdmEnable k v) s (fun t => t.is (R.TDM_CTRL_Enable k) = false ∧ t.get (R.TDM_STATUS_State k) = 0
          ∧ t.is (R.TDM_STATUS_Driving k) = false))
      ∧ (was = false → bitOf v 0 = true → code ≠ 0 → Gives (.tdmEnable k v) s (fun t => t.is (R.TDM_CTRL_Enable k) = false
          ∧ t.get (R.TDM_STATUS_LastResult k) = code ∧ t.errWait = s.errWait ++ [turnedDown 0x10 (R.TDM_CTRL k) code 0]))
      ∧ (was = false → bitOf v 0 = true → code = 0 → Gives (.tdmEnable k v) s (fun t => t.is (R.TDM_CTRL_Enable k) = true ∧ t.get (R.TDM_STATUS_LastResult k) = 0
          ∧ t.errWait = s.errWait ∧ (bitOf v 3 = false → t.get (R.TDM_STATUS_State k) = 1)
          ∧ (bitOf v 3 = true → s.time.running = false → t.get (R.TDM_STATUS_State k) = 2)))
      ∧ Ends (.tdmDriveOn k) s (if s.tdmMayDrive k then (s.put (R.TDM_STATUS_Driving k) 1).tdmIdleOne k else s))
  ∧ (∀ (s : State) (k : Nat) (f : TdmFrame), Ready s → k < 16 →
      let n := tdmPick s.fs (s.media (s.tdmFsTime k f))
      let good := f.bits = s.get (R.TDM_FMT_FrameBits k)
      let st := s.get (R.TDM_STATUS_State k)
      let follows := n ≠ none ∧ n = (s.tdmSt k).last.map (· + 1)
      (st = 0 → Ends (.tdmFrameRx k f) s s)
      ∧ (s.is (R.TDM_CTRL_Master k) = false →
        (st = 2 → ¬ follows → Gives (.tdmFrameRx k f) s (fun t => t.get (R.TDM_STATUS_State k) = 1
            ∧ t.get (R.CNT_TDM_SLIP_Count k) = (s.get (R.CNT_TDM_SLIP_Count k) + 1) % 2 ^ 32 ∧ t.src = s.src))
        ∧ (st = 2 → follows → ¬ good → Gives (.tdmFrameRx k f) s (fun t => t.get (R.TDM_STATUS_State k) = 1
            ∧ t.get (R.CNT_TDM_FRAMEERR_Count k) = (s.get (R.CNT_TDM_FRAMEERR_Count k) + 1) % 2 ^ 32 ∧ t.src = s.src))
        ∧ (st = 2 → follows → good → Gives (.tdmFrameRx k f) s (fun t => t.get (R.TDM_STATUS_State k) = 2 ∧ (t.tdmSt k).last = n))
        ∧ (st = 1 → n ≠ none → good → (s.tdmSt k).ok.map (· + 1) = n → Gives (.tdmFrameRx k f) s (fun t => t.get (R.TDM_STATUS_State k) = 2))
        ∧ (st = 1 → n = none ∨ ¬ good → Gives (.tdmFrameRx k f) s (fun t => t.get (R.TDM_STATUS_State k) = 1 ∧ (t.tdmSt k).ok = none ∧ t.src = s.src))
        ∧ (st = 1 → n ≠ none → good → (s.tdmSt k).ok.map (· + 1) ≠ n → Gives (.tdmFrameRx k f) s (fun t => t.get (R.TDM_STATUS_State k) = 1
            ∧ (t.tdmSt k).ok = n ∧ t.src = s.src)))
      ∧ (¬ (st = 2 ∧ s.is (R.TDM_CTRL_Master k) = false) → Ends (.tdmClockLoss k) s s)
      ∧ (st = 2 → s.is (R.TDM_CTRL_Master k) = false → Gives (.tdmClockLoss k) s (fun t => t.get (R.TDM_STATUS_State k) = 1
          ∧ t.get (R.CNT_TDM_CLKLOSS_Count k) = (s.get (R.CNT_TDM_CLKLOSS_Count k) + 1) % 2 ^ 32
          ∧ OnlyRegs [R.TDM_STATUS k, R.CNT_TDM_CLKLOSS k] s { t with tdm := s.tdm })))

/-- R273 to R279: a local link. It sends one frame a pick of the blocks its rate gives, while it and its transmitter are enabled, picks run and an
index has been mixed; a received frame with a wrong CRC, or of a wrong form, is counted and taken no further; a link that is Up with sixteen picks
without a good frame goes to Hunt.

R280, R281: control cells. Send queues the mailbox's eight words for the next frame, and is refused while a cell waits or where its length is
above 28; CC_RX_INFO pops the oldest received cell; a partner whose last Hello is 256 picks old is seen no more. -/
def Obligations.LocalLinks : Prop :=
  (∀ (s : State) (k : Nat), Ready s → k < 4 →
      (s.heddle.last = none ∨ s.is (R.LL_CTRL_Enable k) = false ∨ s.is (R.LL_CTRL_TxEn k) = false ∨ s.time.running = false ∨ (s.llSt k).sent = true →
        Ends (.llFrameTx k) s s)
      ∧ (∀ n, s.heddle.last = some n → s.is (R.LL_CTRL_Enable k) = true → s.is (R.LL_CTRL_TxEn k) = true → s.time.running = true → (s.llSt k).sent = false →
          Gives (.llFrameTx k) s (fun t => (t.llSt k).sent = true ∧ (t.llSt k).mbox = none
            ∧ ∃ blocks, Sends [.linkFrame k blocks] s t ∧ blocks.length = linkWords s.fs / 2 + 7))
      ∧ (∀ f : LlFrame,
          let line := scramble scrambleInit (f.blocks.flatMap Prod.snd)
          (s.get (R.LL_STATUS_State k) = 0 → Ends (.llFrameRx k f) s s)
          ∧ (s.get (R.LL_STATUS_State k) ≠ 0 → s.linkBad f line = some true → Ends (.llFrameRx k f) s (s.bump (R.CNT_LL_CRC_Count k)))
          ∧ (s.get (R.LL_STATUS_State k) ≠ 0 → s.linkBad f line = some false → Ends (.llFrameRx k f) s (s.bump (R.CNT_LL_FORMAT_Count k)))
          ∧ (s.get (R.LL_STATUS_State k) ≠ 0 → s.linkBad f line = none → Gives (.llFrameRx k f) s (fun t =>
              t.get (R.LL_STATUS_PeerFlags k) = beAt line 3 1 ∧ t.get (R.LL_STATUS_PeerUnit k) = beAt line 5 2 ∧ (s.time.running = true → (t.llSt k).good = true))))
      ∧ (¬ (s.get (R.LL_STATUS_State k) = 2 ∧ 16 ≤ (s.llSt k).dry) → Ends (.llLinkDown k) s s)
      ∧ (s.get (R.LL_STATUS_State k) = 2 → 16 ≤ (s.llSt k).dry → Gives (.llLinkDown k) s (fun t => t.get (R.LL_STATUS_State k) = 1 ∧ (t.llSt k).dry = 0
          ∧ t.get (R.CNT_LL_DOWN_Count k) = (s.get (R.CNT_LL_DOWN_Count k) + 1) % 2 ^ 32 ∧ OnlyRegs [R.LL_STATUS k, R.CNT_LL_DOWN k] s { t with ll := s.ll })))
  ∧ (∀ (s : State) (k : Nat), Ready s → k < 4 →
      let ws := s.rdWords (R.CC_TX_W k 0) 8
      let long := 28 < (ws.getD 0 0#32).toNat / 2 ^ 24
      ((s.llSt k).mbox.isSome = true ∨ long → Ends (.ccTxSend k) s (s.report (turnedDown 0x10 (R.CC_TX_CMD k) 0xFF 0)))
      ∧ ((s.llSt k).mbox = none → ¬ long → Gives (.ccTxSend k) s (fun t => (t.llSt k).mbox = some ws ∧ t.is (R.LL_STATUS_CcPending k) = true
          ∧ OnlyRegs [R.LL_STATUS k] s { t with ll := s.ll }))
      ∧ Gives (.ccRxPop k) s (fun t => (t.llSt k).fifo = (s.llSt k).fifo.drop 1 ∧ t.is (R.CC_RX_INFO_Valid k) = !(s.llSt k).fifo.isEmpty
          ∧ (∀ c r, (s.llSt k).fifo = c :: r → c.length = 8 → ∀ i, i < 8 → t.rd (R.CC_RX_W k i) = c.getD i 0#32))
      ∧ ((s.llSt k).hello = none → Ends (.llPartnerSeenTimeout k) s s)
      ∧ (∀ h, (s.llSt k).hello = some h → h ≤ s.time.pick → s.time.pick < h + 256 → Ends (.llPartnerSeenTimeout k) s s)
      ∧ (∀ h, (s.llSt k).hello = some h → h + 256 ≤ s.time.pick ∨ s.time.pick < h → Gives (.llPartnerSeenTimeout k) s (fun t => t.is (R.LL_STATUS_PartnerSeen k) = false
          ∧ (t.llSt k).hello = none ∧ OnlyRegs [R.LL_STATUS k] s { t with ll := s.ll })))

/-- R289, R291, R295, R296: the commands and timers of the lease logic. A grant needs a capture since the last one, counts from it less two
parts in ten thousand, and does nothing once its end has passed; a timer that runs out ends its lease, and without a PulseAck in time a unit of a domain
whose link is down fences itself; after each change the levels of Holding, LeaseOut, Collision and DriveOk follow, and DriveOk rises once its conditions
have held for one microsecond. -/
def Obligations.LeaseLogicCommands : Prop := ∀ (s : State) (ms : Nat),
  let endOf := fun tc => tc + min ms (s.get R.LEASE_TIME_DurationMs) * 624875
  (∀ b, Gives (.leaseInChange b) s (fun t => t.is R.LEASE_STATUS_LeaseIn = b ∧ LeaseLevels t))
  ∧ (Ready s →
    Ends .leaseCapture s { s with lease := { s.lease with cap := some s.xref } }
    ∧ Ends .reserveCapture s { s with lease := { s.lease with resCap := some s.xref } }
    ∧ (s.lease.cap = none → Ends (.leaseGrant ms) s (s.report (turnedDown 0x10 R.LEASE_CMD 0xFF 0)))
    ∧ (∀ tc, s.lease.cap = some tc → endOf tc ≤ s.xref → Ends (.leaseGrant ms) s { s with lease := { s.lease with cap := none } })
    ∧ (∀ tc, s.lease.cap = some tc → s.xref < endOf tc → Gives (.leaseGrant ms) s (fun t => t.lease.cap = none ∧ t.lease.endAt = endOf tc
        ∧ t.is R.LEASE_STATUS_LeaseValid = true ∧ t.xref = s.xref ∧ LeaseLevels t))
    ∧ (s.lease.resCap = none → Ends (.reserveGrant ms) s (s.report (turnedDown 0x10 R.LEASE_CMD 0xFF 0)))
    ∧ (∀ tc, s.lease.resCap = some tc → endOf tc ≤ s.xref → Ends (.reserveGrant ms) s { s with lease := { s.lease with resCap := none } })
    ∧ (∀ tc, s.lease.resCap = some tc → s.xref < endOf tc → Gives (.reserveGrant ms) s (fun t => t.lease.resCap = none ∧ t.lease.resEnd = endOf tc
        ∧ t.is R.LEASE_STATUS_ReserveValid = true ∧ t.xref = s.xref ∧ LeaseLevels t))
    ∧ Gives .leaseRelease s (fun t => t.is R.LEASE_STATUS_LeaseValid = false ∧ LeaseLevels t)
    ∧ Gives .releaseReserve s (fun t => t.is R.LEASE_STATUS_ReserveValid = false ∧ t.is R.LEASE_STATUS_ReserveActive = false ∧ LeaseLevels t)
    ∧ Gives .pulseAck s (fun t => t.is R.LEASE_STATUS_Fenced = false ∧ t.lease.ackAt = s.xref ∧ LeaseLevels t)
    ∧ Gives .setRosterAbsent s (fun t => t.is R.LEASE_STATUS_RosterAbsent = true ∧ LeaseLevels t
        ∧ (s.is R.LEASE_STATUS_ReserveValid = true → s.is R.LEASE_STATUS_LeaseIn = false → s.svUp = false → t.is R.LEASE_STATUS_ReserveActive = true))
    ∧ Gives .clearRosterAbsent s (fun t => t.is R.LEASE_STATUS_RosterAbsent = false ∧ LeaseLevels t)
    ∧ (s.is R.LEASE_STATUS_LeaseValid = false → Ends .leaseExpire s s)
    ∧ (s.is R.LEASE_STATUS_LeaseValid = true → Gives .leaseExpire s (fun t => t.is R.LEASE_STATUS_LeaseValid = false ∧ t.xref = max s.xref s.lease.endAt
        ∧ t.get R.CNT_LEASE_EXPIRE_Count = (s.get R.CNT_LEASE_EXPIRE_Count + 1) % 2 ^ 32 ∧ LeaseLevels t))
    ∧ (s.is R.LEASE_STATUS_ReserveValid = false → Ends .reserveExpire s s)
    ∧ (s.is R.LEASE_STATUS_ReserveValid = true → Gives .reserveExpire s (fun t => t.is R.LEASE_STATUS_ReserveValid = false
        ∧ t.is R.LEASE_STATUS_ReserveActive = false ∧ t.xref = max s.xref s.lease.resEnd ∧ LeaseLevels t))
    ∧ (s.lease.armAt = none → Ends .driveokArm s s)
    ∧ (∀ a, s.lease.armAt = some a → Ends .driveokArm s (({ s with xref := max s.xref (a + 625) } : State).put R.LEASE_STATUS_DriveOk 1))
    ∧ (s.get R.LEASE_CTRL_Mode ≠ 1 ∨ s.svUp = true → Ends .fenceTimeout s s)
    ∧ (s.get R.LEASE_CTRL_Mode = 1 → s.svUp = false → s.is R.LEASE_STATUS_Fenced = true → Ends .fenceTimeout s { s with xref := max s.xref s.fenceAt })
    ∧ (s.get R.LEASE_CTRL_Mode = 1 → s.svUp = false → s.is R.LEASE_STATUS_Fenced = false → Gives .fenceTimeout s (fun t =>
        t.is R.LEASE_STATUS_Fenced = true ∧ t.is R.LEASE_STATUS_DriveOk = false ∧ t.get R.CNT_FENCE_Count = (s.get R.CNT_FENCE_Count + 1) % 2 ^ 32 ∧ LeaseLevels t)))

/-- R291 to R297, R309, R310: the firmware of a unit. A Pulse leaves every PulseUs of a unit that holds or has a reserve, a Request with its
capture at each renewal, to the manager or, in SelfArb, to the partner; a report of absence where the line and the link are dead; a Grant acts only
where it answers the last Request, and is released where the unit has given the partner a lease, as a ReserveGrant only where it answers the last
ReserveRequest, and one whose end has passed gives no lease; a denied report changes nothing; a standby in
SelfArb with SilentTakeover grants itself a lease DurationMs + GuardMs after its last grant. -/
def Obligations.LeaseMessagesOfAUnit : Prop := ∀ (s : State) (m : LeaseMsg), Ready s →
  let mode := s.get R.LEASE_CTRL_Mode
  let n := (s.lease.seq + 1) % 2 ^ 32
  let d := s.get R.LEASE_TIME_DurationMs
  let msg := fun (k q g : Nat) => ({ kind := k, unit := s.get R.SH_UNIT_Unit, partner := s.get R.SV_PARTNER_Unit, seq := q, grantMs := g, flags := s.leaseFlags } : LeaseMsg)
  let mgr := s.obj 0x1204 0
  let asks := fun (c : Instr) (out : Sent) (l : LeaseSt) => Gives c s (fun t => Sends [out] s t ∧ t.lease = l ∧ OnlyRegs [] s { t with lease := s.lease })
  (¬ (mode = 1 ∧ (s.is R.LEASE_STATUS_Holding = true ∨ s.is R.LEASE_STATUS_ReserveValid = true)) → Ends .pulseTx s s)
  ∧ (mode = 1 → s.is R.LEASE_STATUS_Holding = true ∨ s.is R.LEASE_STATUS_ReserveValid = true →
      asks .pulseTx (.lease mgr (msg 6 n 0)) { s.lease with seq := n })
  ∧ (mode = 1 → asks (.leaseRenewTx false) (.lease mgr (msg 1 n 0)) { s.lease with seq := n, cap := some s.xref, reqSeq := some n }
      ∧ asks (.leaseRenewTx true) (.lease mgr (msg 4 n 0)) { s.lease with seq := n, resCap := some s.xref, resSeq := some n })
  ∧ (mode = 2 → s.svUp = true → asks (.leaseRenewTx false) (.svCtrl (.lease (msg 1 n 0))) { s.lease with seq := n, cap := some s.xref, reqSeq := some n })
  ∧ (mode = 2 → s.svUp = false → s.is R.LEASE_STATUS_LeaseValid = true → s.is R.LEASE_CTRL_SilentTakeover = false → 0 < d → Gives (.leaseRenewTx false) s (fun t =>
      t.is R.LEASE_STATUS_LeaseValid = true ∧ t.lease.endAt = s.xref + d * 624875))
  ∧ (mode = 2 → s.svUp = false → s.is R.LEASE_STATUS_LeaseValid = false ∨ s.is R.LEASE_CTRL_SilentTakeover = true → Ends (.leaseRenewTx false) s s)
  ∧ (mode = 2 → Ends (.leaseRenewTx true) s s)
  ∧ (mode = 0 ∨ mode = 3 → Ends (.leaseRenewTx false) s s ∧ Ends (.leaseRenewTx true) s s)
  ∧ (mode = 1 → s.is R.LEASE_STATUS_LeaseIn = false → s.svUp = false → asks .absenceReportTx (.lease mgr (msg 8 n 0)) { s.lease with seq := n })
  ∧ (mode ≠ 1 ∨ s.is R.LEASE_STATUS_LeaseIn = true ∨ s.svUp = true → Ends .absenceReportTx s s)
  ∧ (mode ≠ 1 ∨ m.kind ≠ 2 ∨ s.lease.reqSeq ≠ some m.seq → Ends (.leaseGrantMsg m) s s)
  ∧ (mode = 1 → m.kind = 2 → s.lease.reqSeq = some m.seq →
      (s.gaveLately = true → Ends (.leaseGrantMsg m) s (s.send (.lease mgr (msg 3 m.seq 0))))
      ∧ (∀ tc, s.gaveLately = false → s.lease.cap = some tc → s.xref < s.grantEnd tc m.grantMs → Gives (.leaseGrantMsg m) s (fun t =>
          t.is R.LEASE_STATUS_LeaseValid = true ∧ t.lease.endAt = s.grantEnd tc m.grantMs ∧ t.is R.LEASE_STATUS_InFallback = false
          ∧ t.is R.LEASE_STATUS_ReserveActive = false))
      ∧ (s.gaveLately = false → (∀ tc, s.lease.cap = some tc → s.grantEnd tc m.grantMs ≤ s.xref) → Gives (.leaseGrantMsg m) s (fun t =>
          t.is R.LEASE_STATUS_LeaseValid = s.is R.LEASE_STATUS_LeaseValid ∧ t.lease.endAt = s.lease.endAt ∧ t.is R.LEASE_STATUS_InFallback = false)))
  ∧ (∀ tc, mode = 1 → m.kind = 5 → s.lease.resSeq = some m.seq → s.lease.resCap = some tc → s.xref < s.grantEnd tc m.grantMs → Gives (.reserveGrantMsg m) s (fun t =>
      t.is R.LEASE_STATUS_ReserveValid = true ∧ t.lease.resEnd = s.grantEnd tc m.grantMs))
  ∧ (mode ≠ 1 ∨ m.kind ≠ 5 ∨ s.lease.resSeq ≠ some m.seq → Ends (.reserveGrantMsg m) s s)
  ∧ (mode = 1 → m.kind = 5 → s.lease.resSeq = some m.seq → (∀ tc, s.lease.resCap = some tc → s.grantEnd tc m.grantMs ≤ s.xref) → Gives (.reserveGrantMsg m) s (fun t =>
      t.is R.LEASE_STATUS_ReserveValid = s.is R.LEASE_STATUS_ReserveValid ∧ t.lease.resEnd = s.lease.resEnd))
  ∧ (mode ≠ 1 ∨ m.kind ≠ 7 → Ends (.pulseAckMsg m) s s) ∧ (mode ≠ 1 ∨ m.kind ≠ 9 → Ends (.absentConfirm m) s s)
  ∧ (mode = 1 → m.kind = 7 → Gives (.pulseAckMsg m) s (fun t => t.is R.LEASE_STATUS_Fenced = false ∧ t.lease.ackAt = s.xref))
  ∧ (mode = 1 → m.kind = 9 → Gives (.absentConfirm m) s (fun t => t.is R.LEASE_STATUS_RosterAbsent = true))
  ∧ Ends (.deny m) s s
  ∧ (mode ≠ 1 ∨ s.is R.LEASE_CTRL_Fallback = false ∨ s.is R.LEASE_STATUS_Holding = false ∨ s.svUp = false → Ends .fallbackRequest s s)
  ∧ (s.lease.gaveAt = none ∨ mode ≠ 2 ∨ s.is R.LEASE_CTRL_SilentTakeover = false ∨ s.svUp = true ∨ s.is R.LEASE_STATUS_Holding = true
      ∨ s.is R.LEASE_STATUS_LeaseIn = true → Ends .silentTakeover s s)
  ∧ (mode = 1 → s.is R.LEASE_CTRL_Fallback = true → s.is R.LEASE_STATUS_Holding = true → s.svUp = true → Gives .fallbackRequest s (fun t =>
      t.lease.reqSeq = some n ∧ ∃ q : LeaseMsg, q.kind = 1 ∧ q.seq = n ∧ Sent.svCtrl (.lease q) ∈ t.outbox))
  ∧ (∀ g, s.lease.gaveAt = some g → mode = 2 → s.is R.LEASE_CTRL_SilentTakeover = true → s.svUp = false → s.is R.LEASE_STATUS_Holding = false →
      s.is R.LEASE_STATUS_LeaseIn = false → 0 < d → Gives .silentTakeover s (fun t => t.is R.LEASE_STATUS_Holding = true
        ∧ t.lease.endAt = max s.xref (g + (d + s.get R.LEASE_TIME_GuardMs) * 625000) + d * 624875 ∧ t.lease.gaveAt = none))

/-- R293, R295, R297: the manager. A holder's Request is granted again, an unfit holder's is released where its partner is fit; while the start-up
window is open only a unit that says it holds is granted; another unit is granted only once its partner's last lease has ended GuardMs ago or was
released, and only the unit the choice of holder names. A Pulse is acknowledged and denies the reports that its unit is absent; a report of absence is
confirmed once no Pulse has come for three PulseUs; the partner of a departed unit is granted once that unit's lease has ended GuardMs ago. A unit that
does not run the domain does nothing, nor does a message of an unknown unit or of another kind. -/
def Obligations.ManagerGrantsOneHolder : Prop := ∀ (s : State) (l : LeaseMsg), Ready s →
  let d := s.get R.LEASE_TIME_DurationMs
  let out := fun (dst k q g : Nat) => Sent.lease dst { kind := k, unit := s.get R.SH_UNIT_Unit, partner := 0, seq := q, grantMs := g, flags := 0 }
  let mate := s.dom.roster.find? (fun x => decide (x.info.unit = l.partner ∧ x.info.unit ≠ l.unit))
  let unfit := bitOf l.flags 1 || bitOf l.flags 2
  (s.manages = false → ∀ c, c = .leaseRequest l ∨ c = .leaseReleaseMsg l ∨ c = .reserveRequest l ∨ c = .pulse l ∨ c = .absenceReport l ∨
      c = .absentConfirmDue l.unit ∨ c = .leaseGuardEnd l.unit → Ends c s s)
  ∧ (s.member l.unit = none → ∀ c, c = .leaseRequest l ∨ c = .leaseReleaseMsg l ∨ c = .reserveRequest l ∨ c = .pulse l ∨ c = .absenceReport l ∨
      c = .absentConfirmDue l.unit ∨ c = .leaseGuardEnd l.unit → Ends c s s)
  ∧ ((l.kind ≠ 1 → Ends (.leaseRequest l) s s) ∧ (l.kind ≠ 3 → Ends (.leaseReleaseMsg l) s s) ∧ (l.kind ≠ 4 → Ends (.reserveRequest l) s s)
      ∧ (l.kind ≠ 6 → Ends (.pulse l) s s) ∧ (l.kind ≠ 8 ∨ s.member l.partner = none → Ends (.absenceReport l) s s))
  ∧ (s.dom.holdoff = none → Ends .managerHoldoffEnd s s)
  ∧ (∀ t, s.dom.holdoff = some t → Ends .managerHoldoffEnd s { s with xref := max s.xref t, dom := { s.dom with holdoff := none } })
  ∧ (∀ m, s.manages = true → s.member l.unit = some m →
    let granted := fun (t : State) => Sends [out l.unit 2 l.seq d] s t ∧ (t.member l.unit).bind (fun x => x.leaseEnd) = some (s.xref + d * 625000)
    let quiet := fun (t : State) => Sends [] s t ∧ (t.member l.unit).bind (fun x => x.leaseEnd) = m.leaseEnd
    let again := s.memHolds m = true ∨ (s.dom.holdoff.isSome = true ∧ bitOf l.flags 0 = true)
    let fit := mate.any (fun x => decide (x.info.state = 1) && !x.unfit)
    let pick := chosen { m with fault := bitOf l.flags 1 } mate
    (l.kind = 1 → Gives (.leaseRequest l) s (fun t =>
        (m.info.state ≠ 1 → quiet t)
        ∧ (m.info.state = 1 → again → (unfit && fit) = false → granted t)
        ∧ (m.info.state = 1 → again → (unfit && fit) = true → Sends [out l.unit 3 l.seq 0] s t)
        ∧ (m.info.state = 1 → ¬ again → s.dom.holdoff.isSome = true ∨ s.mateFree mate = false ∨ pick = false → quiet t)
        ∧ (m.info.state = 1 → ¬ again → s.dom.holdoff = none → s.mateFree mate = true → pick = true → granted t)))
    ∧ (l.kind = 3 → Gives (.leaseReleaseMsg l) s (fun t => (t.member l.unit).bind (fun x => x.leaseEnd) = none ∧ Sends [] s t))
    ∧ (l.kind = 4 → Gives (.reserveRequest l) s (fun t =>
        Sends (if m.info.state = 1 ∧ s.memHolds m = false ∧ bitOf l.flags 1 = false then [out l.unit 5 l.seq d] else []) s t))
    ∧ (l.kind = 6 → s.reports l.unit = [] → Gives (.pulse l) s (fun t => Sends [out l.unit 7 l.seq 0] s t ∧ (t.member l.unit).map (fun x => x.pulse) = some s.xref))
    ∧ (∀ y q, l.kind = 6 → s.reports l.unit = [y] → y.info.unit ≠ l.unit → y.report = some q → Gives (.pulse l) s (fun t =>
        Sends [out l.unit 7 l.seq 0, out y.info.unit 10 q.1 0] s t))
    ∧ (l.kind = 6 → Gives (.pulse l) s (fun t => out l.unit 7 l.seq 0 ∈ t.outbox
        ∧ ∀ y ∈ s.reports l.unit, ∃ q : LeaseMsg, q.kind = 10 ∧ Sent.lease y.info.unit q ∈ t.outbox))
    ∧ (∀ x, l.kind = 8 → s.member l.partner = some x →
        (x.info.state = 1 → s.xref < x.pulse + 3 * s.get R.PULSE_CFG_PulseUs * 625 → Gives (.absenceReport l) s (fun t =>
          Sends [] s t ∧ (t.member l.unit).bind (fun y => y.report) = some (l.seq, l.partner)))
        ∧ (x.info.state ≠ 1 ∨ x.pulse + 3 * s.get R.PULSE_CFG_PulseUs * 625 ≤ s.xref → Gives (.absenceReport l) s (fun t =>
          out l.unit 9 l.seq 0 ∈ t.outbox)))
    ∧ (s.reports l.unit = [] → Ends (.absentConfirmDue l.unit) s s)
    ∧ (s.reports l.unit ≠ [] → Gives (.absentConfirmDue l.unit) s (fun t => ∀ y ∈ s.reports l.unit, ∃ q : LeaseMsg, q.kind = 9 ∧ Sent.lease y.info.unit q ∈ t.outbox))
    ∧ (s.dom.holdoff.isSome = true ∨ m.info.state = 1 → Ends (.leaseGuardEnd l.unit) s s)
    ∧ (let at_ := (m.leaseEnd.map (fun e => max s.xref (e + s.get R.LEASE_TIME_GuardMs * 625000))).getD s.xref
       s.dom.holdoff = none → m.info.state ≠ 1 →
        (∀ p, s.partnerOf m = some p → p.info.state = 1 → p.unfit = false → (p.leaseEnd.any (fun e => decide (at_ < e))) = false →
          Gives (.leaseGuardEnd l.unit) s (fun t => Sends [out p.info.unit 2 p.reqSeq d] s t ∧ t.xref = at_
            ∧ (t.member p.info.unit).bind (fun x => x.leaseEnd) = some (at_ + d * 625000)))
        ∧ ((∀ p, s.partnerOf m = some p → p.info.state ≠ 1 ∨ p.unfit = true ∨ (p.leaseEnd.any (fun e => decide (at_ < e))) = true) →
          Ends (.leaseGuardEnd l.unit) s { s with xref := at_ })))

/-- R290, R299 to R302, R304, R308: the link. A link that is off sends and takes nothing; a frame whose CRC fails is only counted; a good Beat
brings the link Up and shows the partner's levels; an Up link that goes down counts it, resets its master and forgets a partial epoch; Beats carry
the pick that ended at the latest strobe once, or no pick while picks do not run; a Time frame gives the one-way delay and REF9's offset; a good frame of
another type or length than the command takes changes nothing; a Ctrl frame acts by its content: questions and answers on digests, epochs, leases, cues and
planned offsets. -/
def Obligations.SelvedgeLink : Prop := ∀ (s : State) (bytes : List Byte), Ready s →
  let st := s.get R.SV_STATUS_State
  let q := fun (k : Nat) => tget 0 s.sv.seqs k
  (s.svUp = false → Ends .selvedgeDown s s)
  ∧ (s.svUp = true → Gives .selvedgeDown s (fun t => t.get R.SV_STATUS_State = 1 ∧ t.is R.SV_STATUS_Silent = true ∧ t.sv.part = none
      ∧ t.is R.LEASE_STATUS_PinMismatch = false ∧ t.get R.CNT_SV_DOWN_Count = (s.get R.CNT_SV_DOWN_Count + 1) % 2 ^ 32
      ∧ t.get R.CNT_MRESET_Count = (s.get R.CNT_MRESET_Count + 1) % 2 ^ 32 ∧ LeaseLevels t))
  ∧ (st = 0 → Ends .selvedgeBeatTx s s ∧ Ends .timeFrameTx s s ∧ Ends (.selvedgeBeatRx bytes) s s ∧ (∀ a, Ends (.timeFrameRx bytes a) s s)
      ∧ (∀ m ok, Ends (.selvedgeCtrlRx m ok) s s) ∧ Ends (.copyFrameRx bytes) s s ∧ Ends (.commitFrameRx bytes) s s)
  ∧ (st ≠ 0 → svParse bytes = none → ∀ a m c, c = .selvedgeBeatRx bytes ∨ c = .timeFrameRx bytes a ∨ c = .selvedgeCtrlRx m false ∨ c = .copyFrameRx bytes
      ∨ c = .commitFrameRx bytes → Ends c s (s.bump R.CNT_SV_CRC_Count))
  ∧ (∀ p, st = 1 ∨ st = 2 → svParse bytes = some (1, p) → p.length = 436 → Gives (.selvedgeBeatRx bytes) s (fun t => t.svUp = true
      ∧ t.is R.SV_STATUS_PartnerLeaseOut = bitOf (beAt p 8 1) 0 ∧ t.is R.SV_STATUS_PartnerHolding = bitOf (beAt p 8 1) 1
      ∧ t.get R.SV_PARTNER_Unit = beAt p 10 2 ∧ LeaseLevels t))
  ∧ (st ≠ 0 → s.picksRun = false → Gives .selvedgeBeatTx s (fun t => Sends [.selvedge (svFrame 1 (q 1) (s.beatBytes (2 ^ 64 - 1) none []))] s t
      ∧ tget 0 t.sv.seqs 1 = (q 1 + 1) % 2 ^ 32 ∧ OnlyRegs [R.LEASE_STATUS] s { t with sv := s.sv }))
  ∧ (∀ m ins, st ≠ 0 → s.picksRun = true → s.dig.last = some (m, ins) → Gives .selvedgeBeatTx s (fun t => t.sv.beat = some m
      ∧ Sends (if s.sv.beat = some m then [] else [.selvedge (svFrame 1 (q 1) (s.beatBytes m (s.pickDigest m) ins))]) s t))
  ∧ (st ≠ 0 → s.picksRun = true → s.dig.last = none → Gives .selvedgeBeatTx s (fun t => Sends [] s t ∧ OnlyRegs [R.LEASE_STATUS] s t))
  ∧ (∀ t p a, svParse bytes = some (t, p) → (t ≠ 1 ∨ p.length ≠ 436 → Ends (.selvedgeBeatRx bytes) s s) ∧ (t ≠ 2 ∨ p.length ≠ 40 → Ends (.timeFrameRx bytes a) s s)
      ∧ (t ≠ 3 → Ends (.copyFrameRx bytes) s s) ∧ (t ≠ 4 → Ends (.commitFrameRx bytes) s s))
  ∧ (s.is R.SV_CTRL_TimeEnable = false → Ends .timeFrameTx s s)
  ∧ (st ≠ 0 → s.is R.SV_CTRL_TimeEnable = true → Gives .timeFrameTx s (fun t => ∃ p, Sends [.selvedge (svFrame 2 (q 2) p)] s t ∧ p.length = 40
      ∧ p.take 12 = timeStamp (next10us s.time.tai) ∧ t.time.tai = next10us s.time.tai ∧ OnlyRegs [] s { t with sv := s.sv, time := { t.time with tai := s.time.tai } }))
  ∧ (∀ p (a : Nat), st ≠ 0 → svParse bytes = some (2, p) → p.length = 40 → Gives (.timeFrameRx bytes a) s (fun t => t.sv.tIn = some (timeAt p 0, a)
      ∧ (timeAt p 12 = 0 ∧ timeAt p 24 = 0 → (t.refSt 9).off = (s.refSt 9).off ∧ t.getI R.SV_DELAY_Delay = s.getI R.SV_DELAY_Delay)
      ∧ (timeAt p 12 ≠ 0 ∨ timeAt p 24 ≠ 0 →
          let delay : Int := (((timeAt p 12 : Int) - timeAt p 24) + ((a : Int) - timeAt p 0)) / 2
          t.getI R.SV_DELAY_Delay = toSigned 32 (ofSigned 32 delay) ∧ (t.refSt 9).off = (timeAt p 0 : Int) + delay - a)))
  ∧ (st ≠ 0 → (∀ m, Ends (.selvedgeCtrlRx (.digestAsk m) true) s (s.send (.svCtrl (.digestAnswer m ((s.dig.hist.find? (fun e => decide (e.1 = m))).map Prod.snd)))))
      ∧ Ends (.selvedgeCtrlRx .epochRequest true) s { s with sv := { s.sv with full := true } }
      ∧ (∀ e, Gives (.selvedgeCtrlRx (.epochAck e) true) s (fun t => t.get R.EPOCH_ACK_Epoch = e % 2 ^ 32
          ∧ OnlyRegs [R.EPOCH_ACK] s { t with sv := s.sv }))
      ∧ (∀ m ds, Ends (.selvedgeCtrlRx (.digestAnswer m ds) true) s (s.pairAnswer m ds))
      ∧ (∀ l, Ends (.selvedgeCtrlRx (.lease l) true) s (s.svLease l))
      ∧ (∀ b, Ends (.selvedgeCtrlRx (.cue b) true) s (s.cuePush (wordsOf b) .epoch 0).2)
      ∧ (∀ xs, Gives (.selvedgeCtrlRx (.plan xs) true) s (fun t => OnlyRegs [] s { t with temple := s.temple })))

/-- R304 to R308: state copy. The sender sends the next epoch, whole where one is owed; a receiver gathers Copy frames of one epoch, drops the
frames of another, and at the Commit takes the epoch only where length, CRC, base, count and every check hold, and otherwise keeps its state, counts
it and asks for a full one; an epoch that waits is applied and acknowledged; a partial one is dropped after TimeoutMs. -/
def Obligations.EpochsAreCopiedWhole : Prop := ∀ (s : State) (bytes p : List Byte), Ready s →
  let e := beAt p 0 4
  let open_ := s.svUp = true ∧ s.is R.SV_CTRL_CopyEnable = true
  (s.epochSends = false → Ends .epochBuild s s)
  ∧ (s.epochSends = true → Gives .epochBuild s (fun t => t.get R.EPOCH_TX_Epoch = (s.get R.EPOCH_TX_Epoch + 1) % 2 ^ 32 ∧ t.sv.full = false ∧ t.sv.ledger = []
      ∧ t.sv.sent = s.sv.sent ++ [((s.get R.EPOCH_TX_Epoch + 1) % 2 ^ 32, s.epochValues)]
      ∧ (s.sv.full = true → ∃ pre n c crc, Sends (pre ++ [.selvedge (svFrame 4 (tget 0 s.sv.seqs 4)
          (beBytes 4 ((s.get R.EPOCH_TX_Epoch + 1) % 2 ^ 32) ++ beBytes 4 0 ++ beBytes 4 n ++ beBytes 4 c ++ beBytes 4 crc))]) s t)))
  ∧ (svParse bytes = some (3, p) → 8 ≤ p.length → open_ →
      (∀ b t0, s.sv.part = some (e, b, t0) → Gives (.copyFrameRx bytes) s (fun t => t.sv.part = some (e, copyAt b (beAt p 4 4) (p.drop 8), t0)
        ∧ t.is R.SV_STATUS_Receiving = true ∧ t.get R.CNT_EPOCH_DISCARD_Count = s.get R.CNT_EPOCH_DISCARD_Count))
      ∧ (∀ k b t0, s.sv.part = some (k, b, t0) → k ≠ e → Gives (.copyFrameRx bytes) s (fun t => t.sv.part = some (e, copyAt [] (beAt p 4 4) (p.drop 8), s.xref)
        ∧ t.get R.CNT_EPOCH_DISCARD_Count = (s.get R.CNT_EPOCH_DISCARD_Count + 1) % 2 ^ 32))
      ∧ (s.sv.part = none → Gives (.copyFrameRx bytes) s (fun t => t.sv.part = some (e, copyAt [] (beAt p 4 4) (p.drop 8), s.xref)
        ∧ t.is R.SV_STATUS_Receiving = true ∧ t.get R.CNT_EPOCH_DISCARD_Count = s.get R.CNT_EPOCH_DISCARD_Count)))
  ∧ (svParse bytes = some (3, p) → p.length < 8 ∨ ¬ open_ → Ends (.copyFrameRx bytes) s s)
  ∧ (svParse bytes = some (4, p) → p.length ≠ 20 ∨ ¬ open_ → Ends (.commitFrameRx bytes) s s)
  ∧ (svParse bytes = some (4, p) → p.length = 20 → open_ →
      let body := match s.sv.part with | some (n, b, _) => if n = e then b else [] | none => []
      let last := match s.sv.due with | some (d, _) => d | none => s.get R.EPOCH_APPLIED_Epoch
      let bad := body.length ≠ beAt p 8 4 ∨ crc32c body ≠ beAt p 16 4 ∨ (beAt p 4 4 ≠ 0 ∧ beAt p 4 4 ≠ last)
      Gives (.commitFrameRx bytes) s (fun t => t.sv.part = none ∧ t.is R.SV_STATUS_Receiving = false ∧ t.objs = s.objs ∧ t.cues = s.cues
        ∧ (∀ recs, s.commitCheck e (beAt p 4 4) (beAt p 8 4) (beAt p 12 4) (beAt p 16 4) body = some recs → t.sv.due = some (e, recs) ∧ Sends [] s t)
        ∧ ((∃ recs, t.sv.due = some (e, recs) ∧ recs.length = beAt p 12 4 ∧ ¬ bad ∧ Sends [] s t)
          ∨ (t.sv.due = s.sv.due ∧ Sends [.svCtrl .epochRequest] s t
            ∧ t.get R.CNT_EPOCH_REJECT_Count = (s.get R.CNT_EPOCH_REJECT_Count + 1) % 2 ^ 32))))
  ∧ (s.sv.due = none → Ends .epochApply s s)
  ∧ (∀ n recs, s.sv.due = some (n, recs) → Gives .epochApply s (fun t => t.sv.due = none ∧ t.get R.EPOCH_APPLIED_Epoch = n % 2 ^ 32
      ∧ Sent.svCtrl (.epochAck n) ∈ t.outbox))
  ∧ (s.sv.part = none → Ends .epochTimeout s s)
  ∧ (∀ k b t0, s.sv.part = some (k, b, t0) → Gives .epochTimeout s (fun t => t.sv.part = none ∧ t.is R.SV_STATUS_Receiving = false
      ∧ t.xref = max s.xref (t0 + s.get R.EPOCH_CFG_TimeoutMs * 625000)
      ∧ t.get R.CNT_EPOCH_DISCARD_Count = (s.get R.CNT_EPOCH_DISCARD_Count + 1) % 2 ^ 32))
  ∧ Ends .epochSendFull s { s with sv := { s.sv with full := true } }
  ∧ Ends .epochRequestFull s (if s.svUp then s.send (.svCtrl .epochRequest) else s)

/-- R315, R317, R318: joining. The manager answers a request with a challenge that carries its proof; a joining unit answers a right proof and
counts a wrong one; the manager takes only a right response, within 100 ms of its challenge, and answers with a number or a reason; the unit takes
its number with the answer, and a starting unit's ports that carry streams go to Service with it (R415), or seeks again with a retry after one
second. -/
def Obligations.JoiningADomain : Prop := ∀ (s : State) (r : JoinReq) (a b proof : List Byte), Ready s →
  let quiet := fun (c : Instr) => Ends c s s
  (s.manages = false → quiet (.joinRequest r a) ∧ quiet (.joinResponse a proof))
  ∧ (s.dom.waiting.find? (fun x => decide (x.nonce = a)) = none → quiet (.joinResponse a proof))
  ∧ (s.dom.retry = none ∨ s.domState ≠ 0 ∨ s.is R.TIME_STATUS_TodValid = false → quiet (.joinRetry a))
  ∧ (s.manages = true → Gives (.joinRequest r a) s (fun t => t.dom.waiting = s.dom.waiting ++ [{ req := r, nonce := a, sent := s.xref }]
      ∧ Sends [.domain (.device r.device) (.joinChallenge a r.nonce (s.joinProof 1 r.device r.nonce a))] s t ∧ OnlyRegs [] s { t with dom := s.dom }))
  ∧ (s.domState ≠ 1 → quiet (.joinChallenge a b proof) ∧ (∀ u term v, quiet (.joinAccept u term v)) ∧ (∀ reason, quiet (.joinDeny reason)) ∧ quiet .joinTimeout)
  ∧ (s.domState = 1 →
      (b = s.dom.nonce → proof = s.joinProof 1 s.deviceId b a → Ends (.joinChallenge a b proof) s
        (s.send (.domain .manager (.joinResponse a (s.joinProof 2 s.deviceId a b)))))
      ∧ (¬ (b = s.dom.nonce ∧ proof = s.joinProof 1 s.deviceId b a) → Ends (.joinChallenge a b proof) s (s.setObj 0x1220 3 ((s.obj 0x1220 3 + 1) % 2 ^ 32)))
      ∧ (∀ u term v, Gives (.joinAccept u term v) s (fun t => t.domState = 2 ∧ t.get R.SH_UNIT_Unit = u % 2 ^ 16 ∧ t.domTerm = term ∧ t.domVersion = v
          ∧ (s.life.wantSvc = false → OnlyRegs [R.SH_UNIT] s { t with objs := s.objs, dom := s.dom, fwq := s.fwq })
          ∧ (s.life.wantSvc = true → s.life.wantTime = false → ∀ n, n < 4 → s.portState n = 2 → s.streamPort n = true → s.get (R.MAC_CTRL_StateReq n) ≠ 1 →
              t.portState n = 3)))
      ∧ (∀ reason, Gives (.joinDeny reason) s (fun t => t.domState = 0 ∧ t.dom.retry = some (s.xref + 625000000)))
      ∧ Gives .joinTimeout s (fun t => t.domState = 0 ∧ t.xref = max s.xref (s.dom.asked + 312500000) ∧ t.dom.retry = some (t.xref + 625000000)))
  ∧ (∀ x, s.dom.retry = some x → s.domState = 0 → s.is R.TIME_STATUS_TodValid = true → Gives (.joinRetry a) s (fun t => t.domState = 1 ∧ t.dom.nonce = a
      ∧ t.xref = max s.xref x ∧ t.dom.asked = t.xref))
  ∧ (∀ k, Ends (.challengeTimeout k) s { s with dom := { s.dom with waiting := s.dom.waiting.filter (fun c => decide (c.req.device ≠ k)) } })
  ∧ (∀ c, s.manages = true → s.dom.waiting.find? (fun x => decide (x.nonce = a)) = some c → Gives (.joinResponse a proof) s (fun t =>
      t.dom.waiting = s.dom.waiting.filter (fun x => decide (x.nonce ≠ a))
      ∧ (c.sent + 62500000 < s.xref → Sends [] s t ∧ t.objs = s.objs ∧ t.dom.roster = s.dom.roster)
      ∧ (s.xref ≤ c.sent + 62500000 → proof ≠ s.joinProof 2 c.req.device a c.req.nonce → Sends [] s t ∧ t.dom.roster = s.dom.roster
          ∧ t.obj 0x1220 3 = (s.obj 0x1220 3 + 1) % 2 ^ 32)
      ∧ (s.xref ≤ c.sent + 62500000 → proof = s.joinProof 2 c.req.device a c.req.nonce →
          (s.joinDeny c.req ≠ 0 → Sends [.domain (.device c.req.device) (.joinDeny (s.joinDeny c.req))] s t ∧ t.dom.roster = s.dom.roster
            ∧ t.obj 0x1220 2 = (s.obj 0x1220 2 + 1) % 2 ^ 32)
          ∧ (s.joinDeny c.req = 0 → (c.req.partner = 0 ∨ ∀ m ∈ s.dom.roster, m.info.device = c.req.partner → m.info.unit ≠ s.joinNumber c.req) → (t.member (s.joinNumber c.req)).map (fun m => (m.info.state, m.info.device)) = some (1, c.req.device)
            ∧ ∃ v, Sent.domain (.device c.req.device) (.joinAccept (s.joinNumber c.req) s.domTerm v) ∈ t.outbox))))

/-- R315, R316, R319 to R323: the domain runs. The manager, and of a manager pair the holder, sends beacons; a member follows and answers them,
counts one of an older term, and is an orphan after 150 ms without one; a unit that seeks a domain asks to join where it may; a manager that hears a newer
term, or its own from a unit it yields to, follows it; the holder of a manager pair carries the term on; where none beacons a manager starts and a backup
takes over, with the next term. Heartbeats keep a unit Present; one that leaves, or is silent with its Pulses, departs; each change of the roster has a
version. A message of a unit that is not Present changes nothing.

R313, R314: LLDP. A port that runs it queues a data unit that lives four intervals; one received that names chassis, port and time to live makes its sender the port's
neighbour, and a change of neighbour is counted; one with time to live 0 from the neighbour, and the end of its time, take the neighbour away. -/
def Obligations.DomainsAndNeighbours : Prop :=
  (∀ (s : State) (b : Beacon) (nonce : List Byte) (u : Nat), Ready s →
      let st := s.domState
      let beats := Sent.domain .group (.beacon { domain := s.domId, unit := s.get R.SH_UNIT_Unit, partner := if s.paired then s.get R.SV_PARTNER_Unit else 0, term := s.domTerm, seq := s.dom.seq, version := s.domVersion, pick := s.time.pick, rate := s.get R.TIME_STATUS_RateNow, device := s.deviceId, holdsMe := false })
      let heir := st = 2 ∧ s.domRoleNow = 3 ∧ s.paired = true ∧ s.is R.LEASE_STATUS_Holding = true ∧ s.obj 0x1204 0 = s.get R.SV_PARTNER_Unit
      let stays := s.is R.TIME_CTRL_Run = true ∨ b.rate = s.get R.TIME_CTRL_Rate
      let mine := b.domain = s.domId ∧ s.domId ≠ 0 ∧ s.domTerm ≤ b.term
      (s.manages = true → s.paired = false ∨ s.is R.LEASE_STATUS_Holding = true → Gives .beaconTx s (fun t => Sends [beats] s t
          ∧ t.dom.seq = (s.dom.seq + 1) % 2 ^ 32 ∧ OnlyRegs [] s { t with dom := s.dom }))
      ∧ (s.manages = true → s.paired = true → s.is R.LEASE_STATUS_Holding = false → Ends .beaconTx s s)
      ∧ (s.manages = false → ¬ heir → Ends .beaconTx s s)
      ∧ (s.manages = false → heir → Gives .beaconTx s (fun t => t.domState = 4 ∧ t.domTerm = s.domTerm ∧ t.obj 0x1204 0 = s.get R.SH_UNIT_Unit
          ∧ ∃ c, Sends [.domain .group (.beacon c)] s t))
      ∧ (st = 5 ∨ s.domId = 0 ∨ b.domain ≠ s.domId → Ends (.beaconRx b nonce) s s)
      ∧ (st ≠ 5 → s.domId ≠ 0 → b.domain = s.domId → b.term < s.domTerm → Ends (.beaconRx b nonce) s (s.setObj 0x1220 7 ((s.obj 0x1220 7 + 1) % 2 ^ 32)))
      ∧ (mine → st = 4 → b.term = s.domTerm → s.yields b = false → Ends (.beaconRx b nonce) s s)
      ∧ (mine → stays → (st = 0 ∨ st = 1) → Gives (.beaconRx b nonce) s (fun t => t.domTerm = b.term ∧ t.obj 0x1204 0 = b.unit ∧ t.dom.heard = s.xref
          ∧ t.domState = (if st = 1 ∨ (s.is R.TIME_STATUS_TodValid = true ∧ s.dom.retry.all (fun t => decide (t ≤ s.xref)) = true) then 1 else 0)))
      ∧ (mine → stays → st = 3 → Gives (.beaconRx b nonce) s (fun t => t.domTerm = b.term ∧ t.dom.heard = s.xref ∧ t.domState = (if b.holdsMe then 2 else 1)))
      ∧ (mine → stays → (st = 2 ∨ st = 4 ∧ (s.domTerm < b.term ∨ s.yields b = true)) → Gives (.beaconRx b nonce) s (fun t => t.domState = 2 ∧ t.domTerm = b.term
          ∧ t.obj 0x1204 0 = b.unit ∧ t.dom.heard = s.xref ∧ (∃ f rest, Sends (.domain .manager (.heartbeat (s.get R.SH_UNIT_Unit) b.seq f s.time.pick) :: rest) s t)))
      ∧ (st ≠ 2 → Ends .beaconLoss s s)
      ∧ (st = 2 → Gives .beaconLoss s (fun t => t.domState = 3 ∧ t.xref = max s.xref (s.dom.heard + 93750000) ∧ t.dom = s.dom))
      ∧ (¬ (st = 0 ∧ s.domRoleNow = 3 ∧ s.domId ≠ 0) → Ends .managerStart s s)
      ∧ (st = 0 → s.domRoleNow = 3 → s.domId ≠ 0 → Gives .managerStart s (fun t => t.domState = 4 ∧ t.domTerm = (s.domTerm + 1) % 2 ^ 32
          ∧ t.dom.holdoff = some (t.xref + (s.get R.LEASE_TIME_DurationMs + s.get R.LEASE_TIME_GuardMs) * 625000)))
      ∧ ((st = 2 ∨ st = 3) → (s.domRoleNow = 2 ∨ s.dom.backup = true) → Gives .backupTakeover s (fun t => t.domState = 4
          ∧ t.domTerm = (s.domTerm + 1) % 2 ^ 32 ∧ t.obj 0x1220 6 = (s.obj 0x1220 6 + 1) % 2 ^ 32
          ∧ t.dom.roster.map (fun m => m.info) = s.dom.roster.map (fun m => m.info) ∧ ∃ c, Sends [.domain .group (.beacon c)] s t))
      ∧ ((st ≠ 2 ∧ st ≠ 3) ∨ (s.domRoleNow ≠ 2 ∧ s.dom.backup = false) → Ends .backupTakeover s s ∧ ∀ v recs, Ends (.rosterSync v recs) s s)
      ∧ ((∀ m, s.member u = some m → m.info.state ≠ 1) → (∀ q f p, Ends (.heartbeat u q f p) s s) ∧ Ends (.leave u) s s ∧ (∀ v, Ends (.rosterDeltaRequest u v) s s))
      ∧ (u = s.get R.SH_UNIT_Unit ∨ s.member u = none → Ends (.unitAbsent u) s s)
      ∧ (∀ m, s.manages = true → u ≠ s.get R.SH_UNIT_Unit → s.member u = some m →
          m.info.state ≠ 1 ∨ (m.pulse ≠ 0 ∧ max s.xref (m.beat + 156250000) < m.pulse + s.pulse3) → Ends (.unitAbsent u) s { s with xref := max s.xref (m.beat + 156250000) })
      ∧ (s.manages = false → (∀ q f p, Ends (.heartbeat u q f p) s s) ∧ Ends (.leave u) s s ∧ Ends (.unitAbsent u) s s
          ∧ (∀ v, Ends (.rosterDeltaRequest u v) s s) ∧ Ends .rosterSyncTx s s)
      ∧ (∀ m, s.manages = true → s.member u = some m → m.info.state = 1 →
          (∀ q f p, Gives (.heartbeat u q f p) s (fun t => t.member u = some { m with beat := s.xref, info := { m.info with flags := m.info.flags % 4 + f % 4 * 4 } }
            ∧ OnlyRegs [] s { t with dom := s.dom }))
          ∧ Gives (.leave u) s (fun t => (t.member u).map (fun x => x.info.state) = some 3 ∧ t.domVersion = (s.domVersion + 1) % 2 ^ 32)
          ∧ (u ≠ s.get R.SH_UNIT_Unit → m.pulse = 0 ∨ m.pulse + s.pulse3 ≤ max s.xref (m.beat + 156250000) → Gives (.unitAbsent u) s (fun t => (t.member u).map (fun x => x.info.state) = some 2
            ∧ t.domVersion = (s.domVersion + 1) % 2 ^ 32 ∧ t.xref = max s.xref (m.beat + 156250000)))
          ∧ (∀ v, Gives (.rosterDeltaRequest u v) s (fun t => t.dom = s.dom
            ∧ Sends ((s.dom.deltas.filter (fun d => decide (v < d.1))).map (fun d => .domain (.unit u) (.rosterDelta d.1 [d.2]))) s t)))
      ∧ (s.manages = true → Gives .rosterSyncTx s (fun t => t.dom = s.dom
          ∧ Sends ((s.dom.roster.filter (fun m => decide (m.info.state = 1 ∧ m.info.unit ≠ s.get R.SH_UNIT_Unit ∧ m.info.role = 2))).map (fun m =>
              .domain (.unit m.info.unit) (.rosterSync s.domVersion (s.dom.roster.map (fun x => x.info))))) s t))
      ∧ (st ≠ 2 → st ≠ 3 → ∀ v recs, Ends (.rosterDelta v recs) s s)
      ∧ (∀ v recs, (st = 2 ∨ st = 3) → Gives (.rosterDelta v recs) s (fun t => t.domVersion = (if v = (s.domVersion + 1) % 2 ^ 32 then v else s.domVersion)))
      ∧ (∀ v recs, (st = 2 ∨ st = 3) → s.domRoleNow = 2 ∨ s.dom.backup = true → Gives (.rosterSync v recs) s (fun t => t.dom.roster.map (fun m => m.info) = recs
          ∧ t.domVersion = v))
      ∧ (∀ v (r : RosterRec), (st = 2 ∨ st = 3) →
          Gives (.rosterDelta v [r]) s (fun t => (t.member r.unit).map (fun m => m.info) = some r)))
  ∧ (∀ (s : State) (n : Nat) (frame : List Byte), Ready s → n < 4 →
      let e := ethInfo frame
      let old := tget none s.dom.neighbours n
      Gives (.lldpTx n) s (fun t => Sends [] s t ∧ t.dom = s.dom ∧ t.fwFrames n =
          (if s.lldpRuns n = true then s.fwFrames n ++ [s.wholeFrame n (s.lldpFrame n (4 * s.obj 0x1211 0))] else s.fwFrames n))
      ∧ (s.lldpRuns n = false ∨ e.da ≠ 0x0180C200000E ∨ e.typ ≠ 0x88CC ∨ s.neighbourOf e.body = none → Ends (.lldpRx n frame) s s)
      ∧ (∀ x, s.lldpRuns n = true → e.da = 0x0180C200000E → e.typ = 0x88CC → s.neighbourOf e.body = some x → x.ttl ≠ 0 → Gives (.lldpRx n frame) s (fun t =>
          tget none t.dom.neighbours n = some x ∧ (∀ k, k ≠ n → tget none t.dom.neighbours k = tget none s.dom.neighbours k)
          ∧ t.obj 0x1220 8 = (if (∃ o, old = some o ∧ ¬ (o.chassis = x.chassis ∧ o.port = x.port)) then (s.obj 0x1220 8 + 1) % 2 ^ 32 else s.obj 0x1220 8)))
      ∧ (∀ x, s.lldpRuns n = true → e.da = 0x0180C200000E → e.typ = 0x88CC → s.neighbourOf e.body = some x → x.ttl = 0 → Gives (.lldpRx n frame) s (fun t =>
          tget none t.dom.neighbours n = (if (∃ o, old = some o ∧ o.chassis = x.chassis ∧ o.port = x.port) then none else old) ∧ OnlyRegs [] s { t with dom := s.dom }))
      ∧ (old = none → Ends (.lldpTtlExpire n) s s)
      ∧ (∀ x, old = some x → Gives (.lldpTtlExpire n) s (fun t => tget none t.dom.neighbours n = none ∧ t.xref = max s.xref x.ends)))

/-- R324 to R329, R341: a pattern load, save or image write, an overlay definition, the deferred changes of overlays, and the end of a flash
operation. A load or save that finds the flash busy gives its code at once and changes nothing; a load whose check fails gives its code and leaves the values; the result of
an operation is given at its end, where an image or a ledger record is stored. -/
def Obligations.PatternsAndOverlays : Prop := ∀ (s : State) (n k : Nat) (data : List Byte), Ready s → n < 8 → k < 64 →
  let code := (s.loadCode n (s.image n)).1
  let recs := (s.loadCode n (s.image n)).2
  let busy := fun (f : Option FlashOp) => { s with flash := { s.flash with busy := f } }
  (s.image n = [] → code = 1)
  ∧ (code ≠ 0 → s.flash.busy.isSome = true → Ends (.patternLoad n) s (s.send (.opResult 0x9002 0 code)))
  ∧ (code ≠ 0 → s.flash.busy = none → Ends (.patternLoad n) s (busy (some (.load n code .none))))
  ∧ (code = 0 → s.time.running = true → Ends (.patternLoad n) s { busy (some (.load n 0 .none)) with patDue := some (n, recs) })
  ∧ (code = 0 → s.time.running = false → Ends (.patternLoad n) s
      { (s.patternSet n recs s.time.pick).2 with flash := { (s.patternSet n recs s.time.pick).2.flash with busy := some (.load n 0 .none) } })
  ∧ (s.flash.busy.isSome = true → Ends (.patternSave n) s (s.send (.opResult 0x9003 0 5)))
  ∧ (s.flash.busy = none → Ends (.patternSave n) s (busy (some (.save n (s.patternImage n s.patternRecs) .none))))
  ∧ (let c := (s.loadCode n data).1
     Ends (.patternImageWrite n data) s ((if c = 0 then busy (some (.save n data .told)) else s).send (.opResult 0x9004 (n + 1) c)))
  ∧ (let c := s.overlayCheck k data
     Gives (.overlayDefWrite k data) s (fun t => Sends [.opResult 0x9020 (k + 1) c] s t ∧ (c ≠ 0 → t.ovl = s.ovl)
       ∧ (c = 0 → tget [] t.ovl.defs k = data ∧ (∀ j, j ≠ k → tget [] t.ovl.defs j = tget [] s.ovl.defs j) ∧ t.ovl.stack = s.ovl.stack)
       ∧ OnlyRegs [] s { t with ovl := s.ovl }))
  ∧ (s.ovl.later = [] → Ends .overlayDeferredApply s s)
  ∧ (s.ovl.later ≠ [] → Gives .overlayDeferredApply s (fun t => t.ovl.later = []))
  ∧ (s.lcp.wait = [] → s.flash.wait = [] →
      (∀ ok, s.flash.busy = none → Ends (.flashOperationEnd ok) s s)
      ∧ (∀ ok p c, s.flash.busy = some (.load p c .none) → Ends (.flashOperationEnd ok) s ((busy none).send (.opResult 0x9002 0 c)))
      ∧ (∀ ok p c, s.flash.busy = some (.load p c .told) → Ends (.flashOperationEnd ok) s (busy none))
      ∧ (∀ p img, s.flash.busy = some (.save p img .told) → Gives (.flashOperationEnd true) s (fun t => Sends [] s t
          ∧ t.flash = { s.flash with busy := none, mem := Memory.writeBytes s.flash.mem (0x800000 + p * 0x400000) img }))
      ∧ (∀ p img, s.flash.busy = some (.save p img .none) → Gives (.flashOperationEnd false) s (fun t => t.flash.busy = none ∧ ∃ c, Sends [.opResult 0x9003 0 c] s t))
      ∧ (∀ p img, s.flash.busy = some (.save p img .none) → Gives (.flashOperationEnd true) s (fun t => Sends [.opResult 0x9003 0 0] s t
          ∧ t.flash = { s.flash with busy := none, mem := Memory.writeBytes s.flash.mem (0x800000 + p * 0x400000) img }))
      ∧ (∀ b, s.flash.busy = some (.ledger b) →
          Gives (.flashOperationEnd true) s (fun t => t.flash.ledger = s.flash.ledger + 1 ∧ t.flash.busy = none
            ∧ t.flash.mem = Memory.writeBytes s.flash.mem (0x2800000 + s.flash.ledger % 8192 * 64) b
            ∧ t.get R.CNT_LEDGER_WRITE_Count = (s.get R.CNT_LEDGER_WRITE_Count + 1) % 2 ^ 32)
          ∧ Gives (.flashOperationEnd false) s (fun t => t.temple.retry = some b ∧ t.flash = { s.flash with busy := none }
            ∧ t.get R.CNT_LEDGER_FAIL_Count = (s.get R.CNT_LEDGER_FAIL_Count + 1) % 2 ^ 32)))

/-- R332 to R341: with TP_CTRL.Enable 0 Temple measures nothing. Otherwise: a sensor reads the mean of its last 100 samples, and Hot follows the
warning limit; too little slack raises the core voltage by a code, sixty seconds of calm lower it by one, and a bound that forbids either shows; without
AvsEn the code walks to its upper bound; the worst eye is shown; corrected words are counted by the hour; the end of a TAI day writes a record of the day,
which waits where the flash is busy; and a planning pass shows the required offset of each planned stream. -/
def Obligations.TempleMeasures : Prop := ∀ (s : State) (xs : List Int), Ready s →
  let on := s.is R.TP_CTRL_Enable = true
  let c := s.get R.AVS_STATUS_Code
  let w := satSigned 16 ((xs.foldl (fun m x => lowOf m x) none).getD 0)
  let mean := fun k => satSigned 16 (meanOf ((xs.getD k 0 :: s.temple.temps.getD k []).take 100))
  (∀ v, v < 2 ^ 32 → Gives (.tpCtrlWrite v) s (fun t => t.is R.TP_CTRL_Enable = bitOf v 0 ∧ t.is R.TP_CTRL_AvsEn = bitOf v 1 ∧ t.is R.TP_CTRL_EyeEn = bitOf v 2
      ∧ OnlyRegs [R.TP_CTRL] s t))
  ∧ (¬ on → Ends (.tempSample xs) s s ∧ Ends (.avsWindow xs) s s ∧ Ends .avsLower s s ∧ (∀ es, Ends (.eyeMeasure es) s s) ∧ Ends .eccHour s s
      ∧ Ends .dayEnd s s ∧ Ends .planPass s s)
  ∧ (on → Gives (.tempSample xs) s (fun t => (∀ k, k < 4 → t.getI (R.TEMP_Temp k) = mean k)
      ∧ t.is R.TP_STATUS_Hot = (List.range 4).any (fun k => decide (s.getI R.TEMP_WARN_Limit ≤ mean k))
      ∧ t.get R.CNT_TEMP_WARN_Count = (s.get R.CNT_TEMP_WARN_Count + (if t.is R.TP_STATUS_Hot = true ∧ s.is R.TP_STATUS_Hot = false then 1 else 0)) % 2 ^ 32))
  ∧ (on →
      let lo := s.get R.AVS_CFG_VminCode
      let hi := s.get R.AVS_CFG_VmaxCode
      let low := lo ≤ c ∧ c ≤ hi ∧ w < s.get R.AVS_CFG_SlackLow
      let en := s.is R.TP_CTRL_AvsEn = true
      let goal := if ¬ en then (if c < hi then c + 1 else if hi < c then c - 1 else c)
        else if c < lo then c + 1 else if hi < c then c - 1 else if low ∧ c < hi then c + 1 else c
      Gives (.avsWindow xs) s (fun t => t.get R.AVS_STATUS_Code = goal ∧ Sends (if goal = c then [] else [.avsVid goal]) s t
        ∧ t.get R.CNT_AVS_UP_Count = (s.get R.CNT_AVS_UP_Count + (if en ∧ low ∧ c < hi then 1 else 0)) % 2 ^ 32
        ∧ t.getI R.AVS_STATUS_WorstSlack = w ∧ (¬ en → t.is R.TP_STATUS_AvsLimited = false)
        ∧ (en → low → t.is R.TP_STATUS_AvsLimited = decide (c = hi))))
  ∧ (s.temple.calm < 60000 ∨ s.is R.TP_CTRL_AvsEn = false → Ends .avsLower s s)
  ∧ (on → s.is R.TP_CTRL_AvsEn = true → 60000 ≤ s.temple.calm → c ≤ s.get R.AVS_CFG_VminCode → Gives .avsLower s (fun t =>
      t.get R.AVS_STATUS_Code = c ∧ t.is R.TP_STATUS_AvsLimited = true ∧ Sends [] s t))
  ∧ (on → s.is R.TP_CTRL_AvsEn = true → 60000 ≤ s.temple.calm → s.get R.AVS_CFG_VminCode < c → Gives .avsLower s (fun t =>
      t.get R.AVS_STATUS_Code = c - 1 ∧ Sends [.avsVid (c - 1)] s t ∧ t.temple.calm = 0
      ∧ t.get R.CNT_AVS_DOWN_Count = (s.get R.CNT_AVS_DOWN_Count + 1) % 2 ^ 32))
  ∧ (∀ es : List (Nat × Nat × Nat), on → es ≠ [] → (∀ e ∈ es, e.1 < 9 ∧ e.2.1 < 256) → Gives (.eyeMeasure es) s (fun t =>
      ∃ e ∈ es, t.get R.EYE_WORST_Lane = e.1 ∧ t.get R.EYE_WORST_HeightMv = e.2.1 ∧ ∀ f ∈ es, e.2.1 ≤ f.2.1))
  ∧ (on → s.temple.lanes ≠ [] → Ends (.eyeMeasure []) s s)
  ∧ (∀ l h x, on → s.is R.TP_CTRL_EyeEn = false ∨ s.eyeWindow = false ∨ s.temple.lanes ≠ [] → l < 9 → h < 256 → Gives (.eyeMeasure [(l, h, x)]) s (fun t => t.get R.EYE_WORST_Lane = l
      ∧ t.get R.EYE_WORST_HeightMv = h ∧ tget 0 t.temple.low l = (if h < s.get R.EYE_CFG_EyeMinMv then tget 0 s.temple.low l + 1 else 0)))
  ∧ (∀ l, s.temple.lanes.contains l = false → Ends (.adaptDone l) s s)
  ∧ (∀ l, s.temple.lanes.contains l = true → Gives (.adaptDone l) s (fun t => t.temple.lanes = s.temple.lanes.filter (fun x => decide (x ≠ l))
      ∧ t.is R.TP_STATUS_Adapting = !t.temple.lanes.isEmpty ∧ t.get R.CNT_ADAPT_Count = (s.get R.CNT_ADAPT_Count + 1) % 2 ^ 32))
  ∧ (on → Gives .eccHour s (fun t => ∀ b, b < 16 → t.obj 0xA023 (b + 1) = (s.get (R.ECC_CORR_Count b) + 2 ^ 32 - s.temple.ecc.getD b 0) % 2 ^ 32))
  ∧ (s.is R.TIME_STATUS_TodValid = false → Ends .dayEnd s s)
  ∧ (on → s.is R.TIME_STATUS_TodValid = true →
      let d := max s.day.next (ceilDiv s.time.tai (86400 * unitsPerSec) - 1)
      Gives .dayEnd s (fun t => t.day.next = d + 1 ∧ t.temple.retry = none ∧ ∃ b, b.take 4 = leBytes 4 d
        ∧ (s.flash.busy = none → t.flash.busy = some (.ledger b)) ∧ (s.flash.busy.isSome = true → t.flash.wait = s.flash.wait ++ [(b, some (((d + 1) * 86400 + 60) * unitsPerSec))])))
  ∧ (s.temple.retry = none → Ends .ledgerRetry s s)
  ∧ (∀ b, s.temple.retry = some b → Gives .ledgerRetry s (fun t => t.temple.retry = none
      ∧ (s.flash.busy = none → t.flash.busy = some (.ledger b)) ∧ (s.flash.busy.isSome = true → t.flash.wait = s.flash.wait ++ [(b, none)])))
  ∧ (on → Gives .planPass s (fun t => ∀ i q, i < 1024 → (∃ e ∈ s.rx, e.1 = i) → (∀ e ∈ s.rx, e.1 < 1024) → s.planMode i ≠ 0 → s.required i = some q →
      t.obj (0xA048 + i / 128) (i % 128 + 1) = q))

/-- R354 to R358, R371: a received message. On a port that carries none nothing happens; the first check of R358 that fails is counted and the
message goes no further; one that passes has its counter taken, and a request of the Control class is queued while another waits, and a READ is
answered at once: its reply joins the frames that wait for the port. -/
def Obligations.ReceivedMessagesAreChecked : Prop := ∀ (s : State) (port ip udp : Nat) (m : List Byte), Ready s → port < 4 →
  let cls := leNat ((m.drop 3).take 1)
  let dom := leNat ((m.drop 8).take 2)
  let unit := leNat ((m.drop 10).take 2)
  let target := leNat ((m.drop 12).take 2)
  let n := m.length - 16
  let up := 2 ≤ s.portState port ∧ s.portState port ≤ 4
  let malformed := m.length < 44 ∨ 1472 < m.length ∨ m.take 3 ≠ [0x57#8, 0x4C#8, 1#8] ∨ 2 < cls ∨ leNat ((m.drop 6).take 2) ≠ m.length
  let off := cls = 0 ∧ (bitOf (s.fuseWord 32) 18 = true ∨ s.obj 0x1100 (port + 1) = 0)
  let other := dom ≠ s.obj 0x1200 0 ∨ (target ≠ 0xFFFF ∧ target ≠ s.get R.SH_UNIT_Unit)
  let forged := s.keyFused = false ∨ m.drop n ≠ (hmac (s.lcpKey dom) (m.take n)).take 16
  let counted := fun (i : Nat) => Ends (.lcpRx port ip udp m) s (s.setObj 0x1110 i ((s.obj 0x1110 i + 1) % 2 ^ 32))
  (¬ up → Ends (.lcpRx port ip udp m) s s)
  ∧ (up → malformed → counted 1)
  ∧ (up → ¬ malformed → off → counted 2)
  ∧ (up → ¬ malformed → ¬ off → other → counted 3)
  ∧ (up → ¬ malformed → ¬ off → ¬ other → forged → counted 4)
  ∧ (up → ¬ malformed → ¬ off → ¬ other → ¬ forged →
      (s.peerTake dom unit ip (leNat ((m.drop 20).take 8)) = none → counted 5)
      ∧ (∀ ps, s.peerTake dom unit ip (leNat ((m.drop 20).take 8)) = some ps →
          (cls ≠ 0 → Ends (.lcpRx port ip udp m) s { s with lcp := { s.lcp with peers := ps } })
          ∧ (cls = 0 → s.lcpWaits = true → Ends (.lcpRx port ip udp m) s
              { s with lcp := { s.lcp with peers := ps, wait := s.lcp.wait ++ [(.net port ip udp unit, m.take n)] } })
          ∧ (cls = 0 → s.lcpWaits = false → leNat ((m.drop 4).take 1) = 1 → Gives (.lcpRx port ip udp m) s (fun t => t.lcp.peers = ps
              ∧ Sends [] s t ∧ ∃ f bytes, f.out = .lcp port ip udp bytes ∧ t.fwFrames port = s.fwFrames port ++ [f]))))

/-- R359 to R367: requests. A row of the table takes messages of its own kind. A request joins the queue while another waits; one whose key
matches a kept reply gets that reply again; otherwise it is served, and its reply joins the frames that wait for its port, is kept for a second and is
counted. A message of a wrong
kind, a wrong length or too many items changes no object, and an atomic WRITE of which one item fails changes nothing but the error log.

R360, R365 to R368: subscriptions, sessions, kept replies and the doorbell. Each due subscription is sent and marked sent, no other; a
subscription not renewed for SubLife, a session idle for two seconds and a kept reply after one second end; a doorbell while Busy, while disabled, or
with a wrong length starts no request, and says so in Result. -/
def Obligations.RequestsAndSubscriptions : Prop :=
  (∀ (s : State) (port ip udp unit : Nat) (msg : List Byte), Ready s → port < 4 →
      let who := Requester.net port ip udp unit
      let kind := leNat ((msg.drop 4).take 1)
      let op := leNat ((msg.drop 30).take 1)
      let flags := leNat ((msg.drop 5).take 1)
      let body := msg.drop 28
      let n := leNat (body.take 2)
      let row := fun (c : Instr) => (c = .read who msg ∧ kind = 1) ∨ (c = .write who msg ∧ kind = 2) ∨ (c = .writeAt who msg ∧ kind = 3) ∨ (c = .subscribe who msg ∧ kind = 4)
        ∨ (c = .bulkOpenRead who msg ∧ kind = 6 ∧ op = 1) ∨ (c = .bulkOpenWrite who msg ∧ kind = 6 ∧ op = 2) ∨ (c = .bulkData who msg ∧ kind = 6 ∧ op = 3)
        ∨ (c = .bulkAbort who msg ∧ kind = 6 ∧ op = 4)
      let replied := fun (u : State) (b : List Byte) (t : State) => ∃ f m, f.out = .lcp port ip udp m ∧ (m.drop 28).take (m.length - 44) = b
        ∧ t.fwFrames port = u.fwFrames port ++ [f] ∧ Sends [] u t
      (kind ≠ 1 → Ends (.read who msg) s s) ∧ (kind ≠ 2 → Ends (.write who msg) s s) ∧ (kind ≠ 3 → Ends (.writeAt who msg) s s)
      ∧ (kind ≠ 4 → Ends (.subscribe who msg) s s)
      ∧ (kind ≠ 6 → Ends (.bulkOpenRead who msg) s s ∧ Ends (.bulkOpenWrite who msg) s s ∧ Ends (.bulkData who msg) s s ∧ Ends (.bulkAbort who msg) s s)
      ∧ (∀ c, row c →
          (s.lcpWaits = true → Ends c s { s with lcp := { s.lcp with wait := s.lcp.wait ++ [(who, msg)] } })
          ∧ (∀ k, s.lcpWaits = false → s.keptFor who msg = some k → Gives c s (fun t => replied s k.body t ∧ t.lcp.kept = s.lcp.kept
              ∧ t.obj 0x1110 6 = (s.obj 0x1110 6 + 1) % 2 ^ 32 ∧ OnlyRegs [] s { t with lcp := s.lcp, objs := s.objs, fwq := s.fwq }))
          ∧ (s.lcpWaits = false → s.keptFor who msg = none →
              (∀ r u, s.serveBody who msg = some (r, u) → r.left = 0 → r.after = 0 → Gives c s (fun t => replied u r.body t
                  ∧ (t.lcp.kept.head?).map (fun k => (k.who, k.body, k.made)) = some (who, r.body, u.xref)
                  ∧ t.obj 0x1110 10 = (u.obj 0x1110 10 + 1) % 2 ^ 32 ∧ t.cues = u.cues ∧ t.lcp.subs = u.lcp.subs ∧ t.lcp.bulk = u.lcp.bulk))
              ∧ (leNat ((msg.drop 3).take 1) = 0 → bitOf flags 0 = false → 4 ≤ body.length →
                  (kind = 1 → 128 < n → Gives c s (replied s (replyBody 2 0 [])))
                  ∧ (kind = 2 → 64 < n → Gives c s (replied s (replyBody 2 0 [])))
                  ∧ (kind = 3 → 16 < n → Gives c s (replied s (replyBody 2 0 [])))
                  ∧ (kind = 4 → 32 < n → Gives c s (replied s (replyBody 2 0 [])))
                  ∧ (kind < 6 → n = 0 → Gives c s (replied s (replyBody 1 0 [])))
                  ∧ (∀ ws, kind = 2 → n ≠ 0 → n ≤ 64 → writeItems n (body.drop 4) = some ws → bitOf flags 1 = true →
                      (∃ o ∈ (s.writeAll who ws).1, o.status ≠ 0) → Gives c s (fun t => (∀ i j, j < 256 → i ≠ 0x1110 → t.obj i j = s.obj i j)
                        ∧ OnlyRegs [] s { t with lcp := s.lcp, objs := s.objs, errWait := s.errWait, fwq := s.fwq }))))))
  ∧ (∀ s : State, Ready s →
      Gives .subscriptionEval s (fun t => t.lcp.subs = s.lcp.subs.map (fun x => if s.subDue x = true then { x with value := some (s.subValue x), sent := s.nowMs } else x)
        ∧ ((∀ x ∈ s.lcp.subs, s.subDue x = false) → Sends [] s t ∧ t.fwq = s.fwq))
      ∧ (s.lcp.subs = [] → Ends .subscriptionLapse s s)
      ∧ (s.lcp.subs ≠ [] → Gives .subscriptionLapse s (fun t => s.xref ≤ t.xref
          ∧ t.lcp.subs = s.lcp.subs.filter (fun x => decide (t.nowMs < x.fresh + s.obj 0x1103 0 * 1000)) ∧ t.subCount = t.lcp.subs.length))
      ∧ (s.lcp.bulk = [] → Ends .bulkTimeout s s)
      ∧ (s.lcp.bulk ≠ [] → Gives .bulkTimeout s (fun t => ∀ x ∈ t.lcp.bulk, x ∈ s.lcp.bulk ∧ t.nowMs < x.seen + 2000))
      ∧ (s.lcp.kept = [] → Ends .keptReplyExpire s s)
      ∧ (∀ k, s.lcp.kept.getLast? = some k → Gives .keptReplyExpire s (fun t => t.xref = max s.xref (k.made + 625000000)
          ∧ t.lcp.kept = s.lcp.kept.filter (fun x => decide (t.xref < x.made + 625000000))))
      ∧ (∀ m v, m < 2 → v < 2 ^ 32 →
          let len := v % 2048
          let msg := (bytesOf (s.rdWords (R.MBX_REQ m 0) ((len + 3) / 4))).take len
          (s.is (R.MBX_STATUS_Busy m) = true → Ends (.mbxDoorbell m v) s ((s.put (R.MBX_STATUS_Result m) 1).report (turnedDown 0x21 (R.MBX_DOORBELL m) 0 0)))
          ∧ (s.is (R.MBX_STATUS_Busy m) = false → s.is (R.MBX_CTRL_Enable m) = false → Ends (.mbxDoorbell m v) s (s.put (R.MBX_STATUS_Result m) 3))
          ∧ (s.is (R.MBX_STATUS_Busy m) = false → s.is (R.MBX_CTRL_Enable m) = true → len < 28 ∨ 1456 < len →
              Ends (.mbxDoorbell m v) s (s.put (R.MBX_STATUS_Result m) 2))
          ∧ (s.is (R.MBX_STATUS_Busy m) = false → s.is (R.MBX_CTRL_Enable m) = true → 28 ≤ len → len ≤ 1456 → msg.take 3 ≠ [0x57#8, 0x4C#8, 1#8] →
              Gives (.mbxDoorbell m v) s (fun t => t.is (R.MBX_STATUS_Busy m) = false ∧ t.get (R.MBX_STATUS_Result m) = 0 ∧ t.get (R.MBX_REPLY_LEN_Len m) = 0
                ∧ t.get (R.MBX_STATUS_Seq m) = (s.get (R.MBX_STATUS_Seq m) + 1) % 2 ^ (R.MBX_STATUS_Seq m).wid ∧ t.obj 0x1110 1 = (s.obj 0x1110 1 + 1) % 2 ^ 32))))

/-- R372 to R376, R378, R381, R388: transactions. Each check that fails, in the order of the transaction's way, gives an error response, one record
with its code and the master, and the counter, and the access has no effect; an access that passes reads or writes its target. A write to a slow block
is posted and sets Busy, or is dropped with its record while Busy is 1, without an error response; at its end Busy clears and then it acts as a register
write. -/
def Obligations.TransactionsAreChecked : Prop := ∀ (s : State) (a : BusAcc) (ecc : Ecc), Ready s → a.wf = true →
  let x := s.landing a.master a.addr
  let o := x - regBase
  let bytes := a.width * a.beats
  let fails := fun (code detail block : Nat) => Gives (.registerWrite a ecc) s (fun t => Sends [.busReply a.master a.id true 0] s t
    ∧ t.errWait = s.errWait ++ [{ code := code, block := block, write := a.write, addr := a.addr, detail := detail, master := some (a.master, a.id) }]
    ∧ t.get R.CNT_BUSERR_Count = (s.get R.CNT_BUSERR_Count + 1) % 2 ^ 32 ∧ OnlyRegs [R.CNT_BUSERR, R.CNT_PCIE_CA] s { t with errWait := s.errWait, host := s.host }
    ∧ t.host = { s.host with aerAbort := s.host.aerAbort || (decide (a.master = 2) && a.write) })
  let passes := fun (t : Nat) => s.canIssue a = true ∧ targetOf x = some t ∧ s.pathOk a.master t x = true ∧ x % a.width = 0 ∧ x % 4096 + bytes ≤ 4096
  let answers := fun (data : Nat) (u : State) => Ends (.registerWrite a ecc) s (u.send (.busReply a.master a.id false data))
  (s.canIssue a = false → Ends (.registerWrite a ecc) s s)
  ∧ (s.canIssue a = true → targetOf x = none → fails 0x02 0 4)
  ∧ (∀ t, s.canIssue a = true → targetOf x = some t →
      (s.pathOk a.master t x = false → fails 0x03 t (blockAt x))
      ∧ (s.pathOk a.master t x = true → x % a.width ≠ 0 → fails 0x01 0 (blockAt x))
      ∧ (s.pathOk a.master t x = true → x % a.width = 0 → 4096 < x % 4096 + bytes → fails 0x0A a.beats (blockAt x)))
  ∧ (passes 1 → a.write = true → answers 0 { s with sram := Memory.writeBytes s.sram (x - 0x100000) (leBytes bytes a.data) })
  ∧ (passes 1 → a.write = false → ecc ≠ .bad → answers (leNat (Memory.readBytes s.sram (x - 0x100000) bytes)) s)
  ∧ (passes 0 → a.write = false → ecc ≠ .bad → answers (bytesFrom (fun w => (Config.romWord w).toNat) x bytes) s)
  ∧ (passes 6 → a.write = false → ecc ≠ .bad → answers (bytesFrom (s.fuseFor a.master) (x - 0x6000000) bytes) s)
  ∧ (passes 7 → a.write = false → ecc ≠ .bad → answers (leNat (Memory.readBytes s.flash.mem (x - 0x8000000) bytes)) s)
  ∧ (∀ t, t = 0 ∨ t = 1 ∨ t = 6 ∨ t = 7 → passes t → a.write = false → ecc = .bad → fails 0x0B t 4)
  ∧ (∀ t, t = 0 ∨ t = 6 ∨ t = 7 → passes t → a.write = true → fails 0x04 t 4)
  ∧ (passes 4 → bytes ≤ 4 → a.write = true → a.width < 4 → fails 0x06 a.width (blockAt x))
  ∧ (passes 4 → 4 < bytes → ¬ (a.width = 8 ∧ a.beats = 1) → fails 0x07 a.beats (blockAt x))
  ∧ (∀ f c, passes 4 → regCanon o = some c → slowBusy c = some f → a.write = true → a.width = 4 → a.beats = 1 → s.powered c = true →
      (s.is f = false → Gives (.registerWrite a ecc) s (fun t => t.is f = true ∧ Sends [.busReply a.master a.id false 0] s t
          ∧ t.life.posted = s.life.posted ++ [{ off := c, word := a.data % 2 ^ 32, master := a.master, id := a.id }]
          ∧ OnlyRegs [f.reg] s { t with life := s.life }))
      ∧ (s.is f = true → Gives (.registerWrite a ecc) s (fun t => Sends [.busReply a.master a.id false 0] s t
          ∧ t.get R.CNT_SLOW_DROP_Count = (s.get R.CNT_SLOW_DROP_Count + 1) % 2 ^ 32 ∧ t.life.posted = s.life.posted
          ∧ t.errWait = s.errWait ++ [{ code := 0x08, block := blockOf c, write := true, addr := a.addr, detail := 0, master := some (a.master, a.id) }])))
  ∧ (∀ c, passes 3 → regCanon o = some c → a.write = false → a.width = 4 → a.beats = 1 → s.powered c = true → s.rseRead a.master c ecc = none →
      (findRow (blockRows c) c).isSome = true → answers (s.regView c).toNat s)
  ∧ (a.master = 0 → s.powered R.SET_SEC_LO = true → a.addr = regBase + R.SET_SEC_LO → a.write = true → a.width = 4 → a.beats = 1 → Gives (.registerWrite a ecc) s (fun t =>
      t.get R.SET_SEC_LO_Sec = a.data % 2 ^ 32 ∧ t.errWait = s.errWait ∧ (∀ c, c ≠ R.SET_SEC_LO → c ≠ R.MSIX_PBA 0 → t.rd c = s.rd c)))
  ∧ (∀ b vpp ms, b < 8 → (∀ p ∈ s.life.posted, slowIndex p.off ≠ b) → Ends (.slowWriteApply b vpp ms) s s)
  ∧ (∀ b vpp ms p rest f, b < 8 → s.life.posted.filter (fun q => decide (slowIndex q.off = b)) = p :: rest → slowBusy p.off = some f →
      Ends (.slowWriteApply b vpp ms) s ((({ s with life := { s.life with posted := s.life.posted.filter (fun q => decide (slowIndex q.off ≠ b)) } } : State).put f 0).forL
        (p :: rest) (fun q t => t.regWrite q.master q.id q.off q.word (2 ^ 32 - 1) vpp ms)))
  ∧ (∀ b vpp ms, b < 8 → (∃ p ∈ s.life.posted, slowIndex p.off = b) → Gives (.slowWriteApply b vpp ms) s (fun t => ∀ p ∈ t.life.posted, slowIndex p.off ≠ b))

/-- R170, R192, R244, R377: the pool window, coefficient memory and promotion. The pool denies an access while it is not ready, a write narrower than
a word, and one to a cell that neither is free nor belongs to a Host queue; a read gives the words, a corrected one counts for its bank, and one with an
uncorrectable word gets an error response; a coefficient word that is locked and not poisoned keeps its value, with an error response and a record; a promotion is counted. -/
def Obligations.PoolAndCoefficientTargets : Prop := ∀ (s : State) (a : BusAcc) (ecc : Ecc), Ready s → a.wf = true →
  let bytes := a.width * a.beats
  let fit := s.canIssue a = true ∧ a.addr % a.width = 0 ∧ a.addr % 4096 + bytes ≤ 4096 ∧ a.master = 0
  (targetOf a.addr ≠ some 2 → Ends (.poolTargetAccess a ecc) s s)
  ∧ (targetOf a.addr ≠ some 5 ∨ a.write = false → Ends (.coefWrite a) s s)
  ∧ (fit → targetOf a.addr = some 2 → s.bobReady = false ∨ (a.write = true ∧ a.width < 4) → Gives (.poolTargetAccess a ecc) s (fun t =>
      Sends [.busReply 0 a.id true 0] s t ∧ t.pool = s.pool ∧ t.queues = s.queues
      ∧ t.errWait = s.errWait ++ [{ code := 0x05, block := 4, write := a.write, addr := a.addr, detail := 0, master := some (0, a.id) }]))
  ∧ (fit → targetOf a.addr = some 2 → s.bobReady = true → a.write = true → 4 ≤ a.width →
      (∀ u, s.poolPuts (a.addr % 2 ^ 25) a.data (bytes / 4) = some u → Ends (.poolTargetAccess a ecc) s (u.send (.busReply 0 a.id false 0))))
  ∧ (fit → targetOf a.addr = some 2 → s.bobReady = true → a.write = true → 4 ≤ a.width → s.poolPuts (a.addr % 2 ^ 25) a.data (bytes / 4) = none →
      Gives (.poolTargetAccess a ecc) s (fun t => Sends [.busReply 0 a.id true 0] s t ∧ t.pool = s.pool ∧ t.queues = s.queues
        ∧ t.errWait = s.errWait ++ [{ code := 0x05, block := 4, write := true, addr := a.addr, detail := 0, master := some (0, a.id) }]))
  ∧ (fit → targetOf a.addr = some 2 → s.bobReady = true → a.write = false → 4 ≤ a.width →
      let o := a.addr % 2 ^ 25
      let r := s.poolWords (o / 4 * 4) (max 1 (bytes / 4))
      (ecc = .clean → Ends (.poolTargetAccess a ecc) s (r.2.send (.busReply 0 a.id false r.1)))
      ∧ (ecc = .corrected → Gives (.poolTargetAccess a ecc) s (fun t => t.get (R.ECC_CORR_Count (o / 128 % 16)) = (s.get (R.ECC_CORR_Count (o / 128 % 16)) + 1) % 2 ^ 32
          ∧ t.pool = s.pool ∧ t.queues = s.queues))
      ∧ (ecc = .bad ∨ ecc = .link → Gives (.poolTargetAccess a ecc) s (fun t => Sends [.busReply 0 a.id true 0] s t ∧ t.pool = s.pool ∧ t.queues = s.queues
          ∧ t.errWait = s.errWait ++ [{ code := 0x0B, block := 4, write := false, addr := a.addr, detail := 2, master := some (0, a.id) }])))
  ∧ (fit → targetOf a.addr = some 5 → a.write = true → a.width = 4 → a.beats = 1 →
      let w := (a.addr - 0x5000000) / 4
      let kept := s.coefLocked w = true ∧ s.filt.bad.contains w = false
      (¬ kept → Gives (.coefWrite a) s (fun t => t.coefAt w = BitVec.ofNat 32 a.data ∧ (∀ k, k ≠ w → t.coefAt k = s.coefAt k)
          ∧ Sends [.busReply 0 a.id false 0] s t ∧ t.errWait = s.errWait))
      ∧ (kept → Gives (.coefWrite a) s (fun t => t.filt = s.filt ∧ Sends [.busReply 0 a.id true 0] s t
          ∧ t.get R.CNT_COEF_LOCKED_Count = (s.get R.CNT_COEF_LOCKED_Count + 1) % 2 ^ 32
          ∧ t.errWait = s.errWait ++ [{ code := 0x10, block := 17, write := true, addr := a.addr, detail := 9, master := some (0, a.id) }])))
  ∧ Ends .busPromote s (s.bump R.CNT_PROMOTE_Count)

/-- R387: the window locks. A read that includes byte 3 takes a free lock for its master and returns the owner; a lock that is held stays with its
owner; a write of 0 by the owner releases it, one by another master is ignored; a master's reset, counted and recorded, releases its locks. -/
def Obligations.WindowLocksAreSemaphores : Prop := ∀ (s : State) (m k d : Nat), Ready s → m < 7 → k < 8 →
  let owner := s.get (R.WIN_LOCK_Owner k)
  (owner = 0 → Ends (.winLockAcquire m k) s ((s.put (R.WIN_LOCK_Owner k) (m + 1)).send (.readData (R.WIN_LOCK k) (m + 1))))
  ∧ (owner ≠ 0 → Ends (.winLockAcquire m k) s (s.send (.readData (R.WIN_LOCK k) owner)))
  ∧ (owner = m + 1 → Ends (.winLockRelease m k) s (s.put (R.WIN_LOCK_Owner k) 0))
  ∧ (owner ≠ m + 1 → Ends (.winLockRelease m k) s s)
  ∧ Gives (.masterReset m d) s (fun t => t.get R.CNT_MRESET_Count = (s.get R.CNT_MRESET_Count + 1) % 2 ^ 32
      ∧ t.errWait = s.errWait ++ [{ code := 9, block := 4, write := false, detail := min d 255, master := some (m, 0) }]
      ∧ (∀ j, j < 8 → t.get (R.WIN_LOCK_Owner j) = (if s.get (R.WIN_LOCK_Owner j) = m + 1 then 0 else s.get (R.WIN_LOCK_Owner j))))

/-- R450: a write of a command register of the tables with more than one command bit set acts on none of them: Range in the block's result
register, counted by Seq, and a record of code Refused; a staging window with Push and Cancel together is refused with BadArg. Any other write is left to
its own command. -/
def Obligations.SeveralCommandBitsActOnNone : Prop := ∀ (s : State) (v : Nat), Ready s → v < 2 ^ 32 →
  (∀ e, e ∈ [(R.SE_CMD, 3, R.SE_RESULT_Code, R.SE_RESULT_Seq), (R.ST_CMD, 3, R.ST_RESULT_Code, R.ST_RESULT_Seq), (R.Q_CMD, 4, R.Q_RESULT_Code, R.Q_RESULT_Seq),
      (R.XT_CMD, 4, R.XT_RESULT_Code, R.XT_RESULT_Seq), (R.DS_CMD, 2, R.DS_RESULT_Code, R.DS_RESULT_Seq), (R.FC_CMD, 3, R.FC_RESULT_Code, R.FC_RESULT_Seq),
      (R.DT_CMD, 3, R.DT_RESULT_Code, R.DT_RESULT_Seq)] → 2 ≤ onesOf v e.2.1 →
    Gives (.cmdMultiBit e.1 v) s (fun t => t.get e.2.2.1 = 1 ∧ t.get e.2.2.2 = (s.get e.2.2.2 + 1) % 2 ^ 16
      ∧ (∃ r : ErrReport, t.errWait = s.errWait ++ [r] ∧ r.code = 0x10 ∧ r.addr = regBase + e.1 ∧ r.detail = 1)
      ∧ OnlyRegs [e.2.2.1.reg] s { t with errWait := s.errWait }))
  ∧ (∀ k, k < 4 → bitOf v 0 = true → bitOf v 1 = true → Gives (.cmdMultiBit (R.W_CMD k) v) s (fun t => t.get (R.W_RESULT_Code k) = 6
      ∧ t.get (R.W_RESULT_Seq k) = (s.get (R.W_RESULT_Seq k) + 1) % 2 ^ 16 ∧ t.cues = s.cues
      ∧ OnlyRegs [R.W_RESULT k, R.CNT_REFUSED] s { t with errWait := s.errWait }))
  ∧ (∀ c, c < 2 ^ 24 → s.cmdMulti c v = none → Ends (.cmdMultiBit c v) s s)

/-- R394, R395: CS_N rises. A write frame whose last word holds one or two bytes aligned to their width writes them; one whose last word holds
three bytes, or misaligned ones, discards it, with a master reset and CNT_SPI_CUT; a read frame, and one of whole words, ends without effect; a rise
while an access has been issued and has not completed is a master reset of SPI. -/
def Obligations.SpiFramesEndAtChipSelect : Prop := ∀ (s : State) (x : Nat) (bs : List Byte), Ready s →
  let s0 := { s with host := { s.host with spi := none } }
  let reset := fun (t : State) => t.host.spi = none ∧ t.host.spiErr = true ∧ t.get R.CNT_MRESET_Count = (s.get R.CNT_MRESET_Count + 1) % 2 ^ 32
    ∧ t.errWait = s.errWait ++ [{ code := 9, block := 4, write := false, detail := 0, master := some (3, 0) }]
    ∧ (∀ k, k < 8 → t.get (R.WIN_LOCK_Owner k) = (if s.get (R.WIN_LOCK_Owner k) = 4 then 0 else s.get (R.WIN_LOCK_Owner k)))
    ∧ OnlyRegs ([R.CNT_MRESET, R.CNT_SPI_CUT] ++ (List.range 8).map R.WIN_LOCK) s { t with host := s.host, errWait := s.errWait }
  (s.host.spi = none → Ends (.spiCsRise false) s s ∧ Gives (.spiCsRise true) s reset)
  ∧ (s.host.spi = some (x, []) → Ends (.spiCsRise false) s s0 ∧ Gives (.spiCsRise true) s reset)
  ∧ (s.host.spi = some (x, bs) → bs.length = 1 ∨ bs.length = 2 → x % bs.length = 0 →
      let r := s0.access (spiAcc true x bs.length (leNat bs)) .clean
      (r.1 = false → Ends (.spiCsRise false) s r.2.2)
      ∧ (r.1 = true → Gives (.spiCsRise false) s (fun t => t.host.spiErr = true ∧ t.get R.CNT_BUSERR_Count = (r.2.2.get R.CNT_BUSERR_Count + 1) % 2 ^ 32)))
  ∧ (s.host.spi = some (x, bs) → bs.length = 3 ∨ (bs.length = 2 ∧ x % 2 ≠ 0) → Gives (.spiCsRise false) s (fun t => reset t
      ∧ t.get R.CNT_SPI_CUT_Count = (s.get R.CNT_SPI_CUT_Count + 1) % 2 ^ 32))

/-- R392, R393: SPI frames. A frame ends the one before it as a rise of CS_N does. A whole word of a write frame is written as it completes and the rest waits; each word of
a read frame comes after its marker, 0x5A, or 0xE5 and zeros where it got an error response; a command byte of no command is counted and recorded. R391:
the PCIe endpoint's resets mask every vector and disable MSI-X; training shows the link's speed and width. -/
def Obligations.HostPorts : Prop := ∀ (s : State) (addr b : Nat) (bytes : List Byte) (ecc : Ecc), Ready s → addr < 2 ^ 24 →
  let s0 := { s with host := { s.host with spi := none, spiErr := false } }
  let base := regBase + addr
  let win := s.get R.SPI_WIN_Base * 2 ^ 24 + addr
  (s.host.spi = none →
    (∀ c x, (c = .spiWrite addr bytes ∧ x = base) ∨ (c = .spiQuadWrite addr bytes ∧ x = base) ∨ (c = .spiWriteWin addr bytes ∧ x = win)
        ∨ (c = .spiQuadWriteWin addr bytes ∧ x = win) →
      (bytes.length < 4 → Ends c s { s with host := { s.host with spi := some (x, bytes), spiErr := false } })
      ∧ (bytes.length = 4 →
          let r := s0.access (spiAcc true x 4 (leNat bytes)) .clean
          (r.1 = false → Ends c s { r.2.2 with host := { r.2.2.host with spi := some (x + 4, []) } })
          ∧ (r.1 = true → Gives c s (fun t => t.host.spiErr = true ∧ t.get R.CNT_BUSERR_Count = (r.2.2.get R.CNT_BUSERR_Count + 1) % 2 ^ 32))))
    ∧ (∀ c x, (c = .spiRead addr 1 ecc ∧ x = base) ∨ (c = .spiQuadRead addr 1 ecc ∧ x = base) ∨ (c = .spiReadWin addr 1 ecc ∧ x = win)
        ∨ (c = .spiQuadReadWin addr 1 ecc ∧ x = win) →
      let r := s0.access (spiAcc false x 4 0) ecc
      (r.1 = false → Ends c s (r.2.2.send (.spi (0x5A#8 :: leBytes 4 r.2.1))))
      ∧ (r.1 = true → Gives c s (fun t => Sends [.spi [0xE5#8, 0#8, 0#8, 0#8, 0#8]] r.2.2 t ∧ t.host.spiErr = true
          ∧ t.get R.CNT_SPI_ERR_Count = (r.2.2.get R.CNT_SPI_ERR_Count + 1) % 2 ^ 32)))
    ∧ Ends .spiStatus s (s.send (.spi [BitVec.ofNat 8 ((if s.spiIrq then 1 else 0) + (if s.is (R.MBX_STATUS_Busy 1) then 2 else 0) + (if s.host.spiErr then 4 else 0))]))
    ∧ (b < 256 → b ∉ [0x02, 0x03, 0x05, 0x12, 0x13, 0x82, 0x83, 0x92, 0x93] → Gives (.spiBadCmd b) s (fun t => t.host.spiErr = true
        ∧ t.get R.CNT_SPI_BADCMD_Count = (s.get R.CNT_SPI_BADCMD_Count + 1) % 2 ^ 32
        ∧ t.errWait = s.errWait ++ [{ code := 0x20, block := 48, write := false, detail := b }])))
  ∧ (b ∈ [0x02, 0x03, 0x05, 0x12, 0x13, 0x82, 0x83, 0x92, 0x93] → Ends (.spiBadCmd b) s s)
  ∧ (let u := s.csRise false
     let s1 := { u with host := { u.host with spiErr := false } }
     (∀ c x, (c = .spiWrite addr bytes ∧ x = base) ∨ (c = .spiQuadWrite addr bytes ∧ x = base) ∨ (c = .spiWriteWin addr bytes ∧ x = win)
        ∨ (c = .spiQuadWriteWin addr bytes ∧ x = win) → Ends c s (s1.spiWords x (bytes.length / 4) bytes))
     ∧ (∀ c x k, (c = .spiRead addr k ecc ∧ x = base) ∨ (c = .spiQuadRead addr k ecc ∧ x = base) ∨ (c = .spiReadWin addr k ecc ∧ x = win)
        ∨ (c = .spiQuadReadWin addr k ecc ∧ x = win) → Ends c s ((s1.spiReads x ecc k).2.send (.spi (s1.spiReads x ecc k).1)))
     ∧ Ends .spiStatus s (u.send (.spi [BitVec.ofNat 8 u.spiStatus])))
  ∧ (∀ down d, Gives (.pcieLinkReset down d) s (fun t => t.get R.CNT_PCIE_RESET_Count = (s.get R.CNT_PCIE_RESET_Count + 1) % 2 ^ 32
      ∧ (∀ v, v < 32 → t.rd (R.MSIX_VCTRL v) = regReset (R.MSIX_VCTRL v)) ∧ t.is R.PCIE_STATUS_MsixEnable = false ∧ t.is R.PCIE_STATUS_FunctionMask = false
      ∧ t.host.d3 = false ∧ (down = true → t.is R.PCIE_STATUS_LinkUp = false) ∧ (down = false → t.is R.PCIE_STATUS_LinkUp = s.is R.PCIE_STATUS_LinkUp)))
  ∧ (∀ speed width msix mask d3, 1 ≤ speed → speed ≤ 3 → 1 ≤ width → width ≤ 2 →
      (s.powered R.PCIE_STATUS = false → Ends (.pcieLinkUp speed width msix mask d3) s s)
      ∧ (s.powered R.PCIE_STATUS = true → Gives (.pcieLinkUp speed width msix mask d3) s (fun t => t.is R.PCIE_STATUS_LinkUp = true
          ∧ t.get R.PCIE_STATUS_Speed = speed ∧ t.get R.PCIE_STATUS_Width = width ∧ t.is R.PCIE_STATUS_MsixEnable = msix
          ∧ t.is R.PCIE_STATUS_FunctionMask = mask ∧ t.host.d3 = d3)))

/-- R383, R385: an acknowledgement. A write of EVT_ACKe stores the acknowledged count; one of EVT_ACKALLw makes the events of its set bits not
pending; after either every unmasked vector whose level is still 1 sends its message again. Clearing a mask clears the vector's pending bit and sends
its message if its level is still 1.

R388, R390: the error log. ERR takes the waiting report of the lowest Block, counts it, and enters it where fewer than sixteen records are held, or
counts it lost; the first is held until a write of ERR_FIRST_ACK with its Seq; a read of ERR_POP hands out the oldest record, or 0. -/
def Obligations.EventsAndErrorRecords : Prop :=
  (∀ (s : State) (v : Nat), Ready s → v < 2 ^ 32 →
      let may := s.is R.PCIE_STATUS_LinkUp = true ∧ s.is R.PCIE_STATUS_MsixEnable = true ∧ s.host.d3 = false
      (∀ e, e < 128 → Gives (.evtAckWrite e v) s (fun t => t.get (R.EVT_ACK_Ack e) = v ∧ (∀ d, d < 128 → d ≠ e → t.get (R.EVT_ACK_Ack d) = s.get (R.EVT_ACK_Ack d))
          ∧ (may → t.outbox = s.outbox ++ ((List.range 32).filter (fun k => t.vecLevel k && !s.vecMasked k)).map Sent.msix)
          ∧ (¬ may → t.outbox = s.outbox)))
      ∧ (∀ w, w < 4 → Gives (.evtAckallWrite w v) s (fun t => (∀ i, i < 32 → bitOf v i = true → t.evtPending (32 * w + i) = false)
          ∧ (∀ e, e < 128 → ¬ (e / 32 = w ∧ bitOf v (e % 32) = true) → t.get (R.EVT_ACK_Ack e) = s.get (R.EVT_ACK_Ack e))
          ∧ (may → t.outbox = s.outbox ++ ((List.range 32).filter (fun k => t.vecLevel k && !s.vecMasked k)).map Sent.msix)
          ∧ (¬ may → t.outbox = s.outbox)))
      ∧ (∀ k, k < 32 → Gives (.msixUnmask (some k)) s (fun t => t.is (R.MSIX_VCTRL_Mask k) = false
          ∧ (Settled s → s.is R.PCIE_STATUS_FunctionMask = false → bitOf (t.rd (R.MSIX_PBA 0)).toNat k = false
              ∧ (may → t.outbox = s.outbox ++ (if bitOf (s.rd (R.MSIX_PBA 0)).toNat k && s.vecLevel k then [Sent.msix k] else []))
              ∧ (¬ may → t.outbox = s.outbox))))
      ∧ Gives (.msixUnmask none) s (fun t => t.is R.PCIE_STATUS_FunctionMask = false
          ∧ (Settled s → (∀ k, k < 32 → s.is (R.MSIX_VCTRL_Mask k) = false → bitOf (t.rd (R.MSIX_PBA 0)).toNat k = false)
              ∧ (may → t.outbox = s.outbox ++ ((List.range 32).filter (fun k => bitOf (s.rd (R.MSIX_PBA 0)).toNat k && s.vecLevel k && !s.is (R.MSIX_VCTRL_Mask k))).map Sent.msix)
              ∧ (¬ may → t.outbox = s.outbox))))
  ∧ (∀ s : State, Ready s →
      let seq := (s.get R.CNT_REC_Count + 1) % 2 ^ 32
      (s.errWait = [] → Ends .errorRecordAccept s s)
      ∧ (∀ r, nextReport s.errWait = some r → Gives .errorRecordAccept s (fun t => t.errWait = dropReport r s.errWait ∧ t.get R.CNT_REC_Count = seq
          ∧ (∀ q ∈ s.errWait, r.block ≤ q.block)
          ∧ (s.errFifo.length < 16 → t.errFifo = s.errFifo ++ [r.record seq s.time.pick] ∧ t.get R.ERR_CNT_LOST_Count = s.get R.ERR_CNT_LOST_Count)
          ∧ (16 ≤ s.errFifo.length → t.errFifo = s.errFifo ∧ t.get R.ERR_CNT_LOST_Count = (s.get R.ERR_CNT_LOST_Count + 1) % 2 ^ 32)
          ∧ t.is R.ERR_STATUS_FirstValid = true
          ∧ (s.is R.ERR_STATUS_FirstValid = true → ∀ k, k < 4 → t.rd (R.ERR_FIRST_W k) = s.rd (R.ERR_FIRST_W k))
          ∧ (s.is R.ERR_STATUS_FirstValid = false → t.rd (R.ERR_FIRST_W 1) = BitVec.ofNat 32 (r.record seq s.time.pick).w1)))
      ∧ (s.errFifo = [] → Ends .errPop s (s.send (.readData R.ERR_POP 0)))
      ∧ (∀ e es, s.errFifo = e :: es → Gives .errPop s (fun t => t.errFifo = es ∧ Sends [.readData R.ERR_POP (e.w0 + 2 ^ 31)] s t
          ∧ t.rd (R.ERR_POP_W 0) = BitVec.ofNat 32 e.w1 ∧ t.rd (R.ERR_POP_W 1) = BitVec.ofNat 32 e.w2 ∧ t.rd (R.ERR_POP_W 2) = BitVec.ofNat 32 e.w3
          ∧ OnlyRegs [R.ERR_POP_W 0, R.ERR_POP_W 1, R.ERR_POP_W 2] s { t with errFifo := s.errFifo }))
      ∧ (∀ v, v < 2 ^ 32 →
          (s.is R.ERR_STATUS_FirstValid = true → v % 65536 = (s.rd (R.ERR_FIRST_W 0)).toNat % 65536 → Ends (.errFirstAck v) s (s.put R.ERR_STATUS_FirstValid 0))
          ∧ (¬ (s.is R.ERR_STATUS_FirstValid = true ∧ v % 65536 = (s.rd (R.ERR_FIRST_W 0)).toNat % 65536) → Ends (.errFirstAck v) s s)))

/-- R404 to R406, R408, R409, R448: every reset gives its cause and starts the device anew: time, streams, queues and the firmware's state take their
reset values, the OTP keeps its words, and the pool keeps its contents through a pool-preserving reset only. Thermal shutdown and the loss of XREF drop
the lease and hold every domain but PD0; their end, and in neither of them RST_N, is a pin reset. Of two resets in one cycle the kind higher in the
table acts, and both causes are recorded. -/
def Obligations.ResetsTakeTheirCauses : Prop := ∀ (s : State) (st : Straps), st.wf = true →
  let caused := fun (cause : Nat) (t : State) => t.rd R.AON_RST_CAUSE = s.causeWith cause ∧ t.life.held = .none ∧ t.life.stage = .reset
    ∧ t.time = {} ∧ t.rx = [] ∧ t.tx = [] ∧ t.cues = [] ∧ t.heddle = {} ∧ t.filt = {} ∧ t.errFifo = [] ∧ t.pending = s.pending
    ∧ (s.life.fuse = none → t.otp = s.otp) ∧ (s.flash.busy = none → t.flash.mem = s.flash.mem)
  let fresh := fun (cause : Nat) (t : State) => caused cause t ∧ t.pool = [] ∧ t.queues = []
  let latched := fun (cause : Nat) (t : State) => fresh cause t ∧ t.get R.SYS_STRAPS_Boot = st.boot ∧ t.get R.LEASE_STATUS_PairId = st.pair
  let first := fun (u : State) (rank : Nat) => ∀ r, u.sameCycle = some r → r ≤ rank
  let late := fun (cause : Nat) => s.wr R.AON_RST_CAUSE (s.causeWith cause)
  (first s 4 → Gives (.powerOnReset st) s (latched 1))
  ∧ (s.life.held = .thermal ∨ s.life.held = .xref → Ends (.pinReset st) s s)
  ∧ (¬ (s.life.held = .thermal ∨ s.life.held = .xref) →
      (first s 3 → Gives (.pinReset st) s (latched 2)) ∧ (¬ first s 3 → Ends (.pinReset st) s (late 2)))
  ∧ (s.life.held = .thermal → first s 3 → Gives (.thermalRelease st) s (latched 8))
  ∧ (s.life.held ≠ .thermal → Ends (.thermalRelease st) s s)
  ∧ (s.life.held = .xref → first s 3 → Gives (.xrefReturn st) s (latched 2))
  ∧ (s.life.held ≠ .xref → Ends (.xrefReturn st) s s)
  ∧ (Ready s →
      (first s 3 → Gives (.brownOut st) s (latched 4)) ∧ (¬ first s 3 → Ends (.brownOut st) s (late 4))
      ∧ (first s 2 → Gives .warmReset s (fresh 0x10)) ∧ (¬ first s 2 → Ends .warmReset s (late 0x10))
      ∧ (¬ first s 1 → Ends .poolPreservingReset s (late 0x40)) ∧ (¬ first s 0 → Ends .spindleReset s (late 0x80))
      ∧ (first s 1 → Gives .poolPreservingReset s (fun t => caused 0x40 t ∧ (s.queues = [] → t.pool = s.pool ∧ t.queues = [])
          ∧ ((s.queues.map Prod.fst).Nodup → ∀ k, (s.queue k).state = 0 → t.queue k = s.queue k)))
      ∧ (first s 0 → Gives .spindleReset s (fun t => t.rd R.AON_RST_CAUSE = s.causeWith 0x80 ∧ t.life.stage = .reset ∧ t.objs = [] ∧ t.lcp = {} ∧ t.dom = {} ∧ t.time = s.time
          ∧ t.rx = s.rx ∧ t.tx = s.tx ∧ t.queues = s.queues ∧ t.heddle = s.heddle ∧ t.filt = s.filt))
      ∧ (∀ c why, (c = .thermalShutdown ∧ why = .thermal) ∨ (c = .xrefLoss ∧ why = .xref) → Gives c s (fun t => t.life.held = why
          ∧ t.is R.LEASE_STATUS_LeaseValid = false ∧ t.is R.LEASE_STATUS_ReserveValid = false ∧ t.get R.PWR_STATUS_On = 0xFFF ∧ t.rx = [] ∧ t.queues = []))
      ∧ (∀ w, s.life.wdog = some w → s.sameCycle = none → (s.xrefTo (w.1 + s.wdogSpan)).sameCycle = none →
          Gives .watchdogExpire s (fresh 0x20)) ∧ (s.life.wdog = none → Ends .watchdogExpire s s))

/-- R398, R402, R403, R409: supplies, the watchdog and the domains. Each rail that goes low is counted; a kick needs the value 0x5A5A and, like a new
timeout, starts the count afresh; half the timeout without a kick warns once; a domain in use is not switched off, and one that is switched on comes up
with its registers at their reset values.

R407, R410 to R415, R421: from reset to running firmware. The shadow takes the OTP's words once; the ROM starts once, with the shadow loaded: a
retired device and recovery mode run recovery, the two load modes open the load window; Go checks the image of the load area and launches it or gives
the reason; recovery answers the messages that pass its checks, each answer waiting for port N0; launched firmware starts the watchdog and MCS0. -/
def Obligations.SuppliesBootAndDomains : Prop :=
  (∀ (s : State) (v : Nat), Ready s → v < 2 ^ 32 →
      let span := s.get R.AON_WDOG_CFG_TimeoutMs * 625000
      (∀ low, low < 256 → Gives (.supplyUndervoltage low) s (fun t => t.get R.SUPPLY_STATUS_Low = low
          ∧ t.get R.CNT_SUPPLY_FAULT_Count = (s.get R.CNT_SUPPLY_FAULT_Count
              + ((List.range 8).filter (fun i => bitOf low i && !bitOf (s.get R.SUPPLY_STATUS_Low) i)).length) % 2 ^ 32
          ∧ OnlyRegs [R.SUPPLY_STATUS, R.CNT_SUPPLY_FAULT] s t))
      ∧ (s.is R.AON_STATUS_Busy = false →
          (v % 65536 ≠ 0x5A5A → Ends (.watchdogKick v) s s)
          ∧ (v % 65536 = 0x5A5A → Gives (.watchdogKick v) s (fun t => t.life.wdog = (if s.get R.AON_WDOG_CFG_TimeoutMs = 0 then none else some (s.xref, false))
              ∧ OnlyRegs [] s { t with life := s.life }))
          ∧ (bitsOf v 0 14 ≤ 10000 → Gives (.watchdogCfgWrite v) s (fun t => t.get R.AON_WDOG_CFG_TimeoutMs = bitsOf v 0 14
              ∧ t.life.wdog = (if bitsOf v 0 14 = 0 then none else some (s.xref, false)) ∧ OnlyRegs [R.AON_WDOG_CFG] s { t with life := s.life }))
          ∧ (10000 < bitsOf v 0 14 → Ends (.watchdogCfgWrite v) s (s.report (turnedDown 0x11 R.AON_WDOG_CFG 0 0))))
      ∧ (s.life.wdog = none → Ends .watchdogWarn s s)
      ∧ (∀ t0, s.life.wdog = some (t0, true) → Ends .watchdogWarn s s)
      ∧ (∀ t0, s.life.wdog = some (t0, false) → Gives .watchdogWarn s (fun t => t.life.wdog = some (t0, true) ∧ t.xref = max s.xref (t0 + span / 2)
          ∧ t.get R.CNT_WDOG_WARN_Count = (s.get R.CNT_WDOG_WARN_Count + 1) % 2 ^ 32))
      ∧ ((∃ b, b < 5 ∧ bitOf (s.rd R.PWR_CTRL).toNat b = true ∧ bitOf v b = false ∧ s.domainFree b = false) → v < 32 →
          Ends (.pwrCtrlWrite v) s (s.report (turnedDown 0x10 R.PWR_CTRL 0xFF 0)))
      ∧ ((∀ b, b < 5 → bitOf v b = false → s.domainFree b = true) → v < 32 → Gives (.pwrCtrlWrite v) s (fun t => t.errWait = s.errWait
          ∧ ∀ b, b < 5 → bitOf (t.rd R.PWR_CTRL).toNat b = bitOf v b
            ∧ bitOf (t.get R.PWR_STATUS_On) (pwrDomain b) = (bitOf v b && bitOf (s.get R.PWR_STATUS_On) (pwrDomain b))))
      ∧ (∀ b, b < 5 → bitOf (s.rd R.PWR_CTRL).toNat b = false ∨ bitOf (s.get R.PWR_STATUS_On) (pwrDomain b) = true → Ends (.pdPowerUpDone (pwrDomain b)) s s)
      ∧ (∀ d, d < 12 → d ∉ [3, 4, 7, 10, 11] → Ends (.pdPowerUpDone d) s s)
      ∧ (∀ b, b < 5 → bitOf (s.rd R.PWR_CTRL).toNat b = true → bitOf (s.get R.PWR_STATUS_On) (pwrDomain b) = false → Gives (.pdPowerUpDone (pwrDomain b)) s (fun t =>
          bitOf (t.get R.PWR_STATUS_On) (pwrDomain b) = true))
      ∧ (∀ b, b < 4 → bitOf (s.rd R.PWR_CTRL).toNat b = true → bitOf (s.get R.PWR_STATUS_On) (pwrDomain b) = false → Gives (.pdPowerUpDone (pwrDomain b)) s (fun t =>
          bitOf (t.get R.PWR_STATUS_On) (pwrDomain b) = true ∧ (∀ a, domainOf a = pwrDomain b → a ≠ R.MSIX_PBA 0 → t.rd a = regReset a)
          ∧ (∀ a, ackIn (pwrDomain b) a = true → t.rd a = 0#32)
          ∧ (∀ a, domainOf a ≠ pwrDomain b → ackIn (pwrDomain b) a = false → a ≠ R.PWR_STATUS → a ≠ R.MSIX_PBA 0 → t.rd a = s.rd a))))
  ∧ (∀ (s : State) (ip udp : Nat) (msg : List Byte), Ready s →
      let h := Memory.readBytes s.sram 0 256
      let code := s.bootCheck (h ++ Memory.readBytes s.sram 256 (min (imageLen h) 982784))
      let mode := s.get R.AON_BOOT_STATUS_Mode
      let start := s.life.stage = .reset ∧ s.is R.FUSE_STATUS_ShadowValid = true
      let off := leNat ((msg.drop 28).take 4)
      let n := leNat ((msg.drop 32).take 2)
      let replied := fun (t : State) => ∃ f m, f.out = .lcp 0 ip udp m ∧ t.fwFrames 0 = s.fwFrames 0 ++ [f]
      (s.is R.FUSE_STATUS_ShadowValid = true → Ends .fuseShadowLoaded s s)
      ∧ (s.is R.FUSE_STATUS_ShadowValid = false → Gives .fuseShadowLoaded s (fun t => t.shadow = s.otp ∧ t.is R.FUSE_STATUS_ShadowValid = true
          ∧ t.get R.FUSE_STATUS_Lifecycle = t.lifecycle ∧ t.otp = s.otp))
      ∧ (¬ start → Ends .bootRomStart s s)
      ∧ (start → s.lifecycle = 3 → Gives .bootRomStart s (fun t => t.get R.AON_BOOT_STATUS_Result = 9 ∧ t.recovering = true ∧ t.life.stage = .rom
          ∧ t.is R.AON_BOOT_STATUS_LoadWindow = s.is R.AON_BOOT_STATUS_LoadWindow))
      ∧ (start → s.lifecycle ≠ 3 → mode = 3 → Gives .bootRomStart s (fun t => t.recovering = true ∧ t.life.stage = .rom))
      ∧ (start → s.lifecycle ≠ 3 → mode = 1 ∨ mode = 2 → Gives .bootRomStart s (fun t => t.is R.AON_BOOT_STATUS_LoadWindow = true ∧ t.life.stage = .rom
          ∧ t.recovering = s.recovering))
      ∧ (start → s.lifecycle ≠ 3 → mode = 0 → Gives .bootRomStart s (fun t => t.life.stage = .launched
          ∨ (t.recovering = true ∧ t.is R.AON_RST_CAUSE_AutoRecovery = true)))
      ∧ (s.is R.AON_STATUS_Busy = false →
          (s.is R.AON_BOOT_STATUS_LoadWindow = false → Ends .bootGo s (s.report (turnedDown 0x11 R.AON_BOOT_CMD 0 0)))
          ∧ (s.is R.AON_BOOT_STATUS_LoadWindow = true → Gives .bootGo s (fun t => t.get R.AON_BOOT_STATUS_Result = code
              ∧ t.is R.AON_BOOT_STATUS_LoadWindow = decide (code ≠ 1) ∧ t.life.stage = (if code = 1 then .launched else s.life.stage) ∧ t.sram = s.sram)))
      ∧ (s.recoveryOk 1 msg = false → Ends (.recoveryIdentify ip udp msg) s s)
      ∧ (s.recoveryOk 1 msg = true → Gives (.recoveryIdentify ip udp msg) s (fun t => replied t ∧ OnlyRegs [] s { t with lcp := s.lcp, fwq := s.fwq }))
      ∧ (s.recoveryOk 2 msg = false ∨ s.lifecycle = 3 → Ends (.recoveryLoad ip udp msg) s s)
      ∧ (s.recoveryOk 2 msg = true → s.lifecycle ≠ 3 → n ≤ 1024 → 52 + n ≤ msg.length → Gives (.recoveryLoad ip udp msg) s (fun t =>
          t.sram = (if 0xF0000 < off + n then s.sram else Memory.writeBytes s.sram off ((msg.drop 36).take n)) ∧ replied t))
      ∧ (s.recoveryOk 2 msg = true → s.lifecycle ≠ 3 → 1024 < n ∨ msg.length < 52 + n → Gives (.recoveryLoad ip udp msg) s (fun t => t.sram = s.sram ∧ replied t))
      ∧ (s.recoveryOk 3 msg = false ∨ s.lifecycle = 3 → Ends (.recoveryLaunch ip udp msg) s s)
      ∧ (s.recoveryOk 3 msg = true → s.lifecycle ≠ 3 → Gives (.recoveryLaunch ip udp msg) s (fun t => t.get R.AON_BOOT_STATUS_Result = code
          ∧ t.life.stage = (if code = 1 then .launched else s.life.stage) ∧ replied t))
      ∧ (∀ ports, s.life.stage ≠ .launched → Ends (.firmwareStart ports) s s)
      ∧ (∀ ports, s.life.stage = .launched → s.flash.boot = 255 → Gives (.firmwareStart ports) s (fun t => t.life.stage = .running
          ∧ t.life.wdog = some (s.xref, false) ∧ t.get R.AON_WDOG_CFG_TimeoutMs = 1000 ∧ t.mcsEn 0 = true
          ∧ (s.is R.TIME_STATUS_TodValid = true → t.is R.TIME_CTRL_Run = true) ∧ (s.is R.TIME_STATUS_TodValid = false → s.sv.tod = none → t.life.wantTime = true))))

/-- R117, R118, R417 to R422: Doze and the OTP. Doze needs a wake source and the wake port's domain, drops the lease and holds all but PD0, with the pool
where it is retained; a wake request ends it with its cause. Programming needs VPP, an unlocked word, a lifecycle that admits it and a fit temperature, in
that order; its end ORs the bits that read back into the word, and gives 5 where one does not. -/
def Obligations.DozeAndFuses : Prop := ∀ (s : State) (st : Straps), st.wf = true →
  let port := s.get R.AON_WAKE_CFG_Port
  let source := s.is R.AON_WAKE_CFG_MagicEn = true ∨ s.get R.AON_WAKE_CFG_PatternEn ≠ 0 ∨ s.is R.AON_WAKE_CFG_WakePinEn = true
  let on := bitOf (s.get R.PWR_STATUS_On) (3 + port / 2) = true
  let woken := fun (bits : Nat) (t : State) => t.life.held = .none ∧ t.rd R.AON_RST_CAUSE = 0x100#32 ∧ t.rd R.AON_WAKE_CAUSE = BitVec.ofNat 32 bits
  let refused := fun (c : Instr) (code : Nat) => Gives c s (fun t => t.get R.FUSE_RESULT_Code = code ∧ t.get R.FUSE_RESULT_Seq = (s.get R.FUSE_RESULT_Seq + 1) % 2 ^ 16
    ∧ t.otp = s.otp ∧ t.life = s.life ∧ t.get R.CNT_FUSE_ERR_Count = (s.get R.CNT_FUSE_ERR_Count + 1) % 2 ^ 32)
  let begun := fun (c : Instr) (op : FuseOp) => Gives c s (fun t => t.life = { s.life with fuse := some op } ∧ t.is R.FUSE_STATUS_Busy = true ∧ t.otp = s.otp)
  (Ready s → s.is R.AON_STATUS_Busy = false →
      (¬ (source ∧ on) → Ends .dozeEnter s (s.report (turnedDown 0x10 R.AON_DOZE_CMD 0xFF 0)))
      ∧ (source → on → Gives .dozeEnter s (fun t => t.life.held = .doze ∧ t.get R.PWR_STATUS_On = (if s.is R.AON_WAKE_CFG_PoolRetain then 5 else 1)
          ∧ t.is R.LEASE_STATUS_LeaseValid = false ∧ t.rd R.AON_WAKE_CAUSE = 0#32)))
  ∧ (s.life.held ≠ .doze ∨ s.is R.AON_WAKE_CFG_WakePinEn = false → Ends (.wakePin st) s s)
  ∧ (s.life.held = .doze → s.is R.AON_WAKE_CFG_WakePinEn = true → Gives (.wakePin st) s (woken 0x20))
  ∧ (∀ f good pin, s.life.held ≠ .doze → Ends (.wakeFrameMatch f good pin st) s s)
  ∧ (∀ f, s.life.held = .doze → s.wakeBits f ≠ 0 → Gives (.wakeFrameMatch f true false st) s (woken (s.wakeBits f)))
  ∧ (∀ (f : List Byte) (good pin : Bool), s.life.held = .doze →
      let bits := (if good then s.wakeBits f else 0) + (if pin && s.is R.AON_WAKE_CFG_WakePinEn then 0x20 else 0)
      (bits = 0 → Ends (.wakeFrameMatch f good pin st) s s) ∧ (bits ≠ 0 → Gives (.wakeFrameMatch f good pin st) s (woken bits)))
  ∧ (Ready s → s.is R.FUSE_STATUS_Busy = false →
      let w := s.get R.FUSE_ADDR_Word
      refused (.fuseProgram false) 1 ∧ refused (.fuseAdvance false) 1
      ∧ (s.fuseLocked w = true → refused (.fuseProgram true) 2)
      ∧ (s.fuseLocked w = false → s.fuseWordOk w = false → refused (.fuseProgram true) 3)
      ∧ (s.fuseLocked w = false → s.fuseWordOk w = true → s.fuseTemp = true → refused (.fuseProgram true) 4)
      ∧ (s.fuseLocked w = false → s.fuseWordOk w = true → s.fuseTemp = false →
          begun (.fuseProgram true) { word := w, bits := s.get R.FUSE_DATA_Bits, asked := false })
      ∧ (s.advanceOk = false → refused (.fuseAdvance true) 3)
      ∧ (s.advanceOk = true → s.fuseTemp = true → refused (.fuseAdvance true) 4)
      ∧ (s.advanceOk = true → s.fuseTemp = false → begun (.fuseAdvance true) { word := 34, bits := 2 ^ s.lifecycle, asked := false }))
  ∧ (Ready s → s.life.fuse = none → ∀ failed, Ends (.fuseProgramDone failed) s s)
  ∧ (∀ f, Ready s → s.life.fuse = some f → f.asked = false → Gives (.fuseProgramDone 0) s (fun t => t.get R.FUSE_RESULT_Code = 0 ∧ t.is R.FUSE_STATUS_Busy = false
      ∧ t.life = { s.life with fuse := none } ∧ tget 0#32 t.otp f.word = tget 0#32 s.otp f.word ||| BitVec.ofNat 32 f.bits
      ∧ (∀ k, k ≠ f.word → tget 0#32 t.otp k = tget 0#32 s.otp k)))
  ∧ (∀ f failed, Ready s → s.life.fuse = some f → f.asked = false →
      let bad := BitVec.ofNat 32 f.bits &&& BitVec.ofNat 32 failed &&& ~~~ (tget 0#32 s.otp f.word)
      bad ≠ 0#32 → Gives (.fuseProgramDone failed) s (fun t => t.get R.FUSE_RESULT_Code = 5 ∧ t.is R.FUSE_STATUS_Busy = false
        ∧ t.life = { s.life with fuse := none } ∧ tget 0#32 t.otp f.word = tget 0#32 s.otp f.word ||| (BitVec.ofNat 32 f.bits &&& ~~~ bad) ∧ t.shadow = s.shadow))
end

