-- ==== Sys2Proof/Laws/Decim.lean ====
section
/-!
SUPPORT. The table of the decimator ROM is one that R229 allows, whatever an implementation's coefficients are.
-/
namespace Sys2Proof.Machine

/-- R229: both profiles' tables sum to 2^30, with absolute values below 2^31 in all, and Linear's is symmetric. -/
theorem decRom_fits (p : Nat) (hp : p < 2) : romFits p ((List.range (romTaps p)).map (fun k => (decRom p k).toInt)) = true := by
  unfold decRom
  split
  · assumption
  · interval_cases p <;> decide +kernel

end Sys2Proof.Machine
end

