-- ==== Sys2Proof/Laws/Tbl.lean ====
section
/-!
SUPPORT. The laws of sparse tables: what a table holds after a write, and that a write keeps the canonical form.
-/
namespace Sys2Proof.Machine

variable {β : Type}

theorem tget_terase (d : β) (a b : Nat) (t : List (Nat × β)) :
    tget d (terase a t) b = if b = a then d else tget d t b := by
  induction t with
  | nil => simp [terase, tget]
  | cons e r ih =>
    obtain ⟨k, v⟩ := e
    by_cases hk : k = a
    · subst hk
      simp only [terase, if_true, ih, tget]
      by_cases hb : b = k
      · simp [hb]
      · simp [hb, Ne.symm hb]
    · simp only [terase, hk, if_false, tget, ih]
      by_cases hkb : k = b
      · subst hkb; simp [hk]
      · simp [hkb]

theorem tget_tins (d : β) (a b : Nat) (v : β) (t : List (Nat × β)) (h : ∀ e ∈ t, e.1 ≠ a) :
    tget d (tins a v t) b = if b = a then v else tget d t b := by
  induction t with
  | nil => by_cases hb : a = b <;> simp [tins, tget, hb, eq_comm]
  | cons e r ih =>
    obtain ⟨k, w⟩ := e
    have hk : k ≠ a := h (k, w) (by simp)
    have ih := ih (fun e he => h e (by simp [he]))
    by_cases hlt : a < k
    · simp only [tins, hlt, if_true]
      by_cases hb : b = a
      · simp [tget, hb]
      · simp [tget, hb, Ne.symm hb]
    · simp only [tins, hlt, if_false, tget, ih]
      by_cases hkb : k = b
      · subst hkb; simp [hk]
      · simp [hkb]

theorem terase_ne (a : Nat) (t : List (Nat × β)) : ∀ e ∈ terase a t, e.1 ≠ a := by
  induction t with
  | nil => simp [terase]
  | cons e r ih =>
    obtain ⟨k, v⟩ := e
    by_cases hk : k = a
    · simpa [terase, hk] using ih
    · intro e he
      simp only [terase, hk, if_false, List.mem_cons] at he
      obtain rfl | he := he
      · exact hk
      · exact ih e he

/-- What a table holds after a write. -/
theorem tget_tput [DecidableEq β] (d : β) (a b : Nat) (v : β) (t : List (Nat × β)) :
    tget d (tput d a v t) b = if b = a then v else tget d t b := by
  unfold tput
  split
  · rename_i hv
    rw [tget_terase, hv]
  · rw [tget_tins _ _ _ _ _ (terase_ne a t), tget_terase]
    by_cases hb : b = a <;> simp [hb]

@[simp] theorem tget_tput_same [DecidableEq β] (d : β) (a : Nat) (v : β) (t : List (Nat × β)) : tget d (tput d a v t) a = v := by
  simp [tget_tput]

theorem tget_tput_ne [DecidableEq β] (d : β) {a b : Nat} (h : b ≠ a) (v : β) (t : List (Nat × β)) :
    tget d (tput d a v t) b = tget d t b := by simp [tget_tput, h]

/-- A write at one number leaves what every other number reads as, whatever the unlisted value of the other is. -/
theorem tget_tput_other [DecidableEq β] (d d' : β) {a b : Nat} (h : b ≠ a) (v : β) (t : List (Nat × β)) :
    tget d (tput d' a v t) b = tget d t b := by
  unfold tput
  split
  · simp [tget_terase, h]
  · rw [tget_tins _ _ _ _ _ (terase_ne a t), tget_terase]; simp [h]

-- ## The canonical form

theorem trising_some {lo : Nat} {t : List (Nat × β)} (h : trising (some lo) t = true) : trising none t = true := by
  cases t with
  | nil => rfl
  | cons e r => obtain ⟨k, v⟩ := e; simp_all [trising]

theorem trising_weaken {lo lo' : Nat} (hl : lo' ≤ lo) {t : List (Nat × β)} (h : trising (some lo) t = true) : trising (some lo') t = true := by
  cases t with
  | nil => rfl
  | cons e r =>
    obtain ⟨k, v⟩ := e
    simp only [trising, Bool.and_eq_true, decide_eq_true_eq] at h ⊢
    exact ⟨by omega, h.2⟩

theorem trising_terase (a : Nat) (t : List (Nat × β)) : ∀ lo, trising (some lo) t = true → trising (some lo) (terase a t) = true := by
  induction t with
  | nil => intro lo h; exact h
  | cons e r ih =>
    obtain ⟨k, v⟩ := e
    intro lo h
    simp only [trising, Bool.and_eq_true, decide_eq_true_eq] at h
    by_cases hk : k = a
    · simp only [terase, hk, if_true]
      exact ih lo (trising_weaken (by omega) h.2)
    · simp only [terase, hk, if_false, trising, Bool.and_eq_true, decide_eq_true_eq]
      exact ⟨h.1, ih k h.2⟩

theorem trising_terase_none (a : Nat) (t : List (Nat × β)) (h : trising none t = true) : trising none (terase a t) = true := by
  cases t with
  | nil => rfl
  | cons e r =>
    obtain ⟨k, v⟩ := e
    simp only [trising, Bool.true_and] at h
    by_cases hk : k = a
    · simp only [terase, hk, if_true]
      exact trising_some (trising_terase a r k (hk ▸ h) |> fun x => by simpa [hk] using x)
    · simp only [terase, hk, if_false, trising, Bool.true_and]
      exact trising_terase a r k h

theorem trising_tins (a : Nat) (v : β) (t : List (Nat × β)) :
    ∀ lo, lo < a → (∀ e ∈ t, e.1 ≠ a) → trising (some lo) t = true → trising (some lo) (tins a v t) = true := by
  induction t with
  | nil => intro lo hl _ _; simp [tins, trising, hl]
  | cons e r ih =>
    obtain ⟨k, w⟩ := e
    intro lo hl hne h
    have hk : k ≠ a := hne (k, w) (by simp)
    simp only [trising, Bool.and_eq_true, decide_eq_true_eq] at h
    by_cases hlt : a < k
    · simp only [tins, hlt, if_true, trising, Bool.and_eq_true, decide_eq_true_eq]
      simp only [hl, h.2, and_self]
    · simp only [tins, hlt, if_false, trising, Bool.and_eq_true, decide_eq_true_eq]
      exact ⟨h.1, ih k (by omega) (fun e he => hne e (by simp [he])) h.2⟩

theorem trising_tins_none (a : Nat) (v : β) (t : List (Nat × β)) (hne : ∀ e ∈ t, e.1 ≠ a) (h : trising none t = true) :
    trising none (tins a v t) = true := by
  cases t with
  | nil => simp [tins, trising]
  | cons e r =>
    obtain ⟨k, w⟩ := e
    have hk : k ≠ a := hne (k, w) (by simp)
    simp only [trising, Bool.true_and] at h
    by_cases hlt : a < k
    · simp only [tins, hlt, if_true, trising, Bool.true_and, Bool.and_eq_true, decide_eq_true_eq]
      exact ⟨trivial, h⟩
    · simp only [tins, hlt, if_false, trising, Bool.true_and]
      exact trising_tins a v r k (by omega) (fun e he => hne e (by simp [he])) h

theorem terase_sub (a : Nat) (t : List (Nat × β)) : ∀ e ∈ terase a t, e ∈ t := by
  induction t with
  | nil => simp [terase]
  | cons e r ih =>
    obtain ⟨k, v⟩ := e
    by_cases hk : k = a
    · intro e he
      simp only [terase, hk, if_true] at he
      exact List.mem_cons_of_mem _ (ih e he)
    · intro e he
      simp only [terase, hk, if_false, List.mem_cons] at he
      obtain rfl | he := he
      · simp
      · exact List.mem_cons_of_mem _ (ih e he)

theorem tins_mem (a : Nat) (v : β) (t : List (Nat × β)) : ∀ e ∈ tins a v t, e = (a, v) ∨ e ∈ t := by
  induction t with
  | nil => simp [tins]
  | cons e r ih =>
    obtain ⟨k, w⟩ := e
    by_cases hlt : a < k
    · intro e he; simpa [tins, hlt] using he
    · intro e he
      simp only [tins, hlt, if_false, List.mem_cons] at he
      obtain rfl | he := he
      · simp
      · obtain h | h := ih e he
        · exact .inl h
        · exact .inr (List.mem_cons_of_mem _ h)

/-- A write keeps the canonical form. -/
theorem tcanon_tput [DecidableEq β] (dflt : Nat → β) (a : Nat) (v : β) (t : List (Nat × β)) (h : tcanon dflt t = true) :
    tcanon dflt (tput (dflt a) a v t) = true := by
  simp only [tcanon, Bool.and_eq_true, List.all_eq_true, decide_eq_true_eq] at h ⊢
  unfold tput
  split
  · exact ⟨trising_terase_none a t h.1, fun e he => h.2 e (terase_sub a t e he)⟩
  · rename_i hv
    refine ⟨trising_tins_none a v _ (terase_ne a t) (trising_terase_none a t h.1), fun e he => ?_⟩
    obtain rfl | he := tins_mem a v _ e he
    · exact hv
    · exact h.2 e (terase_sub a t e he)

end Sys2Proof.Machine
end

