-- ==== Sys2Proof/Laws/Mem.lean ====
section
/-!
SUPPORT. The laws of memories: a read after a write, and that every memory operation keeps the canonical form.
-/
namespace Sys2Proof.Machine

/-- A byte reads as it was written; every other byte reads as before. -/
theorem Memory.read_write (m : Memory) (a b : Nat) (v : Byte) :
    Memory.read (Memory.write m a v) b = if b = a then v else Memory.read m b := tget_tput _ _ _ _ _

@[simp] theorem Memory.read_write_same (m : Memory) (a : Nat) (v : Byte) : Memory.read (Memory.write m a v) a = v := by
  simp [Memory.read_write]

/-- A byte written keeps the canonical form. -/
theorem Memory.wf_write (m : Memory) (a : Nat) (v : Byte) (h : Memory.wf m = true) : Memory.wf (Memory.write m a v) = true :=
  tcanon_tput (fun _ => 0#8) a v m h

/-- Bytes written keep the canonical form. -/
theorem Memory.wf_writeBytes (bs : List Byte) : ∀ (m : Memory) (a : Nat), Memory.wf m = true → Memory.wf (Memory.writeBytes m a bs) = true := by
  induction bs with
  | nil => intro m a h; exact h
  | cons b r ih => intro m a h; exact ih _ _ (Memory.wf_write m a b h)

/-- Bytes outside those written read as before. -/
theorem Memory.read_writeBytes_out (bs : List Byte) : ∀ (m : Memory) (a b : Nat), b < a ∨ a + bs.length ≤ b →
    Memory.read (Memory.writeBytes m a bs) b = Memory.read m b := by
  induction bs with
  | nil => intro m a b _; rfl
  | cons x r ih =>
    intro m a b h
    simp only [List.length_cons] at h
    show Memory.read (Memory.writeBytes (Memory.write m a x) (a + 1) r) b = _
    rw [ih _ _ _ (by omega), Memory.read_write, if_neg (by omega)]

/-- Bytes written read as they were written. -/
theorem Memory.read_writeBytes_in (bs : List Byte) : ∀ (m : Memory) (a i : Nat), (h : i < bs.length) →
    Memory.read (Memory.writeBytes m a bs) (a + i) = bs[i] := by
  induction bs with
  | nil => intro m a i h; simp at h
  | cons x r ih =>
    intro m a i h
    show Memory.read (Memory.writeBytes (Memory.write m a x) (a + 1) r) (a + i) = _
    cases i with
    | zero => rw [Memory.read_writeBytes_out _ _ _ _ (by omega)]; simp
    | succ k =>
      have := ih (Memory.write m a x) (a + 1) k (by simpa using h)
      rw [show a + (k + 1) = a + 1 + k by omega, this]; simp

/-- A word written keeps the canonical form. -/
theorem Memory.wf_writeWord (m : Memory) (a : Nat) (w : BitVec 32) (h : Memory.wf m = true) : Memory.wf (Memory.writeWord m a w) = true :=
  Memory.wf_writeBytes _ _ _ h

/-- Words written keep the canonical form. -/
theorem Memory.wf_writeWords (ws : List (BitVec 32)) : ∀ (m : Memory) (a : Nat), Memory.wf m = true → Memory.wf (Memory.writeWords m a ws) = true := by
  induction ws with
  | nil => intro m a h; exact h
  | cons w r ih => intro m a h; exact ih _ _ (Memory.wf_writeWord m a w h)

theorem leBytes_length (k : Nat) : ∀ n, (leBytes k n).length = k := by
  induction k with
  | zero => intro n; rfl
  | succ k ih => intro n; simp [leBytes, ih]

/-- Bytes outside a written word read as before. -/
theorem Memory.read_writeWord_out (m : Memory) (a b : Nat) (w : BitVec 32) (h : b < a ∨ a + 4 ≤ b) :
    Memory.read (Memory.writeWord m a w) b = Memory.read m b :=
  Memory.read_writeBytes_out _ _ _ _ (by simpa [leBytes_length] using h)

end Sys2Proof.Machine
end

