-- ==== Sys2Proof/Laws/Frames.lean ====
section
/-!
SUPPORT. Numbers read from bytes, the range of CRC-32C, and frames of Selvedge and of local links read back.
-/
namespace Sys2Proof.Machine

theorem leNat_leBytes (k : Nat) : ∀ n, leNat (leBytes k n) = n % 256 ^ k := by
  induction k with
  | zero => intro n; simp [leBytes, leNat, Nat.mod_one]
  | succ k ih =>
    intro n
    simp only [leBytes, leNat, ih, BitVec.toNat_ofNat]
    have e : n % 256 ^ (k + 1) = n % 256 + 256 * (n / 256 % 256 ^ k) := by rw [pow_succ', Nat.mod_mul]
    rw [e]

theorem beBytes_length (k n : Nat) : (beBytes k n).length = k := by simp [beBytes, leBytes_length]

theorem beNat_beBytes (k n : Nat) : beNat (beBytes k n) = n % 256 ^ k := by simp [beNat, beBytes, leNat_leBytes]

/-- A number in the middle of a byte string. -/
theorem beAt_append (a b c : List Byte) (k : Nat) (h : b.length = k) : beAt (a ++ b ++ c) a.length k = beNat b := by
  subst h
  simp [beAt, sliceB]

theorem crcBits_lt (k : Nat) : ∀ c, c < 2 ^ 32 → crcBits c k < 2 ^ 32 := by
  induction k with
  | zero => intro c h; exact h
  | succ k ih =>
    intro c h
    apply ih
    split
    · exact Nat.xor_lt_two_pow (by omega) (by norm_num)
    · omega

theorem crc32c_lt (bs : List Byte) : crc32c bs < 2 ^ 32 := by
  have key : ∀ (bs : List Byte) (c : Nat), c < 2 ^ 32 → bs.foldl (fun c b => crcBits (c ^^^ b.toNat) 8) c < 2 ^ 32 := by
    intro bs
    induction bs with
    | nil => intro c h; exact h
    | cons b r ih =>
      intro c h
      exact ih _ (crcBits_lt _ _ (Nat.xor_lt_two_pow h (lt_of_lt_of_le b.isLt (by norm_num))))
  exact Nat.xor_lt_two_pow (key bs _ (by norm_num)) (by norm_num)

/-- A number in the middle of a byte string, by its place. -/
theorem beAt_mid (a b c l : List Byte) (n k : Nat) (hl : l = a ++ b ++ c) (ha : a.length = n) (hb : b.length = k) : beAt l n k = beNat b := by
  subst hl ha
  exact beAt_append a b c k hb

/-- A frame reads back as its type and payload. -/
theorem svParse_svFrame (typ seq : Nat) (p : List Byte) (ht : typ < 256) (hp : p.length ≤ 1024) : svParse (svFrame typ seq p) = some (typ, p) := by
  have hbl : (svBody typ seq p).length = p.length + 7 := by simp [svBody, beBytes_length]; omega
  set e := ceilDiv p.length 8 * 8 + 8 with he
  have hpad : p.length + 8 ≤ e := by
    have : ceilDiv p.length 8 = (p.length + 7) / 8 := rfl
    omega
  have hl : (svFrame typ seq p).length = e + 8 := by simp [svFrame, beBytes_length, hbl]; omega
  have h2 : beAt (svFrame typ seq p) 2 2 = p.length := by
    rw [beAt_mid [0x78#8, BitVec.ofNat 8 typ] (beBytes 2 p.length) _ _ 2 2 (by simp [svFrame, svBody]; rfl) rfl (beBytes_length _ _),
      beNat_beBytes, Nat.mod_eq_of_lt (by norm_num; omega)]
  have h0 : beAt (svFrame typ seq p) 0 1 = 0x78 := by
    rw [beAt_mid [] [0x78#8] _ _ 0 1 (by simp [svFrame]; rfl) rfl rfl]; rfl
  have h1 : beAt (svFrame typ seq p) 1 1 = typ := by
    rw [beAt_mid [0x78#8] (beBytes 1 typ) _ _ 1 1 (by simp [svFrame, svBody, beBytes, leBytes]; rfl) rfl (beBytes_length _ _),
      beNat_beBytes, Nat.mod_eq_of_lt (by norm_num; omega)]
  have h3 : beAt (svFrame typ seq p) e 1 = 0x87 := by
    rw [beAt_mid ([0x78#8] ++ svBody typ seq p ++ List.replicate (ceilDiv p.length 8 * 8 - p.length) 0#8) [0x87#8] _ _ e 1
      (by simp [svFrame]; rfl) (by simp [hbl]; omega) rfl]; rfl
  have h4 : beAt (svFrame typ seq p) (e + 1) 4 = crc32c (svBody typ seq p) := by
    rw [beAt_mid ([0x78#8] ++ svBody typ seq p ++ List.replicate (ceilDiv p.length 8 * 8 - p.length) 0#8 ++ [0x87#8]) (beBytes 4 (crc32c (svBody typ seq p))) _ _ (e + 1) 4
      (by simp [svFrame]; rfl) (by simp [hbl]; omega) (beBytes_length _ _),
      beNat_beBytes, Nat.mod_eq_of_lt (by have := crc32c_lt (svBody typ seq p); norm_num at this ⊢; omega)]
  have h5 : ((svFrame typ seq p).take (8 + p.length)).drop 1 = svBody typ seq p := by
    have : (svFrame typ seq p).take (8 + p.length) = 0x78#8 :: svBody typ seq p := by
      simp only [svFrame, List.append_assoc]
      rw [show 8 + p.length = ([0x78#8] ++ svBody typ seq p).length by simp [hbl]; omega, ← List.append_assoc, List.take_left']
      · rfl
      · simp
    rw [this]; rfl
  have h6 : ((svFrame typ seq p).take (8 + p.length)).drop 8 = p := by
    rw [show 8 = 1 + 7 by rfl, ← List.drop_drop, show 1 + 7 + p.length = 8 + p.length by rfl, h5]
    have : ([BitVec.ofNat 8 typ] ++ beBytes 2 p.length ++ beBytes 4 seq).length = 7 := by simp [beBytes_length]
    rw [svBody, ← this, List.drop_left]
  simp only [svParse, h2, ← he, hl, h0, h1, h3, h4, h5, h6]
  rw [if_neg (by omega)]

/-- Descrambling is scrambling again: the scrambler is additive (R273). -/
theorem scramble_scramble (st : Nat) (l : List Byte) : scramble st (scramble st l) = l := by
  induction l generalizing st with
  | nil => rfl
  | cons b bs ih => simp [scramble, ih]

@[simp] theorem scramble_length (st : Nat) (l : List Byte) : (scramble st l).length = l.length := by
  induction l generalizing st with
  | nil => rfl
  | cons b bs ih => simp [scramble, ih]

/-- A line cut into blocks, each under its header, has the line's bytes. -/
theorem blocks8_flat {α : Type} (hs : List α) (l : List Byte) (h : l.length = 8 * hs.length) :
    (hs.zip (blocks8 hs.length l)).flatMap Prod.snd = l := by
  induction hs generalizing l with
  | nil => simpa using (List.length_eq_zero_iff.mp (by simpa using h)).symm
  | cons x xs ih =>
    have := ih (l.drop 8) (by simp [h]; omega)
    simp [blocks8, this]

end Sys2Proof.Machine
end

