-- ==== Sys2Proof/Laws/Word.lean ====
section
/-!
SUPPORT. The laws of bit fields in a number.
-/
namespace Sys2Proof

theorem setBits_lt_mod (n l w v : Nat) : n % 2 ^ l < 2 ^ l ∧ v % 2 ^ w * 2 ^ l + n % 2 ^ l < 2 ^ (l + w) := by
  have h1 : n % 2 ^ l < 2 ^ l := Nat.mod_lt _ (by positivity)
  have h2 : v % 2 ^ w < 2 ^ w := Nat.mod_lt _ (by positivity)
  refine ⟨h1, ?_⟩
  calc v % 2 ^ w * 2 ^ l + n % 2 ^ l < v % 2 ^ w * 2 ^ l + 2 ^ l := by omega
    _ = (v % 2 ^ w + 1) * 2 ^ l := by ring
    _ ≤ 2 ^ w * 2 ^ l := Nat.mul_le_mul_right _ h2
    _ = 2 ^ (l + w) := by rw [← pow_add, Nat.add_comm]

/-- A field that is set reads as the low bits of its value. -/
theorem bitsOf_setBits_same (n l w v : Nat) : bitsOf (setBits n l w v) l w = v % 2 ^ w := by
  obtain ⟨h1, -⟩ := setBits_lt_mod n l w v
  have e : setBits n l w v = n % 2 ^ l + 2 ^ l * (v % 2 ^ w + 2 ^ w * (n / 2 ^ (l + w))) := by
    unfold setBits; rw [pow_add]; ring
  unfold bitsOf
  rw [e, Nat.add_mul_div_left _ _ (by positivity), Nat.div_eq_of_lt h1, Nat.zero_add, Nat.add_mul_mod_self_left, Nat.mod_mod]

/-- A field above or below the one that is set keeps its value. -/
theorem bitsOf_setBits_ne (n l w v l' w' : Nat) (h : l' + w' ≤ l ∨ l + w ≤ l') : bitsOf (setBits n l w v) l' w' = bitsOf n l' w' := by
  obtain ⟨h1, h2⟩ := setBits_lt_mod n l w v
  obtain h | h := h
  · have e : setBits n l w v = n % 2 ^ l + 2 ^ l * (v % 2 ^ w + 2 ^ w * (n / 2 ^ (l + w))) := by
      unfold setBits; rw [pow_add]; ring
    have e' : n = n % 2 ^ l + 2 ^ l * (n / 2 ^ l) := (Nat.mod_add_div _ _).symm
    obtain ⟨k, rfl⟩ := Nat.exists_eq_add_of_le h
    generalize v % 2 ^ w + 2 ^ w * (n / 2 ^ (l' + w' + k + w)) = x at e
    have key : ∀ y, bitsOf (n % 2 ^ (l' + w' + k) + 2 ^ (l' + w' + k) * y) l' w' = bitsOf (n % 2 ^ (l' + w' + k)) l' w' := by
      intro y
      unfold bitsOf
      have : 2 ^ (l' + w' + k) * y = 2 ^ l' * (2 ^ w' * (2 ^ k * y)) := by rw [pow_add, pow_add]; ring
      rw [this, Nat.add_mul_div_left _ _ (by positivity), Nat.add_mul_mod_self_left]
    rw [e, key, ← key (n / 2 ^ (l' + w' + k)), ← e']
  · obtain ⟨k, rfl⟩ := Nat.exists_eq_add_of_le h
    have e : setBits n l w v = (v % 2 ^ w * 2 ^ l + n % 2 ^ l) + 2 ^ (l + w) * (n / 2 ^ (l + w)) := by unfold setBits; ring
    have e2 : setBits n l w v / 2 ^ (l + w) = n / 2 ^ (l + w) := by
      rw [e, Nat.add_mul_div_left _ _ (by positivity), Nat.div_eq_of_lt h2, Nat.zero_add]
    unfold bitsOf
    rw [pow_add 2 (l + w) k, ← Nat.div_div_eq_div_mul, ← Nat.div_div_eq_div_mul, e2]

theorem setBits_lt (n l w v b : Nat) (h : l + w ≤ b) (hn : n < 2 ^ b) : setBits n l w v < 2 ^ b := by
  obtain ⟨-, h2⟩ := setBits_lt_mod n l w v
  obtain ⟨k, rfl⟩ := Nat.exists_eq_add_of_le h
  have e : setBits n l w v = (v % 2 ^ w * 2 ^ l + n % 2 ^ l) + 2 ^ (l + w) * (n / 2 ^ (l + w)) := by unfold setBits; ring
  have h3 : n / 2 ^ (l + w) < 2 ^ k := by
    apply Nat.div_lt_of_lt_mul; rw [← pow_add]; exact hn
  rw [e, pow_add 2 (l + w) k]
  generalize v % 2 ^ w * 2 ^ l + n % 2 ^ l = x at h2
  generalize n / 2 ^ (l + w) = q at h3
  calc x + 2 ^ (l + w) * q < 2 ^ (l + w) + 2 ^ (l + w) * q := Nat.add_lt_add_right h2 _
    _ = 2 ^ (l + w) * (q + 1) := by ring
    _ ≤ 2 ^ (l + w) * 2 ^ k := Nat.mul_le_mul_left _ h3

end Sys2Proof
end

