-- ==== Sys2Proof/Laws/State.lean ====
section
/-!
SUPPORT. The laws of State: one lemma per field per update, and what registers and fields read as after a write of one.
-/
namespace Sys2Proof.Machine

-- ## What an update leaves alone

@[simp] theorem State.wr_freeCtr (s : State) (a : Nat) (w : BitVec 32) : (s.wr a w).freeCtr = s.freeCtr := rfl
@[simp] theorem State.wr_time (s : State) (a : Nat) (w : BitVec 32) : (s.wr a w).time = s.time := rfl
@[simp] theorem State.wr_cues (s : State) (a : Nat) (w : BitVec 32) : (s.wr a w).cues = s.cues := rfl
@[simp] theorem State.wr_doneLog (s : State) (a : Nat) (w : BitVec 32) : (s.wr a w).doneLog = s.doneLog := rfl
@[simp] theorem State.wr_lastDone (s : State) (a : Nat) (w : BitVec 32) : (s.wr a w).lastDone = s.lastDone := rfl
@[simp] theorem State.wr_errWait (s : State) (a : Nat) (w : BitVec 32) : (s.wr a w).errWait = s.errWait := rfl
@[simp] theorem State.wr_errFifo (s : State) (a : Nat) (w : BitVec 32) : (s.wr a w).errFifo = s.errFifo := rfl
@[simp] theorem State.wr_msixLevel (s : State) (a : Nat) (w : BitVec 32) : (s.wr a w).msixLevel = s.msixLevel := rfl
@[simp] theorem State.wr_reed (s : State) (a : Nat) (w : BitVec 32) : (s.wr a w).reed = s.reed := rfl
@[simp] theorem State.wr_day (s : State) (a : Nat) (w : BitVec 32) : (s.wr a w).day = s.day := rfl
@[simp] theorem State.wr_synth (s : State) (a : Nat) (w : BitVec 32) : (s.wr a w).synth = s.synth := rfl
@[simp] theorem State.wr_objs (s : State) (a : Nat) (w : BitVec 32) : (s.wr a w).objs = s.objs := rfl
@[simp] theorem State.wr_blobs (s : State) (a : Nat) (w : BitVec 32) : (s.wr a w).blobs = s.blobs := rfl
@[simp] theorem State.wr_pool (s : State) (a : Nat) (w : BitVec 32) : (s.wr a w).pool = s.pool := rfl
@[simp] theorem State.wr_queues (s : State) (a : Nat) (w : BitVec 32) : (s.wr a w).queues = s.queues := rfl
@[simp] theorem State.wr_portOpen (s : State) (a : Nat) (w : BitVec 32) : (s.wr a w).portOpen = s.portOpen := rfl
@[simp] theorem State.wr_ports (s : State) (a : Nat) (w : BitVec 32) : (s.wr a w).ports = s.ports := rfl
@[simp] theorem State.wr_fwq (s : State) (a : Nat) (w : BitVec 32) : (s.wr a w).fwq = s.fwq := rfl
@[simp] theorem State.wr_rx (s : State) (a : Nat) (w : BitVec 32) : (s.wr a w).rx = s.rx := rfl
@[simp] theorem State.wr_mmLog (s : State) (a : Nat) (w : BitVec 32) : (s.wr a w).mmLog = s.mmLog := rfl
@[simp] theorem State.wr_tx (s : State) (a : Nat) (w : BitVec 32) : (s.wr a w).tx = s.tx := rfl
@[simp] theorem State.wr_pmLog (s : State) (a : Nat) (w : BitVec 32) : (s.wr a w).pmLog = s.pmLog := rfl
@[simp] theorem State.wr_dig (s : State) (a : Nat) (w : BitVec 32) : (s.wr a w).dig = s.dig := rfl
@[simp] theorem State.wr_src (s : State) (a : Nat) (w : BitVec 32) : (s.wr a w).src = s.src := rfl
@[simp] theorem State.wr_dst (s : State) (a : Nat) (w : BitVec 32) : (s.wr a w).dst = s.dst := rfl
@[simp] theorem State.wr_recovering (s : State) (a : Nat) (w : BitVec 32) : (s.wr a w).recovering = s.recovering := rfl
@[simp] theorem State.wr_heddle (s : State) (a : Nat) (w : BitVec 32) : (s.wr a w).heddle = s.heddle := rfl
@[simp] theorem State.wr_dec (s : State) (a : Nat) (w : BitVec 32) : (s.wr a w).dec = s.dec := rfl
@[simp] theorem State.wr_filt (s : State) (a : Nat) (w : BitVec 32) : (s.wr a w).filt = s.filt := rfl
@[simp] theorem State.wr_det (s : State) (a : Nat) (w : BitVec 32) : (s.wr a w).det = s.det := rfl
@[simp] theorem State.wr_marks (s : State) (a : Nat) (w : BitVec 32) : (s.wr a w).marks = s.marks := rfl
@[simp] theorem State.wr_tdm (s : State) (a : Nat) (w : BitVec 32) : (s.wr a w).tdm = s.tdm := rfl
@[simp] theorem State.wr_ll (s : State) (a : Nat) (w : BitVec 32) : (s.wr a w).ll = s.ll := rfl
@[simp] theorem State.wr_xref (s : State) (a : Nat) (w : BitVec 32) : (s.wr a w).xref = s.xref := rfl
@[simp] theorem State.wr_lease (s : State) (a : Nat) (w : BitVec 32) : (s.wr a w).lease = s.lease := rfl
@[simp] theorem State.wr_sv (s : State) (a : Nat) (w : BitVec 32) : (s.wr a w).sv = s.sv := rfl
@[simp] theorem State.wr_ovl (s : State) (a : Nat) (w : BitVec 32) : (s.wr a w).ovl = s.ovl := rfl
@[simp] theorem State.wr_flash (s : State) (a : Nat) (w : BitVec 32) : (s.wr a w).flash = s.flash := rfl
@[simp] theorem State.wr_patDue (s : State) (a : Nat) (w : BitVec 32) : (s.wr a w).patDue = s.patDue := rfl
@[simp] theorem State.wr_otp (s : State) (a : Nat) (w : BitVec 32) : (s.wr a w).otp = s.otp := rfl
@[simp] theorem State.wr_shadow (s : State) (a : Nat) (w : BitVec 32) : (s.wr a w).shadow = s.shadow := rfl
@[simp] theorem State.wr_sram (s : State) (a : Nat) (w : BitVec 32) : (s.wr a w).sram = s.sram := rfl
@[simp] theorem State.wr_partnerLedger (s : State) (a : Nat) (w : BitVec 32) : (s.wr a w).partnerLedger = s.partnerLedger := rfl
@[simp] theorem State.wr_subCount (s : State) (a : Nat) (w : BitVec 32) : (s.wr a w).subCount = s.subCount := rfl
@[simp] theorem State.wr_lcp (s : State) (a : Nat) (w : BitVec 32) : (s.wr a w).lcp = s.lcp := rfl
@[simp] theorem State.wr_dom (s : State) (a : Nat) (w : BitVec 32) : (s.wr a w).dom = s.dom := rfl
@[simp] theorem State.wr_temple (s : State) (a : Nat) (w : BitVec 32) : (s.wr a w).temple = s.temple := rfl
@[simp] theorem State.wr_life (s : State) (a : Nat) (w : BitVec 32) : (s.wr a w).life = s.life := rfl
@[simp] theorem State.wr_host (s : State) (a : Nat) (w : BitVec 32) : (s.wr a w).host = s.host := rfl
@[simp] theorem State.wr_outbox (s : State) (a : Nat) (w : BitVec 32) : (s.wr a w).outbox = s.outbox := rfl
@[simp] theorem State.wr_pending (s : State) (a : Nat) (w : BitVec 32) : (s.wr a w).pending = s.pending := rfl
@[simp] theorem State.put_freeCtr (s : State) (f : Fld) (v : Nat) : (s.put f v).freeCtr = s.freeCtr := rfl
@[simp] theorem State.put_time (s : State) (f : Fld) (v : Nat) : (s.put f v).time = s.time := rfl
@[simp] theorem State.put_cues (s : State) (f : Fld) (v : Nat) : (s.put f v).cues = s.cues := rfl
@[simp] theorem State.put_doneLog (s : State) (f : Fld) (v : Nat) : (s.put f v).doneLog = s.doneLog := rfl
@[simp] theorem State.put_lastDone (s : State) (f : Fld) (v : Nat) : (s.put f v).lastDone = s.lastDone := rfl
@[simp] theorem State.put_errWait (s : State) (f : Fld) (v : Nat) : (s.put f v).errWait = s.errWait := rfl
@[simp] theorem State.put_errFifo (s : State) (f : Fld) (v : Nat) : (s.put f v).errFifo = s.errFifo := rfl
@[simp] theorem State.put_msixLevel (s : State) (f : Fld) (v : Nat) : (s.put f v).msixLevel = s.msixLevel := rfl
@[simp] theorem State.put_reed (s : State) (f : Fld) (v : Nat) : (s.put f v).reed = s.reed := rfl
@[simp] theorem State.put_day (s : State) (f : Fld) (v : Nat) : (s.put f v).day = s.day := rfl
@[simp] theorem State.put_synth (s : State) (f : Fld) (v : Nat) : (s.put f v).synth = s.synth := rfl
@[simp] theorem State.put_objs (s : State) (f : Fld) (v : Nat) : (s.put f v).objs = s.objs := rfl
@[simp] theorem State.put_blobs (s : State) (f : Fld) (v : Nat) : (s.put f v).blobs = s.blobs := rfl
@[simp] theorem State.put_pool (s : State) (f : Fld) (v : Nat) : (s.put f v).pool = s.pool := rfl
@[simp] theorem State.put_queues (s : State) (f : Fld) (v : Nat) : (s.put f v).queues = s.queues := rfl
@[simp] theorem State.put_portOpen (s : State) (f : Fld) (v : Nat) : (s.put f v).portOpen = s.portOpen := rfl
@[simp] theorem State.put_ports (s : State) (f : Fld) (v : Nat) : (s.put f v).ports = s.ports := rfl
@[simp] theorem State.put_fwq (s : State) (f : Fld) (v : Nat) : (s.put f v).fwq = s.fwq := rfl
@[simp] theorem State.put_rx (s : State) (f : Fld) (v : Nat) : (s.put f v).rx = s.rx := rfl
@[simp] theorem State.put_mmLog (s : State) (f : Fld) (v : Nat) : (s.put f v).mmLog = s.mmLog := rfl
@[simp] theorem State.put_tx (s : State) (f : Fld) (v : Nat) : (s.put f v).tx = s.tx := rfl
@[simp] theorem State.put_pmLog (s : State) (f : Fld) (v : Nat) : (s.put f v).pmLog = s.pmLog := rfl
@[simp] theorem State.put_dig (s : State) (f : Fld) (v : Nat) : (s.put f v).dig = s.dig := rfl
@[simp] theorem State.put_src (s : State) (f : Fld) (v : Nat) : (s.put f v).src = s.src := rfl
@[simp] theorem State.put_dst (s : State) (f : Fld) (v : Nat) : (s.put f v).dst = s.dst := rfl
@[simp] theorem State.put_recovering (s : State) (f : Fld) (v : Nat) : (s.put f v).recovering = s.recovering := rfl
@[simp] theorem State.put_heddle (s : State) (f : Fld) (v : Nat) : (s.put f v).heddle = s.heddle := rfl
@[simp] theorem State.put_dec (s : State) (f : Fld) (v : Nat) : (s.put f v).dec = s.dec := rfl
@[simp] theorem State.put_filt (s : State) (f : Fld) (v : Nat) : (s.put f v).filt = s.filt := rfl
@[simp] theorem State.put_det (s : State) (f : Fld) (v : Nat) : (s.put f v).det = s.det := rfl
@[simp] theorem State.put_marks (s : State) (f : Fld) (v : Nat) : (s.put f v).marks = s.marks := rfl
@[simp] theorem State.put_tdm (s : State) (f : Fld) (v : Nat) : (s.put f v).tdm = s.tdm := rfl
@[simp] theorem State.put_ll (s : State) (f : Fld) (v : Nat) : (s.put f v).ll = s.ll := rfl
@[simp] theorem State.put_xref (s : State) (f : Fld) (v : Nat) : (s.put f v).xref = s.xref := rfl
@[simp] theorem State.put_lease (s : State) (f : Fld) (v : Nat) : (s.put f v).lease = s.lease := rfl
@[simp] theorem State.put_sv (s : State) (f : Fld) (v : Nat) : (s.put f v).sv = s.sv := rfl
@[simp] theorem State.put_ovl (s : State) (f : Fld) (v : Nat) : (s.put f v).ovl = s.ovl := rfl
@[simp] theorem State.put_flash (s : State) (f : Fld) (v : Nat) : (s.put f v).flash = s.flash := rfl
@[simp] theorem State.put_patDue (s : State) (f : Fld) (v : Nat) : (s.put f v).patDue = s.patDue := rfl
@[simp] theorem State.put_otp (s : State) (f : Fld) (v : Nat) : (s.put f v).otp = s.otp := rfl
@[simp] theorem State.put_shadow (s : State) (f : Fld) (v : Nat) : (s.put f v).shadow = s.shadow := rfl
@[simp] theorem State.put_sram (s : State) (f : Fld) (v : Nat) : (s.put f v).sram = s.sram := rfl
@[simp] theorem State.put_partnerLedger (s : State) (f : Fld) (v : Nat) : (s.put f v).partnerLedger = s.partnerLedger := rfl
@[simp] theorem State.put_subCount (s : State) (f : Fld) (v : Nat) : (s.put f v).subCount = s.subCount := rfl
@[simp] theorem State.put_lcp (s : State) (f : Fld) (v : Nat) : (s.put f v).lcp = s.lcp := rfl
@[simp] theorem State.put_dom (s : State) (f : Fld) (v : Nat) : (s.put f v).dom = s.dom := rfl
@[simp] theorem State.put_temple (s : State) (f : Fld) (v : Nat) : (s.put f v).temple = s.temple := rfl
@[simp] theorem State.put_life (s : State) (f : Fld) (v : Nat) : (s.put f v).life = s.life := rfl
@[simp] theorem State.put_host (s : State) (f : Fld) (v : Nat) : (s.put f v).host = s.host := rfl
@[simp] theorem State.put_outbox (s : State) (f : Fld) (v : Nat) : (s.put f v).outbox = s.outbox := rfl
@[simp] theorem State.put_pending (s : State) (f : Fld) (v : Nat) : (s.put f v).pending = s.pending := rfl
@[simp] theorem State.putB_freeCtr (s : State) (f : Fld) (b : Bool) : (s.putB f b).freeCtr = s.freeCtr := rfl
@[simp] theorem State.putB_time (s : State) (f : Fld) (b : Bool) : (s.putB f b).time = s.time := rfl
@[simp] theorem State.putB_cues (s : State) (f : Fld) (b : Bool) : (s.putB f b).cues = s.cues := rfl
@[simp] theorem State.putB_doneLog (s : State) (f : Fld) (b : Bool) : (s.putB f b).doneLog = s.doneLog := rfl
@[simp] theorem State.putB_lastDone (s : State) (f : Fld) (b : Bool) : (s.putB f b).lastDone = s.lastDone := rfl
@[simp] theorem State.putB_errWait (s : State) (f : Fld) (b : Bool) : (s.putB f b).errWait = s.errWait := rfl
@[simp] theorem State.putB_errFifo (s : State) (f : Fld) (b : Bool) : (s.putB f b).errFifo = s.errFifo := rfl
@[simp] theorem State.putB_msixLevel (s : State) (f : Fld) (b : Bool) : (s.putB f b).msixLevel = s.msixLevel := rfl
@[simp] theorem State.putB_reed (s : State) (f : Fld) (b : Bool) : (s.putB f b).reed = s.reed := rfl
@[simp] theorem State.putB_day (s : State) (f : Fld) (b : Bool) : (s.putB f b).day = s.day := rfl
@[simp] theorem State.putB_synth (s : State) (f : Fld) (b : Bool) : (s.putB f b).synth = s.synth := rfl
@[simp] theorem State.putB_objs (s : State) (f : Fld) (b : Bool) : (s.putB f b).objs = s.objs := rfl
@[simp] theorem State.putB_blobs (s : State) (f : Fld) (b : Bool) : (s.putB f b).blobs = s.blobs := rfl
@[simp] theorem State.putB_pool (s : State) (f : Fld) (b : Bool) : (s.putB f b).pool = s.pool := rfl
@[simp] theorem State.putB_queues (s : State) (f : Fld) (b : Bool) : (s.putB f b).queues = s.queues := rfl
@[simp] theorem State.putB_portOpen (s : State) (f : Fld) (b : Bool) : (s.putB f b).portOpen = s.portOpen := rfl
@[simp] theorem State.putB_ports (s : State) (f : Fld) (b : Bool) : (s.putB f b).ports = s.ports := rfl
@[simp] theorem State.putB_fwq (s : State) (f : Fld) (b : Bool) : (s.putB f b).fwq = s.fwq := rfl
@[simp] theorem State.putB_rx (s : State) (f : Fld) (b : Bool) : (s.putB f b).rx = s.rx := rfl
@[simp] theorem State.putB_mmLog (s : State) (f : Fld) (b : Bool) : (s.putB f b).mmLog = s.mmLog := rfl
@[simp] theorem State.putB_tx (s : State) (f : Fld) (b : Bool) : (s.putB f b).tx = s.tx := rfl
@[simp] theorem State.putB_pmLog (s : State) (f : Fld) (b : Bool) : (s.putB f b).pmLog = s.pmLog := rfl
@[simp] theorem State.putB_dig (s : State) (f : Fld) (b : Bool) : (s.putB f b).dig = s.dig := rfl
@[simp] theorem State.putB_src (s : State) (f : Fld) (b : Bool) : (s.putB f b).src = s.src := rfl
@[simp] theorem State.putB_dst (s : State) (f : Fld) (b : Bool) : (s.putB f b).dst = s.dst := rfl
@[simp] theorem State.putB_recovering (s : State) (f : Fld) (b : Bool) : (s.putB f b).recovering = s.recovering := rfl
@[simp] theorem State.putB_heddle (s : State) (f : Fld) (b : Bool) : (s.putB f b).heddle = s.heddle := rfl
@[simp] theorem State.putB_dec (s : State) (f : Fld) (b : Bool) : (s.putB f b).dec = s.dec := rfl
@[simp] theorem State.putB_filt (s : State) (f : Fld) (b : Bool) : (s.putB f b).filt = s.filt := rfl
@[simp] theorem State.putB_det (s : State) (f : Fld) (b : Bool) : (s.putB f b).det = s.det := rfl
@[simp] theorem State.putB_marks (s : State) (f : Fld) (b : Bool) : (s.putB f b).marks = s.marks := rfl
@[simp] theorem State.putB_tdm (s : State) (f : Fld) (b : Bool) : (s.putB f b).tdm = s.tdm := rfl
@[simp] theorem State.putB_ll (s : State) (f : Fld) (b : Bool) : (s.putB f b).ll = s.ll := rfl
@[simp] theorem State.putB_xref (s : State) (f : Fld) (b : Bool) : (s.putB f b).xref = s.xref := rfl
@[simp] theorem State.putB_lease (s : State) (f : Fld) (b : Bool) : (s.putB f b).lease = s.lease := rfl
@[simp] theorem State.putB_sv (s : State) (f : Fld) (b : Bool) : (s.putB f b).sv = s.sv := rfl
@[simp] theorem State.putB_ovl (s : State) (f : Fld) (b : Bool) : (s.putB f b).ovl = s.ovl := rfl
@[simp] theorem State.putB_flash (s : State) (f : Fld) (b : Bool) : (s.putB f b).flash = s.flash := rfl
@[simp] theorem State.putB_patDue (s : State) (f : Fld) (b : Bool) : (s.putB f b).patDue = s.patDue := rfl
@[simp] theorem State.putB_otp (s : State) (f : Fld) (b : Bool) : (s.putB f b).otp = s.otp := rfl
@[simp] theorem State.putB_shadow (s : State) (f : Fld) (b : Bool) : (s.putB f b).shadow = s.shadow := rfl
@[simp] theorem State.putB_sram (s : State) (f : Fld) (b : Bool) : (s.putB f b).sram = s.sram := rfl
@[simp] theorem State.putB_partnerLedger (s : State) (f : Fld) (b : Bool) : (s.putB f b).partnerLedger = s.partnerLedger := rfl
@[simp] theorem State.putB_subCount (s : State) (f : Fld) (b : Bool) : (s.putB f b).subCount = s.subCount := rfl
@[simp] theorem State.putB_lcp (s : State) (f : Fld) (b : Bool) : (s.putB f b).lcp = s.lcp := rfl
@[simp] theorem State.putB_dom (s : State) (f : Fld) (b : Bool) : (s.putB f b).dom = s.dom := rfl
@[simp] theorem State.putB_temple (s : State) (f : Fld) (b : Bool) : (s.putB f b).temple = s.temple := rfl
@[simp] theorem State.putB_life (s : State) (f : Fld) (b : Bool) : (s.putB f b).life = s.life := rfl
@[simp] theorem State.putB_host (s : State) (f : Fld) (b : Bool) : (s.putB f b).host = s.host := rfl
@[simp] theorem State.putB_outbox (s : State) (f : Fld) (b : Bool) : (s.putB f b).outbox = s.outbox := rfl
@[simp] theorem State.putB_pending (s : State) (f : Fld) (b : Bool) : (s.putB f b).pending = s.pending := rfl
@[simp] theorem State.putI_freeCtr (s : State) (f : Fld) (i : Int) : (s.putI f i).freeCtr = s.freeCtr := rfl
@[simp] theorem State.putI_time (s : State) (f : Fld) (i : Int) : (s.putI f i).time = s.time := rfl
@[simp] theorem State.putI_cues (s : State) (f : Fld) (i : Int) : (s.putI f i).cues = s.cues := rfl
@[simp] theorem State.putI_doneLog (s : State) (f : Fld) (i : Int) : (s.putI f i).doneLog = s.doneLog := rfl
@[simp] theorem State.putI_lastDone (s : State) (f : Fld) (i : Int) : (s.putI f i).lastDone = s.lastDone := rfl
@[simp] theorem State.putI_errWait (s : State) (f : Fld) (i : Int) : (s.putI f i).errWait = s.errWait := rfl
@[simp] theorem State.putI_errFifo (s : State) (f : Fld) (i : Int) : (s.putI f i).errFifo = s.errFifo := rfl
@[simp] theorem State.putI_msixLevel (s : State) (f : Fld) (i : Int) : (s.putI f i).msixLevel = s.msixLevel := rfl
@[simp] theorem State.putI_reed (s : State) (f : Fld) (i : Int) : (s.putI f i).reed = s.reed := rfl
@[simp] theorem State.putI_day (s : State) (f : Fld) (i : Int) : (s.putI f i).day = s.day := rfl
@[simp] theorem State.putI_synth (s : State) (f : Fld) (i : Int) : (s.putI f i).synth = s.synth := rfl
@[simp] theorem State.putI_objs (s : State) (f : Fld) (i : Int) : (s.putI f i).objs = s.objs := rfl
@[simp] theorem State.putI_blobs (s : State) (f : Fld) (i : Int) : (s.putI f i).blobs = s.blobs := rfl
@[simp] theorem State.putI_pool (s : State) (f : Fld) (i : Int) : (s.putI f i).pool = s.pool := rfl
@[simp] theorem State.putI_queues (s : State) (f : Fld) (i : Int) : (s.putI f i).queues = s.queues := rfl
@[simp] theorem State.putI_portOpen (s : State) (f : Fld) (i : Int) : (s.putI f i).portOpen = s.portOpen := rfl
@[simp] theorem State.putI_ports (s : State) (f : Fld) (i : Int) : (s.putI f i).ports = s.ports := rfl
@[simp] theorem State.putI_fwq (s : State) (f : Fld) (i : Int) : (s.putI f i).fwq = s.fwq := rfl
@[simp] theorem State.putI_rx (s : State) (f : Fld) (i : Int) : (s.putI f i).rx = s.rx := rfl
@[simp] theorem State.putI_mmLog (s : State) (f : Fld) (i : Int) : (s.putI f i).mmLog = s.mmLog := rfl
@[simp] theorem State.putI_tx (s : State) (f : Fld) (i : Int) : (s.putI f i).tx = s.tx := rfl
@[simp] theorem State.putI_pmLog (s : State) (f : Fld) (i : Int) : (s.putI f i).pmLog = s.pmLog := rfl
@[simp] theorem State.putI_dig (s : State) (f : Fld) (i : Int) : (s.putI f i).dig = s.dig := rfl
@[simp] theorem State.putI_src (s : State) (f : Fld) (i : Int) : (s.putI f i).src = s.src := rfl
@[simp] theorem State.putI_dst (s : State) (f : Fld) (i : Int) : (s.putI f i).dst = s.dst := rfl
@[simp] theorem State.putI_recovering (s : State) (f : Fld) (i : Int) : (s.putI f i).recovering = s.recovering := rfl
@[simp] theorem State.putI_heddle (s : State) (f : Fld) (i : Int) : (s.putI f i).heddle = s.heddle := rfl
@[simp] theorem State.putI_dec (s : State) (f : Fld) (i : Int) : (s.putI f i).dec = s.dec := rfl
@[simp] theorem State.putI_filt (s : State) (f : Fld) (i : Int) : (s.putI f i).filt = s.filt := rfl
@[simp] theorem State.putI_det (s : State) (f : Fld) (i : Int) : (s.putI f i).det = s.det := rfl
@[simp] theorem State.putI_marks (s : State) (f : Fld) (i : Int) : (s.putI f i).marks = s.marks := rfl
@[simp] theorem State.putI_tdm (s : State) (f : Fld) (i : Int) : (s.putI f i).tdm = s.tdm := rfl
@[simp] theorem State.putI_ll (s : State) (f : Fld) (i : Int) : (s.putI f i).ll = s.ll := rfl
@[simp] theorem State.putI_xref (s : State) (f : Fld) (i : Int) : (s.putI f i).xref = s.xref := rfl
@[simp] theorem State.putI_lease (s : State) (f : Fld) (i : Int) : (s.putI f i).lease = s.lease := rfl
@[simp] theorem State.putI_sv (s : State) (f : Fld) (i : Int) : (s.putI f i).sv = s.sv := rfl
@[simp] theorem State.putI_ovl (s : State) (f : Fld) (i : Int) : (s.putI f i).ovl = s.ovl := rfl
@[simp] theorem State.putI_flash (s : State) (f : Fld) (i : Int) : (s.putI f i).flash = s.flash := rfl
@[simp] theorem State.putI_patDue (s : State) (f : Fld) (i : Int) : (s.putI f i).patDue = s.patDue := rfl
@[simp] theorem State.putI_otp (s : State) (f : Fld) (i : Int) : (s.putI f i).otp = s.otp := rfl
@[simp] theorem State.putI_shadow (s : State) (f : Fld) (i : Int) : (s.putI f i).shadow = s.shadow := rfl
@[simp] theorem State.putI_sram (s : State) (f : Fld) (i : Int) : (s.putI f i).sram = s.sram := rfl
@[simp] theorem State.putI_partnerLedger (s : State) (f : Fld) (i : Int) : (s.putI f i).partnerLedger = s.partnerLedger := rfl
@[simp] theorem State.putI_subCount (s : State) (f : Fld) (i : Int) : (s.putI f i).subCount = s.subCount := rfl
@[simp] theorem State.putI_lcp (s : State) (f : Fld) (i : Int) : (s.putI f i).lcp = s.lcp := rfl
@[simp] theorem State.putI_dom (s : State) (f : Fld) (i : Int) : (s.putI f i).dom = s.dom := rfl
@[simp] theorem State.putI_temple (s : State) (f : Fld) (i : Int) : (s.putI f i).temple = s.temple := rfl
@[simp] theorem State.putI_life (s : State) (f : Fld) (i : Int) : (s.putI f i).life = s.life := rfl
@[simp] theorem State.putI_host (s : State) (f : Fld) (i : Int) : (s.putI f i).host = s.host := rfl
@[simp] theorem State.putI_outbox (s : State) (f : Fld) (i : Int) : (s.putI f i).outbox = s.outbox := rfl
@[simp] theorem State.putI_pending (s : State) (f : Fld) (i : Int) : (s.putI f i).pending = s.pending := rfl
@[simp] theorem State.putSat_freeCtr (s : State) (f : Fld) (i : Int) : (s.putSat f i).freeCtr = s.freeCtr := rfl
@[simp] theorem State.putSat_time (s : State) (f : Fld) (i : Int) : (s.putSat f i).time = s.time := rfl
@[simp] theorem State.putSat_cues (s : State) (f : Fld) (i : Int) : (s.putSat f i).cues = s.cues := rfl
@[simp] theorem State.putSat_doneLog (s : State) (f : Fld) (i : Int) : (s.putSat f i).doneLog = s.doneLog := rfl
@[simp] theorem State.putSat_lastDone (s : State) (f : Fld) (i : Int) : (s.putSat f i).lastDone = s.lastDone := rfl
@[simp] theorem State.putSat_errWait (s : State) (f : Fld) (i : Int) : (s.putSat f i).errWait = s.errWait := rfl
@[simp] theorem State.putSat_errFifo (s : State) (f : Fld) (i : Int) : (s.putSat f i).errFifo = s.errFifo := rfl
@[simp] theorem State.putSat_msixLevel (s : State) (f : Fld) (i : Int) : (s.putSat f i).msixLevel = s.msixLevel := rfl
@[simp] theorem State.putSat_reed (s : State) (f : Fld) (i : Int) : (s.putSat f i).reed = s.reed := rfl
@[simp] theorem State.putSat_day (s : State) (f : Fld) (i : Int) : (s.putSat f i).day = s.day := rfl
@[simp] theorem State.putSat_synth (s : State) (f : Fld) (i : Int) : (s.putSat f i).synth = s.synth := rfl
@[simp] theorem State.putSat_objs (s : State) (f : Fld) (i : Int) : (s.putSat f i).objs = s.objs := rfl
@[simp] theorem State.putSat_blobs (s : State) (f : Fld) (i : Int) : (s.putSat f i).blobs = s.blobs := rfl
@[simp] theorem State.putSat_pool (s : State) (f : Fld) (i : Int) : (s.putSat f i).pool = s.pool := rfl
@[simp] theorem State.putSat_queues (s : State) (f : Fld) (i : Int) : (s.putSat f i).queues = s.queues := rfl
@[simp] theorem State.putSat_portOpen (s : State) (f : Fld) (i : Int) : (s.putSat f i).portOpen = s.portOpen := rfl
@[simp] theorem State.putSat_ports (s : State) (f : Fld) (i : Int) : (s.putSat f i).ports = s.ports := rfl
@[simp] theorem State.putSat_fwq (s : State) (f : Fld) (i : Int) : (s.putSat f i).fwq = s.fwq := rfl
@[simp] theorem State.putSat_rx (s : State) (f : Fld) (i : Int) : (s.putSat f i).rx = s.rx := rfl
@[simp] theorem State.putSat_mmLog (s : State) (f : Fld) (i : Int) : (s.putSat f i).mmLog = s.mmLog := rfl
@[simp] theorem State.putSat_tx (s : State) (f : Fld) (i : Int) : (s.putSat f i).tx = s.tx := rfl
@[simp] theorem State.putSat_pmLog (s : State) (f : Fld) (i : Int) : (s.putSat f i).pmLog = s.pmLog := rfl
@[simp] theorem State.putSat_dig (s : State) (f : Fld) (i : Int) : (s.putSat f i).dig = s.dig := rfl
@[simp] theorem State.putSat_src (s : State) (f : Fld) (i : Int) : (s.putSat f i).src = s.src := rfl
@[simp] theorem State.putSat_dst (s : State) (f : Fld) (i : Int) : (s.putSat f i).dst = s.dst := rfl
@[simp] theorem State.putSat_recovering (s : State) (f : Fld) (i : Int) : (s.putSat f i).recovering = s.recovering := rfl
@[simp] theorem State.putSat_heddle (s : State) (f : Fld) (i : Int) : (s.putSat f i).heddle = s.heddle := rfl
@[simp] theorem State.putSat_dec (s : State) (f : Fld) (i : Int) : (s.putSat f i).dec = s.dec := rfl
@[simp] theorem State.putSat_filt (s : State) (f : Fld) (i : Int) : (s.putSat f i).filt = s.filt := rfl
@[simp] theorem State.putSat_det (s : State) (f : Fld) (i : Int) : (s.putSat f i).det = s.det := rfl
@[simp] theorem State.putSat_marks (s : State) (f : Fld) (i : Int) : (s.putSat f i).marks = s.marks := rfl
@[simp] theorem State.putSat_tdm (s : State) (f : Fld) (i : Int) : (s.putSat f i).tdm = s.tdm := rfl
@[simp] theorem State.putSat_ll (s : State) (f : Fld) (i : Int) : (s.putSat f i).ll = s.ll := rfl
@[simp] theorem State.putSat_xref (s : State) (f : Fld) (i : Int) : (s.putSat f i).xref = s.xref := rfl
@[simp] theorem State.putSat_lease (s : State) (f : Fld) (i : Int) : (s.putSat f i).lease = s.lease := rfl
@[simp] theorem State.putSat_sv (s : State) (f : Fld) (i : Int) : (s.putSat f i).sv = s.sv := rfl
@[simp] theorem State.putSat_ovl (s : State) (f : Fld) (i : Int) : (s.putSat f i).ovl = s.ovl := rfl
@[simp] theorem State.putSat_flash (s : State) (f : Fld) (i : Int) : (s.putSat f i).flash = s.flash := rfl
@[simp] theorem State.putSat_patDue (s : State) (f : Fld) (i : Int) : (s.putSat f i).patDue = s.patDue := rfl
@[simp] theorem State.putSat_otp (s : State) (f : Fld) (i : Int) : (s.putSat f i).otp = s.otp := rfl
@[simp] theorem State.putSat_shadow (s : State) (f : Fld) (i : Int) : (s.putSat f i).shadow = s.shadow := rfl
@[simp] theorem State.putSat_sram (s : State) (f : Fld) (i : Int) : (s.putSat f i).sram = s.sram := rfl
@[simp] theorem State.putSat_partnerLedger (s : State) (f : Fld) (i : Int) : (s.putSat f i).partnerLedger = s.partnerLedger := rfl
@[simp] theorem State.putSat_subCount (s : State) (f : Fld) (i : Int) : (s.putSat f i).subCount = s.subCount := rfl
@[simp] theorem State.putSat_lcp (s : State) (f : Fld) (i : Int) : (s.putSat f i).lcp = s.lcp := rfl
@[simp] theorem State.putSat_dom (s : State) (f : Fld) (i : Int) : (s.putSat f i).dom = s.dom := rfl
@[simp] theorem State.putSat_temple (s : State) (f : Fld) (i : Int) : (s.putSat f i).temple = s.temple := rfl
@[simp] theorem State.putSat_life (s : State) (f : Fld) (i : Int) : (s.putSat f i).life = s.life := rfl
@[simp] theorem State.putSat_host (s : State) (f : Fld) (i : Int) : (s.putSat f i).host = s.host := rfl
@[simp] theorem State.putSat_outbox (s : State) (f : Fld) (i : Int) : (s.putSat f i).outbox = s.outbox := rfl
@[simp] theorem State.putSat_pending (s : State) (f : Fld) (i : Int) : (s.putSat f i).pending = s.pending := rfl
@[simp] theorem State.putCap_freeCtr (s : State) (f : Fld) (v : Nat) : (s.putCap f v).freeCtr = s.freeCtr := rfl
@[simp] theorem State.putCap_time (s : State) (f : Fld) (v : Nat) : (s.putCap f v).time = s.time := rfl
@[simp] theorem State.putCap_cues (s : State) (f : Fld) (v : Nat) : (s.putCap f v).cues = s.cues := rfl
@[simp] theorem State.putCap_doneLog (s : State) (f : Fld) (v : Nat) : (s.putCap f v).doneLog = s.doneLog := rfl
@[simp] theorem State.putCap_lastDone (s : State) (f : Fld) (v : Nat) : (s.putCap f v).lastDone = s.lastDone := rfl
@[simp] theorem State.putCap_errWait (s : State) (f : Fld) (v : Nat) : (s.putCap f v).errWait = s.errWait := rfl
@[simp] theorem State.putCap_errFifo (s : State) (f : Fld) (v : Nat) : (s.putCap f v).errFifo = s.errFifo := rfl
@[simp] theorem State.putCap_msixLevel (s : State) (f : Fld) (v : Nat) : (s.putCap f v).msixLevel = s.msixLevel := rfl
@[simp] theorem State.putCap_reed (s : State) (f : Fld) (v : Nat) : (s.putCap f v).reed = s.reed := rfl
@[simp] theorem State.putCap_day (s : State) (f : Fld) (v : Nat) : (s.putCap f v).day = s.day := rfl
@[simp] theorem State.putCap_synth (s : State) (f : Fld) (v : Nat) : (s.putCap f v).synth = s.synth := rfl
@[simp] theorem State.putCap_objs (s : State) (f : Fld) (v : Nat) : (s.putCap f v).objs = s.objs := rfl
@[simp] theorem State.putCap_blobs (s : State) (f : Fld) (v : Nat) : (s.putCap f v).blobs = s.blobs := rfl
@[simp] theorem State.putCap_pool (s : State) (f : Fld) (v : Nat) : (s.putCap f v).pool = s.pool := rfl
@[simp] theorem State.putCap_queues (s : State) (f : Fld) (v : Nat) : (s.putCap f v).queues = s.queues := rfl
@[simp] theorem State.putCap_portOpen (s : State) (f : Fld) (v : Nat) : (s.putCap f v).portOpen = s.portOpen := rfl
@[simp] theorem State.putCap_ports (s : State) (f : Fld) (v : Nat) : (s.putCap f v).ports = s.ports := rfl
@[simp] theorem State.putCap_fwq (s : State) (f : Fld) (v : Nat) : (s.putCap f v).fwq = s.fwq := rfl
@[simp] theorem State.putCap_rx (s : State) (f : Fld) (v : Nat) : (s.putCap f v).rx = s.rx := rfl
@[simp] theorem State.putCap_mmLog (s : State) (f : Fld) (v : Nat) : (s.putCap f v).mmLog = s.mmLog := rfl
@[simp] theorem State.putCap_tx (s : State) (f : Fld) (v : Nat) : (s.putCap f v).tx = s.tx := rfl
@[simp] theorem State.putCap_pmLog (s : State) (f : Fld) (v : Nat) : (s.putCap f v).pmLog = s.pmLog := rfl
@[simp] theorem State.putCap_dig (s : State) (f : Fld) (v : Nat) : (s.putCap f v).dig = s.dig := rfl
@[simp] theorem State.putCap_src (s : State) (f : Fld) (v : Nat) : (s.putCap f v).src = s.src := rfl
@[simp] theorem State.putCap_dst (s : State) (f : Fld) (v : Nat) : (s.putCap f v).dst = s.dst := rfl
@[simp] theorem State.putCap_recovering (s : State) (f : Fld) (v : Nat) : (s.putCap f v).recovering = s.recovering := rfl
@[simp] theorem State.putCap_heddle (s : State) (f : Fld) (v : Nat) : (s.putCap f v).heddle = s.heddle := rfl
@[simp] theorem State.putCap_dec (s : State) (f : Fld) (v : Nat) : (s.putCap f v).dec = s.dec := rfl
@[simp] theorem State.putCap_filt (s : State) (f : Fld) (v : Nat) : (s.putCap f v).filt = s.filt := rfl
@[simp] theorem State.putCap_det (s : State) (f : Fld) (v : Nat) : (s.putCap f v).det = s.det := rfl
@[simp] theorem State.putCap_marks (s : State) (f : Fld) (v : Nat) : (s.putCap f v).marks = s.marks := rfl
@[simp] theorem State.putCap_tdm (s : State) (f : Fld) (v : Nat) : (s.putCap f v).tdm = s.tdm := rfl
@[simp] theorem State.putCap_ll (s : State) (f : Fld) (v : Nat) : (s.putCap f v).ll = s.ll := rfl
@[simp] theorem State.putCap_xref (s : State) (f : Fld) (v : Nat) : (s.putCap f v).xref = s.xref := rfl
@[simp] theorem State.putCap_lease (s : State) (f : Fld) (v : Nat) : (s.putCap f v).lease = s.lease := rfl
@[simp] theorem State.putCap_sv (s : State) (f : Fld) (v : Nat) : (s.putCap f v).sv = s.sv := rfl
@[simp] theorem State.putCap_ovl (s : State) (f : Fld) (v : Nat) : (s.putCap f v).ovl = s.ovl := rfl
@[simp] theorem State.putCap_flash (s : State) (f : Fld) (v : Nat) : (s.putCap f v).flash = s.flash := rfl
@[simp] theorem State.putCap_patDue (s : State) (f : Fld) (v : Nat) : (s.putCap f v).patDue = s.patDue := rfl
@[simp] theorem State.putCap_otp (s : State) (f : Fld) (v : Nat) : (s.putCap f v).otp = s.otp := rfl
@[simp] theorem State.putCap_shadow (s : State) (f : Fld) (v : Nat) : (s.putCap f v).shadow = s.shadow := rfl
@[simp] theorem State.putCap_sram (s : State) (f : Fld) (v : Nat) : (s.putCap f v).sram = s.sram := rfl
@[simp] theorem State.putCap_partnerLedger (s : State) (f : Fld) (v : Nat) : (s.putCap f v).partnerLedger = s.partnerLedger := rfl
@[simp] theorem State.putCap_subCount (s : State) (f : Fld) (v : Nat) : (s.putCap f v).subCount = s.subCount := rfl
@[simp] theorem State.putCap_lcp (s : State) (f : Fld) (v : Nat) : (s.putCap f v).lcp = s.lcp := rfl
@[simp] theorem State.putCap_dom (s : State) (f : Fld) (v : Nat) : (s.putCap f v).dom = s.dom := rfl
@[simp] theorem State.putCap_temple (s : State) (f : Fld) (v : Nat) : (s.putCap f v).temple = s.temple := rfl
@[simp] theorem State.putCap_life (s : State) (f : Fld) (v : Nat) : (s.putCap f v).life = s.life := rfl
@[simp] theorem State.putCap_host (s : State) (f : Fld) (v : Nat) : (s.putCap f v).host = s.host := rfl
@[simp] theorem State.putCap_outbox (s : State) (f : Fld) (v : Nat) : (s.putCap f v).outbox = s.outbox := rfl
@[simp] theorem State.putCap_pending (s : State) (f : Fld) (v : Nat) : (s.putCap f v).pending = s.pending := rfl
@[simp] theorem State.add_freeCtr (s : State) (f : Fld) (k : Nat) : (s.add f k).freeCtr = s.freeCtr := rfl
@[simp] theorem State.add_time (s : State) (f : Fld) (k : Nat) : (s.add f k).time = s.time := rfl
@[simp] theorem State.add_cues (s : State) (f : Fld) (k : Nat) : (s.add f k).cues = s.cues := rfl
@[simp] theorem State.add_doneLog (s : State) (f : Fld) (k : Nat) : (s.add f k).doneLog = s.doneLog := rfl
@[simp] theorem State.add_lastDone (s : State) (f : Fld) (k : Nat) : (s.add f k).lastDone = s.lastDone := rfl
@[simp] theorem State.add_errWait (s : State) (f : Fld) (k : Nat) : (s.add f k).errWait = s.errWait := rfl
@[simp] theorem State.add_errFifo (s : State) (f : Fld) (k : Nat) : (s.add f k).errFifo = s.errFifo := rfl
@[simp] theorem State.add_msixLevel (s : State) (f : Fld) (k : Nat) : (s.add f k).msixLevel = s.msixLevel := rfl
@[simp] theorem State.add_reed (s : State) (f : Fld) (k : Nat) : (s.add f k).reed = s.reed := rfl
@[simp] theorem State.add_day (s : State) (f : Fld) (k : Nat) : (s.add f k).day = s.day := rfl
@[simp] theorem State.add_synth (s : State) (f : Fld) (k : Nat) : (s.add f k).synth = s.synth := rfl
@[simp] theorem State.add_objs (s : State) (f : Fld) (k : Nat) : (s.add f k).objs = s.objs := rfl
@[simp] theorem State.add_blobs (s : State) (f : Fld) (k : Nat) : (s.add f k).blobs = s.blobs := rfl
@[simp] theorem State.add_pool (s : State) (f : Fld) (k : Nat) : (s.add f k).pool = s.pool := rfl
@[simp] theorem State.add_queues (s : State) (f : Fld) (k : Nat) : (s.add f k).queues = s.queues := rfl
@[simp] theorem State.add_portOpen (s : State) (f : Fld) (k : Nat) : (s.add f k).portOpen = s.portOpen := rfl
@[simp] theorem State.add_ports (s : State) (f : Fld) (k : Nat) : (s.add f k).ports = s.ports := rfl
@[simp] theorem State.add_fwq (s : State) (f : Fld) (k : Nat) : (s.add f k).fwq = s.fwq := rfl
@[simp] theorem State.add_rx (s : State) (f : Fld) (k : Nat) : (s.add f k).rx = s.rx := rfl
@[simp] theorem State.add_mmLog (s : State) (f : Fld) (k : Nat) : (s.add f k).mmLog = s.mmLog := rfl
@[simp] theorem State.add_tx (s : State) (f : Fld) (k : Nat) : (s.add f k).tx = s.tx := rfl
@[simp] theorem State.add_pmLog (s : State) (f : Fld) (k : Nat) : (s.add f k).pmLog = s.pmLog := rfl
@[simp] theorem State.add_dig (s : State) (f : Fld) (k : Nat) : (s.add f k).dig = s.dig := rfl
@[simp] theorem State.add_src (s : State) (f : Fld) (k : Nat) : (s.add f k).src = s.src := rfl
@[simp] theorem State.add_dst (s : State) (f : Fld) (k : Nat) : (s.add f k).dst = s.dst := rfl
@[simp] theorem State.add_recovering (s : State) (f : Fld) (k : Nat) : (s.add f k).recovering = s.recovering := rfl
@[simp] theorem State.add_heddle (s : State) (f : Fld) (k : Nat) : (s.add f k).heddle = s.heddle := rfl
@[simp] theorem State.add_dec (s : State) (f : Fld) (k : Nat) : (s.add f k).dec = s.dec := rfl
@[simp] theorem State.add_filt (s : State) (f : Fld) (k : Nat) : (s.add f k).filt = s.filt := rfl
@[simp] theorem State.add_det (s : State) (f : Fld) (k : Nat) : (s.add f k).det = s.det := rfl
@[simp] theorem State.add_marks (s : State) (f : Fld) (k : Nat) : (s.add f k).marks = s.marks := rfl
@[simp] theorem State.add_tdm (s : State) (f : Fld) (k : Nat) : (s.add f k).tdm = s.tdm := rfl
@[simp] theorem State.add_ll (s : State) (f : Fld) (k : Nat) : (s.add f k).ll = s.ll := rfl
@[simp] theorem State.add_xref (s : State) (f : Fld) (k : Nat) : (s.add f k).xref = s.xref := rfl
@[simp] theorem State.add_lease (s : State) (f : Fld) (k : Nat) : (s.add f k).lease = s.lease := rfl
@[simp] theorem State.add_sv (s : State) (f : Fld) (k : Nat) : (s.add f k).sv = s.sv := rfl
@[simp] theorem State.add_ovl (s : State) (f : Fld) (k : Nat) : (s.add f k).ovl = s.ovl := rfl
@[simp] theorem State.add_flash (s : State) (f : Fld) (k : Nat) : (s.add f k).flash = s.flash := rfl
@[simp] theorem State.add_patDue (s : State) (f : Fld) (k : Nat) : (s.add f k).patDue = s.patDue := rfl
@[simp] theorem State.add_otp (s : State) (f : Fld) (k : Nat) : (s.add f k).otp = s.otp := rfl
@[simp] theorem State.add_shadow (s : State) (f : Fld) (k : Nat) : (s.add f k).shadow = s.shadow := rfl
@[simp] theorem State.add_sram (s : State) (f : Fld) (k : Nat) : (s.add f k).sram = s.sram := rfl
@[simp] theorem State.add_partnerLedger (s : State) (f : Fld) (k : Nat) : (s.add f k).partnerLedger = s.partnerLedger := rfl
@[simp] theorem State.add_subCount (s : State) (f : Fld) (k : Nat) : (s.add f k).subCount = s.subCount := rfl
@[simp] theorem State.add_lcp (s : State) (f : Fld) (k : Nat) : (s.add f k).lcp = s.lcp := rfl
@[simp] theorem State.add_dom (s : State) (f : Fld) (k : Nat) : (s.add f k).dom = s.dom := rfl
@[simp] theorem State.add_temple (s : State) (f : Fld) (k : Nat) : (s.add f k).temple = s.temple := rfl
@[simp] theorem State.add_life (s : State) (f : Fld) (k : Nat) : (s.add f k).life = s.life := rfl
@[simp] theorem State.add_host (s : State) (f : Fld) (k : Nat) : (s.add f k).host = s.host := rfl
@[simp] theorem State.add_outbox (s : State) (f : Fld) (k : Nat) : (s.add f k).outbox = s.outbox := rfl
@[simp] theorem State.add_pending (s : State) (f : Fld) (k : Nat) : (s.add f k).pending = s.pending := rfl
@[simp] theorem State.bump_freeCtr (s : State) (f : Fld) : (s.bump f).freeCtr = s.freeCtr := rfl
@[simp] theorem State.bump_time (s : State) (f : Fld) : (s.bump f).time = s.time := rfl
@[simp] theorem State.bump_cues (s : State) (f : Fld) : (s.bump f).cues = s.cues := rfl
@[simp] theorem State.bump_doneLog (s : State) (f : Fld) : (s.bump f).doneLog = s.doneLog := rfl
@[simp] theorem State.bump_lastDone (s : State) (f : Fld) : (s.bump f).lastDone = s.lastDone := rfl
@[simp] theorem State.bump_errWait (s : State) (f : Fld) : (s.bump f).errWait = s.errWait := rfl
@[simp] theorem State.bump_errFifo (s : State) (f : Fld) : (s.bump f).errFifo = s.errFifo := rfl
@[simp] theorem State.bump_msixLevel (s : State) (f : Fld) : (s.bump f).msixLevel = s.msixLevel := rfl
@[simp] theorem State.bump_reed (s : State) (f : Fld) : (s.bump f).reed = s.reed := rfl
@[simp] theorem State.bump_day (s : State) (f : Fld) : (s.bump f).day = s.day := rfl
@[simp] theorem State.bump_synth (s : State) (f : Fld) : (s.bump f).synth = s.synth := rfl
@[simp] theorem State.bump_objs (s : State) (f : Fld) : (s.bump f).objs = s.objs := rfl
@[simp] theorem State.bump_blobs (s : State) (f : Fld) : (s.bump f).blobs = s.blobs := rfl
@[simp] theorem State.bump_pool (s : State) (f : Fld) : (s.bump f).pool = s.pool := rfl
@[simp] theorem State.bump_queues (s : State) (f : Fld) : (s.bump f).queues = s.queues := rfl
@[simp] theorem State.bump_portOpen (s : State) (f : Fld) : (s.bump f).portOpen = s.portOpen := rfl
@[simp] theorem State.bump_ports (s : State) (f : Fld) : (s.bump f).ports = s.ports := rfl
@[simp] theorem State.bump_fwq (s : State) (f : Fld) : (s.bump f).fwq = s.fwq := rfl
@[simp] theorem State.bump_rx (s : State) (f : Fld) : (s.bump f).rx = s.rx := rfl
@[simp] theorem State.bump_mmLog (s : State) (f : Fld) : (s.bump f).mmLog = s.mmLog := rfl
@[simp] theorem State.bump_tx (s : State) (f : Fld) : (s.bump f).tx = s.tx := rfl
@[simp] theorem State.bump_pmLog (s : State) (f : Fld) : (s.bump f).pmLog = s.pmLog := rfl
@[simp] theorem State.bump_dig (s : State) (f : Fld) : (s.bump f).dig = s.dig := rfl
@[simp] theorem State.bump_src (s : State) (f : Fld) : (s.bump f).src = s.src := rfl
@[simp] theorem State.bump_dst (s : State) (f : Fld) : (s.bump f).dst = s.dst := rfl
@[simp] theorem State.bump_recovering (s : State) (f : Fld) : (s.bump f).recovering = s.recovering := rfl
@[simp] theorem State.bump_heddle (s : State) (f : Fld) : (s.bump f).heddle = s.heddle := rfl
@[simp] theorem State.bump_dec (s : State) (f : Fld) : (s.bump f).dec = s.dec := rfl
@[simp] theorem State.bump_filt (s : State) (f : Fld) : (s.bump f).filt = s.filt := rfl
@[simp] theorem State.bump_det (s : State) (f : Fld) : (s.bump f).det = s.det := rfl
@[simp] theorem State.bump_marks (s : State) (f : Fld) : (s.bump f).marks = s.marks := rfl
@[simp] theorem State.bump_tdm (s : State) (f : Fld) : (s.bump f).tdm = s.tdm := rfl
@[simp] theorem State.bump_ll (s : State) (f : Fld) : (s.bump f).ll = s.ll := rfl
@[simp] theorem State.bump_xref (s : State) (f : Fld) : (s.bump f).xref = s.xref := rfl
@[simp] theorem State.bump_lease (s : State) (f : Fld) : (s.bump f).lease = s.lease := rfl
@[simp] theorem State.bump_sv (s : State) (f : Fld) : (s.bump f).sv = s.sv := rfl
@[simp] theorem State.bump_ovl (s : State) (f : Fld) : (s.bump f).ovl = s.ovl := rfl
@[simp] theorem State.bump_flash (s : State) (f : Fld) : (s.bump f).flash = s.flash := rfl
@[simp] theorem State.bump_patDue (s : State) (f : Fld) : (s.bump f).patDue = s.patDue := rfl
@[simp] theorem State.bump_otp (s : State) (f : Fld) : (s.bump f).otp = s.otp := rfl
@[simp] theorem State.bump_shadow (s : State) (f : Fld) : (s.bump f).shadow = s.shadow := rfl
@[simp] theorem State.bump_sram (s : State) (f : Fld) : (s.bump f).sram = s.sram := rfl
@[simp] theorem State.bump_partnerLedger (s : State) (f : Fld) : (s.bump f).partnerLedger = s.partnerLedger := rfl
@[simp] theorem State.bump_subCount (s : State) (f : Fld) : (s.bump f).subCount = s.subCount := rfl
@[simp] theorem State.bump_lcp (s : State) (f : Fld) : (s.bump f).lcp = s.lcp := rfl
@[simp] theorem State.bump_dom (s : State) (f : Fld) : (s.bump f).dom = s.dom := rfl
@[simp] theorem State.bump_temple (s : State) (f : Fld) : (s.bump f).temple = s.temple := rfl
@[simp] theorem State.bump_life (s : State) (f : Fld) : (s.bump f).life = s.life := rfl
@[simp] theorem State.bump_host (s : State) (f : Fld) : (s.bump f).host = s.host := rfl
@[simp] theorem State.bump_outbox (s : State) (f : Fld) : (s.bump f).outbox = s.outbox := rfl
@[simp] theorem State.bump_pending (s : State) (f : Fld) : (s.bump f).pending = s.pending := rfl
@[simp] theorem State.put64_freeCtr (s : State) (lo hi : Fld) (v : Nat) : (s.put64 lo hi v).freeCtr = s.freeCtr := rfl
@[simp] theorem State.put64_time (s : State) (lo hi : Fld) (v : Nat) : (s.put64 lo hi v).time = s.time := rfl
@[simp] theorem State.put64_cues (s : State) (lo hi : Fld) (v : Nat) : (s.put64 lo hi v).cues = s.cues := rfl
@[simp] theorem State.put64_doneLog (s : State) (lo hi : Fld) (v : Nat) : (s.put64 lo hi v).doneLog = s.doneLog := rfl
@[simp] theorem State.put64_lastDone (s : State) (lo hi : Fld) (v : Nat) : (s.put64 lo hi v).lastDone = s.lastDone := rfl
@[simp] theorem State.put64_errWait (s : State) (lo hi : Fld) (v : Nat) : (s.put64 lo hi v).errWait = s.errWait := rfl
@[simp] theorem State.put64_errFifo (s : State) (lo hi : Fld) (v : Nat) : (s.put64 lo hi v).errFifo = s.errFifo := rfl
@[simp] theorem State.put64_msixLevel (s : State) (lo hi : Fld) (v : Nat) : (s.put64 lo hi v).msixLevel = s.msixLevel := rfl
@[simp] theorem State.put64_reed (s : State) (lo hi : Fld) (v : Nat) : (s.put64 lo hi v).reed = s.reed := rfl
@[simp] theorem State.put64_day (s : State) (lo hi : Fld) (v : Nat) : (s.put64 lo hi v).day = s.day := rfl
@[simp] theorem State.put64_synth (s : State) (lo hi : Fld) (v : Nat) : (s.put64 lo hi v).synth = s.synth := rfl
@[simp] theorem State.put64_objs (s : State) (lo hi : Fld) (v : Nat) : (s.put64 lo hi v).objs = s.objs := rfl
@[simp] theorem State.put64_blobs (s : State) (lo hi : Fld) (v : Nat) : (s.put64 lo hi v).blobs = s.blobs := rfl
@[simp] theorem State.put64_pool (s : State) (lo hi : Fld) (v : Nat) : (s.put64 lo hi v).pool = s.pool := rfl
@[simp] theorem State.put64_queues (s : State) (lo hi : Fld) (v : Nat) : (s.put64 lo hi v).queues = s.queues := rfl
@[simp] theorem State.put64_portOpen (s : State) (lo hi : Fld) (v : Nat) : (s.put64 lo hi v).portOpen = s.portOpen := rfl
@[simp] theorem State.put64_ports (s : State) (lo hi : Fld) (v : Nat) : (s.put64 lo hi v).ports = s.ports := rfl
@[simp] theorem State.put64_fwq (s : State) (lo hi : Fld) (v : Nat) : (s.put64 lo hi v).fwq = s.fwq := rfl
@[simp] theorem State.put64_rx (s : State) (lo hi : Fld) (v : Nat) : (s.put64 lo hi v).rx = s.rx := rfl
@[simp] theorem State.put64_mmLog (s : State) (lo hi : Fld) (v : Nat) : (s.put64 lo hi v).mmLog = s.mmLog := rfl
@[simp] theorem State.put64_tx (s : State) (lo hi : Fld) (v : Nat) : (s.put64 lo hi v).tx = s.tx := rfl
@[simp] theorem State.put64_pmLog (s : State) (lo hi : Fld) (v : Nat) : (s.put64 lo hi v).pmLog = s.pmLog := rfl
@[simp] theorem State.put64_dig (s : State) (lo hi : Fld) (v : Nat) : (s.put64 lo hi v).dig = s.dig := rfl
@[simp] theorem State.put64_src (s : State) (lo hi : Fld) (v : Nat) : (s.put64 lo hi v).src = s.src := rfl
@[simp] theorem State.put64_dst (s : State) (lo hi : Fld) (v : Nat) : (s.put64 lo hi v).dst = s.dst := rfl
@[simp] theorem State.put64_recovering (s : State) (lo hi : Fld) (v : Nat) : (s.put64 lo hi v).recovering = s.recovering := rfl
@[simp] theorem State.put64_heddle (s : State) (lo hi : Fld) (v : Nat) : (s.put64 lo hi v).heddle = s.heddle := rfl
@[simp] theorem State.put64_dec (s : State) (lo hi : Fld) (v : Nat) : (s.put64 lo hi v).dec = s.dec := rfl
@[simp] theorem State.put64_filt (s : State) (lo hi : Fld) (v : Nat) : (s.put64 lo hi v).filt = s.filt := rfl
@[simp] theorem State.put64_det (s : State) (lo hi : Fld) (v : Nat) : (s.put64 lo hi v).det = s.det := rfl
@[simp] theorem State.put64_marks (s : State) (lo hi : Fld) (v : Nat) : (s.put64 lo hi v).marks = s.marks := rfl
@[simp] theorem State.put64_tdm (s : State) (lo hi : Fld) (v : Nat) : (s.put64 lo hi v).tdm = s.tdm := rfl
@[simp] theorem State.put64_ll (s : State) (lo hi : Fld) (v : Nat) : (s.put64 lo hi v).ll = s.ll := rfl
@[simp] theorem State.put64_xref (s : State) (lo hi : Fld) (v : Nat) : (s.put64 lo hi v).xref = s.xref := rfl
@[simp] theorem State.put64_lease (s : State) (lo hi : Fld) (v : Nat) : (s.put64 lo hi v).lease = s.lease := rfl
@[simp] theorem State.put64_sv (s : State) (lo hi : Fld) (v : Nat) : (s.put64 lo hi v).sv = s.sv := rfl
@[simp] theorem State.put64_ovl (s : State) (lo hi : Fld) (v : Nat) : (s.put64 lo hi v).ovl = s.ovl := rfl
@[simp] theorem State.put64_flash (s : State) (lo hi : Fld) (v : Nat) : (s.put64 lo hi v).flash = s.flash := rfl
@[simp] theorem State.put64_patDue (s : State) (lo hi : Fld) (v : Nat) : (s.put64 lo hi v).patDue = s.patDue := rfl
@[simp] theorem State.put64_otp (s : State) (lo hi : Fld) (v : Nat) : (s.put64 lo hi v).otp = s.otp := rfl
@[simp] theorem State.put64_shadow (s : State) (lo hi : Fld) (v : Nat) : (s.put64 lo hi v).shadow = s.shadow := rfl
@[simp] theorem State.put64_sram (s : State) (lo hi : Fld) (v : Nat) : (s.put64 lo hi v).sram = s.sram := rfl
@[simp] theorem State.put64_partnerLedger (s : State) (lo hi : Fld) (v : Nat) : (s.put64 lo hi v).partnerLedger = s.partnerLedger := rfl
@[simp] theorem State.put64_subCount (s : State) (lo hi : Fld) (v : Nat) : (s.put64 lo hi v).subCount = s.subCount := rfl
@[simp] theorem State.put64_lcp (s : State) (lo hi : Fld) (v : Nat) : (s.put64 lo hi v).lcp = s.lcp := rfl
@[simp] theorem State.put64_dom (s : State) (lo hi : Fld) (v : Nat) : (s.put64 lo hi v).dom = s.dom := rfl
@[simp] theorem State.put64_temple (s : State) (lo hi : Fld) (v : Nat) : (s.put64 lo hi v).temple = s.temple := rfl
@[simp] theorem State.put64_life (s : State) (lo hi : Fld) (v : Nat) : (s.put64 lo hi v).life = s.life := rfl
@[simp] theorem State.put64_host (s : State) (lo hi : Fld) (v : Nat) : (s.put64 lo hi v).host = s.host := rfl
@[simp] theorem State.put64_outbox (s : State) (lo hi : Fld) (v : Nat) : (s.put64 lo hi v).outbox = s.outbox := rfl
@[simp] theorem State.put64_pending (s : State) (lo hi : Fld) (v : Nat) : (s.put64 lo hi v).pending = s.pending := rfl
@[simp] theorem State.put64I_freeCtr (s : State) (lo hi : Fld) (i : Int) : (s.put64I lo hi i).freeCtr = s.freeCtr := rfl
@[simp] theorem State.put64I_time (s : State) (lo hi : Fld) (i : Int) : (s.put64I lo hi i).time = s.time := rfl
@[simp] theorem State.put64I_cues (s : State) (lo hi : Fld) (i : Int) : (s.put64I lo hi i).cues = s.cues := rfl
@[simp] theorem State.put64I_doneLog (s : State) (lo hi : Fld) (i : Int) : (s.put64I lo hi i).doneLog = s.doneLog := rfl
@[simp] theorem State.put64I_lastDone (s : State) (lo hi : Fld) (i : Int) : (s.put64I lo hi i).lastDone = s.lastDone := rfl
@[simp] theorem State.put64I_errWait (s : State) (lo hi : Fld) (i : Int) : (s.put64I lo hi i).errWait = s.errWait := rfl
@[simp] theorem State.put64I_errFifo (s : State) (lo hi : Fld) (i : Int) : (s.put64I lo hi i).errFifo = s.errFifo := rfl
@[simp] theorem State.put64I_msixLevel (s : State) (lo hi : Fld) (i : Int) : (s.put64I lo hi i).msixLevel = s.msixLevel := rfl
@[simp] theorem State.put64I_reed (s : State) (lo hi : Fld) (i : Int) : (s.put64I lo hi i).reed = s.reed := rfl
@[simp] theorem State.put64I_day (s : State) (lo hi : Fld) (i : Int) : (s.put64I lo hi i).day = s.day := rfl
@[simp] theorem State.put64I_synth (s : State) (lo hi : Fld) (i : Int) : (s.put64I lo hi i).synth = s.synth := rfl
@[simp] theorem State.put64I_objs (s : State) (lo hi : Fld) (i : Int) : (s.put64I lo hi i).objs = s.objs := rfl
@[simp] theorem State.put64I_blobs (s : State) (lo hi : Fld) (i : Int) : (s.put64I lo hi i).blobs = s.blobs := rfl
@[simp] theorem State.put64I_pool (s : State) (lo hi : Fld) (i : Int) : (s.put64I lo hi i).pool = s.pool := rfl
@[simp] theorem State.put64I_queues (s : State) (lo hi : Fld) (i : Int) : (s.put64I lo hi i).queues = s.queues := rfl
@[simp] theorem State.put64I_portOpen (s : State) (lo hi : Fld) (i : Int) : (s.put64I lo hi i).portOpen = s.portOpen := rfl
@[simp] theorem State.put64I_ports (s : State) (lo hi : Fld) (i : Int) : (s.put64I lo hi i).ports = s.ports := rfl
@[simp] theorem State.put64I_fwq (s : State) (lo hi : Fld) (i : Int) : (s.put64I lo hi i).fwq = s.fwq := rfl
@[simp] theorem State.put64I_rx (s : State) (lo hi : Fld) (i : Int) : (s.put64I lo hi i).rx = s.rx := rfl
@[simp] theorem State.put64I_mmLog (s : State) (lo hi : Fld) (i : Int) : (s.put64I lo hi i).mmLog = s.mmLog := rfl
@[simp] theorem State.put64I_tx (s : State) (lo hi : Fld) (i : Int) : (s.put64I lo hi i).tx = s.tx := rfl
@[simp] theorem State.put64I_pmLog (s : State) (lo hi : Fld) (i : Int) : (s.put64I lo hi i).pmLog = s.pmLog := rfl
@[simp] theorem State.put64I_dig (s : State) (lo hi : Fld) (i : Int) : (s.put64I lo hi i).dig = s.dig := rfl
@[simp] theorem State.put64I_src (s : State) (lo hi : Fld) (i : Int) : (s.put64I lo hi i).src = s.src := rfl
@[simp] theorem State.put64I_dst (s : State) (lo hi : Fld) (i : Int) : (s.put64I lo hi i).dst = s.dst := rfl
@[simp] theorem State.put64I_recovering (s : State) (lo hi : Fld) (i : Int) : (s.put64I lo hi i).recovering = s.recovering := rfl
@[simp] theorem State.put64I_heddle (s : State) (lo hi : Fld) (i : Int) : (s.put64I lo hi i).heddle = s.heddle := rfl
@[simp] theorem State.put64I_dec (s : State) (lo hi : Fld) (i : Int) : (s.put64I lo hi i).dec = s.dec := rfl
@[simp] theorem State.put64I_filt (s : State) (lo hi : Fld) (i : Int) : (s.put64I lo hi i).filt = s.filt := rfl
@[simp] theorem State.put64I_det (s : State) (lo hi : Fld) (i : Int) : (s.put64I lo hi i).det = s.det := rfl
@[simp] theorem State.put64I_marks (s : State) (lo hi : Fld) (i : Int) : (s.put64I lo hi i).marks = s.marks := rfl
@[simp] theorem State.put64I_tdm (s : State) (lo hi : Fld) (i : Int) : (s.put64I lo hi i).tdm = s.tdm := rfl
@[simp] theorem State.put64I_ll (s : State) (lo hi : Fld) (i : Int) : (s.put64I lo hi i).ll = s.ll := rfl
@[simp] theorem State.put64I_xref (s : State) (lo hi : Fld) (i : Int) : (s.put64I lo hi i).xref = s.xref := rfl
@[simp] theorem State.put64I_lease (s : State) (lo hi : Fld) (i : Int) : (s.put64I lo hi i).lease = s.lease := rfl
@[simp] theorem State.put64I_sv (s : State) (lo hi : Fld) (i : Int) : (s.put64I lo hi i).sv = s.sv := rfl
@[simp] theorem State.put64I_ovl (s : State) (lo hi : Fld) (i : Int) : (s.put64I lo hi i).ovl = s.ovl := rfl
@[simp] theorem State.put64I_flash (s : State) (lo hi : Fld) (i : Int) : (s.put64I lo hi i).flash = s.flash := rfl
@[simp] theorem State.put64I_patDue (s : State) (lo hi : Fld) (i : Int) : (s.put64I lo hi i).patDue = s.patDue := rfl
@[simp] theorem State.put64I_otp (s : State) (lo hi : Fld) (i : Int) : (s.put64I lo hi i).otp = s.otp := rfl
@[simp] theorem State.put64I_shadow (s : State) (lo hi : Fld) (i : Int) : (s.put64I lo hi i).shadow = s.shadow := rfl
@[simp] theorem State.put64I_sram (s : State) (lo hi : Fld) (i : Int) : (s.put64I lo hi i).sram = s.sram := rfl
@[simp] theorem State.put64I_partnerLedger (s : State) (lo hi : Fld) (i : Int) : (s.put64I lo hi i).partnerLedger = s.partnerLedger := rfl
@[simp] theorem State.put64I_subCount (s : State) (lo hi : Fld) (i : Int) : (s.put64I lo hi i).subCount = s.subCount := rfl
@[simp] theorem State.put64I_lcp (s : State) (lo hi : Fld) (i : Int) : (s.put64I lo hi i).lcp = s.lcp := rfl
@[simp] theorem State.put64I_dom (s : State) (lo hi : Fld) (i : Int) : (s.put64I lo hi i).dom = s.dom := rfl
@[simp] theorem State.put64I_temple (s : State) (lo hi : Fld) (i : Int) : (s.put64I lo hi i).temple = s.temple := rfl
@[simp] theorem State.put64I_life (s : State) (lo hi : Fld) (i : Int) : (s.put64I lo hi i).life = s.life := rfl
@[simp] theorem State.put64I_host (s : State) (lo hi : Fld) (i : Int) : (s.put64I lo hi i).host = s.host := rfl
@[simp] theorem State.put64I_outbox (s : State) (lo hi : Fld) (i : Int) : (s.put64I lo hi i).outbox = s.outbox := rfl
@[simp] theorem State.put64I_pending (s : State) (lo hi : Fld) (i : Int) : (s.put64I lo hi i).pending = s.pending := rfl
@[simp] theorem State.send_regs (s : State) (m : Sent) : (s.send m).regs = s.regs := rfl
@[simp] theorem State.send_freeCtr (s : State) (m : Sent) : (s.send m).freeCtr = s.freeCtr := rfl
@[simp] theorem State.send_time (s : State) (m : Sent) : (s.send m).time = s.time := rfl
@[simp] theorem State.send_cues (s : State) (m : Sent) : (s.send m).cues = s.cues := rfl
@[simp] theorem State.send_doneLog (s : State) (m : Sent) : (s.send m).doneLog = s.doneLog := rfl
@[simp] theorem State.send_lastDone (s : State) (m : Sent) : (s.send m).lastDone = s.lastDone := rfl
@[simp] theorem State.send_errWait (s : State) (m : Sent) : (s.send m).errWait = s.errWait := rfl
@[simp] theorem State.send_errFifo (s : State) (m : Sent) : (s.send m).errFifo = s.errFifo := rfl
@[simp] theorem State.send_msixLevel (s : State) (m : Sent) : (s.send m).msixLevel = s.msixLevel := rfl
@[simp] theorem State.send_reed (s : State) (m : Sent) : (s.send m).reed = s.reed := rfl
@[simp] theorem State.send_day (s : State) (m : Sent) : (s.send m).day = s.day := rfl
@[simp] theorem State.send_synth (s : State) (m : Sent) : (s.send m).synth = s.synth := rfl
@[simp] theorem State.send_objs (s : State) (m : Sent) : (s.send m).objs = s.objs := rfl
@[simp] theorem State.send_blobs (s : State) (m : Sent) : (s.send m).blobs = s.blobs := rfl
@[simp] theorem State.send_pool (s : State) (m : Sent) : (s.send m).pool = s.pool := rfl
@[simp] theorem State.send_queues (s : State) (m : Sent) : (s.send m).queues = s.queues := rfl
@[simp] theorem State.send_portOpen (s : State) (m : Sent) : (s.send m).portOpen = s.portOpen := rfl
@[simp] theorem State.send_ports (s : State) (m : Sent) : (s.send m).ports = s.ports := rfl
@[simp] theorem State.send_fwq (s : State) (m : Sent) : (s.send m).fwq = s.fwq := rfl
@[simp] theorem State.send_rx (s : State) (m : Sent) : (s.send m).rx = s.rx := rfl
@[simp] theorem State.send_mmLog (s : State) (m : Sent) : (s.send m).mmLog = s.mmLog := rfl
@[simp] theorem State.send_tx (s : State) (m : Sent) : (s.send m).tx = s.tx := rfl
@[simp] theorem State.send_pmLog (s : State) (m : Sent) : (s.send m).pmLog = s.pmLog := rfl
@[simp] theorem State.send_dig (s : State) (m : Sent) : (s.send m).dig = s.dig := rfl
@[simp] theorem State.send_src (s : State) (m : Sent) : (s.send m).src = s.src := rfl
@[simp] theorem State.send_dst (s : State) (m : Sent) : (s.send m).dst = s.dst := rfl
@[simp] theorem State.send_recovering (s : State) (m : Sent) : (s.send m).recovering = s.recovering := rfl
@[simp] theorem State.send_heddle (s : State) (m : Sent) : (s.send m).heddle = s.heddle := rfl
@[simp] theorem State.send_dec (s : State) (m : Sent) : (s.send m).dec = s.dec := rfl
@[simp] theorem State.send_filt (s : State) (m : Sent) : (s.send m).filt = s.filt := rfl
@[simp] theorem State.send_det (s : State) (m : Sent) : (s.send m).det = s.det := rfl
@[simp] theorem State.send_marks (s : State) (m : Sent) : (s.send m).marks = s.marks := rfl
@[simp] theorem State.send_tdm (s : State) (m : Sent) : (s.send m).tdm = s.tdm := rfl
@[simp] theorem State.send_ll (s : State) (m : Sent) : (s.send m).ll = s.ll := rfl
@[simp] theorem State.send_xref (s : State) (m : Sent) : (s.send m).xref = s.xref := rfl
@[simp] theorem State.send_lease (s : State) (m : Sent) : (s.send m).lease = s.lease := rfl
@[simp] theorem State.send_sv (s : State) (m : Sent) : (s.send m).sv = s.sv := rfl
@[simp] theorem State.send_ovl (s : State) (m : Sent) : (s.send m).ovl = s.ovl := rfl
@[simp] theorem State.send_flash (s : State) (m : Sent) : (s.send m).flash = s.flash := rfl
@[simp] theorem State.send_patDue (s : State) (m : Sent) : (s.send m).patDue = s.patDue := rfl
@[simp] theorem State.send_otp (s : State) (m : Sent) : (s.send m).otp = s.otp := rfl
@[simp] theorem State.send_shadow (s : State) (m : Sent) : (s.send m).shadow = s.shadow := rfl
@[simp] theorem State.send_sram (s : State) (m : Sent) : (s.send m).sram = s.sram := rfl
@[simp] theorem State.send_partnerLedger (s : State) (m : Sent) : (s.send m).partnerLedger = s.partnerLedger := rfl
@[simp] theorem State.send_subCount (s : State) (m : Sent) : (s.send m).subCount = s.subCount := rfl
@[simp] theorem State.send_lcp (s : State) (m : Sent) : (s.send m).lcp = s.lcp := rfl
@[simp] theorem State.send_dom (s : State) (m : Sent) : (s.send m).dom = s.dom := rfl
@[simp] theorem State.send_temple (s : State) (m : Sent) : (s.send m).temple = s.temple := rfl
@[simp] theorem State.send_life (s : State) (m : Sent) : (s.send m).life = s.life := rfl
@[simp] theorem State.send_host (s : State) (m : Sent) : (s.send m).host = s.host := rfl
@[simp] theorem State.send_pending (s : State) (m : Sent) : (s.send m).pending = s.pending := rfl
@[simp] theorem State.report_regs (s : State) (e : ErrReport) : (s.report e).regs = s.regs := rfl
@[simp] theorem State.report_freeCtr (s : State) (e : ErrReport) : (s.report e).freeCtr = s.freeCtr := rfl
@[simp] theorem State.report_time (s : State) (e : ErrReport) : (s.report e).time = s.time := rfl
@[simp] theorem State.report_cues (s : State) (e : ErrReport) : (s.report e).cues = s.cues := rfl
@[simp] theorem State.report_doneLog (s : State) (e : ErrReport) : (s.report e).doneLog = s.doneLog := rfl
@[simp] theorem State.report_lastDone (s : State) (e : ErrReport) : (s.report e).lastDone = s.lastDone := rfl
@[simp] theorem State.report_errFifo (s : State) (e : ErrReport) : (s.report e).errFifo = s.errFifo := rfl
@[simp] theorem State.report_msixLevel (s : State) (e : ErrReport) : (s.report e).msixLevel = s.msixLevel := rfl
@[simp] theorem State.report_reed (s : State) (e : ErrReport) : (s.report e).reed = s.reed := rfl
@[simp] theorem State.report_day (s : State) (e : ErrReport) : (s.report e).day = s.day := rfl
@[simp] theorem State.report_synth (s : State) (e : ErrReport) : (s.report e).synth = s.synth := rfl
@[simp] theorem State.report_objs (s : State) (e : ErrReport) : (s.report e).objs = s.objs := rfl
@[simp] theorem State.report_blobs (s : State) (e : ErrReport) : (s.report e).blobs = s.blobs := rfl
@[simp] theorem State.report_pool (s : State) (e : ErrReport) : (s.report e).pool = s.pool := rfl
@[simp] theorem State.report_queues (s : State) (e : ErrReport) : (s.report e).queues = s.queues := rfl
@[simp] theorem State.report_portOpen (s : State) (e : ErrReport) : (s.report e).portOpen = s.portOpen := rfl
@[simp] theorem State.report_ports (s : State) (e : ErrReport) : (s.report e).ports = s.ports := rfl
@[simp] theorem State.report_fwq (s : State) (e : ErrReport) : (s.report e).fwq = s.fwq := rfl
@[simp] theorem State.report_rx (s : State) (e : ErrReport) : (s.report e).rx = s.rx := rfl
@[simp] theorem State.report_mmLog (s : State) (e : ErrReport) : (s.report e).mmLog = s.mmLog := rfl
@[simp] theorem State.report_tx (s : State) (e : ErrReport) : (s.report e).tx = s.tx := rfl
@[simp] theorem State.report_pmLog (s : State) (e : ErrReport) : (s.report e).pmLog = s.pmLog := rfl
@[simp] theorem State.report_dig (s : State) (e : ErrReport) : (s.report e).dig = s.dig := rfl
@[simp] theorem State.report_src (s : State) (e : ErrReport) : (s.report e).src = s.src := rfl
@[simp] theorem State.report_dst (s : State) (e : ErrReport) : (s.report e).dst = s.dst := rfl
@[simp] theorem State.report_recovering (s : State) (e : ErrReport) : (s.report e).recovering = s.recovering := rfl
@[simp] theorem State.report_heddle (s : State) (e : ErrReport) : (s.report e).heddle = s.heddle := rfl
@[simp] theorem State.report_dec (s : State) (e : ErrReport) : (s.report e).dec = s.dec := rfl
@[simp] theorem State.report_filt (s : State) (e : ErrReport) : (s.report e).filt = s.filt := rfl
@[simp] theorem State.report_det (s : State) (e : ErrReport) : (s.report e).det = s.det := rfl
@[simp] theorem State.report_marks (s : State) (e : ErrReport) : (s.report e).marks = s.marks := rfl
@[simp] theorem State.report_tdm (s : State) (e : ErrReport) : (s.report e).tdm = s.tdm := rfl
@[simp] theorem State.report_ll (s : State) (e : ErrReport) : (s.report e).ll = s.ll := rfl
@[simp] theorem State.report_xref (s : State) (e : ErrReport) : (s.report e).xref = s.xref := rfl
@[simp] theorem State.report_lease (s : State) (e : ErrReport) : (s.report e).lease = s.lease := rfl
@[simp] theorem State.report_sv (s : State) (e : ErrReport) : (s.report e).sv = s.sv := rfl
@[simp] theorem State.report_ovl (s : State) (e : ErrReport) : (s.report e).ovl = s.ovl := rfl
@[simp] theorem State.report_flash (s : State) (e : ErrReport) : (s.report e).flash = s.flash := rfl
@[simp] theorem State.report_patDue (s : State) (e : ErrReport) : (s.report e).patDue = s.patDue := rfl
@[simp] theorem State.report_otp (s : State) (e : ErrReport) : (s.report e).otp = s.otp := rfl
@[simp] theorem State.report_shadow (s : State) (e : ErrReport) : (s.report e).shadow = s.shadow := rfl
@[simp] theorem State.report_sram (s : State) (e : ErrReport) : (s.report e).sram = s.sram := rfl
@[simp] theorem State.report_partnerLedger (s : State) (e : ErrReport) : (s.report e).partnerLedger = s.partnerLedger := rfl
@[simp] theorem State.report_subCount (s : State) (e : ErrReport) : (s.report e).subCount = s.subCount := rfl
@[simp] theorem State.report_lcp (s : State) (e : ErrReport) : (s.report e).lcp = s.lcp := rfl
@[simp] theorem State.report_dom (s : State) (e : ErrReport) : (s.report e).dom = s.dom := rfl
@[simp] theorem State.report_temple (s : State) (e : ErrReport) : (s.report e).temple = s.temple := rfl
@[simp] theorem State.report_life (s : State) (e : ErrReport) : (s.report e).life = s.life := rfl
@[simp] theorem State.report_host (s : State) (e : ErrReport) : (s.report e).host = s.host := rfl
@[simp] theorem State.report_outbox (s : State) (e : ErrReport) : (s.report e).outbox = s.outbox := rfl
@[simp] theorem State.report_pending (s : State) (e : ErrReport) : (s.report e).pending = s.pending := rfl
@[simp] theorem State.setObj_regs (s : State) (i j v : Nat) : (s.setObj i j v).regs = s.regs := rfl
@[simp] theorem State.setObj_freeCtr (s : State) (i j v : Nat) : (s.setObj i j v).freeCtr = s.freeCtr := rfl
@[simp] theorem State.setObj_time (s : State) (i j v : Nat) : (s.setObj i j v).time = s.time := rfl
@[simp] theorem State.setObj_cues (s : State) (i j v : Nat) : (s.setObj i j v).cues = s.cues := rfl
@[simp] theorem State.setObj_doneLog (s : State) (i j v : Nat) : (s.setObj i j v).doneLog = s.doneLog := rfl
@[simp] theorem State.setObj_lastDone (s : State) (i j v : Nat) : (s.setObj i j v).lastDone = s.lastDone := rfl
@[simp] theorem State.setObj_errWait (s : State) (i j v : Nat) : (s.setObj i j v).errWait = s.errWait := rfl
@[simp] theorem State.setObj_errFifo (s : State) (i j v : Nat) : (s.setObj i j v).errFifo = s.errFifo := rfl
@[simp] theorem State.setObj_msixLevel (s : State) (i j v : Nat) : (s.setObj i j v).msixLevel = s.msixLevel := rfl
@[simp] theorem State.setObj_reed (s : State) (i j v : Nat) : (s.setObj i j v).reed = s.reed := rfl
@[simp] theorem State.setObj_day (s : State) (i j v : Nat) : (s.setObj i j v).day = s.day := rfl
@[simp] theorem State.setObj_synth (s : State) (i j v : Nat) : (s.setObj i j v).synth = s.synth := rfl
@[simp] theorem State.setObj_blobs (s : State) (i j v : Nat) : (s.setObj i j v).blobs = s.blobs := rfl
@[simp] theorem State.setObj_pool (s : State) (i j v : Nat) : (s.setObj i j v).pool = s.pool := rfl
@[simp] theorem State.setObj_queues (s : State) (i j v : Nat) : (s.setObj i j v).queues = s.queues := rfl
@[simp] theorem State.setObj_portOpen (s : State) (i j v : Nat) : (s.setObj i j v).portOpen = s.portOpen := rfl
@[simp] theorem State.setObj_ports (s : State) (i j v : Nat) : (s.setObj i j v).ports = s.ports := rfl
@[simp] theorem State.setObj_fwq (s : State) (i j v : Nat) : (s.setObj i j v).fwq = s.fwq := rfl
@[simp] theorem State.setObj_rx (s : State) (i j v : Nat) : (s.setObj i j v).rx = s.rx := rfl
@[simp] theorem State.setObj_mmLog (s : State) (i j v : Nat) : (s.setObj i j v).mmLog = s.mmLog := rfl
@[simp] theorem State.setObj_tx (s : State) (i j v : Nat) : (s.setObj i j v).tx = s.tx := rfl
@[simp] theorem State.setObj_pmLog (s : State) (i j v : Nat) : (s.setObj i j v).pmLog = s.pmLog := rfl
@[simp] theorem State.setObj_dig (s : State) (i j v : Nat) : (s.setObj i j v).dig = s.dig := rfl
@[simp] theorem State.setObj_src (s : State) (i j v : Nat) : (s.setObj i j v).src = s.src := rfl
@[simp] theorem State.setObj_dst (s : State) (i j v : Nat) : (s.setObj i j v).dst = s.dst := rfl
@[simp] theorem State.setObj_recovering (s : State) (i j v : Nat) : (s.setObj i j v).recovering = s.recovering := rfl
@[simp] theorem State.setObj_heddle (s : State) (i j v : Nat) : (s.setObj i j v).heddle = s.heddle := rfl
@[simp] theorem State.setObj_dec (s : State) (i j v : Nat) : (s.setObj i j v).dec = s.dec := rfl
@[simp] theorem State.setObj_filt (s : State) (i j v : Nat) : (s.setObj i j v).filt = s.filt := rfl
@[simp] theorem State.setObj_det (s : State) (i j v : Nat) : (s.setObj i j v).det = s.det := rfl
@[simp] theorem State.setObj_marks (s : State) (i j v : Nat) : (s.setObj i j v).marks = s.marks := rfl
@[simp] theorem State.setObj_tdm (s : State) (i j v : Nat) : (s.setObj i j v).tdm = s.tdm := rfl
@[simp] theorem State.setObj_ll (s : State) (i j v : Nat) : (s.setObj i j v).ll = s.ll := rfl
@[simp] theorem State.setObj_xref (s : State) (i j v : Nat) : (s.setObj i j v).xref = s.xref := rfl
@[simp] theorem State.setObj_lease (s : State) (i j v : Nat) : (s.setObj i j v).lease = s.lease := rfl
@[simp] theorem State.setObj_sv (s : State) (i j v : Nat) : (s.setObj i j v).sv = s.sv := rfl
@[simp] theorem State.setObj_ovl (s : State) (i j v : Nat) : (s.setObj i j v).ovl = s.ovl := rfl
@[simp] theorem State.setObj_flash (s : State) (i j v : Nat) : (s.setObj i j v).flash = s.flash := rfl
@[simp] theorem State.setObj_patDue (s : State) (i j v : Nat) : (s.setObj i j v).patDue = s.patDue := rfl
@[simp] theorem State.setObj_otp (s : State) (i j v : Nat) : (s.setObj i j v).otp = s.otp := rfl
@[simp] theorem State.setObj_shadow (s : State) (i j v : Nat) : (s.setObj i j v).shadow = s.shadow := rfl
@[simp] theorem State.setObj_sram (s : State) (i j v : Nat) : (s.setObj i j v).sram = s.sram := rfl
@[simp] theorem State.setObj_partnerLedger (s : State) (i j v : Nat) : (s.setObj i j v).partnerLedger = s.partnerLedger := rfl
@[simp] theorem State.setObj_subCount (s : State) (i j v : Nat) : (s.setObj i j v).subCount = s.subCount := rfl
@[simp] theorem State.setObj_lcp (s : State) (i j v : Nat) : (s.setObj i j v).lcp = s.lcp := rfl
@[simp] theorem State.setObj_dom (s : State) (i j v : Nat) : (s.setObj i j v).dom = s.dom := rfl
@[simp] theorem State.setObj_temple (s : State) (i j v : Nat) : (s.setObj i j v).temple = s.temple := rfl
@[simp] theorem State.setObj_life (s : State) (i j v : Nat) : (s.setObj i j v).life = s.life := rfl
@[simp] theorem State.setObj_host (s : State) (i j v : Nat) : (s.setObj i j v).host = s.host := rfl
@[simp] theorem State.setObj_outbox (s : State) (i j v : Nat) : (s.setObj i j v).outbox = s.outbox := rfl
@[simp] theorem State.setObj_pending (s : State) (i j v : Nat) : (s.setObj i j v).pending = s.pending := rfl
@[simp] theorem State.setBlob_regs (s : State) (i j : Nat) (v : List Byte) : (s.setBlob i j v).regs = s.regs := rfl
@[simp] theorem State.setBlob_freeCtr (s : State) (i j : Nat) (v : List Byte) : (s.setBlob i j v).freeCtr = s.freeCtr := rfl
@[simp] theorem State.setBlob_time (s : State) (i j : Nat) (v : List Byte) : (s.setBlob i j v).time = s.time := rfl
@[simp] theorem State.setBlob_cues (s : State) (i j : Nat) (v : List Byte) : (s.setBlob i j v).cues = s.cues := rfl
@[simp] theorem State.setBlob_doneLog (s : State) (i j : Nat) (v : List Byte) : (s.setBlob i j v).doneLog = s.doneLog := rfl
@[simp] theorem State.setBlob_lastDone (s : State) (i j : Nat) (v : List Byte) : (s.setBlob i j v).lastDone = s.lastDone := rfl
@[simp] theorem State.setBlob_errWait (s : State) (i j : Nat) (v : List Byte) : (s.setBlob i j v).errWait = s.errWait := rfl
@[simp] theorem State.setBlob_errFifo (s : State) (i j : Nat) (v : List Byte) : (s.setBlob i j v).errFifo = s.errFifo := rfl
@[simp] theorem State.setBlob_msixLevel (s : State) (i j : Nat) (v : List Byte) : (s.setBlob i j v).msixLevel = s.msixLevel := rfl
@[simp] theorem State.setBlob_reed (s : State) (i j : Nat) (v : List Byte) : (s.setBlob i j v).reed = s.reed := rfl
@[simp] theorem State.setBlob_day (s : State) (i j : Nat) (v : List Byte) : (s.setBlob i j v).day = s.day := rfl
@[simp] theorem State.setBlob_synth (s : State) (i j : Nat) (v : List Byte) : (s.setBlob i j v).synth = s.synth := rfl
@[simp] theorem State.setBlob_objs (s : State) (i j : Nat) (v : List Byte) : (s.setBlob i j v).objs = s.objs := rfl
@[simp] theorem State.setBlob_pool (s : State) (i j : Nat) (v : List Byte) : (s.setBlob i j v).pool = s.pool := rfl
@[simp] theorem State.setBlob_queues (s : State) (i j : Nat) (v : List Byte) : (s.setBlob i j v).queues = s.queues := rfl
@[simp] theorem State.setBlob_portOpen (s : State) (i j : Nat) (v : List Byte) : (s.setBlob i j v).portOpen = s.portOpen := rfl
@[simp] theorem State.setBlob_ports (s : State) (i j : Nat) (v : List Byte) : (s.setBlob i j v).ports = s.ports := rfl
@[simp] theorem State.setBlob_fwq (s : State) (i j : Nat) (v : List Byte) : (s.setBlob i j v).fwq = s.fwq := rfl
@[simp] theorem State.setBlob_rx (s : State) (i j : Nat) (v : List Byte) : (s.setBlob i j v).rx = s.rx := rfl
@[simp] theorem State.setBlob_mmLog (s : State) (i j : Nat) (v : List Byte) : (s.setBlob i j v).mmLog = s.mmLog := rfl
@[simp] theorem State.setBlob_tx (s : State) (i j : Nat) (v : List Byte) : (s.setBlob i j v).tx = s.tx := rfl
@[simp] theorem State.setBlob_pmLog (s : State) (i j : Nat) (v : List Byte) : (s.setBlob i j v).pmLog = s.pmLog := rfl
@[simp] theorem State.setBlob_dig (s : State) (i j : Nat) (v : List Byte) : (s.setBlob i j v).dig = s.dig := rfl
@[simp] theorem State.setBlob_src (s : State) (i j : Nat) (v : List Byte) : (s.setBlob i j v).src = s.src := rfl
@[simp] theorem State.setBlob_dst (s : State) (i j : Nat) (v : List Byte) : (s.setBlob i j v).dst = s.dst := rfl
@[simp] theorem State.setBlob_recovering (s : State) (i j : Nat) (v : List Byte) : (s.setBlob i j v).recovering = s.recovering := rfl
@[simp] theorem State.setBlob_heddle (s : State) (i j : Nat) (v : List Byte) : (s.setBlob i j v).heddle = s.heddle := rfl
@[simp] theorem State.setBlob_dec (s : State) (i j : Nat) (v : List Byte) : (s.setBlob i j v).dec = s.dec := rfl
@[simp] theorem State.setBlob_filt (s : State) (i j : Nat) (v : List Byte) : (s.setBlob i j v).filt = s.filt := rfl
@[simp] theorem State.setBlob_det (s : State) (i j : Nat) (v : List Byte) : (s.setBlob i j v).det = s.det := rfl
@[simp] theorem State.setBlob_marks (s : State) (i j : Nat) (v : List Byte) : (s.setBlob i j v).marks = s.marks := rfl
@[simp] theorem State.setBlob_tdm (s : State) (i j : Nat) (v : List Byte) : (s.setBlob i j v).tdm = s.tdm := rfl
@[simp] theorem State.setBlob_ll (s : State) (i j : Nat) (v : List Byte) : (s.setBlob i j v).ll = s.ll := rfl
@[simp] theorem State.setBlob_xref (s : State) (i j : Nat) (v : List Byte) : (s.setBlob i j v).xref = s.xref := rfl
@[simp] theorem State.setBlob_lease (s : State) (i j : Nat) (v : List Byte) : (s.setBlob i j v).lease = s.lease := rfl
@[simp] theorem State.setBlob_sv (s : State) (i j : Nat) (v : List Byte) : (s.setBlob i j v).sv = s.sv := rfl
@[simp] theorem State.setBlob_ovl (s : State) (i j : Nat) (v : List Byte) : (s.setBlob i j v).ovl = s.ovl := rfl
@[simp] theorem State.setBlob_flash (s : State) (i j : Nat) (v : List Byte) : (s.setBlob i j v).flash = s.flash := rfl
@[simp] theorem State.setBlob_patDue (s : State) (i j : Nat) (v : List Byte) : (s.setBlob i j v).patDue = s.patDue := rfl
@[simp] theorem State.setBlob_otp (s : State) (i j : Nat) (v : List Byte) : (s.setBlob i j v).otp = s.otp := rfl
@[simp] theorem State.setBlob_shadow (s : State) (i j : Nat) (v : List Byte) : (s.setBlob i j v).shadow = s.shadow := rfl
@[simp] theorem State.setBlob_sram (s : State) (i j : Nat) (v : List Byte) : (s.setBlob i j v).sram = s.sram := rfl
@[simp] theorem State.setBlob_partnerLedger (s : State) (i j : Nat) (v : List Byte) : (s.setBlob i j v).partnerLedger = s.partnerLedger := rfl
@[simp] theorem State.setBlob_subCount (s : State) (i j : Nat) (v : List Byte) : (s.setBlob i j v).subCount = s.subCount := rfl
@[simp] theorem State.setBlob_lcp (s : State) (i j : Nat) (v : List Byte) : (s.setBlob i j v).lcp = s.lcp := rfl
@[simp] theorem State.setBlob_dom (s : State) (i j : Nat) (v : List Byte) : (s.setBlob i j v).dom = s.dom := rfl
@[simp] theorem State.setBlob_temple (s : State) (i j : Nat) (v : List Byte) : (s.setBlob i j v).temple = s.temple := rfl
@[simp] theorem State.setBlob_life (s : State) (i j : Nat) (v : List Byte) : (s.setBlob i j v).life = s.life := rfl
@[simp] theorem State.setBlob_host (s : State) (i j : Nat) (v : List Byte) : (s.setBlob i j v).host = s.host := rfl
@[simp] theorem State.setBlob_outbox (s : State) (i j : Nat) (v : List Byte) : (s.setBlob i j v).outbox = s.outbox := rfl
@[simp] theorem State.setBlob_pending (s : State) (i j : Nat) (v : List Byte) : (s.setBlob i j v).pending = s.pending := rfl

@[simp] theorem State.send_outbox (s : State) (m : Sent) : (s.send m).outbox = s.outbox ++ [m] := rfl
@[simp] theorem State.report_errWait (s : State) (e : ErrReport) : (s.report e).errWait = s.errWait ++ [e] := rfl

-- ## Register words

theorem State.rd_wr (s : State) (a b : Nat) (w : BitVec 32) : (s.wr a w).rd b = if b = a then w else s.rd b := by
  unfold State.rd State.wr
  by_cases h : b = a
  · subst h; simp
  · simp [h, tget_tput_other]

@[simp] theorem State.rd_wr_same (s : State) (a : Nat) (w : BitVec 32) : (s.wr a w).rd a = w := by simp [State.rd_wr]

theorem State.rd_wr_ne (s : State) {a b : Nat} (h : b ≠ a) (w : BitVec 32) : (s.wr a w).rd b = s.rd b := by simp [State.rd_wr, h]

theorem State.rd_put_ne (s : State) {f : Fld} {b : Nat} (h : b ≠ f.reg) (v : Nat) : (s.put f v).rd b = s.rd b := State.rd_wr_ne s h _

@[simp] theorem State.rd_send (s : State) (m : Sent) (a : Nat) : (s.send m).rd a = s.rd a := rfl
@[simp] theorem State.rd_report (s : State) (e : ErrReport) (a : Nat) : (s.report e).rd a = s.rd a := rfl
@[simp] theorem State.get_send (s : State) (m : Sent) (f : Fld) : (s.send m).get f = s.get f := rfl
@[simp] theorem State.get_report (s : State) (e : ErrReport) (f : Fld) : (s.report e).get f = s.get f := rfl

-- ## Fields

/-- A field set reads as the low bits of its value. -/
theorem State.get_put_same (s : State) (f : Fld) (v : Nat) (h : f.lsb + f.wid ≤ 32) : (s.put f v).get f = v % 2 ^ f.wid := by
  unfold State.get State.put
  rw [State.rd_wr_same, BitVec.toNat_ofNat, Nat.mod_eq_of_lt (setBits_lt _ _ _ _ 32 h (s.rd f.reg).isLt), bitsOf_setBits_same]

/-- A field of another register keeps its value. -/
theorem State.get_put_reg (s : State) {f g : Fld} (h : g.reg ≠ f.reg) (v : Nat) : (s.put f v).get g = s.get g := by
  unfold State.get; rw [State.rd_put_ne s h]

/-- A field of the same register at other bits keeps its value. -/
theorem State.get_put_bits (s : State) {f g : Fld} (hr : g.reg = f.reg) (hf : f.lsb + f.wid ≤ 32)
    (h : g.lsb + g.wid ≤ f.lsb ∨ f.lsb + f.wid ≤ g.lsb) (v : Nat) : (s.put f v).get g = s.get g := by
  unfold State.get State.put
  rw [hr, State.rd_wr_same, BitVec.toNat_ofNat, Nat.mod_eq_of_lt (setBits_lt _ _ _ _ 32 hf (s.rd f.reg).isLt), bitsOf_setBits_ne _ _ _ _ _ _ h]

/-- A field that shares no bit with the one set keeps its value. -/
theorem State.get_put_ne (s : State) {f g : Fld} (hf : f.lsb + f.wid ≤ 32)
    (h : g.reg ≠ f.reg ∨ g.lsb + g.wid ≤ f.lsb ∨ f.lsb + f.wid ≤ g.lsb) (v : Nat) : (s.put f v).get g = s.get g := by
  by_cases hr : g.reg = f.reg
  · exact State.get_put_bits s hr hf (h.resolve_left (fun c => c hr)) v
  · exact State.get_put_reg s hr v

/-- A counter that is bumped counts one more, and wraps. -/
theorem State.get_bump_same (s : State) (f : Fld) (h : f.lsb + f.wid ≤ 32) : (s.bump f).get f = (s.get f + 1) % 2 ^ f.wid :=
  State.get_put_same s f _ h

/-- A register word beside the one a field lies in keeps its value. -/
theorem State.rd_bump_ne (s : State) {f : Fld} {b : Nat} (h : b ≠ f.reg) : (s.bump f).rd b = s.rd b := State.rd_put_ne s h _

-- ## Objects

theorem State.obj_setObj_same (s : State) (i j v : Nat) : (s.setObj i j v).obj i j = v := by simp [State.obj, State.setObj]

theorem State.obj_setObj_ne (s : State) (i j i' j' v : Nat) (h : objKey i' j' ≠ objKey i j) : (s.setObj i j v).obj i' j' = s.obj i' j' := by
  unfold State.obj State.setObj
  exact tget_tput_other _ _ h _ _

-- ## Canonical tables

/-- Register space in canonical form: offsets rising, no word equal to its reset value. -/
def State.regsCanon (s : State) : Bool := tcanon regReset s.regs

theorem State.regsCanon_wr (s : State) (a : Nat) (w : BitVec 32) (h : s.regsCanon = true) : (s.wr a w).regsCanon = true :=
  tcanon_tput regReset a w s.regs h

theorem State.regsCanon_put (s : State) (f : Fld) (v : Nat) (h : s.regsCanon = true) : (s.put f v).regsCanon = true :=
  State.regsCanon_wr s _ _ h

/-- The reset state's memories and registers are in canonical form. -/
theorem State.reset_canon : State.reset.regsCanon = true ∧ State.reset.pool = [] ∧ State.reset.sram = [] ∧ State.reset.flash.mem = [] := by decide

end Sys2Proof.Machine
end

