-- ==== Sys2Proof/Laws/Ops.lean ====
section
/-!
SUPPORT. The laws of the operations every meaning ends with: what settling the interrupts can change (R383, R385), and when a command
is refused, ignored or acts.
-/
namespace Sys2Proof.Machine

/-- Two states differ in MSI-X only: the Pending Bit Array, messages sent, and the levels last seen. -/
def MsixOnly (s t : State) : Prop :=
  (∀ a, a ≠ R.MSIX_PBA 0 → t.rd a = s.rd a) ∧ t.regs.filter (fun e => decide (e.1 ≠ R.MSIX_PBA 0)) = s.regs.filter (fun e => decide (e.1 ≠ R.MSIX_PBA 0))
    ∧ (∃ vs : List Nat, t.outbox = s.outbox ++ vs.map Sent.msix)
    ∧ ({ t with regs := s.regs, outbox := s.outbox, msixLevel := s.msixLevel } : State) = s

theorem MsixOnly.rfl' (s : State) : MsixOnly s s := ⟨fun _ _ => rfl, rfl, ⟨[], by simp⟩, rfl⟩

theorem MsixOnly.trans' {s t u : State} (h : MsixOnly s t) (k : MsixOnly t u) : MsixOnly s u := by
  obtain ⟨h1, h2, ⟨v, h3⟩, h4⟩ := h
  obtain ⟨k1, k2, ⟨w, k3⟩, k4⟩ := k
  refine ⟨fun a ha => (k1 a ha).trans (h1 a ha), k2.trans h2, ⟨v ++ w, by rw [k3, h3]; simp⟩, ?_⟩
  rw [← k4] at h4
  exact h4

theorem filter_terase {β : Type} (p : Nat × β → Bool) (a : Nat) (h : ∀ v, p (a, v) = false) (t : List (Nat × β)) :
    (terase a t).filter p = t.filter p := by
  induction t with
  | nil => rfl
  | cons e r ih =>
    obtain ⟨k, v⟩ := e
    by_cases hk : k = a
    · subst hk; simp [terase, h, ih]
    · by_cases hp : p (k, v) = true <;> simp [terase, hk, hp, ih]

theorem filter_tins {β : Type} (p : Nat × β → Bool) (a : Nat) (w : β) (h : p (a, w) = false) (t : List (Nat × β)) :
    (tins a w t).filter p = t.filter p := by
  induction t with
  | nil => simp [tins, h]
  | cons e r ih =>
    obtain ⟨k, v⟩ := e
    by_cases hlt : a < k
    · simp [tins, hlt, h]
    · by_cases hp : p (k, v) = true <;> simp [tins, hlt, hp, ih]

/-- A write leaves alone what a filter that drops its number keeps. -/
theorem filter_tput {β : Type} [DecidableEq β] (p : Nat × β → Bool) (d : β) (a : Nat) (w : β) (h : ∀ v, p (a, v) = false)
    (t : List (Nat × β)) : (tput d a w t).filter p = t.filter p := by
  unfold tput
  split
  · exact filter_terase p a h t
  · rw [filter_tins p a w (h w), filter_terase p a h]

theorem State.filter_put (s : State) (p : Nat × BitVec 32 → Bool) (f : Fld) (v : Nat) (h : ∀ w, p (f.reg, w) = false) :
    (s.put f v).regs.filter p = s.regs.filter p := filter_tput p _ _ _ h _

theorem State.vecFire_msix (s : State) (v : Nat) : MsixOnly s (s.vecFire v) := by
  unfold State.vecFire
  split
  · refine ⟨fun a ha => State.rd_put_ne s ha _, State.filter_put s _ _ _ (fun w => decide_eq_false (fun h => h rfl)), ⟨[], by rw [State.put_outbox]; simp⟩, by simp only [State.put, State.wr]⟩
  · split
    · exact ⟨fun _ _ => rfl, rfl, ⟨[v], rfl⟩, rfl⟩
    · exact MsixOnly.rfl' s

theorem MsixOnly.forL {α : Type} (f : α → State → State) (h : ∀ a s, MsixOnly s (f a s)) (xs : List α) :
    ∀ s : State, MsixOnly s (xs.foldl (fun t x => f x t) s) := by
  induction xs with
  | nil => intro s; exact MsixOnly.rfl' s
  | cons x r ih => intro s; exact (h x s).trans' (ih _)

/-- Settling changes MSI-X only. -/
theorem State.settle_msix (s : State) : MsixOnly s s.settle := by
  unfold State.settle
  have h := MsixOnly.forL (fun v t => if bitOf (s.levels 32) v && !bitOf s.msixLevel v then State.vecFire t v else t)
    (fun v t => by split <;> [exact State.vecFire_msix t v; exact MsixOnly.rfl' t]) (List.range 32) s
  obtain ⟨h1, h2, h3, h4⟩ := h
  exact ⟨h1, h2, h3, h4⟩

/-- Settling records the levels it has seen. -/
theorem State.settle_level (s : State) : s.settle.msixLevel = s.levels 32 := rfl

/-- Register words but the Pending Bit Array outlive settling. -/
theorem State.settle_rd (s : State) {a : Nat} (h : a ≠ R.MSIX_PBA 0) : s.settle.rd a = s.rd a := s.settle_msix.1 a h

/-- Fields but the Pending Bit Array outlive settling. -/
theorem State.settle_get (s : State) {f : Fld} (h : f.reg ≠ R.MSIX_PBA 0) : s.settle.get f = s.get f := by
  unfold State.get; rw [s.settle_rd h]

theorem State.settle_is (s : State) {f : Fld} (h : f.reg ≠ R.MSIX_PBA 0) : s.settle.is f = s.is f := by
  unfold State.is; rw [s.settle_get h]

/-- What is sent before settling stays sent. -/
theorem State.settle_outbox (s : State) : ∃ vs : List Nat, s.settle.outbox = s.outbox ++ vs.map Sent.msix := s.settle_msix.2.2.1

@[simp] theorem State.settle_freeCtr (s : State) : s.settle.freeCtr = s.freeCtr := by
  have h := congrArg State.freeCtr s.settle_msix.2.2.2; exact h
@[simp] theorem State.settle_time (s : State) : s.settle.time = s.time := by
  have h := congrArg State.time s.settle_msix.2.2.2; exact h
@[simp] theorem State.settle_cues (s : State) : s.settle.cues = s.cues := by
  have h := congrArg State.cues s.settle_msix.2.2.2; exact h
@[simp] theorem State.settle_doneLog (s : State) : s.settle.doneLog = s.doneLog := by
  have h := congrArg State.doneLog s.settle_msix.2.2.2; exact h
@[simp] theorem State.settle_lastDone (s : State) : s.settle.lastDone = s.lastDone := by
  have h := congrArg State.lastDone s.settle_msix.2.2.2; exact h
@[simp] theorem State.settle_errWait (s : State) : s.settle.errWait = s.errWait := by
  have h := congrArg State.errWait s.settle_msix.2.2.2; exact h
@[simp] theorem State.settle_errFifo (s : State) : s.settle.errFifo = s.errFifo := by
  have h := congrArg State.errFifo s.settle_msix.2.2.2; exact h
@[simp] theorem State.settle_reed (s : State) : s.settle.reed = s.reed := by
  have h := congrArg State.reed s.settle_msix.2.2.2; exact h
@[simp] theorem State.settle_day (s : State) : s.settle.day = s.day := by
  have h := congrArg State.day s.settle_msix.2.2.2; exact h
@[simp] theorem State.settle_synth (s : State) : s.settle.synth = s.synth := by
  have h := congrArg State.synth s.settle_msix.2.2.2; exact h
@[simp] theorem State.settle_objs (s : State) : s.settle.objs = s.objs := by
  have h := congrArg State.objs s.settle_msix.2.2.2; exact h
@[simp] theorem State.settle_blobs (s : State) : s.settle.blobs = s.blobs := by
  have h := congrArg State.blobs s.settle_msix.2.2.2; exact h
@[simp] theorem State.settle_pool (s : State) : s.settle.pool = s.pool := by
  have h := congrArg State.pool s.settle_msix.2.2.2; exact h
@[simp] theorem State.settle_queues (s : State) : s.settle.queues = s.queues := by
  have h := congrArg State.queues s.settle_msix.2.2.2; exact h
@[simp] theorem State.settle_portOpen (s : State) : s.settle.portOpen = s.portOpen := by
  have h := congrArg State.portOpen s.settle_msix.2.2.2; exact h
@[simp] theorem State.settle_ports (s : State) : s.settle.ports = s.ports := by
  have h := congrArg State.ports s.settle_msix.2.2.2; exact h
@[simp] theorem State.settle_fwq (s : State) : s.settle.fwq = s.fwq := by
  have h := congrArg State.fwq s.settle_msix.2.2.2; exact h
@[simp] theorem State.settle_rx (s : State) : s.settle.rx = s.rx := by
  have h := congrArg State.rx s.settle_msix.2.2.2; exact h
@[simp] theorem State.settle_mmLog (s : State) : s.settle.mmLog = s.mmLog := by
  have h := congrArg State.mmLog s.settle_msix.2.2.2; exact h
@[simp] theorem State.settle_tx (s : State) : s.settle.tx = s.tx := by
  have h := congrArg State.tx s.settle_msix.2.2.2; exact h
@[simp] theorem State.settle_pmLog (s : State) : s.settle.pmLog = s.pmLog := by
  have h := congrArg State.pmLog s.settle_msix.2.2.2; exact h
@[simp] theorem State.settle_dig (s : State) : s.settle.dig = s.dig := by
  have h := congrArg State.dig s.settle_msix.2.2.2; exact h
@[simp] theorem State.settle_src (s : State) : s.settle.src = s.src := by
  have h := congrArg State.src s.settle_msix.2.2.2; exact h
@[simp] theorem State.settle_dst (s : State) : s.settle.dst = s.dst := by
  have h := congrArg State.dst s.settle_msix.2.2.2; exact h
@[simp] theorem State.settle_recovering (s : State) : s.settle.recovering = s.recovering := by
  have h := congrArg State.recovering s.settle_msix.2.2.2; exact h
@[simp] theorem State.settle_heddle (s : State) : s.settle.heddle = s.heddle := by
  have h := congrArg State.heddle s.settle_msix.2.2.2; exact h
@[simp] theorem State.settle_dec (s : State) : s.settle.dec = s.dec := by
  have h := congrArg State.dec s.settle_msix.2.2.2; exact h
@[simp] theorem State.settle_filt (s : State) : s.settle.filt = s.filt := by
  have h := congrArg State.filt s.settle_msix.2.2.2; exact h
@[simp] theorem State.settle_det (s : State) : s.settle.det = s.det := by
  have h := congrArg State.det s.settle_msix.2.2.2; exact h
@[simp] theorem State.settle_marks (s : State) : s.settle.marks = s.marks := by
  have h := congrArg State.marks s.settle_msix.2.2.2; exact h
@[simp] theorem State.settle_tdm (s : State) : s.settle.tdm = s.tdm := by
  have h := congrArg State.tdm s.settle_msix.2.2.2; exact h
@[simp] theorem State.settle_ll (s : State) : s.settle.ll = s.ll := by
  have h := congrArg State.ll s.settle_msix.2.2.2; exact h
@[simp] theorem State.settle_xref (s : State) : s.settle.xref = s.xref := by
  have h := congrArg State.xref s.settle_msix.2.2.2; exact h
@[simp] theorem State.settle_lease (s : State) : s.settle.lease = s.lease := by
  have h := congrArg State.lease s.settle_msix.2.2.2; exact h
@[simp] theorem State.settle_sv (s : State) : s.settle.sv = s.sv := by
  have h := congrArg State.sv s.settle_msix.2.2.2; exact h
@[simp] theorem State.settle_ovl (s : State) : s.settle.ovl = s.ovl := by
  have h := congrArg State.ovl s.settle_msix.2.2.2; exact h
@[simp] theorem State.settle_flash (s : State) : s.settle.flash = s.flash := by
  have h := congrArg State.flash s.settle_msix.2.2.2; exact h
@[simp] theorem State.settle_patDue (s : State) : s.settle.patDue = s.patDue := by
  have h := congrArg State.patDue s.settle_msix.2.2.2; exact h
@[simp] theorem State.settle_otp (s : State) : s.settle.otp = s.otp := by
  have h := congrArg State.otp s.settle_msix.2.2.2; exact h
@[simp] theorem State.settle_shadow (s : State) : s.settle.shadow = s.shadow := by
  have h := congrArg State.shadow s.settle_msix.2.2.2; exact h
@[simp] theorem State.settle_sram (s : State) : s.settle.sram = s.sram := by
  have h := congrArg State.sram s.settle_msix.2.2.2; exact h
@[simp] theorem State.settle_partnerLedger (s : State) : s.settle.partnerLedger = s.partnerLedger := by
  have h := congrArg State.partnerLedger s.settle_msix.2.2.2; exact h
@[simp] theorem State.settle_subCount (s : State) : s.settle.subCount = s.subCount := by
  have h := congrArg State.subCount s.settle_msix.2.2.2; exact h
@[simp] theorem State.settle_lcp (s : State) : s.settle.lcp = s.lcp := by
  have h := congrArg State.lcp s.settle_msix.2.2.2; exact h
@[simp] theorem State.settle_dom (s : State) : s.settle.dom = s.dom := by
  have h := congrArg State.dom s.settle_msix.2.2.2; exact h
@[simp] theorem State.settle_temple (s : State) : s.settle.temple = s.temple := by
  have h := congrArg State.temple s.settle_msix.2.2.2; exact h
@[simp] theorem State.settle_life (s : State) : s.settle.life = s.life := by
  have h := congrArg State.life s.settle_msix.2.2.2; exact h
@[simp] theorem State.settle_host (s : State) : s.settle.host = s.host := by
  have h := congrArg State.host s.settle_msix.2.2.2; exact h
@[simp] theorem State.settle_pending (s : State) : s.settle.pending = s.pending := by
  have h := congrArg State.pending s.settle_msix.2.2.2; exact h

/-- The end of a command. -/
theorem State.done_eq (s : State) : s.done = .next s.settle := rfl

-- ## Which commands act

/-- A command with well-formed operands acts while nothing is held. -/
theorem State.accept_live (s : State) (ok : Bool) (f : State → Host.Outcome State Fault Refusal) (h : ok = true) (k : s.life.held = .none) :
    s.accept ok f = f s := by simp [State.accept, State.always, State.live, h, k]

theorem State.live_live (s : State) (f : State → Host.Outcome State Fault Refusal) (k : s.life.held = .none) : s.live f = f s := by
  simp [State.live, k]

/-- It changes nothing while every domain but PD0 is held. -/
theorem State.accept_held (s : State) (ok : Bool) (f : State → Host.Outcome State Fault Refusal) (h : ok = true) (k : s.life.held ≠ .none) :
    s.accept ok f = .next s := by simp [State.accept, State.always, State.live, h, k]

theorem State.live_held (s : State) (f : State → Host.Outcome State Fault Refusal) (k : s.life.held ≠ .none) : s.live f = .next s := by
  simp [State.live, k]

/-- Everything accept can answer: a refusal, the state unchanged, or what the meaning answers. -/
theorem State.accept_cases (s : State) (ok : Bool) (f : State → Host.Outcome State Fault Refusal) :
    (ok = false ∧ s.accept ok f = .refused .illFormed) ∨ (ok = true ∧ s.life.held ≠ .none ∧ s.accept ok f = .next s)
      ∨ (ok = true ∧ s.life.held = .none ∧ s.accept ok f = f s) := by
  cases ok
  · exact .inl ⟨rfl, rfl⟩
  · by_cases k : s.life.held = .none
    · exact .inr (.inr ⟨rfl, k, s.accept_live true f rfl k⟩)
    · exact .inr (.inl ⟨rfl, k, s.accept_held true f rfl k⟩)

end Sys2Proof.Machine
end

