-- ==== Sys2Proof/Laws/Ports.lean ====
section
/-!
SUPPORT. The frames of the firmware that wait for a port: one that joins them stands last on its own port and changes nothing else.
-/
namespace Sys2Proof.Machine

theorem State.fwFrames_fwSend (s : State) (n : Nat) (f : FwFrame) (m : Nat) :
    (s.fwSend n f).fwFrames m = if m = n then s.fwFrames n ++ [f] else s.fwFrames m := by
  unfold State.fwFrames State.fwSend tupd
  split
  · subst m; simp
  · exact tget_tput_ne _ ‹_› _ _

@[simp] theorem State.fwFrames_fwSend_same (s : State) (n : Nat) (f : FwFrame) : (s.fwSend n f).fwFrames n = s.fwFrames n ++ [f] := by
  rw [State.fwFrames_fwSend]; simp

theorem State.fwSend_only (s : State) (n : Nat) (f : FwFrame) : ({ s.fwSend n f with fwq := s.fwq } : State) = s := rfl

@[simp] theorem State.fwSend_rd (s : State) (n : Nat) (f : FwFrame) (a : Nat) : (s.fwSend n f).rd a = s.rd a := rfl

@[simp] theorem State.fwSend_outbox (s : State) (n : Nat) (f : FwFrame) : (s.fwSend n f).outbox = s.outbox := rfl

end Sys2Proof.Machine
end

