-- ==== Sys2Proof/Tests/Slice0.lean ====
section
/-!
SUPPORT. Tests: ill-formed commands for each check; for each statement with hypotheses, states and operands that meet the hypotheses of its
clauses; and single commands against results worked out from the spec.
-/
namespace Sys2Proof.Tests
open Sys2Proof Sys2Proof.Machine

-- One theorem at a time: several that the kernel evaluates side by side take a thread's memory each.
set_option Elab.async false

theorem test_ill_formed_1 : ∀ c ∈ ([
    .filterChainStart 1024 .clean, .fadeEnd 1024, .closingCrossfadeEnd 1024, .delayFadeEnd 8192, .cuePush (.window 4) [], .cuePush (.writeAt 4 0 0) [],
    .cueCancel (.window 4) 0 0, .cueCancel (.writeAt 4 0 0) 0 0, .timeCtrlWrite 4294967296, .ptpMessageRx 4 .other, .ptpMessageTx 4 0,
    .refGateExpire ⟨10, 0⟩, .refWtrExpire ⟨10, 0⟩, .refEdgeTimeout 10, .ptpAnnounceTimeout 10, .refEnableWrite 10 0, .refEnableWrite 0 4294967296,
    .rdCtrlWrite 4294967296, .pstepGo 4294967296, .fpoInputPulse 4 0, .fpoStepApply 4, .synthUnlock 2, .synthLocked 2, .synthOutputRestart 2,
    .synthStopped 2, .synthNcdReturn 2, .synCtrlWrite 4294967296, .rampStart 2, .rampAbort 2 0, .rampZero 2, .rampSegmentEnd 2, .ckoCfgWrite 12 0,
    .ckoCfgWrite 0 4294967296, .ckoPhaseWrite 12 0, .ckoPhaseWrite 0 4294967296, .ckoWalkStep 12, .pcsCtrlWrite 4 0, .pcsCtrlWrite 0 4294967296,
    .pcsRestart 4, .pcsAdapt 4] : List Instr), c.wf = false := by decide

theorem test_ill_formed_2 : ∀ c ∈ ([
    .macCtrlWrite 4 0, .macCtrlWrite 0 4294967296, .portSignalDetect 4, .portLinkUp 4, .portLinkLoss 4 ⟨false, false⟩ none,
    .rxFrame 4 { bytes := [] }, .ctFrameStart 4, .pauseTimerExpire 4 0, .pauseTimerExpire 0 8, .pauseWatchdog 4 0, .pauseWatchdog 0 8,
    .pauseSpentTimeout 4 0, .pauseSpentTimeout 0 8, .pfcRefresh 4, .txFrameStart 4 { cclk := 0, lead := 0, queues := [] }, .tsPopTag 4, .lostTagPop 4, .counterHarvest 4 0,
    .counterHarvest 0 52, .wakeFrameMatch [] false false ⟨4, 0⟩, .wakeFrameMatch [] false false ⟨0, 2⟩, .streamLost 1024, .sapAnnounce 1024,
    .reclaimDone ⟨4096, []⟩, .qpSelWrite 4 0, .qpSelWrite 0 4294967296, .qpPushStart 4, .qpPushData 4 0, .qpPushData 0 4294967296, .qpPushEnd 4 0,
    .qpPushEnd 0 4, .qpPushAbort 4, .qpPop 4 .clean, .poolTargetAccess ⟨7, 0, false, 0, 4, 1, 0⟩ .clean,
    .poolTargetAccess ⟨0, 16, false, 0, 4, 1, 0⟩ .clean, .poolTargetAccess ⟨0, 0, false, 0, 3, 1, 0⟩ .clean,
    .poolTargetAccess ⟨0, 0, false, 0, 4, 0, 0⟩ .clean, .poolTargetAccess ⟨0, 0, false, 0, 4, 17, 0⟩ .clean, .xtOpen 65536, .xePush 65536] : List Instr), c.wf = false := by decide

theorem test_ill_formed_3 : ∀ c ∈ ([
    .xtSeal 65536, .xtAbandon 65536, .xtCommitNow 65536, .xpEditsApplied 65536, .decSettled 64, .decClockFault 4, .decClockValid 4, .decGrpWrite 4 0,
    .decGrpWrite 0 4294967296, .fcSwap 65536, .fadeCfgWrite 4294967296, .filtCtrlWrite 4294967296, .coefWrite ⟨7, 0, false, 0, 4, 1, 0⟩,
    .coefWrite ⟨0, 16, false, 0, 4, 1, 0⟩, .coefWrite ⟨0, 0, false, 0, 3, 1, 0⟩, .coefWrite ⟨0, 0, false, 0, 4, 0, 0⟩,
    .coefWrite ⟨0, 0, false, 0, 4, 17, 0⟩, .tdmEnable 16 0, .tdmEnable 0 4294967296, .tdmFmtWrite 16 0, .tdmFmtWrite 0 4294967296,
    .tdmFrameRx 16 ⟨0, 0, 0, []⟩, .tdmClockLoss 16, .tdmDriveOn 16, .llFrameTx 4, .llFrameRx 4 ⟨[], 0⟩, .llLinkDown 4, .llPartnerSeenTimeout 4,
    .ccTxSend 4, .ccRxPop 4, .lldpTx 4, .lldpRx 4 [], .lldpTtlExpire 4, .patternLoad 8, .patternSave 8, .patternImageWrite 8 [], .overlayDefWrite 64 [],
    .tpCtrlWrite 4294967296, .lcpRx 4 0 0 [], .read (.net 4 0 0 0) []] : List Instr), c.wf = false := by decide

theorem test_ill_formed_4 : ∀ c ∈ ([
    .read (.mbox 2) [], .write (.net 4 0 0 0) [], .write (.mbox 2) [], .writeAt (.net 4 0 0 0) [], .writeAt (.mbox 2) [], .subscribe (.net 4 0 0 0) [],
    .subscribe (.mbox 2) [], .bulkOpenRead (.net 4 0 0 0) [], .bulkOpenRead (.mbox 2) [], .bulkOpenWrite (.net 4 0 0 0) [], .bulkOpenWrite (.mbox 2) [],
    .bulkData (.net 4 0 0 0) [], .bulkData (.mbox 2) [], .bulkAbort (.net 4 0 0 0) [], .bulkAbort (.mbox 2) [], .mbxDoorbell 2 0,
    .mbxDoorbell 0 4294967296, .registerWrite ⟨7, 0, false, 0, 4, 1, 0⟩ .clean, .registerWrite ⟨0, 16, false, 0, 4, 1, 0⟩ .clean,
    .registerWrite ⟨0, 0, false, 0, 3, 1, 0⟩ .clean, .registerWrite ⟨0, 0, false, 0, 4, 0, 0⟩ .clean, .registerWrite ⟨0, 0, false, 0, 4, 17, 0⟩ .clean,
    .slowWriteApply 8 false 0, .cmdMultiBit 16777216 0, .cmdMultiBit 0 4294967296, .masterReset 7 0, .winLockAcquire 7 0, .winLockAcquire 0 8,
    .winLockRelease 7 0, .winLockRelease 0 8, .evtAckWrite 128 0, .evtAckWrite 0 4294967296, .evtAckallWrite 4 0, .evtAckallWrite 0 4294967296,
    .msixUnmask (some 32), .errFirstAck 4294967296, .spiWrite 16777216 [], .spiRead 16777216 0 .clean, .spiWriteWin 16777216 [],
    .spiReadWin 16777216 0 .clean] : List Instr), c.wf = false := by decide

theorem test_ill_formed_5 : ∀ c ∈ ([
    .spiQuadWrite 16777216 [], .spiQuadRead 16777216 0 .clean, .spiQuadWriteWin 16777216 [], .spiQuadReadWin 16777216 0 .clean, .spiBadCmd 256,
    .powerOnReset ⟨4, 0⟩, .powerOnReset ⟨0, 2⟩, .pinReset ⟨4, 0⟩, .pinReset ⟨0, 2⟩, .brownOut ⟨4, 0⟩, .brownOut ⟨0, 2⟩, .supplyUndervoltage 256,
    .thermalRelease ⟨4, 0⟩, .thermalRelease ⟨0, 2⟩, .watchdogKick 4294967296, .watchdogCfgWrite 4294967296, .pwrCtrlWrite 4294967296, .pdPowerUpDone 12,
    .wakePin ⟨4, 0⟩, .wakePin ⟨0, 2⟩, .xrefReturn ⟨4, 0⟩, .xrefReturn ⟨0, 2⟩, .portSignalLoss 4, .pcieLinkUp 0 1 false false false,
    .pcieLinkUp 4 1 false false false, .pcieLinkUp 1 0 false false false, .pcieLinkUp 1 3 false false false] : List Instr), c.wf = false := by decide

/-- A state after reset with fields set. -/
def st (fs : List (Fld × Nat)) : State := fs.foldl (fun s f => s.put f.1 f.2) State.reset

/-- Fields of a state set. -/
def on (s : State) (fs : List (Fld × Nat)) : State := fs.foldl (fun t f => t.put f.1 f.2) s

/-- Run and TodValid. -/
def runs : List (Fld × Nat) := [(R.TIME_CTRL_Run, 1), (R.TIME_STATUS_TodValid, 1)]

/-- The counter runs at pick n. -/
def picks (n : Nat) (fs : List (Fld × Nat)) : State := { st (runs ++ fs) with time := { running := true, pick := n } }

/-- Words put at successive registers. -/
def putWords (s : State) (base : Nat) (ws : List (BitVec 32)) : State :=
  (List.range ws.length).foldl (fun t i => t.wr (base + 4 * i) (ws.getD i 0#32)) s

-- ## Steps

theorem witness_IdleStepLetsACyclePass : State.reset.pending = [] ∧ Ready State.reset := by unfold Ready; decide

theorem witness_HeldDeviceIgnoresCommands : (Instr.patternSave 8).wf = false ∧ (Instr.patternSave 7).wf = true
    ∧ ({ st [] with life := { held := .thermal } } : State).life.held ≠ .none ∧ actsHeld (.patternSave 7) = false := by decide

theorem witness_EveryStepKeepsInterruptsSettled : Settled State.reset ∧ step State.reset = .next State.reset.tick := by
  refine ⟨?_, rfl⟩
  unfold Settled
  decide

theorem witness_RisenVectorsSendMessages : Ends .pickCounterResume State.reset State.reset := rfl

theorem witness_BusySlowBlocksDropWrites : (∀ s ∈ [st [(R.RD_STATUS_Busy, 1)], st [(R.SYN_STATUS_Busy, 1)], st [(R.PCS_STATUS_Busy 3, 1)],
      st [(R.AON_STATUS_Busy, 1)], st [(R.FUSE_STATUS_Busy, 1)]], Ready s) ∧ 0xFFFFFFFF < 2 ^ 32
    ∧ (st [(R.RD_STATUS_Busy, 1)]).is R.RD_STATUS_Busy = true ∧ (st [(R.SYN_STATUS_Busy, 1)]).is R.SYN_STATUS_Busy = true
    ∧ (st [(R.PCS_STATUS_Busy 3, 1)]).is (R.PCS_STATUS_Busy 3) = true ∧ (st [(R.AON_STATUS_Busy, 1)]).is R.AON_STATUS_Busy = true
    ∧ (st [(R.FUSE_STATUS_Busy, 1)]).is R.FUSE_STATUS_Busy = true ∧ 3 < 4 ∧ 1 < 2 ∧ 11 < 12 := by unfold Ready; decide

-- ## Time and cues

theorem witness_TimeIsSetWhileInvalid : let a := st [(R.SET_NS_Ns, 999999999)]
    let b := st [(R.SET_NS_Ns, 1000000000)]
    let c : State := { a with life := { wantTime := true } }
    Ready c ∧ ¬ c.is R.TIME_STATUS_TodValid ∧ c.get R.SET_NS_Ns ≤ 999999999 ∧ c.life.wantTime = true ∧ a.life.wantTime = false ∧ Ready a ∧ Ready b ∧ ¬ a.is R.TIME_STATUS_TodValid ∧ a.get R.SET_NS_Ns ≤ 999999999 ∧ 999999999 < b.get R.SET_NS_Ns := by unfold Ready; decide

theorem witness_CapturesAreCoherent : Ready State.reset := rfl

theorem witness_TimeCtrlAndTheCounter : let a := st [(R.TIME_CTRL_Run, 0)]
    let b := st [(R.TIME_CTRL_Run, 1)]
    let x := st [(R.TIME_CTRL_Run, 0), (R.TDM_CTRL_Enable 15, 1), (R.TDM_FMT_FrameBits 15, 1024)]
    Ready a ∧ Ready b ∧ Ready x ∧ ¬ (a.is R.TIME_CTRL_Run = true ∧ bitOf 3 0 = false) ∧ bitsOf 3 1 3 = a.get R.TIME_CTRL_Rate
    ∧ bitsOf 13 1 3 ≠ a.get R.TIME_CTRL_Rate ∧ 6 ≤ bitsOf 13 1 3
    ∧ ¬ (b.is R.TIME_CTRL_Run = true ∧ bitOf 11 0 = false) ∧ bitsOf 11 1 3 ≠ b.get R.TIME_CTRL_Rate ∧ bitsOf 11 1 3 < 6 ∧ b.is R.TIME_CTRL_Run = true
    ∧ bitsOf 11 1 3 ≠ a.get R.TIME_CTRL_Rate ∧ a.is R.TIME_CTRL_Run = false ∧ a.rateFits (bitsOf 11 1 3) = true
    ∧ bitOf 2 0 = false ∧ bitsOf 2 1 3 = b.get R.TIME_CTRL_Rate ∧ bitsOf 10 1 3 ≠ x.get R.TIME_CTRL_Rate ∧ bitsOf 10 1 3 < 6
    ∧ x.is R.TIME_CTRL_Run = false ∧ x.rateFits (bitsOf 10 1 3) = false := by unfold Ready; decide +kernel

theorem witness_PicksBegin : let a := st runs
    let b : State := { a with time := { resume := true } }
    let c := picks 5 []
    (∀ s ∈ [a, b, c], Ready s ∧ s.patDue = none ∧ s.is R.TIME_CTRL_Run = true ∧ s.is R.TIME_STATUS_TodValid = true)
    ∧ a.time.running = false ∧ a.is R.TIME_STATUS_RateSwitching = false ∧ a.time.resume = false ∧ 0 < a.fs ∧ b.time.resume = true
    ∧ c.time.running = true ∧ c.cues = [] ∧ c.sv.due = none ∧ Ready State.reset ∧ State.reset.is R.TIME_STATUS_TodValid = false ∧ State.reset.time.running = false := by unfold Ready; decide

/-- The words of a cue. -/
def cueWords (pick order action : Nat) : List (BitVec 32) := [BitVec.ofNat 32 pick, 0#32, BitVec.ofNat 32 (action + order * 65536), 0#32, 0#32, 0#32, 0#32, 0#32]

theorem witness_CuePushes : let off := st [(R.TRD_CTRL_Enable, 0)]
    let go := picks 5000 [(R.TRD_CTRL_Enable, 1)]
    let code := fun (s : State) (ws : List (BitVec 32)) => s.cueCheck (cueOf ws .firmware) (cueReserved ws)
    let win := fun (ws : List (BitVec 32)) => (putWords go (R.W_PICK_LO 3) ws).windowCue 3
    Ready off ∧ Ready go ∧ (∀ k, CuePath.firmware ≠ .window k) ∧ CuePath.firmware.wf = true ∧ off.is R.TRD_CTRL_Enable = false
    ∧ code go (cueWords 60000 3 2) = 0 ∧ code go (cueWords 11 3 2) = 2 ∧ 1 < code go (cueWords 60000 3 0xFF) ∧ code go (cueWords 60000 3 0xFF) ≠ 2
    ∧ 3 < 4 ∧ code go (win (cueWords 60000 3 2)) = 0 ∧ 1 < code go (win (cueWords 11 3 2)) ∧ go.cues.length < 256 := by
  refine ⟨rfl, rfl, (fun _ h => nomatch h), ?_⟩
  decide +kernel

/-- Two cues with one order. -/
def twoCues : State := { st [] with cues := [{ pick := 10, order := 3, staging := true }, { pick := 11, order := 3 }], doneLog := [{ pick := 7 }] }

theorem witness_CueKeysStayDistinct : twoCues.cues.length ≤ 256 ∧ (twoCues.cues.map (fun d => (d.pick, d.order))).Nodup
    ∧ ∃ t, exec (.cuePush .firmware []) twoCues = .next t := by
  refine ⟨by decide, by decide, _, rfl⟩

theorem witness_CueQueueCommands : Ready twoCues ∧ CuePath.firmware.wf = true ∧ (∀ d ∈ twoCues.cues, ¬ (d.pick = 12 ∧ d.order = 3))
    ∧ (∃ d ∈ twoCues.cues, d.pick = 11 ∧ d.order = 3) ∧ (st []).doneLog = [] ∧ twoCues.doneLog = { pick := 7 } :: []
    ∧ twoCues.is R.TRD_CTRL_Enable = false ∧ Ready (on twoCues [(R.TRD_CTRL_Enable, 1)]) ∧ (on twoCues [(R.TRD_CTRL_Enable, 1)]).is R.TRD_CTRL_Enable = true := by unfold Ready; decide

theorem witness_PtpAndTimeJumps : let a := State.reset.setObj 0x2013 1 0xFF
    let b := st (runs ++ [(R.RD_STATUS_Selected, 3)])
    Ready a ∧ Ready b ∧ 3 < 4 ∧ a.ptpProfile 3 = 0xFF ∧ b.ptpProfile 3 ≠ 0xFF ∧ b.is R.TIME_STATUS_TodValid = true ∧ b.get R.RD_STATUS_Selected = 3
    ∧ max 1 (b.get R.TIME_STEP_LIMIT_LimitNs) * 65536 ≤ (Int.natAbs 65536000000000) ∧ b.is R.TIME_STATUS_JumpPending = false
    ∧ Int.natAbs 1 < max 1 (b.get R.TIME_STEP_LIMIT_LimitNs) * 65536 := by unfold Ready; decide

-- ## References and the loop

/-- Reference k in a state of R54, its edges or messages arriving or not. -/
def refIn (k state : Nat) (here : Bool) : State := { st [(R.REF_STATUS_State k, state)] with reed := { refs := [(k, { present := here })] } }

theorem witness_ReedTickMonitors : Ready (refIn 8 3 true) ∧ (sampleOf [] 8).edge = false ∧ 2 ≤ (refIn 8 3 true).refState 8
    ∧ (st []).refState 9 = 0 ∧ (st [(R.RD_STATUS_State, 2)]).get R.RD_STATUS_State = 2 := by unfold Ready; decide

theorem witness_ReferencesQualifyAndFail : let fit := fun (s : State) (k : Nat) => s.refPresent k = true ∧ (k < 4 → (s.refSt k).timescale = true)
    let arb : State := { refIn 3 2 true with reed := { refs := [(3, { present := true, timescale := false })] } }
    (∀ s ∈ [refIn 8 2 true, refIn 8 5 true, refIn 3 2 true, arb, st []], Ready s) ∧ fit (refIn 8 2 true) 8 ∧ fit (refIn 8 5 true) 8 ∧ fit (refIn 3 2 true) 3
    ∧ arb.refState 3 = 2 ∧ ¬ fit arb 3 ∧ 9 < 10
    ∧ ¬ ((st []).refState 9 = 2 ∧ (st []).refPresent 9 = true) ∧ ¬ ((st []).refState 9 = 5 ∧ (st []).refPresent 9 = true)
    ∧ (refIn 8 2 true).refState 8 = 2 ∧ (refIn 8 2 true).refPresent 8 = true ∧ (refIn 8 5 true).refState 8 = 5 ∧ (refIn 8 5 true).refPresent 8 = true
    ∧ ¬ (4 ≤ 9 ∧ 9 < 9) ∧ ((Instr.refEdgeTimeout 8 = .refEdgeTimeout 8 ∧ 4 ≤ 8 ∧ 8 < 9) ∨ (Instr.refEdgeTimeout 8 = .ptpAnnounceTimeout 8 ∧ 8 < 4))
    ∧ ((Instr.ptpAnnounceTimeout 3 = .refEdgeTimeout 3 ∧ 4 ≤ 3 ∧ 3 < 9) ∨ (Instr.ptpAnnounceTimeout 3 = .ptpAnnounceTimeout 3 ∧ 3 < 4)) := by unfold Ready; decide

theorem witness_ReedConfigurationWrites : (∀ s ∈ [st [], st [(R.RD_STATUS_State, 3)]], Ready s ∧ s.is R.RD_STATUS_Busy = false) ∧ 9 < 10
    ∧ 10 ≤ bitsOf 40 2 4 ∧ bitsOf 38 2 4 < 10 ∧ bitsOf 38 0 2 = 2 ∧ bitsOf 39 2 4 < 10 ∧ bitsOf 39 0 2 = 3
    ∧ (st [(R.RD_STATUS_State, 3)]).get R.RD_STATUS_State = 3 ∧ (st []).get R.RD_STATUS_State ≠ 3 := by unfold Ready; decide

theorem witness_LocksSwitchesAndHoldover : let a := on (refIn 8 3 true) [(R.RD_STATUS_State, 3), (R.RD_STATUS_Target, 8)]
    let b := st [(R.TP_CTRL_Enable, 0)]
    let c := st [(R.RD_STATUS_State, 2)]
    let d := st [(R.RD_STATUS_State, 4), (R.HOLD_CFG_AgeCorrect, 0)]
    let e := on { a with reed := { a.reed with modeHeld := some 0 } } [(R.RD_CTRL_Mode, 2)]
    let f : State := { c with reed := { hist := [⟨5, 6, 7⟩] } }
    (∀ s ∈ [a, b, c, d, e, f, st [(R.TP_CTRL_Enable, 1)]], Ready s) ∧ e.get R.RD_STATUS_State = 3 ∧ e.refState (e.get R.RD_STATUS_Target) = 3
    ∧ e.reed.modeHeld.isSome = true ∧ 2 ≤ e.get R.RD_CTRL_Mode ∧ c.reed.hist = [] ∧ f.reed.hist = ⟨5, 6, 7⟩ :: [] ∧ f.get R.RD_STATUS_State = 2
    ∧ (st [(R.TP_CTRL_Enable, 1)]).is R.TP_CTRL_Enable = true ∧ (st [(R.TP_CTRL_Enable, 1)]).get R.RD_STATUS_State ≠ 2 ∧ a.get R.RD_STATUS_State = 3 ∧ a.refState (a.get R.RD_STATUS_Target) = 3 ∧ a.get R.RD_STATUS_Target < 10
    ∧ a.reed.modeHeld = none ∧ ¬ (b.get R.RD_STATUS_State = 3 ∧ b.refState (b.get R.RD_STATUS_Target) = 3)
    ∧ b.is R.TP_CTRL_Enable = false ∧ b.get R.RD_STATUS_State ≠ 2 ∧ c.get R.RD_STATUS_State = 2 ∧ c.get R.RD_STATUS_State ≠ 4
    ∧ d.get R.RD_STATUS_State = 4 ∧ d.is R.HOLD_CFG_AgeCorrect = false := by unfold Ready; decide

theorem witness_PhaseStepsAndFramePulses : let a : State := (st []).put64I R.PSTEP_LO_Step R.PSTEP_HI_Step (2500 * 65536)
    let b : State := (st [(R.RD_STATUS_State, 3)]).put64I R.PSTEP_LO_Step R.PSTEP_HI_Step (-163840001)
    let c : State := { st [(R.STEP_MAX_Ns, 200)] with reed := { steps := [⟨200 * 65536, true⟩], fpo := [(3, { step := some 7 })] } }
    let d := st [(R.FPO_CFG_Mode 3, 2)]
    let sz := fun (s : State) => s.get64I R.PSTEP_LO_Step R.PSTEP_HI_Step
    (∀ s ∈ [a, b, c, d], Ready s) ∧ a.is R.RD_STATUS_Busy = false ∧ bitOf 0 0 = false ∧ bitOf 1 0 = true ∧ (sz a).natAbs ≤ 2500 * 65536 ∧ bitOf 1 1 = false
    ∧ b.is R.RD_STATUS_Busy = false ∧ ¬ (sz b).natAbs ≤ 2500 * 65536 ∧ b.get R.RD_STATUS_State = 3 ∧ c.get R.RD_STATUS_State ≠ 3
    ∧ c.reed.steps = [⟨13107200, true⟩] ∧ c.reed.slewRem = 0 ∧ Int.natAbs 13107200 ≤ c.get R.STEP_MAX_Ns * 65536
    ∧ a.get (R.FPO_CFG_Mode 3) ≠ 2 ∧ d.get (R.FPO_CFG_Mode 3) = 2 ∧ (a.fpoSt 3).step = none ∧ (c.fpoSt 3).step = some 7
    ∧ a.reed.steps = [] ∧ a.get R.RD_STATUS_State ≠ 3 := by unfold Ready; decide

-- ## Synthesizers and clock outputs

/-- Both synthesizers enabled, MCSm in a state, its outputs held or not. -/
def mcs (m state held : Nat) : State := st [(R.SYN_CTRL_Mcs0En, 1), (R.SYN_CTRL_Mcs1En, 1), (R.MCS_STATUS_State m, state), (R.MCS_STATUS_Held m, held)]

/-- The same with output 11 of MCS1 on. -/
def mcsOut (state held : Nat) : State := { on (mcs 1 state held) [(R.CKO_CFG_Source 11, 1)] with synth := { ckos := [(11, { on := true })] } }

theorem witness_SynthesizerStates : let a := on (mcs 0 1 0) [(R.TIME_STATUS_RateSwitching, 1)]
    let off := st [(R.SYN_CTRL_Mcs0En, 0), (R.SYN_CTRL_Mcs1En, 0)]
    (∀ s ∈ [a, off, mcsOut 0 0, mcsOut 2 1], Ready s ∧ s.is R.SYN_STATUS_Busy = false) ∧ off.mcsState 1 ≠ 1 ∧ a.mcsState 0 = 1
    ∧ a.is R.TIME_STATUS_RateSwitching = true ∧ ¬ (off.mcsEn 1 = true ∧ 2 ≤ off.mcsState 1) ∧ (mcsOut 2 1).mcsEn 1 = true ∧ 2 ≤ (mcsOut 2 1).mcsState 1
    ∧ ¬ (off.mcsEn 1 = true ∧ off.mcsState 1 = 0) ∧ (mcsOut 0 0).mcsEn 1 = true ∧ (mcsOut 0 0).mcsState 1 = 0 ∧ off.mcsEn 1 = false
    ∧ (mcsOut 0 0).get (R.CKO_CFG_Source 11) = 1 ∧ ((mcsOut 0 0).cko 11).on = true ∧ ¬ (off.mcsState 1 = 2 ∧ off.is (R.MCS_STATUS_Held 1) = true)
    ∧ (mcsOut 2 1).mcsState 1 = 2 ∧ (mcsOut 2 1).is (R.MCS_STATUS_Held 1) = true := by unfold Ready; decide

theorem witness_Ramps : let rest := State.reset
    let run : State := { st [] with synth := { ramps := [(1, some { segs := [(5, 10)] })] } }
    let two : State := { st [] with synth := { ramps := [(1, some { segs := [(5, 10), (7, 3)] })] } }
    let steep := (st [(R.RAMP_SEG_DUR_Ms 1 0, 1)]).putI (R.RAMP_SEG_SLOPE_Slope 1 0) 100001
    let away := (st []).putI (R.RAMP_OFFSET_Ppb 1) (-5000)
    let empty : State := { st [] with synth := { ramps := [(1, some { segs := [] })] } }
    let glide : State := { mcs 0 3 0 with synth := { ramps := [(0, some { segs := [(5, 10)], glide := true })] } }
    (∀ s ∈ [empty, glide, rest, run, two, steep, away, mcs 0 3 0], Ready s ∧ s.is R.SYN_STATUS_Busy = false) ∧ run.rampFree 1 = false
    ∧ profileOk (steep.getI (R.RAMP_OFFSET_Ppb 1)) (steep.profile 1 8) = false ∧ rest.rampFree 1 = true
    ∧ profileOk (rest.getI (R.RAMP_OFFSET_Ppb 1)) (rest.profile 1 8) = true ∧ away.rampFree 1 = true ∧ away.getI (R.RAMP_OFFSET_Ppb 1) ≠ 0
    ∧ rest.ramp 1 = none ∧ run.ramp 1 = some { segs := [(5, 10)] } ∧ two.ramp 1 = some { segs := [(5, 10), (7, 3)] }
    ∧ empty.ramp 1 = some { segs := [] } ∧ glide.ramp 0 = some { segs := [(5, 10)], glide := true }
    ∧ rest.mcsState 0 ≠ 3 ∧ (mcs 0 3 0).mcsState 0 = 3 := by unfold Ready; decide

theorem witness_ClockOutputs : let a := st [(R.CKO_CFG_Enable 11, 1)]
    let b : State := { st [] with synth := { ckos := [(11, { on := true, pend := some false }), (0, { pend := some true })] } }
    let c := st [(R.CKO_CFG_Enable 11, 0)]
    (∀ s ∈ [a, b, c], Ready s ∧ s.is R.SYN_STATUS_Busy = false) ∧ a.is (R.CKO_CFG_Enable 11) = true ∧ bitsOf 3 1 1 ≠ a.get (R.CKO_CFG_Source 11)
    ∧ c.is (R.CKO_CFG_Enable 11) = false ∧ c.ckoOk (bitsOf 1 1 1) (bitOf 1 2) (decide (11 < 4) && bitOf 1 3) (c.get (R.CKO_DIV_Div 11)) = true
    ∧ (c.cko 11).pend = none ∧ (b.cko 0).pend = some true ∧ (b.cko 11).pend = some false ∧ (c.cko 11).on = false ∧ (b.cko 11).on = true
    ∧ c.ckoOk (bitsOf 5 1 1) (bitOf 5 2) (decide (11 < 4) && bitOf 5 3) 6 = false ∧ (on c [(R.CKO_DIV_Div 11, 6)]).get (R.CKO_DIV_Div 11) = 6
    ∧ c.is R.TIME_CTRL_Run = false ∧ (st runs).is R.TIME_CTRL_Run = true ∧ (st runs).is R.TIME_STATUS_TodValid = true ∧ Ready (st runs) ∧ 0xFFFFFFFF < 2 ^ 32 := by
  unfold Ready; decide +kernel

-- ## Ports, queues and streams

/-- Port n in a state of R93, with RxEnable and TxEnable. -/
def port (n state : Nat) (fs : List (Fld × Nat)) : State :=
  st ([(R.MAC_STATUS_State n, state), (R.MAC_CTRL_RxEnable n, 1), (R.MAC_CTRL_TxEnable n, 1), (R.PCS_CTRL_Enable n, 1)] ++ fs)

theorem witness_PortStatesFollowTheLink : let r : State := { port 0 0 [(R.PCS_CTRL_Mode 0, 2)] with recovering := true }
    (∀ s ∈ [port 0 5 [], port 3 0 [], port 3 1 [], port 3 4 [], r], Ready s) ∧ 3 < 4 ∧ (port 3 1 []).portState 3 = 1 ∧ r.portState 0 = 0 ∧ r.recovering = true
    ∧ r.is (R.PCS_CTRL_Enable 0) = true ∧ r.lineMode 0 = 2 ∧ (port 0 5 []).portState 0 = 5
    ∧ (port 3 4 []).portState 3 ≠ 1 ∧ (port 3 4 []).portState 3 ≠ 5 ∧ ¬ ((port 3 4 []).portState 3 = 0 ∧ 3 = 0)
    ∧ (port 3 1 []).portState 3 < 2 ∧ 2 ≤ (port 3 4 []).portState 3 := by unfold Ready; decide

theorem witness_PortConfiguration : let a := port 3 3 []
    let b := st [(R.PCS_CTRL_Enable 3, 0)]
    let line := fun (s : State) => bitsOf (s.rd (R.PCS_CTRL 3)).toNat 1 3
    let c := port 3 4 [(R.MAC_CTRL_StateReq 3, 2)]
    let keeps := fun (s : State) (v : Nat) => (s.wrRW (R.PCS_CTRL 3) v).budgetNow = true ∧ ∀ i, i < 4 → (s.wrRW (R.PCS_CTRL 3) v).rulesOk i = true
    let tight := on b [(R.CT_RULE_DA_HI_Valid 2 0, 1), (R.CT_RULE_ACT_EgressMask 2 0, 8), (R.CT_RULE_ACT_Queue 2 0, 5)]
    (∀ v ∈ [2 * line b + 1, 2 * ((line b + 1) % 2)], keeps b v) ∧ line b ≠ bitsOf (2 * ((line b + 1) % 2)) 1 3 ∧ ¬ keeps tight (2 * ((line b + 1) % 2))
    ∧ tight.is (R.PCS_CTRL_Enable 3) = false ∧ line tight = line b
    ∧ (∀ s ∈ [a, b, c, tight], Ready s ∧ s.is (R.PCS_STATUS_Busy 3) = false) ∧ a.is (R.PCS_CTRL_Enable 3) = true ∧ line a ≠ bitsOf 7 1 3
    ∧ b.is (R.PCS_CTRL_Enable 3) = false ∧ bitsOf 0xC0 6 2 = 3 ∧ bitOf 10 3 = true ∧ bitsOf 10 1 2 ≠ 0
    ∧ line a = bitsOf (2 * line a) 1 3 ∧ ¬ (bitOf (2 * line a) 3 = true ∧ bitsOf (2 * line a) 1 2 ≠ 0) ∧ bitsOf (2 * line a) 6 2 ≠ 3 ∧ bitOf (2 * line a) 0 = false
    ∧ line b = bitsOf (2 * line b + 1) 1 3 ∧ bitOf (2 * line b + 1) 0 = true ∧ bitsOf (2 * line b + 1) 6 2 ≠ 3
    ∧ 2 ≤ a.portState 3 ∧ a.portState 3 < 5 ∧ bitsOf 12 2 2 = 3 ∧ bitsOf 4 2 2 ≠ 3
    ∧ bitsOf 4 2 2 ≠ c.get (R.MAC_CTRL_StateReq 3) ∧ c.portState 3 = 4 ∧ bitsOf 4 2 2 ≠ 2 := by unfold Ready; decide +kernel

theorem witness_PausesAndPortReads : let a := port 3 3 [(R.MAC_STATUS_Paused 3, 0x80), (R.PAUSE_CFG_TxPfcEnable 3, 1), (R.MAC_STATUS_PfcOut 3, 0x80), (R.PRI_CFG_RxQueue 3 7, 9)]
    let b : State := { a with queues := [(9, { chain := List.range 60 })] }
    let c : State := { st [(R.PORT_CNT_Count 3 51, 5)] with ports := [(3, { tsq := [⟨5, true, 7⟩], lost := [7] })] }
    let sp : State := on a [(R.MAC_STATUS_Spent 3, 0x80), (R.PAUSE_CFG_WdLimit 3, 5)]
    (∀ s ∈ [a, b, c, sp, st []], Ready s) ∧ (st []).spent 3 7 = false ∧ sp.spent 3 7 = true ∧ (st []).paused 3 7 = false ∧ a.paused 3 7 = true ∧ ¬ ((st []).inService 3 = true ∧ (st []).paused 3 7 = true)
    ∧ a.inService 3 = true ∧ b.pfcWatch 3 = true ∧ b.pfcOut 3 7 = true ∧ b.get (R.PFC_WM_LowCells 3 7) < (b.queue (b.get (R.PRI_CFG_RxQueue 3 7))).cells
    ∧ ((st []).port 3).tsq = [] ∧ (c.port 3).tsq = [⟨5, true, 7⟩] ∧ ((st []).port 3).lost = [] ∧ (c.port 3).lost = [7] ∧ 51 < 52
    ∧ c.get (R.PORT_CNT_Count 3 51) < 2 ^ 31 := by unfold Ready; decide

/-- An item of two words committed for every reader. -/
def heldQueue : Queue := { enable := true, cls := 2, state := 1, quota := 20, chain := [3], data := [5#32, 6#32, 7#32], items := [{ words := 2, done := true, need := 15 }] }

/-- A received frame of n bytes before its FCS. -/
def frameOf (n : Nat) (ok : Bool) : RxFrame := { bytes := List.replicate n 3#8, fcsOk := ok }

theorem witness_FramesInAndOut : let up := port 3 2 []
    let pfc : State := { port 3 3 [] with ports := [(3, { pfc := [(3, 77)] })] }
    let ct : State := { port 3 3 [] with ports := [(3, { ctWait := [5] })], queues := [(5, heldQueue)] }
    let ask : FwFrame := { out := .frame 3 [1#8] 7, len := 64, cast := 0, pri := 0 }
    let fw : State := { port 3 2 [] with fwq := [(3, [ask])] }
    let wire : State := { port 3 2 [] with ports := [(3, { wire := some ⟨5, [1#8], 1⟩ })] }
    let prbs := port 3 4 [(R.PCS_CTRL_PrbsGen 3, 1)]
    let loop := port 3 4 [(R.PCS_CTRL_Loopback 3, 1)]
    let some_ : State := { ct with queues := [(5, { heldQueue with items := [{ words := 2, by_ := 1, need := 8 }], thresh := 2 })] }
    let few : State := { ct with queues := [(5, { heldQueue with items := [{ words := 1, by_ := 1, need := 8 }], thresh := 2 })] }
    let toFw := { bytes := [0x01#8, 0x80#8, 0xC2#8, 0#8, 0#8, 0x0E#8] ++ List.replicate 6 3#8 ++ [0x88#8, 0xCC#8] ++ List.replicate 46 0#8 : RxFrame }
    let toCt := { bytes := List.replicate 6 0xFF#8 ++ List.replicate 54 3#8 : RxFrame }
    let rule := on up [(R.CT_RULE_DA_HI_Valid 3 15, 1), (R.CT_RULE_DA_HI_Addr 3 15, 0xFFFF), (R.CT_RULE_DA_LO_Addr 3 15, 0xFFFFFFFF)]
    (∀ s ∈ [rule, fw, wire, prbs, loop, some_, few], Ready s) ∧ (st []).is (R.MAC_CTRL_TxEnable 3) = false ∧ prbs.portState 3 = 4 ∧ prbs.is (R.PCS_CTRL_PrbsGen 3) = true
    ∧ up.fwFrames 3 = [] ∧ fw.fwFrames 3 = [ask] ∧ fw.mayStart 3 ask.pri ask.len 0 = true ∧ up.loops 3 = false ∧ loop.loops 3 = true ∧ (up.port 3).rxOpen = none ∧ (wire.port 3).wire = some ⟨5, [1#8], 1⟩
    ∧ up.rxPasses 3 (ethInfo toFw.bytes) = true ∧ up.rxDest 3 (ethInfo toFw.bytes) = .spindle 1 ∧ rule.rxPasses 3 (ethInfo toCt.bytes) = true ∧ rule.rxDest 3 (ethInfo toCt.bytes) = .stateDrop ∧ rule.portState 3 = 2
    ∧ some_.qTake 5 3 = none ∧ (some_.queue 5).next 3 = some { words := 2, by_ := 1, need := 8 } ∧ (few.queue 5).next 3 = some { words := 1, by_ := 1, need := 8 }
    ∧ few.qTake 5 3 = none ∧ (∀ s ∈ [some_, few], s.carries 3 = true ∧ s.ctHeld 3 = false ∧ (s.port 3).ctWait = [5])
    ∧ (∀ s ∈ [st [], up, pfc, ct], Ready s) ∧ (st []).portState 3 < 2 ∧ 2 ≤ up.portState 3 ∧ up.is (R.MAC_CTRL_RxEnable 3) = true
    ∧ (frameOf 60 false).codeErr = false ∧ (frameOf 60 false).cut = false ∧ 64 ≤ (frameOf 60 false).bytes.length + 4
    ∧ (frameOf 60 false).bytes.length + 4 ≤ up.get (R.MAX_FRAME_Bytes 3) ∧ (frameOf 60 false).fcsOk = false ∧ up.inService 3 = false
    ∧ (frameOf 60 true).fcsOk = true ∧ up.rxPasses 3 (ethInfo (frameOf 60 true).bytes) = false
    ∧ (up.port 3).pfc = [] ∧ pfc.is (R.MAC_CTRL_TxEnable 3) = true ∧ 2 ≤ pfc.portState 3 ∧ pfc.portState 3 ≠ 5 ∧ (pfc.port 3).pfc ≠ []
    ∧ up.carries 3 = false ∧ ct.carries 3 = true ∧ ct.ctHeld 3 = false ∧ (ct.port 3).ctWait = [5]
    ∧ (ct.qTake 5 3).isSome = true := by unfold Ready; decide +kernel

/-- Bobbin enabled with its pool initialised. -/
def pooled (fs : List (Fld × Nat)) : State := st ([(R.BOB_STATUS_InitDone, 1), (R.BOB_CTRL_Enable, 1)] ++ fs)

theorem witness_QueueWindow : let a := pooled [(R.Q_SEL_Queue, 4095), (R.Q_QUOTA_Quota, 100), (R.Q_CFG_Enable, 1), (R.Q_CFG_Class, 2)]
    let b := pooled [(R.Q_SEL_Queue, 4095), (R.Q_QUOTA_Quota, 100), (R.Q_CFG_Enable, 0)]
    let c : State := { pooled [(R.Q_SEL_Queue, 4095)] with queues := [(4095, heldQueue)] }
    let n := fun (s : State) => (s.queue 4095).ofWords (s.rdWords R.Q_CFG 4)
    (∀ s ∈ [st [], a, b, c], Ready s) ∧ (st []).is R.BOB_STATUS_InitDone = false
    ∧ (∀ s ∈ [a, b, c], s.is R.BOB_STATUS_InitDone = true ∧ s.is R.BOB_CTRL_Enable = true ∧ s.get R.Q_SEL_Queue = 4095)
    ∧ a.qCheck 4095 (n a) = 0 ∧ (n a).enable = true ∧ b.qCheck 4095 (n b) = 0 ∧ (n b).enable = false ∧ (b.queue 4095).state = 0
    ∧ c.qCheck 4095 (n c) ≠ 0 ∧ (c.queue 4095).state ≠ 0 ∧ 4095 < 4096
    ∧ (let d : State := { pooled [(R.Q_SEL_Queue, 4095), (R.Q_QUOTA_Quota, 100), (R.Q_CFG_Enable, 0), (R.Q_CFG_Class, 2)] with queues := [(4095, heldQueue)] }
       Ready d ∧ d.qCheck 4095 ((d.queue 4095).ofWords (d.rdWords R.Q_CFG 4)) = 0 ∧ ((d.queue 4095).ofWords (d.rdWords R.Q_CFG 4)).enable = false ∧ (d.queue 4095).state ≠ 0)
    ∧ (let r : State := { st [] with queues := [(4095, { state := 2, reclaim := [3, 4], enable := true })] }
       Ready r ∧ (r.queue 4095).state = 2 ∧ (∃ e ∈ [((4 : Nat), true)], e.2 = true ∧ e.1 ∈ (r.queue 4095).reclaim) ∧ ¬ (∃ e ∈ [((4 : Nat), false)], e.2 = true ∧ e.1 ∈ (r.queue 4095).reclaim)) := by unfold Ready; decide +kernel

/-- A queue with an item of one word that port 3 has open. -/
def openQueue : Queue := { enable := true, cls := 3, state := 1, quota := 20, chain := [3], data := [5#32], items := [{ words := 1, by_ := 11 }] }

theorem witness_QueuePorts : let held : State := { pooled [(R.QP_SEL_Queue 3, 9)] with queues := [(9, openQueue)], portOpen := [(3, some 9)] }
    let full : State := { pooled [(R.QP_SEL_Queue 3, 9)] with queues := [(9, heldQueue)] }
    let off : State := { pooled [(R.QP_SEL_Queue 3, 9)] with queues := [(9, { cls := 2 })] }
    let most := { openQueue with quota := 1, items := [{ words := 31, by_ := 11 }], data := List.replicate 31 5#32 : Queue }
    let tight : State := { held with queues := [(9, most)] }
    let long : State := { held with queues := [(9, { openQueue with maxItem := 4, items := [{ words := 2, by_ := 11 }] })] }
    let mac : State := { full with queues := [(9, { heldQueue with items := [{ words := 1, by_ := 4 }] })] }
    let late : State := { full with queues := [(9, { heldQueue with pos := [(0, 1)] })] }
    let room := fun (d : Queue) => d.data.length < 31 * d.chain.length ∨ d.cells < d.quota
    (∀ s ∈ [tight, long, mac, late], Ready s) ∧ ¬ room most ∧ room openQueue ∧ 31 + 1 ≤ ceilDiv most.maxItem 4 ∧ most.openOf 11 = some { words := 31, by_ := 11 }
    ∧ tight.qpHeld 3 = some (tight.qpQueue 3) ∧ ceilDiv (long.queue 9).maxItem 4 ≤ 2 ∧ (long.queue 9).maxItem < 4 * 2 ∧ openQueue.openOf 11 = some { words := 1, by_ := 11 }
    ∧ (∃ i ∈ (held.queue 9).items, i.done = false ∧ 8 ≤ i.by_) ∧ (∀ i ∈ (mac.queue 9).items, i.done = true ∨ i.by_ < 8) ∧ (mac.queue 9).state ≠ 0 ∧ mac.qpHeld 3 = none
    ∧ (tight.queue 9).quota ≤ (tight.queue 9).cells ∧ tget 0 (late.queue 9).pos 0 ≠ 0 ∧ ((late.queue 9).current 0).isSome = true ∧ tget 0 (full.queue 9).pos 0 = 0
    ∧ (∀ s ∈ [held, full, off, st []], Ready s) ∧ 3 < 4 ∧ (held.qpHeld 3).isSome = true ∧ (full.qpHeld 3) = none
    ∧ (∀ c ∈ [Instr.qpPushStart 3, .qpPushData 3 6, .qpPushEnd 3 (6 % 4), .qpPushAbort 3], c = .qpPushStart 3 ∨ c = .qpPushData 3 6 ∨ c = .qpPushEnd 3 (6 % 4) ∨ c = .qpPushAbort 3) ∧ ((st []).queue ((st []).qpQueue 3)).cls < 2
    ∧ 2 ≤ (full.queue (full.qpQueue 3)).cls ∧ (off.queue (off.qpQueue 3)).state = 0 ∧ (held.queue (held.qpQueue 3)).isOpen = true
    ∧ (full.queue 9).isOpen = false ∧ (full.queue 9).cells < (full.queue 9).quota ∧ held.qpHeld 3 = some (held.qpQueue 3)
    ∧ 1 + 1 ≤ ceilDiv (held.queue 9).maxItem 4
    ∧ (held.queue 9).cells < (held.queue 9).quota ∧ 4 * 1 ≤ (held.queue 9).maxItem
    ∧ (held.queue (held.get (R.QP_SEL_Queue 3))).current 0 = none
    ∧ (full.queue (full.get (R.QP_SEL_Queue 3))).current 0 = some { words := 2, done := true, need := 15 } := by
  unfold Ready; decide

/-- The words of a receive entry with fields set. -/
def seWords (fs : List (Fld × Nat)) : List (BitVec 32) := fs.foldl (fun w f => wfSet w R.SE_CTRL f.1 f.2) warpEntryReset

/-- Words that pass the check with queue 5 as the jitter buffer. -/
def rxWords : List (BitVec 32) := seWords [(R.SE_CTRL_Valid, 1), (R.SE_CTRL_PortMask, 3), (R.SE_SLOT_Queue, 5)]

theorem witness_ReceiveStreams : let q : State := { pooled [(R.SE_SEL_Stream, 1023)] with queues := [(5, { enable := true, state := 1, quota := 2000, maxItem := 9000 })] }
    let a := putWords q R.SE_CTRL rxWords
    let b := putWords q R.SE_CTRL (seWords [(R.SE_CTRL_Period, 9)])
    let c : State := { st [] with mmLog := [⟨1023, 5, 6, 7, true⟩] }
    let d : State := { st [] with rx := [(1023, { cfg := rxWords, state := 2, lossRun := 4096, meas := some ⟨-5, 77, 3⟩ }), (3, { cfg := rxWords })] }
    (∀ s ∈ [a, b, c, d], Ready s) ∧ (a.rxs (a.get R.SE_SEL_Stream)).cfg.length = 16 ∧ (a.rxs (a.get R.SE_SEL_Stream)).stat.length = 5
    ∧ a.get R.SE_SEL_Stream = 1023 ∧ a.seCheck 1023 (a.rdWords R.SE_CTRL 16) = 0 ∧ (a.rxs 1023).valid = false ∧ seF (a.rdWords R.SE_CTRL 16) R.SE_CTRL_Valid = 1
    ∧ b.seCheck 1023 (b.rdWords R.SE_CTRL 16) ≠ 0 ∧ (st []).mmLog = [] ∧ c.mmLog = [⟨1023, 5, 6, 7, true⟩]
    ∧ 1023 < 1024 ∧ (d.rxs 1023).state = 2 ∧ max 1 (d.get R.LOSS_PICKS_Picks) ≤ (d.rxs 1023).lossRun ∧ d.time.pick ∉ (d.rxs 1023).gotIdx ∧ ¬ ((d.rxs 0).state = 2)
    ∧ (d.rx.map Prod.fst).Nodup ∧ (d.rxs 0).valid = false ∧ (d.rxs 3).valid = true ∧ (d.rxs 3).meas = none ∧ (d.rxs 1023).valid = true
    ∧ (d.rxs 1023).meas = some ⟨-5, 77, 3⟩ := by unfold Ready; decide +kernel

/-- Transmit words that pass the check with queue 5 and one port. -/
def txWords : List (BitVec 32) := [(R.TX_CTRL_Valid, 1), (R.TX_CTRL_PortMask, 8), (R.TX_SLOT_Queue, 5), (R.TX_L3_Ttl, 64), (R.TX_CTRL_Announce, 1),
  (R.TX_CTRL_PayloadType, 98)].foldl (fun w f => wfSet w R.TX_CTRL f.1 f.2) shuttleEntryReset

theorem witness_TransmitStreams : let q : State := { pooled [(R.ST_SEL_Stream, 1023)] with queues := [(5, { enable := true, cls := 1, state := 1, quota := 2000, maxItem := 9000 })] }
    let a := putWords q R.TX_CTRL txWords
    let b := putWords q R.TX_CTRL (wfSet txWords R.TX_CTRL R.TX_CTRL_Period 9)
    let c : State := { picks 128 [] with pmLog := [⟨true, 63, 5, 6, 7⟩], dig := { ownOut := [(64, 7)] } }
    let d : State := { st [(R.LEASE_CTRL_Mode, 1)] with tx := [(1023, { cfg := txWords })] }
    let e : State := { port 3 3 [] with tx := [(1023, { cfg := txWords })] }
    let f : State := { port 3 3 [(R.LEASE_CTRL_Mode, 1), (R.LEASE_STATUS_Holding, 1)] with tx := [(1023, { cfg := txWords })] }
    Ready f ∧ f.paired = true ∧ f.is R.LEASE_STATUS_Holding = true ∧ (f.txs 1023).valid = true ∧
    (∀ s ∈ [a, b, c, d, e], Ready s) ∧ (a.txs (a.get R.ST_SEL_Stream)).cfg.length = 16 ∧ a.get R.ST_SEL_Stream = 1023
    ∧ a.txCheck 1023 (a.rdWords R.TX_CTRL 16) = 0 ∧ b.txCheck 1023 (b.rdWords R.TX_CTRL 16) ≠ 0 ∧ (st []).pmLog = [] ∧ c.pmLog = [⟨true, 63, 5, 6, 7⟩]
    ∧ c.time.pick < 65 + 64 ∧ 64 + 64 ≤ c.time.pick ∧ (∃ x ∈ c.dig.ownOut, x.1 = 64)
    ∧ (∀ x ∈ c.dig.ownOut, x.1 ≠ 63) ∧ (∀ x ∈ c.dig.parOut, x.1 ≠ 63) ∧ (∀ x ∈ c.dig.ownIn, x.1 ≠ 63) ∧ (∀ x ∈ c.dig.parIn, x.1 ≠ 63)
    ∧ d.paired = true ∧ d.is R.LEASE_STATUS_Holding = false ∧ (e.txs 5).valid = false
    ∧ (e.txs 1023).valid = true ∧ txF (e.txs 1023).cfg R.TX_CTRL_Announce = 1 ∧ fmtRtp (txF (e.txs 1023).cfg R.TX_CTRL_Format) = true ∧ e.paired = false
    ∧ txF (e.txs 1023).cfg R.TX_CTRL_PortMask = 2 ^ 3 ∧ 2 ≤ e.portState 3 ∧ e.portState 3 < 5 := by unfold Ready; decide +kernel

-- ## The matrix, decimators, filters and detectors

/-- Transactions in the slots of the matrix. -/
def transIn (l : List Trans) : State := { st [] with heddle := { trans := l } }

theorem witness_CrosspointTransactions : let none_ := transIn []
    let full := transIn ((List.range 8).map (fun k => { slot := k, id := k + 1 }))
    let one := transIn [{ slot := 0, id := 65535, edits := [⟨3, 0, 0⟩] }]
    let two := transIn [{ slot := 0, id := 65535, state := 2 }]
    let img := bytesOf (List.replicate 8192 8191#32)
    (∀ s ∈ [none_, full, one, two], Ready s) ∧ 65535 < 65536
    ∧ (List.range 8).find? (fun k => !none_.heddle.trans.any (fun x => decide (x.slot = k))) = some 0
    ∧ (∀ k, k < 8 → ∃ x ∈ full.heddle.trans, x.slot = k) ∧ none_.trans 65535 = none
    ∧ (one.trans 65535).isSome = true ∧ (two.trans 65535).isSome = true ∧ (none_.xpTransaction [9#8, 0#8]).1 = 0 ∧ (none_.xpTransaction []).1 ≠ 0
    ∧ (none_.xpTable img).1 = 0
    ∧ (none_.xpTable []).1 ≠ 0 := by unfold Ready; decide +kernel

theorem witness_DestinationsAndGroups : let a := st [(R.DS_SEL_Dest, 7), (R.DS_PATCH_Source, 7)]
    let b := st [(R.DS_SEL_Dest, 8191), (R.DS_DELAY_Delay, 5), (R.DS_DCAP_DelayCap, 4)]
    let c : State := { st [(R.HD_STATUS_Repacking, 1)] with heddle := { dests := [(3, { ring := (5, 3), z := some 4 })] } }
    let g := st [(R.GRP_SEL_Group, 255)]
    let x : State := { st [] with heddle := { xps := [⟨0, 0, 255, {}⟩] } }
    (∀ s ∈ [a, b, c, g, x], Ready s) ∧ a.dsCheck 7 (a.rdWords R.DS_PATCH 5) = 0 ∧ b.dsCheck 8191 (b.rdWords R.DS_PATCH 5) ≠ 0
    ∧ a.is R.HD_STATUS_Repacking = false ∧ c.is R.HD_STATUS_Repacking = true ∧ c.heddle.dests = [] ++ (3, { ring := (5, 3), z := some 4 }) :: []
    ∧ (st [(R.GRP_SEL_Group, 0)]).get R.GRP_SEL_Group = 0 ∧ g.get R.GRP_SEL_Group ≠ 0
    ∧ xpFind g.heddle.xps (g.get R.XQ_KEY_Dest) (g.get R.XQ_KEY_Src) = none ∧ (xpFind x.heddle.xps (x.get R.XQ_KEY_Dest) (x.get R.XQ_KEY_Src)).isSome = true := by
  unfold Ready; decide +kernel

/-- A decimator group in a state, with a clock of OSR 256 from CKO0. -/
def decIn (state : Nat) (clock : Bool) : State := st ([(R.DEC_GSTAT_State 3, state)] ++ (if clock then runs ++
  [(R.CKO_STATUS_Running 0, 1), (R.CKO_CFG_Align 0, 1), (R.MCS_STATUS_State 0, 2), (R.CKO_DIV_Div 0, 7), (R.DSMCLK_SEL_Srck, 0)] else []))

theorem witness_Decimators : let pin := picks 7 [(R.DEC_CTRL_SyncPinEn, 1)]
    let c : State := { on (picks 500 []) [(R.DEC_GSTAT_State 3, 3)] with dec := { clear := some 500, pick := some 400 } }
    let d : State := { picks 500 [] with dec := { clear := some 501, pick := some 499 } }
    (∀ s ∈ [decIn 3 false, decIn 2 false, decIn 1 true, st [], pin, c, d], Ready s) ∧ (decIn 3 false).decState 3 = 3
    ∧ bitOf 0 1 ≠ (decIn 3 false).is (R.DEC_GRP_Profile 3) ∧ ¬ ((st []).decState 3 = 3) ∧ 2 ≤ (decIn 2 false).decState 3 ∧ (decIn 2 false).decOsr 3 = none
    ∧ ¬ (2 ≤ (st []).decState 3) ∧ (decIn 1 true).decState 3 = 1 ∧ ((decIn 1 true).decOsr 3).isSome = true ∧ ¬ ((st []).decState 3 = 1)
    ∧ pin.is R.DEC_CTRL_SyncPinEn = true ∧ pin.time.running = true ∧ ¬ ((st []).is R.DEC_CTRL_SyncPinEn = true)
    ∧ (st []).dec.clear = none ∧ d.time.pick < 501 ∧ c.dec.clear = some 500 ∧ 500 ≤ c.time.pick ∧ c.decState (63 / 16) = 3 ∧ (st []).dec.pick = none
    ∧ c.dec.pick = some 400 ∧ 400 + settleLen (c.get (R.DEC_GRP_Profile (63 / 16))) + c.get (R.DIN_STATUS_IntDelayNow 63) ≤ c.time.pick
    ∧ ¬ (d.decState (63 / 16) = 3) := by unfold Ready; decide +kernel

/-- Words of an enabled chain of two sections. -/
def chainWords : List (BitVec 32) := wfSet (wfSet chainReset R.FC_CFG R.FC_CFG_Enable 1) R.FC_CFG R.FC_CFG_Length 2

theorem witness_FilterChains : let a := putWords (st [(R.FC_SEL_Chain, 1023)]) R.FC_CFG chainWords
    let b := putWords (st [(R.FC_SEL_Chain, 1023)]) R.FC_CFG (wfSet chainWords R.FC_CFG R.FC_CFG_Length 0)
    let l : State := { st [] with filt := { chains := [(1023, { cfg := chainWords, eff := chainWords })], bad := [1] } }
    (∀ s ∈ [a, b, l], Ready s) ∧ a.fcCheck 1023 (a.rdWords R.FC_CFG 3) = 0 ∧ b.fcCheck 1023 (b.rdWords R.FC_CFG 3) ≠ 0 ∧ 65535 < 65536
    ∧ a.maxFadesCheck (65 % 128) ≠ 0 ∧ a.maxFadesCheck (64 % 128) = 0
    ∧ ([] : List Byte).length < 4 ∧ ¬ (262144 < 262143 + 1) ∧ l.coefLocked 0 = true ∧ l.filt.bad.contains 0 = false ∧ l.coefAt 0 ≠ 7#32
    ∧ l.filt.bad.contains 1 = true ∧ l.coefLocked 100 = false := by unfold Ready; decide +kernel

/-- Index n mixed last, with chains 1 to 5 in the engine. -/
def mixed (n : Nat) : State := { picks (n + 1) [] with
  heddle := { last := some n, dests := [(4, { fade := some ⟨0, 1, 2⟩ })] }, det := { period := some (4, 4) }
  filt := { on := true, period := some (4, 4), chains := [(1, { cfg := chainWords, eff := chainWords }), (2, { cfg := chainWords, eff := chainWords, ran := some n }),
    (1023, { cfg := chainWords, eff := chainWords, fade := some ⟨4, 5, 1, none, none⟩, closing := some (4, 4), shadow := some [] })] } }

theorem witness_FilterEngineEvents : let m := mixed 20
    let sick : State := { m with filt := { m.filt with chains := [(1, { cfg := chainWords, eff := chainWords, poison := some (some 7) })] } }
    let coef : State := { m with filt := { m.filt with bad := [0] } }
    let det_ : State := { m with filt := { m.filt with period := none } }
    let held : State := { m with heddle := { m.heddle with dests := [(4, { fade := some ⟨0, 1, 2⟩, held := some 7 })] } }
    let two : State := { m with det := { period := some (20, 8) } }
    (∀ s ∈ [sick, coef, det_, held, two], Ready s ∧ s.heddle.last = some 20) ∧ (sick.chain 1).poison = some (some 7) ∧ (sick.chain 1).ran ≠ some 20 ∧ fcOn (sick.chain 1).eff = true
    ∧ (coef.chainBad { coef.chain 1 with ran := some 20 }).isSome = true ∧ det_.filt.period = none ∧ det_.det.period = some (4, 4) ∧ 4 + 4 ≤ 20 + 1
    ∧ (held.dest 4).held = some 7 ∧ (held.dest 4).fade = some ⟨0, 1, 2⟩ ∧ 1 + 2 ≤ 20 + 1 ∧ two.det.period = some (20, 8) ∧ 20 + 1 < 20 + 8 ∧ two.filt.period = some (4, 4)
    ∧ (mixed 5).filt.period = some (4, 4) ∧ 5 + 1 < 4 + 4 ∧ (mixed 5).chain 1023 = (mixed 20).chain 1023 ∧ ((st []).dest 8191).fade = none
    ∧ (∀ s ∈ [st [], mixed 20, mixed 5], Ready s) ∧ 1023 < 1024 ∧ (st []).heddle.last = none ∧ (mixed 20).heddle.last = some 20
    ∧ ((mixed 20).chain 2).ran = some 20 ∧ (mixed 20).time.running = true ∧ (mixed 20).filt.on = true ∧ fcOn ((mixed 20).chain 1).eff = true
    ∧ ((mixed 20).chain 1).ran ≠ some 20 ∧ ((mixed 20).chain 1).poison = none ∧ (mixed 20).chainBad { (mixed 20).chain 1 with ran := some 20 } = none
    ∧ ((mixed 20).chain 1).fade = none ∧ ((mixed 20).chain 1).closing = none ∧ ((mixed 5).chain 1023).fade = some ⟨4, 5, 1, none, none⟩ ∧ 5 + 1 < 4 + 5
    ∧ ((mixed 20).chain 1023).fade = some ⟨4, 5, 1, none, none⟩ ∧ 4 + 5 ≤ 20 + 1 ∧ ((mixed 20).chain 1023).closing = some (4, 4)
    ∧ (mixed 20).filt.period = some (4, 4) ∧ (mixed 20).det.period = some (4, 4) ∧ ((mixed 20).dest 4).fade = some ⟨0, 1, 2⟩ ∧ ((mixed 20).dest 4).held = none := by
  unfold Ready; decide +kernel

theorem witness_DetectorWindow : let a := st [(R.DT_SEL_Entry, 8256)]
    let b := st [(R.DT_SEL_Entry, 8255), (R.DT_CFG_AlertSrc, 3)]
    let c : State := { st [] with det := { log := [(8255, 7)] } }
    (∀ s ∈ [a, b, c, st []], Ready s) ∧ 8255 < a.get R.DT_SEL_Entry ∧ b.get R.DT_SEL_Entry ≤ 8255 ∧ dtCheck 8255 (b.rdWords R.DT_CFG 6) ≠ 0
    ∧ c.det.log = (8255, 7) :: [] ∧ (st []).det.log = [] := by unfold Ready; decide

-- ## TDM ports and local links

/-- TDM port 15 in a state, its last and last good frame's picks. -/
def tdmIn (state : Nat) (last ok : Option Nat) (fs : List (Fld × Nat)) : State :=
  { st ([(R.TDM_STATUS_State 15, state), (R.TDM_FMT_FrameBits 15, 256)] ++ fs) with tdm := [(15, { last := last, ok := ok })] }

/-- A frame at the boundary of pick 48,001 at 48 kHz. -/
def tdmFrame (bits : Nat) : TdmFrame := ⟨boundary 48000 48001, boundary 48000 48001 + 1000000, bits, []⟩

theorem witness_TdmPorts : let a := st [(R.TDM_CTRL_Enable 15, 1)]
    let b := st [(R.TDM_CTRL_Enable 15, 0), (R.TDM_FMT_FrameBits 15, 256)]
    let pick := fun (s : State) => tdmPick s.fs (s.media (s.tdmFsTime 15 (tdmFrame 256)))
    let n := pick (tdmIn 2 none none [])
    let d := on a [(R.TDM_STATUS_Driving 15, 1)]
    let gated := fun (s : State) => s.is (R.TDM_STATUS_Driving 15) = true ∧ s.is (R.TDM_CTRL_LeaseDrive 15) = true
    (∀ s ∈ [tdmIn 2 (some 48000) none [], tdmIn 1 none (some 48000) [], tdmIn 1 none none []], pick s = n)
    ∧ gated (d.wrRW (R.TDM_CTRL 15) 17) ∧ d.is R.LEASE_STATUS_DriveOk = false ∧ bitOf 17 0 = true ∧ ¬ gated (a.wrRW (R.TDM_CTRL 15) 17) ∧
    (∀ s ∈ [a, b, d, tdmIn 2 none none [], tdmIn 2 (some 48000) none [], tdmIn 1 none (some 48000) [], tdmIn 1 none none [], tdmIn 2 none none [(R.TDM_CTRL_Master 15, 1)]], Ready s)
    ∧ 15 < 16 ∧ a.is (R.TDM_CTRL_Enable 15) = true ∧ b.is (R.TDM_CTRL_Enable 15) = false ∧ bitOf 1 0 = true ∧ bitOf 0 0 = false
    ∧ ((st []).wrRW (R.TDM_CTRL 15) 1).tdmVerdict 15 ≠ 0 ∧ (b.wrRW (R.TDM_CTRL 15) 1).tdmVerdict 15 = 0 ∧ bitOf 1 3 = false ∧ bitOf 9 3 = true
    ∧ (b.wrRW (R.TDM_CTRL 15) 9).tdmVerdict 15 = 0 ∧ b.time.running = false
    ∧ n = some 48001 ∧ (tdmIn 2 none none []).is (R.TDM_CTRL_Master 15) = false ∧ n ≠ ((tdmIn 2 none none []).tdmSt 15).last.map (· + 1)
    ∧ n = ((tdmIn 2 (some 48000) none []).tdmSt 15).last.map (· + 1) ∧ (tdmFrame 255).bits ≠ (tdmIn 2 (some 48000) none []).get (R.TDM_FMT_FrameBits 15)
    ∧ (tdmFrame 256).bits = (tdmIn 2 (some 48000) none []).get (R.TDM_FMT_FrameBits 15) ∧ ((tdmIn 1 none (some 48000) []).tdmSt 15).ok.map (· + 1) = n
    ∧ ((tdmIn 1 none none []).tdmSt 15).ok.map (· + 1) ≠ n ∧ (tdmIn 2 none none [(R.TDM_CTRL_Master 15, 1)]).is (R.TDM_CTRL_Master 15) = true := by
  unfold Ready; decide +kernel

/-- Local link 3 in a state, transmitting, at pick 5. -/
def linkIn (state : Nat) (l : LlSt) : State :=
  { on (picks 256 [(R.LL_STATUS_State 3, state)]) [(R.LL_CTRL_Enable 3, 1), (R.LL_CTRL_TxEn 3, 1)] with heddle := { last := some 255 }, ll := [(3, l)] }

/-- The line of a frame of pick 0 at 192 kHz with no channel in use, with a CRC, and the frame. -/
def lineOf (crc : Nat) : List Byte := [0x78#8, 0#8, 0#8, 0#8, 5#8] ++ List.replicate 1059 0#8 ++ [0x87#8] ++ beBytes 4 crc ++ [0#8, 0#8, 0#8]
def frameOn (crc : Nat) : LlFrame := ⟨((linkHeaders 256).map some).zip (blocks8 134 (scramble scrambleInit (lineOf crc))), 0⟩

theorem frameOn_line (crc : Nat) : scramble scrambleInit ((frameOn crc).blocks.flatMap Prod.snd) = lineOf crc := by
  have n : ((linkHeaders 256).map some).length = 134 := by rw [List.length_map, linkHeaders, List.length_cons, List.length_append, List.length_replicate]; rfl
  have h := blocks8_flat ((linkHeaders 256).map some) (scramble scrambleInit (lineOf crc)) (by
    rw [n, scramble_length, lineOf]; simp only [List.length_append, List.length_replicate, beBytes_length, List.length_cons, List.length_nil])
  rw [n] at h
  rw [frameOn, h, scramble_scramble]

/-- The CRC of that line. -/
def goodCrc : Nat := 3064581920

theorem witness_LocalLinks : let a := linkIn 1 { sent := false }
    let line := fun (f : LlFrame) => scramble scrambleInit (f.blocks.flatMap Prod.snd)
    let x := on a [(R.TIME_STATUS_RateNow, 5)]
    x.linkBad (frameOn goodCrc) (line (frameOn goodCrc)) = none ∧ x.linkBad (frameOn 7) (line (frameOn 7)) = some true ∧ Ready x ∧ x.get (R.LL_STATUS_State 3) ≠ 0
    ∧ Ready (linkIn 2 { hello := some 999 }) ∧ (linkIn 2 { hello := some 999 }).time.pick < 999 ∧ ((linkIn 2 { hello := some 999 }).llSt 3).hello = some 999 ∧
    let long := (st []).wr (R.CC_TX_W 3 0) 0x1D000000#32
    let short := (st []).wr (R.CC_TX_W 3 0) 0x1C000000#32
    let bad : LlFrame := ⟨[], 0⟩
    (∀ s ∈ [a, long, short, linkIn 2 { dry := 16 }, linkIn 2 { hello := some 0 }, linkIn 2 { hello := some 1 }], Ready s) ∧ 3 < 4
    ∧ (st []).is (R.LL_CTRL_Enable 3) = false ∧ a.heddle.last = some 255 ∧ a.is (R.LL_CTRL_Enable 3) = true ∧ a.is (R.LL_CTRL_TxEn 3) = true
    ∧ a.time.running = true ∧ (a.llSt 3).sent = false ∧ (st []).get (R.LL_STATUS_State 3) = 0 ∧ a.get (R.LL_STATUS_State 3) ≠ 0
    ∧ a.linkBad bad (scramble scrambleInit (bad.blocks.flatMap Prod.snd)) = some false
    ∧ (linkIn 2 { dry := 16 }).get (R.LL_STATUS_State 3) = 2 ∧ 16 ≤ ((linkIn 2 { dry := 16 }).llSt 3).dry
    ∧ 28 < ((long.rdWords (R.CC_TX_W 3 0) 8).getD 0 0#32).toNat / 2 ^ 24 ∧ (short.llSt 3).mbox = none
    ∧ ¬ 28 < ((short.rdWords (R.CC_TX_W 3 0) 8).getD 0 0#32).toNat / 2 ^ 24 ∧ (short.llSt 3).hello = none
    ∧ ((linkIn 2 { hello := some 1 }).llSt 3).hello = some 1 ∧ (linkIn 2 { hello := some 1 }).time.pick < 1 + 256
    ∧ ((linkIn 2 { hello := some 0 }).llSt 3).hello = some 0 ∧ 0 + 256 ≤ (linkIn 2 { hello := some 0 }).time.pick := by
  dsimp only
  rw [frameOn_line, frameOn_line]
  unfold Ready; decide +kernel

-- ## Leases, Selvedge and the domain

/-- Lease logic in a mode, with LeaseIn, LeaseValid and ReserveValid, Selvedge Up or not. -/
def leased (mode : Nat) (up : Bool) (fs : List (Fld × Nat)) (l : LeaseSt) : State :=
  { on (st [(R.LEASE_CTRL_Mode, mode)]) ((if up then [(R.SV_STATUS_State, 2)] else []) ++ fs) with lease := l, xref := 7000 }

theorem witness_LeaseLogicCommands : let a := leased 1 false [(R.LEASE_STATUS_LeaseValid, 1), (R.LEASE_STATUS_ReserveValid, 1)] { cap := some 5000, resCap := some 6000, armAt := some 6900 }
    let b := leased 1 true [] { cap := some 5000 }
    let endOf := fun (s : State) (ms tc : Nat) => tc + min ms (s.get R.LEASE_TIME_DurationMs) * 624875
    let f := leased 1 false [(R.LEASE_STATUS_Fenced, 1)] {}
    Ready f ∧ f.get R.LEASE_CTRL_Mode = 1 ∧ f.svUp = false ∧ f.is R.LEASE_STATUS_Fenced = true ∧ endOf a 0 6000 ≤ a.xref
    ∧ (∀ s ∈ [a, b, st []], Ready s) ∧ (st []).lease.cap = none ∧ a.lease.cap = some 5000 ∧ endOf a 0 5000 ≤ a.xref ∧ a.xref < endOf a 1 5000
    ∧ (st []).lease.resCap = none ∧ a.lease.resCap = some 6000 ∧ a.xref < endOf a 1 6000 ∧ a.is R.LEASE_STATUS_ReserveValid = true
    ∧ a.is R.LEASE_STATUS_LeaseIn = false ∧ a.svUp = false ∧ (st []).is R.LEASE_STATUS_LeaseValid = false ∧ a.is R.LEASE_STATUS_LeaseValid = true
    ∧ (st []).is R.LEASE_STATUS_ReserveValid = false ∧ (st []).lease.armAt = none ∧ a.lease.armAt = some 6900
    ∧ (b.get R.LEASE_CTRL_Mode ≠ 1 ∨ b.svUp = true) ∧ a.get R.LEASE_CTRL_Mode = 1 ∧ a.is R.LEASE_STATUS_Fenced = false := by unfold Ready; decide

/-- A lease message of unit 5 with partner 6 and sequence 7. -/
def leaseMsg (k flags : Nat) : LeaseMsg := ⟨k, 5, 6, 7, 500, flags⟩

theorem witness_LeaseMessagesOfAUnit : let hold := leased 1 true [(R.LEASE_STATUS_Holding, 1), (R.LEASE_CTRL_Fallback, 1)] { cap := some 5000, reqSeq := some 7, resCap := some 5000, resSeq := some 7 }
    let bare := leased 1 false [] { gaveAt := some 6000, cap := some 5000, reqSeq := some 7 }
    let arb := leased 2 true [] {}
    let alone := leased 2 false [(R.LEASE_STATUS_LeaseValid, 1), (R.LEASE_CTRL_SilentTakeover, 0)] {}
    let silent := leased 2 false [(R.LEASE_CTRL_SilentTakeover, 1)] { gaveAt := some 6000 }
    let past := leased 1 true [] { reqSeq := some 7, cap := none, resSeq := some 7, resCap := none }
    Ready past ∧ past.get R.LEASE_CTRL_Mode = 1 ∧ past.lease.reqSeq = some (leaseMsg 2 0).seq ∧ past.gaveLately = false ∧ past.lease.cap = none
    ∧ past.lease.resSeq = some (leaseMsg 5 0).seq ∧ past.lease.resCap = none ∧ silent.is R.LEASE_STATUS_LeaseValid = false ∧
    let pulses := fun (s : State) => s.get R.LEASE_CTRL_Mode = 1 ∧ (s.is R.LEASE_STATUS_Holding = true ∨ s.is R.LEASE_STATUS_ReserveValid = true)
    (∀ s ∈ [hold, bare, arb, alone, silent, st []], Ready s) ∧ ¬ pulses bare ∧ pulses hold ∧ arb.get R.LEASE_CTRL_Mode = 2 ∧ arb.svUp = true
    ∧ alone.get R.LEASE_CTRL_Mode = 2 ∧ alone.svUp = false ∧ alone.is R.LEASE_STATUS_LeaseValid = true ∧ alone.is R.LEASE_CTRL_SilentTakeover = false
    ∧ 0 < alone.get R.LEASE_TIME_DurationMs ∧ ((st []).get R.LEASE_CTRL_Mode = 0 ∨ (st []).get R.LEASE_CTRL_Mode = 3)
    ∧ bare.is R.LEASE_STATUS_LeaseIn = false ∧ bare.svUp = false ∧ hold.svUp = true ∧ (leaseMsg 1 0).kind ≠ 2 ∧ (leaseMsg 2 0).kind = 2
    ∧ hold.lease.reqSeq = some (leaseMsg 2 0).seq ∧ hold.gaveLately = false ∧ hold.lease.cap = some 5000 ∧ hold.xref < hold.grantEnd 5000 (leaseMsg 2 0).grantMs
    ∧ bare.lease.reqSeq = some (leaseMsg 2 0).seq ∧ bare.gaveLately = true ∧ (leaseMsg 5 0).kind = 5 ∧ hold.lease.resSeq = some (leaseMsg 5 0).seq
    ∧ hold.lease.resCap = some 5000 ∧ (leaseMsg 7 0).kind = 7 ∧ (leaseMsg 9 0).kind = 9 ∧ hold.is R.LEASE_CTRL_Fallback = true ∧ hold.is R.LEASE_STATUS_Holding = true
    ∧ silent.lease.gaveAt = some 6000 ∧ silent.is R.LEASE_CTRL_SilentTakeover = true ∧ silent.svUp = false ∧ silent.is R.LEASE_STATUS_Holding = false
    ∧ silent.is R.LEASE_STATUS_LeaseIn = false ∧ 0 < silent.get R.LEASE_TIME_DurationMs := by unfold Ready; decide

/-- Member u with a partner in a roster state. -/
def memb (u partner state : Nat) : Member := { info := ⟨u, state, 2, 100 + u, partner, 0⟩ }

/-- A manager with a roster. -/
def managing (ms : List Member) (h : Option Nat) : State :=
  { (State.reset.setObj 0x1203 0 4) with dom := { roster := ms, holdoff := h }, xref := 1000000000 }

theorem witness_ManagerGrantsOneHolder : let a := managing [memb 5 6 1, { memb 6 5 1 with leaseEnd := some 1000000005 }] none
    let b := managing [memb 5 6 1, { memb 6 5 1 with report := some (9, 5), pulse := 1000000000 }] none
    let c := managing [{ memb 5 6 2 with leaseEnd := some 100 }, memb 6 5 1] none
    let d := managing [{ memb 5 6 1 with leaseEnd := some 1000000005 }, memb 6 5 1] (some 1000000007)
    let e := managing [memb 5 6 1, memb 6 5 2] none
    let l := leaseMsg 1 0
    let mate := fun (s : State) => s.dom.roster.find? (fun x => decide (x.info.unit = l.partner ∧ x.info.unit ≠ l.unit))
    (∀ s ∈ [a, b, c, d, e, st []], Ready s) ∧ (st []).manages = false ∧ (st []).dom.holdoff = none ∧ d.dom.holdoff = some 1000000007 ∧ a.manages = true
    ∧ c.member l.unit = some { memb 5 6 2 with leaseEnd := some 100 } ∧ (memb 5 6 2).info.state ≠ 1 ∧ a.member l.unit = some (memb 5 6 1) ∧ (memb 5 6 1).info.state = 1
    ∧ d.memHolds { memb 5 6 1 with leaseEnd := some 1000000005 } = true ∧ (bitOf l.flags 1 || bitOf l.flags 2) = false
    ∧ (bitOf (leaseMsg 1 2).flags 1 || bitOf (leaseMsg 1 2).flags 2) = true ∧ (mate d).any (fun x => decide (x.info.state = 1) && !x.unfit) = true
    ∧ a.memHolds (memb 5 6 1) = false ∧ a.mateFree (mate a) = false ∧ e.memHolds (memb 5 6 1) = false ∧ e.mateFree (mate e) = true
    ∧ chosen { memb 5 6 1 with fault := bitOf l.flags 1 } (mate e) = true ∧ (leaseMsg 3 0).kind = 3 ∧ (leaseMsg 4 0).kind = 4 ∧ a.reports l.unit = []
    ∧ b.reports l.unit = [{ memb 6 5 1 with report := some (9, 5), pulse := 1000000000 }] ∧ 6 ≠ l.unit
    ∧ b.member l.partner = some { memb 6 5 1 with report := some (9, 5), pulse := 1000000000 } ∧ b.xref < 1000000000 + 3 * b.get R.PULSE_CFG_PulseUs * 625
    ∧ e.member l.partner = some (memb 6 5 2) ∧ (d.dom.holdoff.isSome = true ∨ (memb 5 6 1).info.state = 1)
    ∧ c.partnerOf { memb 5 6 2 with leaseEnd := some 100 } = some (memb 6 5 1) ∧ (memb 6 5 1).unfit = false ∧ (memb 6 5 1).leaseEnd = none
    ∧ (let f := managing [memb 5 6 2, { memb 6 5 1 with leaseEnd := some 1000000005 }] none
       Ready f ∧ f.partnerOf (memb 5 6 2) = some { memb 6 5 1 with leaseEnd := some 1000000005 } ∧ f.member 5 = some (memb 5 6 2) ∧ f.xref < 1000000005)
    ∧ bitOf (leaseMsg 1 1).flags 0 = true ∧ (leaseMsg 1 0).kind = 1 ∧ (leaseMsg 6 0).kind = 6 ∧ (leaseMsg 8 0).kind = 8 ∧ b.reports l.unit ≠ []
    ∧ c.dom.holdoff = none := by
  unfold Ready; decide

/-- Selvedge in a state. -/
def selv (state : Nat) (fs : List (Fld × Nat)) : State := st ((R.SV_STATUS_State, state) :: (R.SV_CTRL_CopyEnable, 1) :: fs)

/-- The payloads of a Beat of the partner that drives its lease line and holds, and of a Time frame. -/
def beatBody : List Byte := beBytes 8 5 ++ [3#8, 0#8] ++ beBytes 2 77 ++ List.replicate 424 0#8
def timeBody : List Byte := timeStamp (1000000000 * 65536) ++ timeStamp (500 * 65536) ++ timeStamp (400 * 65536) ++ List.replicate 4 0#8

theorem witness_SelvedgeLink : let run : State := { on (picks 7 []) [(R.SV_STATUS_State, 2)] with dig := { last := some (5, [(3, 7)]) } }
    let still : State := on (picks 7 []) [(R.SV_STATUS_State, 2)]
    let zero := timeStamp (1000000000 * 65536) ++ List.replicate 28 0#8
    (zero.length = 40 ∧ timeAt zero 12 = 0 ∧ timeAt zero 24 = 0 ∧ Ready still ∧ still.picksRun = true ∧ still.dig.last = none ∧ still.get R.SV_STATUS_State ≠ 0
      ∧ (∀ s ∈ [selv 0 [], selv 1 [], selv 2 [(R.SV_CTRL_TimeEnable, 1)], run, st [(R.SV_CTRL_TimeEnable, 0)]], Ready s) ∧ (selv 0 []).svUp = false ∧ (selv 2 []).svUp = true
      ∧ (selv 0 []).get R.SV_STATUS_State = 0 ∧ (selv 1 []).get R.SV_STATUS_State ≠ 0 ∧ svParse ([] : List Byte) = none ∧ (selv 1 []).get R.SV_STATUS_State = 1
      ∧ beatBody.length = 436 ∧ (selv 1 []).picksRun = false ∧ run.get R.SV_STATUS_State ≠ 0 ∧ run.picksRun = true
      ∧ run.dig.last = some (5, [(3, 7)]) ∧ (st [(R.SV_CTRL_TimeEnable, 0)]).is R.SV_CTRL_TimeEnable = false
      ∧ (selv 2 [(R.SV_CTRL_TimeEnable, 1)]).is R.SV_CTRL_TimeEnable = true ∧ timeBody.length = 40 ∧ timeAt timeBody 12 ≠ 0)
    ∧ svParse (svFrame 1 5 beatBody) = some (1, beatBody) ∧ svParse (svFrame 2 5 timeBody) = some (2, timeBody) ∧ svParse (svFrame 2 5 zero) = some (2, zero) :=
  ⟨by unfold Ready; decide +kernel, svParse_svFrame _ _ _ (by decide) (by decide +kernel), svParse_svFrame _ _ _ (by decide) (by decide +kernel),
    svParse_svFrame _ _ _ (by decide) (by decide +kernel)⟩

/-- A body of one record, and frames of epoch 8. -/
def epBody : List Byte := (EpRec.mk 0x41F4 0 0 [1#8, 2#8, 3#8, 4#8]).bytes
def copyFrame : List Byte := svFrame 3 1 (beBytes 4 8 ++ beBytes 4 0 ++ epBody)
def commitFrame (l n c : Nat) : List Byte := svFrame 4 5 (beBytes 4 8 ++ beBytes 4 0 ++ beBytes 4 l ++ beBytes 4 n ++ beBytes 4 c)

theorem witness_EpochsAreCopiedWhole : let got := fun (b : List Byte) (e : Nat) => ({ selv 2 [] with sv := { part := some (e, b, 5) } } : State)
    let send : State := { selv 2 [(R.LEASE_CTRL_Mode, 2), (R.LEASE_STATUS_Holding, 1)] with sv := { full := true } }
    let due : State := { st [] with sv := { due := some (9, []) } }
    let p := beBytes 4 8 ++ beBytes 4 0 ++ epBody
    let q := beBytes 4 8 ++ beBytes 4 0 ++ beBytes 4 epBody.length ++ beBytes 4 1 ++ beBytes 4 (crc32c epBody)
    (∀ s ∈ [st [], send, due, got [] 8, got epBody 8, got [] 5], Ready s) ∧ (st []).epochSends = false ∧ send.epochSends = true ∧ send.sv.full = true
    ∧ svParse copyFrame = some (3, p) ∧ 8 ≤ p.length ∧ (got [] 8).svUp = true ∧ (got [] 8).is R.SV_CTRL_CopyEnable = true ∧ (got [] 8).sv.part = some (beAt p 0 4, [], 5)
    ∧ (got [] 5).sv.part = some (5, [], 5) ∧ 5 ≠ beAt p 0 4 ∧ svParse (commitFrame epBody.length 1 (crc32c epBody)) = some (4, q) ∧ q.length = 20
    ∧ (got epBody 8).sv.part = some (8, epBody, 5) ∧ (st []).sv.due = none ∧ due.sv.due = some (9, []) ∧ (st []).sv.part = none
    ∧ ((got epBody 8).commitCheck 8 0 epBody.length 1 (crc32c epBody) epBody).isSome = true ∧ (st []).svUp = false ∧ ([] : List Byte).length < 8
    ∧ svParse (svFrame 3 1 []) = some (3, []) ∧ svParse (svFrame 4 1 []) = some (4, []) := by
  unfold Ready
  refine ⟨by decide, by decide, by decide, by decide, by decide +kernel, by decide, by decide, by decide, by decide, by decide, by decide, by decide +kernel, by decide,
    by decide, by decide, by decide, by decide, by decide +kernel, by decide, by decide, svParse_svFrame _ _ _ (by decide) (by decide +kernel),
    svParse_svFrame _ _ _ (by decide) (by decide +kernel)⟩

/-- A state of the domain firmware in domain 9. -/
def domIn (state : Nat) (d : DomainSt) : State := { ((st runs).setObj 0x1203 0 state).setObj 0x1200 0 9 with dom := d, xref := 50 }

/-- A JoinRequest of device 77. -/
def joinReq (locked : Bool) : JoinReq := ⟨77, [1#8], 0, 2, 0, 0, none, locked⟩

theorem witness_JoiningADomain : let w := domIn 1 { nonce := [2#8], asked := 5 }
    let r := domIn 0 { retry := some 88 }
    let m := fun (l : Bool) => domIn 4 { waiting := [{ req := joinReq l, nonce := [1#8], sent := 10 }] }
    let late : State := { m false with xref := 62500011 }
    let starts : State := { ((domIn 1 {}).put (R.MAC_STATUS_State 2) 2) with tx := [(5, { cfg := wfSet (wfSet shuttleEntryReset R.TX_CTRL R.TX_CTRL_Valid 1) R.TX_CTRL R.TX_CTRL_PortMask 4 })], life := { wantSvc := true } }
    (starts.domState = 1 ∧ starts.life.wantTime = false ∧ starts.portState 2 = 2 ∧ starts.streamPort 2 = true ∧ starts.get (R.MAC_CTRL_StateReq 2) ≠ 1 ∧ w.life.wantSvc = false) ∧
    let good := (m false).joinProof 2 77 [1#8] [1#8]
    (∀ s ∈ [w, r, m false, m true, late, st []], Ready s) ∧ (st []).manages = false ∧ (m false).manages = true ∧ (st []).domState ≠ 1 ∧ w.domState = 1
    ∧ ¬ ([1#8] = w.dom.nonce ∧ [] = w.joinProof 1 w.deviceId [1#8] [2#8]) ∧ r.dom.retry = some 88 ∧ r.domState = 0 ∧ r.is R.TIME_STATUS_TodValid = true
    ∧ (m false).dom.waiting.find? (fun x => decide (x.nonce = [1#8])) = some { req := joinReq false, nonce := [1#8], sent := 10 } ∧ 10 + 62500000 < late.xref
    ∧ (m false).xref ≤ 10 + 62500000 ∧ [] ≠ good ∧ good = (m false).joinProof 2 (joinReq false).device [1#8] (joinReq false).nonce
    ∧ (m true).joinDeny (joinReq true) ≠ 0 ∧ (m false).joinDeny (joinReq false) = 0 ∧ (joinReq false).partner = 0 ∧ w.dom.nonce = [2#8] := by
  unfold Ready
  refine ⟨by decide, by decide, by decide, by decide, by decide, by decide, by decide, by decide, by decide, by decide, by decide, by decide, by decide, by decide +kernel, rfl,
    by decide, by decide, by decide, by decide⟩

/-- A beacon of domain d, unit u and a term, and a data unit for LLDP. -/
def beaconOf (d u term device : Nat) : Beacon := ⟨d, u, 0, term, 4, 1, 77, 0, device, true⟩
def lldpFrame (ttl : Nat) : List Byte := beBytes 6 0x0180C200000E ++ beBytes 6 5 ++ beBytes 2 0x88CC ++ [2#8, 2#8, 4#8, 7#8, 4#8, 2#8, 5#8, 9#8, 6#8, 2#8] ++ beBytes 2 ttl ++ [0#8, 0#8]

/-- A member of domain 9 in a state and a role, with a roster, and a port with a neighbour. -/
def inRole (state role : Nat) : State :=
  ((domIn state { roster := [memb 5 0 1, memb 3 0 1], deltas := [(4, (memb 3 0 1).info)] }).setObj 0x1201 0 role).setObj 0x1205 0 3
def nearPort : State := { st [(R.MAC_STATUS_State 3, 3), (R.MAC_CTRL_LldpEnable 3, 1)] with dom := { neighbours := [(3, some ⟨[1#8], [2#8], 5, 99, [], [], []⟩)] } }

/-- A beacon of the state's domain, of its term or a newer one. -/
def ofMine (s : State) (b : Beacon) : Bool := decide (b.domain = s.domId ∧ s.domId ≠ 0 ∧ s.domTerm ≤ b.term)

theorem witness_DomainsAndNeighbours_pairs :
    let pair := fun (state : Nat) (holds : Nat) => (on (inRole state 3) [(R.LEASE_CTRL_Mode, 1), (R.LEASE_STATUS_Holding, holds), (R.SV_PARTNER_Unit, 6)]).setObj 0x1204 0 6
    let silent := (domIn 4 { roster := [{ memb 5 0 1 with pulse := 156250000 }, memb 3 0 2] }).setObj 0x1205 0 3
    (∀ s ∈ [pair 2 1, pair 4 0, silent], Ready s) ∧ (pair 2 1).manages = false ∧ (pair 2 1).domState = 2 ∧ (pair 2 1).domRoleNow = 3 ∧ (pair 2 1).paired = true
    ∧ (pair 2 1).is R.LEASE_STATUS_Holding = true ∧ (pair 2 1).obj 0x1204 0 = (pair 2 1).get R.SV_PARTNER_Unit
    ∧ (pair 4 0).manages = true ∧ (pair 4 0).paired = true ∧ (pair 4 0).is R.LEASE_STATUS_Holding = false
    ∧ ofMine (inRole 0 3) (beaconOf 9 5 3 3) ∧ (inRole 0 3).is R.TIME_CTRL_Run = true ∧ ofMine (inRole 3 2) (beaconOf 9 5 3 3) ∧ (st []).member 5 = none
    ∧ silent.manages = true ∧ 5 ≠ silent.get R.SH_UNIT_Unit ∧ silent.member 5 = some { memb 5 0 1 with pulse := 156250000 } ∧ max silent.xref (0 + 156250000) < 156250000 + silent.pulse3
    ∧ silent.member 3 = some (memb 3 0 2) ∧ (memb 3 0 2).info.state ≠ 1
    ∧ (nearPort.neighbourOf (ethInfo (lldpFrame 0)).body).map (fun x => decide (x.ttl = 0)) = some true ∧ (ethInfo (lldpFrame 0)).da = 0x0180C200000E := by
  unfold Ready; decide +kernel

theorem witness_DomainsAndNeighbours : (∀ s ∈ [inRole 4 3, inRole 2 2, inRole 3 2, inRole 0 3, inRole 5 0, nearPort, st []], Ready s) ∧ (inRole 4 3).manages = true ∧ (inRole 4 3).paired = false ∧ (st []).domState ≠ 4 ∧ (st []).domState ≠ 2
    ∧ (inRole 5 0).domState = 5 ∧ (inRole 4 3).domState ≠ 5 ∧ (inRole 4 3).domId ≠ 0 ∧ (beaconOf 9 5 0 3).domain = (inRole 4 3).domId ∧ (beaconOf 9 5 0 3).term < (inRole 4 3).domTerm
    ∧ ofMine (inRole 4 3) (beaconOf 9 5 3 3) ∧ (beaconOf 9 5 3 3).term = (inRole 4 3).domTerm ∧ (inRole 4 3).yields (beaconOf 9 5 3 3) = false ∧ ofMine (inRole 2 2) (beaconOf 9 5 3 3)
    ∧ (inRole 2 2).is R.TIME_CTRL_Run = true ∧ (inRole 2 2).domState = 2 ∧ ofMine (inRole 4 3) (beaconOf 9 5 7 3) ∧ (inRole 4 3).domTerm < (beaconOf 9 5 7 3).term
    ∧ ¬ ((inRole 4 3).domState = 0 ∧ (inRole 4 3).domRoleNow = 3 ∧ (inRole 4 3).domId ≠ 0) ∧ (inRole 0 3).domState = 0 ∧ (inRole 0 3).domRoleNow = 3 ∧ (inRole 0 3).domId ≠ 0
    ∧ (inRole 3 2).domState = 3 ∧ (inRole 3 2).domRoleNow = 2 ∧ (inRole 2 2).manages = false ∧ (inRole 4 3).member 5 = some (memb 5 0 1) ∧ (memb 5 0 1).info.state = 1
    ∧ 5 ≠ (inRole 4 3).get R.SH_UNIT_Unit ∧ (memb 5 0 1).pulse = 0 ∧ 3 < 4 ∧ (st []).lldpRuns 3 = false ∧ nearPort.lldpRuns 3 = true
    ∧ (ethInfo (lldpFrame 5)).da = 0x0180C200000E ∧ (ethInfo (lldpFrame 5)).typ = 0x88CC
    ∧ (nearPort.neighbourOf (ethInfo (lldpFrame 5)).body).map (fun x => decide (x.ttl ≠ 0)) = some true
    ∧ tget none (st []).dom.neighbours 3 = none ∧ tget none nearPort.dom.neighbours 3 = some ⟨[1#8], [2#8], 5, 99, [], [], []⟩ := by unfold Ready; decide +kernel

-- ## Patterns, Temple and the object dictionary

/-- The flash at work. -/
def flashing (op : FlashOp) : State := { st [] with flash := { busy := some op } }

/-- The clauses of a load that passes (code 0) have no witness here: such a load writes 77,809 objects, more than the kernel evaluates. For the pattern
image of the reset state in its own slot, evaluation outside the kernel gives code 0. -/
theorem witness_PatternsAndOverlays : let ld := fun (c : Nat) => flashing (.load 7 c .none)
    let kept : State := { st [] with ovl := { later := [(3, [0x100000])] } }
    (∀ s ∈ [flashing (.load 7 1 .told), flashing (.save 7 [5#8] .told)], Ready s)
    ∧ (flashing (.load 7 1 .told)).flash.busy = some (.load 7 1 .told) ∧ (flashing (.save 7 [5#8] .told)).flash.busy = some (.save 7 [5#8] .told) ∧
    (∀ s ∈ [st [], ld 1, kept, flashing (.ledger [3#8]), flashing (.save 7 [5#8] .none)], Ready s) ∧ 7 < 8 ∧ 63 < 64 ∧ (st []).image 7 = [] ∧ ((st []).loadCode 7 ((st []).image 7)).1 ≠ 0
    ∧ ((ld 1).loadCode 7 ((ld 1).image 7)).1 ≠ 0 ∧ (ld 1).flash.busy.isSome = true ∧ (st []).flash.busy = none ∧ (st []).overlayCheck 63 [] ≠ 0
    ∧ (st []).overlayCheck 63 (List.replicate 36 0#8) = 0 ∧ (st []).ovl.later = [] ∧ kept.ovl.later ≠ [] ∧ (ld 1).lcp.wait = [] ∧ (ld 1).flash.wait = []
    ∧ (ld 1).flash.busy = some (.load 7 1 .none) ∧ (flashing (.save 7 [5#8] .none)).flash.busy = some (.save 7 [5#8] .none)
    ∧ (flashing (.ledger [3#8])).flash.busy = some (.ledger [3#8]) := by unfold Ready; decide +kernel

/-- Temple enabled, with AvsEn, EyeEn and a supply code. -/
def temple (avs eye code : Nat) (t : TempleSt) : State :=
  { st [(R.TP_CTRL_Enable, 1), (R.TP_CTRL_AvsEn, avs), (R.TP_CTRL_EyeEn, eye), (R.AVS_STATUS_Code, code), (R.TIME_STATUS_TodValid, 1)] with temple := t }

theorem witness_TempleMeasures : let a := temple 1 0 8 { calm := 60000, lanes := [8], retry := some [9#8] }
    let off := st [(R.TP_CTRL_Enable, 0)]
    let w := fun (xs : List Int) => satSigned 16 ((xs.foldl (fun m x => lowOf m x) none).getD 0)
    let p : State := { (((temple 0 0 8 { seen := [(1023, [(0, 5000, 7)])] }).setObj 0xA047 128 1).setObj 0xA030 2 60) with rx := [(1023, {})] }
    let low := temple 1 0 (a.get R.AVS_CFG_VminCode) { calm := 60000 }
    let wr : State := { a with flash := { busy := some (.ledger [3#8]) } }
    Ready low ∧ low.get R.AVS_STATUS_Code ≤ low.get R.AVS_CFG_VminCode ∧ 60000 ≤ low.temple.calm ∧ Ready wr ∧ wr.flash.busy.isSome = true
    ∧ (∀ e ∈ [((8 : Nat), 255, 7)], e.1 < 9 ∧ e.2.1 < 256) ∧ off.is R.TIME_STATUS_TodValid = false
    ∧ (∀ s ∈ [a, off, p, temple 0 0 8 {}], Ready s) ∧ ¬ (off.is R.TP_CTRL_Enable = true) ∧ a.is R.TP_CTRL_Enable = true ∧ a.is R.TP_CTRL_AvsEn = true
    ∧ a.get R.AVS_CFG_VminCode ≤ a.get R.AVS_STATUS_Code ∧ a.get R.AVS_STATUS_Code < a.get R.AVS_CFG_VmaxCode ∧ w [-7] < a.get R.AVS_CFG_SlackLow
    ∧ (temple 0 0 8 {}).is R.TP_CTRL_AvsEn = false ∧ (temple 0 0 8 {}).get R.AVS_STATUS_Code < (temple 0 0 8 {}).get R.AVS_CFG_VmaxCode
    ∧ off.temple.calm < 60000 ∧ 60000 ≤ a.temple.calm ∧ a.get R.AVS_CFG_VminCode < a.get R.AVS_STATUS_Code ∧ a.is R.TP_CTRL_EyeEn = false ∧ 8 < 9 ∧ 255 < 256
    ∧ a.temple.lanes.contains 0 = false ∧ a.temple.lanes.contains 8 = true ∧ a.is R.TIME_STATUS_TodValid = true ∧ a.flash.busy = none ∧ off.temple.retry = none
    ∧ a.temple.retry = some [9#8] ∧ (∃ e ∈ p.rx, e.1 = 1023) ∧ (∀ e ∈ p.rx, e.1 < 1024) ∧ p.planMode 1023 ≠ 0 ∧ (p.required 1023).isSome = true := by unfold Ready; decide +kernel

/-- A message of class 0, kind 1 from unit 7 to a domain and unit, and the same with a tag. -/
def lcpMsg (cls kind dom target ctr : Nat) (body : List Byte) : List Byte := lcpHeader cls kind 0 (44 + body.length) dom 7 target 9 ctr ++ body
def signed (s : State) (dom : Nat) (m : List Byte) : List Byte := m ++ (hmac (s.lcpKey dom) m).take 16

/-- A unit of domain 9 with a fused key, its ports in a state and open to the control protocol. -/
def listening (state : Nat) (lock : Bool) (l : LcpSt) : State :=
  { (((st [(R.MAC_STATUS_State 3, state), (R.TIME_STATUS_TodValid, 1)]).setObj 0x1200 0 9).setObj 0x1100 4 1) with
    shadow := (List.range 8).map (fun k => (k + 8, BitVec.ofNat 32 (k + 1))) ++ (if lock then [(32, 0x40000#32)] else []), lcp := l, time := { tai := 1000000000 * unitsPerSec } }

theorem witness_ReceivedMessagesAreChecked : let s := listening 3 false {}
    let w := listening 3 false { held := some ⟨.mbox 0, [], [], 1, none⟩ }
    let m := signed s 9 (lcpMsg 0 1 9 0 5 (leBytes 2 1 ++ leBytes 2 0 ++ leBytes 2 0x1000 ++ [0#8, 0#8]))
    let unit := leNat ((m.drop 10).take 2)
    let malformed := fun (m : List Byte) => m.length < 44 ∨ 1472 < m.length ∨ m.take 3 ≠ [0x57#8, 0x4C#8, 1#8] ∨ 2 < leNat ((m.drop 3).take 1) ∨ leNat ((m.drop 6).take 2) ≠ m.length
    let other := fun (s : State) (m : List Byte) => leNat ((m.drop 8).take 2) ≠ s.obj 0x1200 0 ∨ (leNat ((m.drop 12).take 2) ≠ 0xFFFF ∧ leNat ((m.drop 12).take 2) ≠ s.get R.SH_UNIT_Unit)
    let off := fun (s : State) (m : List Byte) => leNat ((m.drop 3).take 1) = 0 ∧ (bitOf (s.fuseWord 32) 18 = true ∨ s.obj 0x1100 (3 + 1) = 0)
    (∀ x ∈ [s, w, listening 1 false {}, listening 3 true {}], Ready x) ∧ 3 < 4 ∧ ¬ (2 ≤ (listening 1 false {}).portState 3) ∧ 2 ≤ s.portState 3 ∧ s.portState 3 ≤ 4
    ∧ malformed [] ∧ ¬ malformed m ∧ off (listening 3 true {}) m ∧ ¬ off s m ∧ other s (lcpMsg 0 1 8 0 5 (List.replicate 16 0#8)) ∧ ¬ other s m
    ∧ ¬ malformed (lcpMsg 0 1 8 0 5 (List.replicate 0 0#8) ++ List.replicate 16 0#8)
    ∧ s.keyFused = true ∧ m.drop (m.length - 16) = (hmac (s.lcpKey 9) (m.take (m.length - 16))).take 16
    ∧ s.peerTake 9 unit 5 0 = none ∧ (s.peerTake 9 unit 5 1000000000000000000).isSome = true ∧ w.lcpWaits = true ∧ s.lcpWaits = false := by
  unfold Ready; decide +kernel

/-- A request of a kind from unit 7. -/
def ask (kind flags : Nat) (body : List Byte) : List Byte := lcpHeader 0 kind flags (44 + body.length) 9 7 0 9 77 ++ body

theorem witness_RequestsAndSubscriptions : let who := Requester.net 3 5 5 7
    let kept : State := { st [] with lcp := { kept := [⟨who, 9, 1, [1#8, 2#8, 3#8, 4#8], 0⟩], subs := [{ who := who, index := 0x1000, sub := 0, mode := 1, period := 100 }], bulk := [⟨5, .mbox 1, false, 0x1000, 0, 9, [], 0, 0⟩] } }
    let held : State := { st [] with lcp := { held := some ⟨.mbox 0, [], [], 1, none⟩ } }
    let items := fun (k : Nat) => leBytes 2 k ++ leBytes 2 0
    let rd := ask 1 0 (items 1 ++ leBytes 2 0x1000 ++ [0#8, 0#8])
    let two := ask 2 2 (items 2 ++ leBytes 2 0x1200 ++ [0#8, 3#8] ++ leBytes 2 2 ++ [0#8, 0#8] ++ leBytes 4 5 ++ leBytes 2 0x9999 ++ [0#8, 3#8] ++ leBytes 2 2 ++ [0#8, 0#8] ++ leBytes 4 5)
    let kind := fun (m : List Byte) => leNat ((m.drop 4).take 1)
    let op := fun (m : List Byte) => leNat ((m.drop 30).take 1)
    let count := fun (m : List Byte) => leNat ((m.drop 28).take 2)
    let mbx := on (st [(R.MBX_CTRL_Enable 1, 1)]) []
    (∀ s ∈ [st [], kept, held, mbx, st [(R.MBX_STATUS_Busy 1, 1)], st [(R.MBX_CTRL_Enable 1, 0)]], Ready s) ∧ 3 < 4 ∧ kind rd = 1 ∧ kind two = 2 ∧ kind (ask 3 0 (items 17)) = 3 ∧ kind (ask 4 0 (items 33)) = 4
    ∧ (List.range 4).map (fun k => op (ask 6 0 (leBytes 2 5 ++ [BitVec.ofNat 8 (k + 1), 0#8]))) = [1, 2, 3, 4] ∧ held.lcpWaits = true ∧ kept.lcpWaits = false
    ∧ (kept.keptFor who rd).isSome = true ∧ (st []).keptFor who rd = none ∧ ((st []).serveBody who rd).map (fun r => (r.1.left, r.1.after)) = some (0, 0)
    ∧ leNat ((rd.drop 3).take 1) = 0 ∧ bitOf (leNat ((rd.drop 5).take 1)) 0 = false ∧ 4 ≤ (rd.drop 28).length ∧ 128 < count (ask 1 0 (items 129)) ∧ 64 < count (ask 2 0 (items 65))
    ∧ 16 < count (ask 3 0 (items 17)) ∧ 32 < count (ask 4 0 (items 33)) ∧ count (ask 4 0 (items 0)) = 0 ∧ (writeItems 2 ((two.drop 28).drop 4)).isSome = true
    ∧ bitOf (leNat ((two.drop 5).take 1)) 1 = true ∧ (∃ o ∈ ((st []).writeAll who ((writeItems 2 ((two.drop 28).drop 4)).getD [])).1, o.status ≠ 0)
    ∧ (st []).lcp.subs = [] ∧ (∀ x ∈ (st []).lcp.subs, (st []).subDue x = false) ∧ kept.lcp.subs ≠ [] ∧ (st []).lcp.bulk = [] ∧ kept.lcp.bulk ≠ [] ∧ (st []).lcp.kept = []
    ∧ kept.lcp.kept.getLast? = some ⟨who, 9, 1, [1#8, 2#8, 3#8, 4#8], 0⟩ ∧ 1 < 2 ∧ 1456 < 2 ^ 32 ∧ (st [(R.MBX_STATUS_Busy 1, 1)]).is (R.MBX_STATUS_Busy 1) = true
    ∧ (st [(R.MBX_CTRL_Enable 1, 0)]).is (R.MBX_STATUS_Busy 1) = false ∧ (st [(R.MBX_CTRL_Enable 1, 0)]).is (R.MBX_CTRL_Enable 1) = false ∧ mbx.is (R.MBX_CTRL_Enable 1) = true
    ∧ mbx.is (R.MBX_STATUS_Busy 1) = false ∧ 27 % 2048 < 28 ∧ 1456 < 1457 % 2048 ∧ 28 ≤ 28 % 2048 ∧ 1456 % 2048 ≤ 1456
    ∧ ((bytesOf (mbx.rdWords (R.MBX_REQ 1 0) 7)).take 28).take 3 ≠ [0x57#8, 0x4C#8, 1#8] := by unfold Ready; decide +kernel

-- ## The bus, the host ports and events

/-- A transaction with ID 5. -/
def trn (m : Nat) (w : Bool) (a width beats d : Nat) : BusAcc := ⟨m, 5, w, a, width, beats, d⟩

theorem witness_TransactionsAreChecked : let s := st []
    let busy := st [(R.RD_STATUS_Busy, 1)]
    let posted : State := { st [] with life := { posted := [⟨R.REF_CFG 3, 1, 0, 5⟩] } }
    let gone := trn 2 false 0x100000 4 1 0
    let sram := trn 0 true 0x100FFC 4 1 7
    let slow := trn 0 true (regBase + R.REF_CFG 3) 4 1 3
    let plain := trn 0 true (regBase + R.SET_SEC_LO) 4 1 7
    let passes := fun (a : BusAcc) (t : Nat) => s.canIssue a = true ∧ targetOf a.addr = some t ∧ s.pathOk a.master t a.addr = true ∧ a.addr % a.width = 0
      ∧ a.addr % 4096 + a.width * a.beats ≤ 4096
    (∀ x ∈ [s, busy, posted], Ready x) ∧ (∀ a ∈ [gone, sram, slow, plain], a.wf = true) ∧ s.canIssue gone = false ∧ targetOf 0x7000000 = none
    ∧ s.canIssue (trn 0 true 0x7000000 4 1 7) = true ∧ s.canIssue (trn 5 false 0x4000000 4 1 0) = true ∧ targetOf 0x4000000 = some 3 ∧ s.pathOk 5 3 0x4000000 = false
    ∧ targetOf 0x100001 = some 1 ∧ s.pathOk 0 1 0x100001 = true ∧ 0x100001 % 2 ≠ 0 ∧ 4096 < 0x100FFC % 4096 + 4 * 2 ∧ passes sram 1
    ∧ passes (trn 0 true 0x10 4 1 6) 0 ∧ passes (trn 0 true 0x6000000 4 1 6) 6 ∧ passes slow 4 ∧ passes (trn 0 true (regBase + R.REF_CFG 3) 4 2 3) 4
    ∧ regCanon (R.REF_CFG 3) = some (R.REF_CFG 3) ∧ slowBusy (R.REF_CFG 3) = some R.RD_STATUS_Busy ∧ s.powered (R.REF_CFG 3) = true
    ∧ s.is R.RD_STATUS_Busy = false ∧ busy.is R.RD_STATUS_Busy = true ∧ passes plain 3 ∧ regCanon R.SET_SEC_LO = some R.SET_SEC_LO ∧ s.powered R.SET_SEC_LO = true
    ∧ s.rseRead 0 R.SET_SEC_LO .clean = none ∧ (findRow (blockRows R.SET_SEC_LO) R.SET_SEC_LO).isSome = true ∧ 7 < 8
    ∧ (∀ p ∈ s.life.posted, slowIndex p.off ≠ 7) ∧ (∃ p ∈ posted.life.posted, slowIndex p.off = slowIndex (R.REF_CFG 3)) ∧ slowIndex (R.REF_CFG 3) < 8 := by
  unfold Ready; decide +kernel

theorem witness_TransactionsAreChecked_reads : let s := st []
    let posted : State := { st [] with life := { posted := [⟨R.REF_CFG 3, 1, 0, 5⟩] } }
    let passes := fun (a : BusAcc) (t : Nat) => s.canIssue a = true ∧ targetOf (s.landing a.master a.addr) = some t ∧ s.pathOk a.master t a.addr = true
      ∧ a.addr % a.width = 0 ∧ a.addr % 4096 + a.width * a.beats ≤ 4096 ∧ a.wf = true
    Ready s ∧ Ready posted ∧ posted.life.posted.filter (fun q => decide (slowIndex q.off = slowIndex (R.REF_CFG 3))) = ⟨R.REF_CFG 3, 1, 0, 5⟩ :: []
    ∧ passes (trn 0 false 0x8000000 4 1 0) 7 ∧ passes (trn 0 false 0x10 4 1 0) 0 ∧ passes (trn 0 false 0x100FFC 4 1 0) 1 ∧ passes (trn 0 false 0x6000000 4 1 0) 6
    ∧ passes (trn 0 true (regBase + R.REF_CFG 3) 2 1 0) 4
    ∧ (∀ x ∈ [0x10, 0x100FFC, 0x6000000, 0x8000000, 0x7000000, 0x4000000, 0x100001, regBase + R.REF_CFG 3, regBase + R.SET_SEC_LO], s.landing 0 x = x ∧ s.landing 5 x = x) := by
  unfold Ready; decide +kernel

theorem witness_PoolAndCoefficientTargets : let s := st []
    let ready := st [(R.BOB_STATUS_InitDone, 1), (R.BOB_CTRL_Enable, 1)]
    let words : List (BitVec 32) := wfSet (wfSet chainReset R.FC_CFG R.FC_CFG_Enable 1) R.FC_CFG R.FC_CFG_Length 2
    let run : State := { st [] with filt := { chains := [(1023, { cfg := words, eff := words })], bad := [1] } }
    let pool := fun (w : Nat) => trn 0 true 0x2000000 w 1 7
    let coef := fun (k : Nat) => trn 0 true (0x5000000 + 4 * k) 4 1 7
    let fit := fun (s : State) (a : BusAcc) => s.canIssue a = true ∧ a.addr % a.width = 0 ∧ a.addr % 4096 + a.width * a.beats ≤ 4096 ∧ a.master = 0 ∧ a.wf = true
    let jitter : State := { ready with queues := [(5, { state := 1, chain := [3] })] }
    let get := trn 0 false 0x2000000 4 1 0
    Ready jitter ∧ jitter.bobReady = true ∧ jitter.poolPuts (0x2000000 % 2 ^ 25 + 3 * 128) 7 1 = none ∧ fit jitter (trn 0 true (0x2000000 + 3 * 128) 4 1 7)
    ∧ (0x2000000 + 3 * 128) % 2 ^ 25 = 0x2000000 % 2 ^ 25 + 3 * 128 ∧ fit ready get ∧ targetOf get.addr = some 2 ∧ get.write = false ∧ 4 ≤ get.width
    ∧ (∀ x ∈ [s, ready, run], Ready x) ∧ targetOf (coef 0).addr ≠ some 2 ∧ targetOf (pool 4).addr ≠ some 5 ∧ fit s (pool 4) ∧ fit ready (pool 2) ∧ targetOf (pool 4).addr = some 2
    ∧ s.bobReady = false ∧ ready.bobReady = true ∧ (pool 2).width < 4 ∧ (ready.poolPuts ((pool 4).addr % 2 ^ 25) 7 1).isSome = true ∧ fit run (coef 1)
    ∧ targetOf (coef 1).addr = some 5 ∧ ¬ (run.coefLocked 1 = true ∧ run.filt.bad.contains 1 = false) ∧ run.coefLocked 0 = true ∧ run.filt.bad.contains 0 = false := by
  unfold Ready; decide +kernel

theorem witness_WindowLocksAreSemaphores : let a := st [(R.WIN_LOCK_Owner 7, 7), (R.WIN_LOCK_Owner 3, 4)]
    Ready a ∧ 6 < 7 ∧ 7 < 8 ∧ a.get (R.WIN_LOCK_Owner 0) = 0 ∧ a.get (R.WIN_LOCK_Owner 3) ≠ 0 ∧ a.get (R.WIN_LOCK_Owner 7) = 6 + 1
    ∧ a.get (R.WIN_LOCK_Owner 3) ≠ 6 + 1 := by unfold Ready; decide

theorem witness_SeveralCommandBitsActOnNone : Ready (st []) ∧ 0xFFFFFFFF < 2 ^ 32 ∧ 2 ≤ onesOf 3 2 ∧ 2 ≤ onesOf 3 3 ∧ 2 ≤ onesOf 12 4 ∧ 3 < 4 ∧ bitOf 3 0 = true ∧ bitOf 3 1 = true
    ∧ R.SE_CMD < 2 ^ 24 ∧ (st []).cmdMulti R.SE_CMD 4 = none := by unfold Ready; decide

/-- The SPI slave with trailing bytes held, and the lock of a window. -/
def spiAt (x : Nat) (b : List Byte) : State := { st [(R.WIN_LOCK_Owner 7, 4)] with host := { spi := some (x, b) } }

theorem witness_SpiFramesEndAtChipSelect : let x := regBase + R.SET_SEC_LO
    let r := fun (x : Nat) => ({ spiAt x [1#8, 2#8] with host := {} } : State).access (spiAcc true x 2 513) .clean
    (∀ s ∈ [st [], spiAt x [], spiAt x [1#8, 2#8], spiAt x [1#8, 2#8, 3#8], spiAt (x + 1) [1#8, 2#8]], Ready s) ∧ (st []).host.spi = none ∧ (spiAt x []).host.spi = some (x, [])
    ∧ (spiAt x [1#8, 2#8]).host.spi = some (x, [1#8, 2#8]) ∧ x % [1#8, 2#8].length = 0 ∧ (r x).1 = false ∧ (r 0).1 = true
    ∧ (spiAt x [1#8, 2#8, 3#8]).host.spi = some (x, [1#8, 2#8, 3#8]) ∧ (spiAt (x + 1) [1#8, 2#8]).host.spi = some (x + 1, [1#8, 2#8]) ∧ (x + 1) % 2 ≠ 0 := by
  unfold Ready; decide +kernel

theorem witness_HostPorts : let s := st []
    let off := st [(R.PWR_STATUS_On, 1)]
    let wr := fun (a : Nat) => s.access (spiAcc true (regBase + a) 4 (leNat [1#8, 2#8, 3#8, 4#8])) .clean
    let rd := fun (a : Nat) => s.access (spiAcc false (regBase + a) 4 0) .clean
    let held : State := { st [] with host := { spi := some (regBase + R.SET_SEC_LO, [1#8]) } }
    Ready held ∧ held.host.spi ≠ none ∧ Ready s ∧ Ready off ∧ R.SET_SEC_LO < 2 ^ 24 ∧ s.host.spi = none ∧ [1#8, 2#8, 3#8].length < 4 ∧ [1#8, 2#8, 3#8, 4#8].length = 4 ∧ (wr R.SET_SEC_LO).1 = false
    ∧ (wr (R.SET_SEC_LO + 1)).1 = true ∧ (rd R.SET_SEC_LO).1 = false ∧ (rd (R.SET_SEC_LO + 1)).1 = true ∧ 0xFF < 256
    ∧ 0xFF ∉ [0x02, 0x03, 0x05, 0x12, 0x13, 0x82, 0x83, 0x92, 0x93] ∧ off.powered R.PCIE_STATUS = false ∧ s.powered R.PCIE_STATUS = true ∧ 1 ≤ 3 ∧ 3 ≤ 3 ∧ 2 ≤ 2 := by
  unfold Ready; decide +kernel

theorem witness_EventsAndErrorRecords : let may := st [(R.PCIE_STATUS_LinkUp, 1), (R.PCIE_STATUS_MsixEnable, 1)]
    let rep := fun (b : Nat) => ({ code := 5, block := b, write := false, detail := 3, addr := 0x1234 } : ErrReport)
    let e : ErrRec := { w0 := 5, w1 := 6, w2 := 7, w3 := 8 }
    let a : State := { st [] with errWait := [rep 5, rep 3, rep 5], errFifo := [e] }
    let full : State := { a with errFifo := List.replicate 16 e }
    let first : State := { st [(R.ERR_STATUS_FirstValid, 1)] with errWait := [rep 3] }
    (∀ s ∈ [st [], may, a, full, first], Ready s) ∧ 0xFFFFFFFF < 2 ^ 32 ∧ 127 < 128 ∧ 3 < 4 ∧ 31 < 32 ∧ (may.is R.PCIE_STATUS_LinkUp = true ∧ may.is R.PCIE_STATUS_MsixEnable = true ∧ may.host.d3 = false)
    ∧ ¬ ((st []).is R.PCIE_STATUS_LinkUp = true ∧ (st []).is R.PCIE_STATUS_MsixEnable = true) ∧ bitOf 0xFFFFFFFF 31 = true ∧ ¬ (32 / 32 = 3 ∧ bitOf 0xFFFFFFFF (32 % 32) = true)
    ∧ (st []).errWait = [] ∧ nextReport a.errWait = some (rep 3) ∧ a.errFifo.length < 16 ∧ 16 ≤ full.errFifo.length ∧ first.is R.ERR_STATUS_FirstValid = true
    ∧ nextReport first.errWait = some (rep 3) ∧ a.is R.ERR_STATUS_FirstValid = false ∧ (st []).errFifo = [] ∧ a.errFifo = e :: []
    ∧ (first.rd (R.ERR_FIRST_W 0)).toNat % 65536 < 2 ^ 32 := by unfold Ready; decide

-- ## Power, resets, boot and fuses

/-- Power, reset and boot in a state. -/
def lifed (l : LifeSt) (fs : List (Fld × Nat)) : State := { st fs with life := l }

theorem witness_ResetsTakeTheirCauses : let a : State := { picks 5 [] with queues := [(3, { state := 1 }), (5, {})] }
    let no := ({ wdog := some (5, false) } : LifeSt)
    (⟨3, 1⟩ : Straps).wf = true ∧ (lifed { held := .thermal } []).life.held = .thermal ∧ (lifed { held := .xref } []).life.held = .xref
    ∧ ¬ (a.life.held = .thermal ∨ a.life.held = .xref) ∧ a.life.held ≠ .thermal ∧ a.life.held ≠ .xref ∧ Ready a ∧ (st []).queues = [] ∧ (a.queues.map Prod.fst).Nodup
    ∧ (a.queue 5).state = 0 ∧ Ready (lifed no []) ∧ (lifed no []).life.wdog = some (5, false) ∧ a.life.wdog = none ∧ a.life.fuse = none ∧ a.flash.busy = none
    ∧ (∀ s ∈ [a, lifed { held := .thermal } [], lifed { held := .xref } [], lifed no [], (lifed no []).xrefTo (5 + (lifed no []).wdogSpan)], s.sameCycle = none)
    ∧ Ready (lifed { rst := some (0, 4) } []) ∧ (lifed { rst := some (0, 4) } []).sameCycle = some 4 := by
  unfold Ready; decide

theorem witness_SuppliesBootAndDomains : let s := st []
    let w := fun (b : Bool) => lifed { wdog := some (5, b) } []
    let busy := st [(R.PCS_CTRL_Enable 0, 1)]
    let down := st [(R.PWR_STATUS_On, 1)]
    let boot := fun (m : Nat) => st [(R.FUSE_STATUS_ShadowValid, 1), (R.AON_BOOT_STATUS_Mode, m)]
    let old : State := { boot 0 with shadow := [(34, 7#32)] }
    let rec_ : State := { boot 3 with life := { stage := .rom }, recovering := true }
    let at5 := on rec_ [(R.MAC_STATUS_State 0, 5)]
    let msg := fun (k : Nat) (body : List Byte) => [0x57#8, 0x4C#8, 1#8, 3#8, BitVec.ofNat 8 k, 0#8] ++ leBytes 2 (44 + body.length) ++ List.replicate 20 0#8 ++ body ++ List.replicate 16 0#8
    let ld := msg 2 (leBytes 4 0xEFFFD ++ leBytes 2 3 ++ leBytes 2 0 ++ [1#8, 2#8, 3#8])
    let wide := msg 2 (leBytes 4 0 ++ leBytes 2 1025 ++ leBytes 2 0)
    let go : State := { st [(R.TIME_STATUS_TodValid, 1)] with life := { stage := .launched } }
    go.life.stage = .launched ∧ go.flash.boot = 255 ∧ go.is R.TIME_STATUS_TodValid = true ∧ s.is R.TIME_STATUS_TodValid = false ∧ s.sv.tod = none ∧
    at5.recoveryOk 2 wide = true ∧ 1024 < leNat ((wide.drop 32).take 2) ∧
    (∀ x ∈ [s, w true, w false, busy, down, boot 0, boot 1, boot 3, old, at5, lifed { stage := .launched } [], st [(R.AON_BOOT_STATUS_LoadWindow, 1)]], Ready x)
    ∧ 0x5A5A < 2 ^ 32 ∧ s.is R.AON_STATUS_Busy = false ∧ 7 % 65536 ≠ 0x5A5A ∧ 0x5A5A % 65536 = 0x5A5A ∧ bitsOf 10000 0 14 ≤ 10000 ∧ 10000 < bitsOf 10001 0 14 ∧ 6 ∉ [3, 4, 7, 10, 11] ∧ s.life.wdog = none
    ∧ (w true).life.wdog = some (5, true) ∧ (w false).life.wdog = some (5, false) ∧ 0 < 5 ∧ bitOf (busy.rd R.PWR_CTRL).toNat 0 = true ∧ bitOf 30 0 = false
    ∧ busy.domainFree 0 = false ∧ (∀ b, b < 5 → bitOf 31 b = false → s.domainFree b = true) ∧ bitOf (s.get R.PWR_STATUS_On) (pwrDomain 2) = true
    ∧ bitOf (down.rd R.PWR_CTRL).toNat 2 = true ∧ bitOf (down.get R.PWR_STATUS_On) (pwrDomain 2) = false
    ∧ (boot 0).is R.FUSE_STATUS_ShadowValid = true ∧ s.is R.FUSE_STATUS_ShadowValid = false ∧ s.life.stage = .reset ∧ old.lifecycle = 3 ∧ (boot 3).lifecycle ≠ 3
    ∧ (boot 3).get R.AON_BOOT_STATUS_Mode = 3 ∧ (boot 1).get R.AON_BOOT_STATUS_Mode = 1 ∧ (boot 0).get R.AON_BOOT_STATUS_Mode = 0
    ∧ s.is R.AON_BOOT_STATUS_LoadWindow = false ∧ (st [(R.AON_BOOT_STATUS_LoadWindow, 1)]).is R.AON_BOOT_STATUS_LoadWindow = true
    ∧ (∀ k ∈ [1, 2, 3], s.recoveryOk k [] = false) ∧ at5.recoveryOk 1 (msg 1 []) = true ∧ at5.recoveryOk 2 ld = true ∧ at5.recoveryOk 3 (msg 3 []) = true ∧ at5.lifecycle ≠ 3
    ∧ leNat ((ld.drop 32).take 2) ≤ 1024 ∧ 52 + leNat ((ld.drop 32).take 2) ≤ ld.length ∧ s.life.stage ≠ .launched
    ∧ (lifed { stage := .launched } []).life.stage = .launched ∧ s.flash.boot = 255 := by unfold Ready; decide +kernel

theorem witness_DozeAndFuses : let wake := [(R.AON_WAKE_CFG_MagicEn, 1), (R.AON_WAKE_CFG_WakePinEn, 1)]
    let dz := lifed { held := .doze } wake
    let magic := beBytes 6 0 ++ beBytes 6 7 ++ beBytes 2 0x0842 ++ List.replicate 6 0xFF#8 ++ (List.range 16).flatMap (fun _ => beBytes 6 0)
    let fused := fun (w k v : Nat) => ({ st [(R.FUSE_ADDR_Word, w)] with shadow := [(k, BitVec.ofNat 32 v)] } : State)
    let cold := (st [(R.FUSE_ADDR_Word, 64)]).putI (R.TEMP_Temp 0) (-30000)
    let op : FuseOp := ⟨64, 7, false⟩
    let s := st [(R.FUSE_ADDR_Word, 64)]
    (⟨3, 1⟩ : Straps).wf = true ∧ (∀ x ∈ [st [], st wake, s, cold, fused 3 36 0xFFFFFFFF, fused 3 34 7, fused 64 34 3, lifed { fuse := some op } []], Ready x)
    ∧ (st []).is R.AON_STATUS_Busy = false ∧ (st []).is R.AON_WAKE_CFG_MagicEn = false ∧ (st []).get R.AON_WAKE_CFG_PatternEn = 0 ∧ (st []).is R.AON_WAKE_CFG_WakePinEn = false
    ∧ (st wake).is R.AON_WAKE_CFG_MagicEn = true ∧ bitOf ((st wake).get R.PWR_STATUS_On) (3 + (st wake).get R.AON_WAKE_CFG_Port / 2) = true
    ∧ (st []).life.held ≠ .doze ∧ dz.life.held = .doze ∧ dz.is R.AON_WAKE_CFG_WakePinEn = true ∧ dz.wakeBits magic ≠ 0
    ∧ s.is R.FUSE_STATUS_Busy = false ∧ (fused 3 36 0xFFFFFFFF).fuseLocked 3 = true ∧ (fused 3 34 7).fuseLocked 3 = false ∧ (fused 3 34 7).fuseWordOk 3 = false
    ∧ s.fuseLocked 64 = false ∧ s.fuseWordOk 64 = true ∧ cold.fuseLocked 64 = false ∧ cold.fuseWordOk 64 = true ∧ cold.fuseTemp = true ∧ s.fuseTemp = false
    ∧ s.advanceOk = false ∧ (fused 64 34 3).advanceOk = true ∧ (fused 64 34 3).fuseTemp = false ∧ s.life.fuse = none ∧ (lifed { fuse := some op } []).life.fuse = some op
    ∧ op.asked = false ∧ BitVec.ofNat 32 op.bits &&& BitVec.ofNat 32 7 &&& ~~~ (tget 0#32 (lifed { fuse := some op } []).otp op.word) ≠ 0#32
    ∧ (let hot := (fused 64 34 3).putI (R.TEMP_Temp 0) (-30000); Ready hot ∧ hot.advanceOk = true ∧ hot.fuseTemp = true)
    ∧ (if false then dz.wakeBits magic else 0) + (if false && dz.is R.AON_WAKE_CFG_WakePinEn then 0x20 else 0) = 0 := by unfold Ready; decide +kernel

-- ## Single commands and worked examples of the spec

/-- A command's next state holds a property. -/
def gives (c : Instr) (s : State) (p : State → Bool) : Bool := match exec c s with
  | .next t => p t
  | _ => false

/-- A refused term. -/
theorem test_ill_formed_refused : exec (.patternSave 8) State.reset = .refused .illFormed := rfl

/-- The step takes the front of the queue: the first of two. -/
theorem test_first_in_first_out : (match step { State.reset with pending := [.winLockAcquire 3 7, .winLockRelease 3 7] } with
    | .next t => decide (t.pending = [.winLockRelease 3 7] ∧ t.get (R.WIN_LOCK_Owner 7) = 4)
    | _ => false) = true := by decide +kernel

/-- One CCLK is 1.6 ns: 104,857.6 units of 2^-16 ns, so five of them are 524,288. -/
theorem test_five_cycles_are_eight_nanoseconds : (State.reset.tick.tick.tick.tick.tick).time.tai = 8 * 65536 := by decide +kernel

/-- 06_stream_receive.md: fading x = 0x1000_0000 over L = 48. -/
theorem test_conceal_fade : (conceal 2 48 1 0x10000000#32).toInt = 262843051 ∧ (conceal 2 48 24 0x10000000#32).toInt = 134217728
    ∧ conceal 2 48 48 0x10000000#32 = 0#32 ∧ (conceal 2 48 1 0xF0000000#32).toInt = -262843051 := by decide +kernel

/-- 05_network_ports.md: a harvest of RX_OCTETS_OK at 0x8225_5100 leaves 0x0225_5100. -/
theorem test_counter_harvest : gives (.counterHarvest 0 0) (st [(R.PORT_CNT_Count 0 0, 0x82255100)]) (fun t =>
    decide (t.get (R.PORT_CNT_Count 0 0) = 0x02255100 ∧ t.outbox = [.readData (R.PORT_HARVEST 0 0) 0x82255100])) = true := by decide +kernel

/-- 09_heddle_matrix.md: the ring of DelayCap 50,379; g at k = 240 of 480 under the dB law from the floor to 0x0800_0000; and y of destination 12 with sources 100
and 101 under group 3. -/
theorem test_ring_cells : ringCells 50379 = 1575 := by decide

theorem test_db_ramp : ({ g0 := 0, g1 := 0x08000000, s := 1, n := 480, db := true } : Ramp).at_ 240 = 185364 := by decide +kernel

theorem test_mix_sum : (({ st [] with heddle := { groups := [(3, { g0 := 0x0B504F33, g1 := 0x0B504F33 })], xps := [⟨12, 100, 3, { g0 := 0x08000000, g1 := 0x08000000 }⟩, ⟨12, 101, 3, { g0 := 0x08000000, g1 := 0x08000000 }⟩] } } : State).mixSum
      [(100, 0x10000000#32), (101, 0x0C000000#32)] 12 7).1.toInt = 166085966 := by decide +kernel

/-- 17_host_bus_registers.md: 0x02_1040 in WARP reaches SE_CTRL at 0x040. -/
theorem test_region_repeats : regCanon 0x21040 = some R.SE_CTRL := by decide +kernel

/-- R150: CRC-32C of the nine digits, the polynomial's published check value. -/
theorem test_crc32c : crc32c [0x31#8, 0x32#8, 0x33#8, 0x34#8, 0x35#8, 0x36#8, 0x37#8, 0x38#8, 0x39#8] = 0xE3069283 := by decide +kernel

/-- The request and the reply's body of 16_object_dictionary.md: PickNow and StreamPdv of stream 7. -/
theorem test_read_two_objects :
    let req := lcpHeader 0 1 0 56 66 0xFFFF 31 0x101 1800000000050000000 ++ [2#8, 0#8, 0#8, 0#8, 0x01#8, 0x20#8, 0#8, 0#8, 0x50#8, 0x40#8, 8#8, 0#8]
    req.take 20 = [0x57#8, 0x4C#8, 1#8, 0#8, 1#8, 0#8, 0x38#8, 0#8, 0x42#8, 0#8, 0xFF#8, 0xFF#8, 0x1F#8, 0#8, 0#8, 0#8, 1#8, 1#8, 0#8, 0#8]
    ∧ gives (.read (.net 0 5 6 0xFFFF) req) { (st [(R.SH_UNIT_Unit, 31)]).setObj 0x1200 0 66 with time := { pick := 172800000004819 }, rx := [(7, { stat := [0, 0, 7150, 0, 0] })] }
        (fun t : State => match t.fwFrames 0 with
          | [⟨.lcp 0 5 6 m, _, _, _, _⟩] => decide (m.length = 76 ∧ m.take 20 = [0x57#8, 0x4C#8, 1#8, 0#8, 1#8, 1#8, 0x4C#8, 0#8, 0x42#8, 0#8, 0x1F#8, 0#8, 0xFF#8, 0xFF#8, 0#8, 0#8, 1#8, 1#8, 0#8, 0#8]
              ∧ (m.drop 28).take 32 = [0#8, 0#8, 2#8, 0#8, 0#8, 0#8, 10#8, 0#8, 8#8, 0#8, 0#8, 0#8] ++ leBytes 8 172800000004819
                ++ [0#8, 0#8, 4#8, 0#8, 4#8, 0#8, 0#8, 0#8, 0xEE#8, 0x1B#8, 0#8, 0#8])
          | _ => false) = true := by decide +kernel

end Sys2Proof.Tests
end

section
/-!
PROOF. What the filter engine's proofs need of tables, of registers and of the end of a command.
-/
namespace Sys2Proof.Machine

-- ## Tables

/-- What a table holds at the number it was changed at. -/
@[simp] theorem tget_tupd_same {β : Type} [DecidableEq β] (d : β) (a : Nat) (f : β → β) (t : List (Nat × β)) :
    tget d (tupd d a f t) a = f (tget d t a) := tget_tput_same _ _ _ _

/-- A table changed everywhere by a function that leaves what an unlisted number reads as. -/
theorem tget_map {β : Type} (d : β) (g : β → β) (hd : g d = d) (t : List (Nat × β)) (a : Nat) :
    tget d (t.map (fun e => (e.1, g e.2))) a = g (tget d t a) := by
  induction t with
  | nil => exact hd.symm
  | cons e r ih =>
    simp only [List.map_cons, tget, ih]
    split <;> rfl

-- ## Registers

/-- A field is below two to its width. -/
theorem State.get_mod (s : State) (f : Fld) : s.get f % 2 ^ f.wid = s.get f := by
  simp [State.get, bitsOf]

/-- Two states differ in register words only. -/
def RegsOnly (s t : State) : Prop := ({ t with regs := s.regs } : State) = s

theorem RegsOnly.refl' (s : State) : RegsOnly s s := rfl

theorem RegsOnly.put' {s t : State} (h : RegsOnly s t) (f : Fld) (v : Nat) : RegsOnly s (t.put f v) := h

theorem RegsOnly.putB' {s t : State} (h : RegsOnly s t) (f : Fld) (b : Bool) : RegsOnly s (t.putB f b) := h.put' f _

theorem RegsOnly.filt {s t : State} (h : RegsOnly s t) : t.filt = s.filt := by
  have e := congrArg State.filt h; exact e

theorem RegsOnly.det {s t : State} (h : RegsOnly s t) : t.det = s.det := by
  have e := congrArg State.det h; exact e

theorem RegsOnly.src {s t : State} (h : RegsOnly s t) : t.src = s.src := by
  have e := congrArg State.src h; exact e

theorem RegsOnly.dst {s t : State} (h : RegsOnly s t) : t.dst = s.dst := by
  have e := congrArg State.dst h; exact e

/-- What every step of a fold keeps, the fold keeps. -/
theorem State.forL_keeps {α γ : Type} (p : State → γ) (f : α → State → State) (h : ∀ a t, p (f a t) = p t) (xs : List α) :
    ∀ s : State, p (s.forL xs f) = p s := by
  induction xs with
  | nil => exact fun _ => rfl
  | cons x r ih => exact fun s => (ih (f x s)).trans (h x s)

-- ## The end of a command

/-- A command that ends in u gives what holds of u once interrupts are settled. -/
theorem Gives.of_done {c : Instr} {s u : State} {P : State → Prop} (h : exec c s = u.done) (hp : P u.settle) : Gives c s P :=
  ⟨u.settle, h, hp⟩

theorem Ends.of_done {c : Instr} {s u : State} (h : exec c s = u.done) : Ends c s u := h

/-- Where only the filter engine's state changed, nothing else differs at the command's end. -/
theorem State.updF_onlyRegs (s : State) (f : Filt → Filt) : OnlyRegs [] s { (s.updF f).settle with filt := s.filt } :=
  ⟨fun _ _ ha => (s.updF f).settle_rd ha, congrArg (fun t : State => { t with filt := s.filt }) (s.updF f).settle_msix.2.2.2⟩

/-- Where only Heddle's state changed, nothing else differs at the command's end. -/
theorem State.updH_onlyRegs (s : State) (f : Heddle → Heddle) : OnlyRegs [] s { (s.updH f).settle with heddle := s.heddle } :=
  ⟨fun _ _ ha => (s.updH f).settle_rd ha, congrArg (fun t : State => { t with heddle := s.heddle }) (s.updH f).settle_msix.2.2.2⟩

-- ## Where chains, detectors and destinations are read from

@[simp] theorem State.chain_settle (s : State) (j : Nat) : s.settle.chain j = s.chain j := by simp [State.chain]

@[simp] theorem State.detEnt_settle (s : State) (e : Nat) : s.settle.detEnt e = s.detEnt e := by simp [State.detEnt]

@[simp] theorem State.dest_settle (s : State) (d : Nat) : s.settle.dest d = s.dest d := by simp [State.dest]

@[simp] theorem State.chain_bump (s : State) (f : Fld) (j : Nat) : (s.bump f).chain j = s.chain j := rfl

@[simp] theorem State.chain_report (s : State) (e : ErrReport) (j : Nat) : (s.report e).chain j = s.chain j := rfl

@[simp] theorem State.chain_updChain_same (s : State) (j : Nat) (f : Chain → Chain) : (s.updChain j f).chain j = f (s.chain j) :=
  tget_tupd_same _ _ _ _

@[simp] theorem State.dest_updDest_same (s : State) (d : Nat) (f : Dest → Dest) : (s.updDest d f).dest d = f (s.dest d) :=
  tget_tupd_same _ _ _ _

/-- The status of FILT is shown in registers, and nothing else changes. -/
theorem State.filtStatus_regsOnly (s : State) : RegsOnly s s.filtStatus := by
  unfold State.filtStatus
  extract_lets es bs s1 s2 s3 s4
  have h1 : RegsOnly s s1 := ((RegsOnly.refl' s).put' _ _).put' _ _
  have h2 : RegsOnly s s2 := h1.putB' _ _
  have h3 : RegsOnly s s3 := (h2.put' _ _).put' _ _
  have h4 : RegsOnly s s4 := (h3.put' _ _).put' _ _
  have h5 := (h4.put' R.FILT_BQCOST_Mac (sbqOf es)).put' R.FILT_HIST_USED_Words (histOf es)
  exact h5.put' _ _

@[simp] theorem State.filtStatus_filt (s : State) : s.filtStatus.filt = s.filt := s.filtStatus_regsOnly.filt

@[simp] theorem State.filtStatus_det (s : State) : s.filtStatus.det = s.det := s.filtStatus_regsOnly.det

@[simp] theorem State.chain_filtStatus (s : State) (j : Nat) : s.filtStatus.chain j = s.chain j := by
  simp only [State.chain, State.filtStatus_filt]

@[simp] theorem State.detEnt_filtStatus (s : State) (e : Nat) : s.filtStatus.detEnt e = s.detEnt e := by
  simp only [State.detEnt, State.filtStatus_det]

end Sys2Proof.Machine
end

section
/-!
PROOF. One run of a filter chain (R20, R245): the branches of `State.chainRun`, and what a run leaves alone.
-/
namespace Sys2Proof.Machine

-- ## The start of a run

/-- The engine's state once a run has met what `ecc` says: a coefficient word found uncorrectable is noted. -/
def Filt.noted (e : Filt) : ChainEcc → Filt
  | .coef w => { e with bad := if e.bad.contains w then e.bad else e.bad ++ [w] }
  | _ => e

theorem Filt.noted_chains (e : Filt) (ecc : ChainEcc) : (e.noted ecc).chains = e.chains := by
  cases ecc <;> rfl

/-- A chain whose run for index n has begun: a state word that was reset has been rewritten (R245). -/
def Chain.begun (c : Chain) (n : Nat) : Chain :=
  { c with ran := some n, poison := if c.poison = some none then none else c.poison }

/-- The engine's state in which chain j's run for index n has begun. -/
def Filt.chainBegun (e : Filt) (j n : Nat) (ecc : ChainEcc) : Filt :=
  { e.noted ecc with chains := tupd {} j (fun c => c.begun n) (e.noted ecc).chains }

/-- The state in which chain j's run for index n has begun. -/
def State.chainBegun (s : State) (j n : Nat) (ecc : ChainEcc) : State := s.updF (fun e => e.chainBegun j n ecc)

/-- The engine runs chain j for index n: it is on, the chain is enabled, and it has not run for n (R20, R241). -/
def State.chainDue (s : State) (j n : Nat) : Prop :=
  s.filt.on = true ∧ fcOn (s.chain j).eff = true ∧ (s.chain j).ran ≠ some n

/-- The guard of a run, as the model writes it. -/
theorem State.not_chainDue_iff (s : State) (j n : Nat) :
    ((!s.filt.on) = true ∨ ¬ fcOn (s.chain j).eff = true ∨ (s.chain j).ran = some n) ↔ ¬ s.chainDue j n := by
  simp only [State.chainDue, Bool.not_eq_true', ← Bool.not_eq_true, not_and_or, not_not, ne_eq]

/-- A chain that is due passes the guard. -/
theorem State.chainDue.guard {s : State} {j n : Nat} (h : s.chainDue j n) :
    ¬ ((!s.filt.on) = true ∨ ¬ fcOn (s.chain j).eff = true ∨ (s.chain j).ran = some n) := mt (s.not_chainDue_iff j n).1 (not_not.2 h)

theorem State.chain_chainBegun (s : State) (j n : Nat) (ecc : ChainEcc) : (s.chainBegun j n ecc).chain j = (s.chain j).begun n := by
  refine (tget_tupd_same ({} : Chain) j (fun c => c.begun n) (s.filt.noted ecc).chains).trans ?_
  rw [Filt.noted_chains]
  rfl

theorem State.chainBegun_coef (s : State) (j n : Nat) (ecc : ChainEcc) : (s.chainBegun j n ecc).filt.coef = s.filt.coef := by
  cases ecc <;> rfl

theorem State.chainBegun_period (s : State) (j n : Nat) (ecc : ChainEcc) : (s.chainBegun j n ecc).filt.period = s.filt.period := by
  cases ecc <;> rfl

/-- A chain's response depends on the coefficient words only. -/
theorem State.chainOut_congr {s t : State} (h : t.filt.coef = s.filt.coef) (c : Chain) (n : Nat) (x : Int) :
    t.chainOut c n x = s.chainOut c n x := by
  have hc : t.coefs = s.coefs := by unfold State.coefs State.coefAt; rw [h]
  unfold State.chainOut State.instRun; rw [hc]

-- ## The branches of a run

/-- A run's output goes to source slot 6,720 + j (R20). -/
def State.chainPut (s : State) (j : Nat) (r : Int × Bool × Chain) : State :=
  { s.updChain j (fun _ => r.2.2) with src := tput 0#32 (6720 + j) (BitVec.ofInt 32 r.1) s.src }

/-- The same, with saturation counted (R248). -/
def State.chainStore (s : State) (j : Nat) (r : Int × Bool × Chain) : State :=
  if r.2.1 then (s.chainPut j r).bump R.CNT_FILT_SAT_Count else s.chainPut j r

theorem State.chainBegun_not_poisoned {s : State} {j n : Nat} (hp : ((s.chain j).begun n).poison = none) (ecc : ChainEcc) :
    ¬ ((s.chainBegun j n ecc).chain j).poison.isSome = true := by
  rw [s.chain_chainBegun, hp]; simp

/-- The input of chain j: what its destination slot holds (R20). -/
def State.chainIn (s : State) (j : Nat) : Int := (tget 0#32 s.dst (6720 + j)).toInt

/-- A chain that is not due is not run. -/
theorem State.chainRun_idle {s : State} {j n : Nat} (h : ¬ s.chainDue j n) (ecc : ChainEcc) : s.chainRun j n ecc = s :=
  if_pos ((s.not_chainDue_iff j n).2 h)

section
variable {s : State} {j n : Nat} (h : s.chainDue j n)
include h

/-- A poisoned chain begins its run and gives nothing (R245). -/
theorem State.chainRun_poisoned (ecc : ChainEcc) (hp : ((s.chain j).begun n).poison.isSome = true) :
    s.chainRun j n ecc = s.chainBegun j n ecc := by
  rw [← s.chain_chainBegun j n ecc] at hp
  refine (if_neg h.guard).trans ?_
  cases ecc <;> exact if_pos hp

variable (hp : ((s.chain j).begun n).poison = none)
include hp

/-- An uncorrectable state word poisons the chain (R245). -/
theorem State.chainRun_chainState : s.chainRun j n .chainState = (s.chainBegun j n .chainState).chainPoison j none :=
  (if_neg h.guard).trans
    ((if_neg (State.chainBegun_not_poisoned hp .chainState)).trans (if_pos rfl))

/-- An uncorrectable coefficient word that the chain reads poisons it (R245). -/
theorem State.chainRun_coefBad {ecc : ChainEcc} (he : ecc ≠ .chainState) {w : Nat}
    (hw : (s.updF (fun e => e.noted ecc)).chainBad ((s.chain j).begun n) = some w) :
    s.chainRun j n ecc = (s.chainBegun j n ecc).chainPoison j (some w) := by
  have hb : (s.chainBegun j n ecc).chainBad ((s.chainBegun j n ecc).chain j) = some w := by
    rw [s.chain_chainBegun]; exact hw
  have hk := State.chainBegun_not_poisoned hp ecc
  refine (if_neg h.guard).trans ?_
  cases ecc with
  | chainState => exact absurd rfl he
  | _ =>
    refine (if_neg hk).trans ((if_neg he).trans ?_)
    split
    · rename_i v hv
      obtain rfl := Option.some.inj (hb.symm.trans hv)
      rfl
    · rename_i hv
      cases hb.symm.trans hv

/-- A chain that meets no bad word gives its response (R20). -/
theorem State.chainRun_output {ecc : ChainEcc} (he : ecc ≠ .chainState)
    (hw : (s.updF (fun e => e.noted ecc)).chainBad ((s.chain j).begun n) = none) :
    s.chainRun j n ecc = (s.chainBegun j n ecc).chainStore j (s.chainOut ((s.chain j).begun n) n (s.chainIn j)) := by
  have hb : (s.chainBegun j n ecc).chainBad ((s.chainBegun j n ecc).chain j) = none := by
    rw [s.chain_chainBegun]; exact hw
  have hk := State.chainBegun_not_poisoned hp ecc
  rw [← State.chainOut_congr (s.chainBegun_coef j n ecc), ← s.chain_chainBegun j n ecc]
  refine (if_neg h.guard).trans ?_
  cases ecc with
  | chainState => exact absurd rfl he
  | _ =>
    refine (if_neg hk).trans ((if_neg he).trans ?_)
    split
    · rename_i v hv
      cases hb.symm.trans hv
    · rfl

end

/-- All that a run can do. -/
theorem State.chainRun_cases (s : State) (j n : Nat) (ecc : ChainEcc) :
    s.chainRun j n ecc = s ∨ s.chainRun j n ecc = s.chainBegun j n ecc
      ∨ (∃ w, s.chainRun j n ecc = (s.chainBegun j n ecc).chainPoison j w)
      ∨ s.chainRun j n ecc = (s.chainBegun j n ecc).chainStore j (s.chainOut ((s.chain j).begun n) n (s.chainIn j)) := by
  by_cases h : s.chainDue j n
  · refine .inr ?_
    cases hp : ((s.chain j).begun n).poison with
    | some p => exact .inl (State.chainRun_poisoned h ecc (by simp [hp]))
    | none =>
      refine .inr ?_
      by_cases he : ecc = .chainState
      · subst he
        exact .inl ⟨none, State.chainRun_chainState h hp⟩
      · cases hw : (s.updF (fun e => e.noted ecc)).chainBad ((s.chain j).begun n) with
        | some w => exact .inl ⟨some w, State.chainRun_coefBad h hp he hw⟩
        | none => exact .inr (State.chainRun_output h hp he hw)
  · exact .inl (State.chainRun_idle h ecc)

-- ## What a run leaves alone

/-- The first index and the length of a fade. -/
def ChFade.span (f : ChFade) : Nat × Nat := (f.s, f.n)

/-- A chain's accepted words, and where its fade and its closing cross-fade lie, are the same. -/
structure Chain.SameDates (c d : Chain) : Prop where
  cfg : d.cfg = c.cfg
  closing : d.closing = c.closing
  fade : d.fade.map ChFade.span = c.fade.map ChFade.span

theorem Chain.SameDates.refl' (c : Chain) : c.SameDates c := ⟨rfl, rfl, rfl⟩

theorem Chain.SameDates.trans' {c d e : Chain} (h : c.SameDates d) (k : d.SameDates e) : c.SameDates e :=
  ⟨k.cfg.trans h.cfg, k.closing.trans h.closing, k.fade.trans h.fade⟩

theorem Chain.begun_sameDates (c : Chain) (n : Nat) : c.SameDates (c.begun n) := ⟨rfl, rfl, rfl⟩

theorem Chain.zero_sameDates (c : Chain) (p : Option (Option Nat)) : c.SameDates { c.zero with poison := p } :=
  ⟨rfl, rfl, by cases h : c.fade <;> simp [Chain.zero, h, ChFade.span]⟩

/-- A response changes what the chain remembers, and no date. -/
theorem State.chainOut_keeps (s : State) (c : Chain) (n : Nat) (x : Int) :
    c.SameDates (s.chainOut c n x).2.2 ∧ (s.chainOut c n x).2.2.ran = c.ran := by
  unfold State.chainOut
  split
  · dsimp only
    split
    · split <;> exact ⟨⟨rfl, rfl, rfl⟩, rfl⟩
    · exact ⟨⟨rfl, rfl, rfl⟩, rfl⟩
  · cases hs : c.shadow <;> exact ⟨⟨rfl, rfl, by cases h : c.fade <;> simp [ChFade.span]⟩, rfl⟩

theorem State.chain_chainPoison (s : State) (j : Nat) (w : Option Nat) :
    (s.chainPoison j w).chain j = { (s.chain j).zero with poison := some w } := by
  unfold State.chainPoison
  rw [State.chain_report, State.chain_bump, State.chain_updChain_same]

theorem State.chainPoison_filt (s : State) (j : Nat) (w : Option Nat) :
    (s.chainPoison j w).filt = (s.updChain j (fun c => { c.zero with poison := some w })).filt := by
  unfold State.chainPoison
  rw [State.report_filt, State.bump_filt]

theorem State.chainPoison_det (s : State) (j : Nat) (w : Option Nat) : (s.chainPoison j w).det = s.det := by
  unfold State.chainPoison
  rw [State.report_det, State.bump_det]
  rfl

theorem State.chainPoison_src (s : State) (j : Nat) (w : Option Nat) : (s.chainPoison j w).src = s.src := by
  unfold State.chainPoison
  rw [State.report_src, State.bump_src]
  rfl

theorem State.chainPoison_dst (s : State) (j : Nat) (w : Option Nat) : (s.chainPoison j w).dst = s.dst := by
  unfold State.chainPoison
  rw [State.report_dst, State.bump_dst]
  rfl

/-- A poisoning is counted (R245). -/
theorem State.chainPoison_count (s : State) (j : Nat) (w : Option Nat) :
    (s.chainPoison j w).get R.CNT_FILT_POISON_Count = (s.get R.CNT_FILT_POISON_Count + 1) % 2 ^ 32 := by
  unfold State.chainPoison
  rw [State.get_report, State.get_bump_same _ _ (by decide)]
  rfl

/-- A poisoning is recorded (R245). -/
theorem State.chainPoison_errWait (s : State) (j : Nat) (w : Option Nat) :
    (s.chainPoison j w).errWait = s.errWait ++ [{ code := 0x14, block := 17, write := false, aux := j }] := by
  unfold State.chainPoison
  rw [State.report_errWait, State.bump_errWait]
  rfl

theorem State.chain_chainPut (s : State) (j : Nat) (r : Int × Bool × Chain) : (s.chainPut j r).chain j = r.2.2 :=
  s.chain_updChain_same j (fun _ => r.2.2)

/-- Counting saturation shows in a register only. -/
theorem State.chainStore_regsOnly (s : State) (j : Nat) (r : Int × Bool × Chain) : RegsOnly (s.chainPut j r) (s.chainStore j r) := by
  unfold State.chainStore
  split
  · exact (RegsOnly.refl' _).put' _ _
  · exact RegsOnly.refl' _

theorem State.chain_chainStore (s : State) (j : Nat) (r : Int × Bool × Chain) : (s.chainStore j r).chain j = r.2.2 := by
  rw [State.chain, (s.chainStore_regsOnly j r).filt]
  exact s.chain_chainPut j r

/-- Saturation is counted, once for a run (R248). -/
theorem State.chainStore_sat (s : State) (j : Nat) (r : Int × Bool × Chain) :
    (s.chainStore j r).get R.CNT_FILT_SAT_Count = (s.get R.CNT_FILT_SAT_Count + (if r.2.1 then 1 else 0)) % 2 ^ 32 := by
  unfold State.chainStore
  split
  · exact State.get_bump_same _ R.CNT_FILT_SAT_Count (by decide)
  · exact (s.get_mod R.CNT_FILT_SAT_Count).symm

/-- A run leaves the Realign period of the engine alone. -/
theorem State.chainRun_period (s : State) (j n : Nat) (ecc : ChainEcc) : (s.chainRun j n ecc).filt.period = s.filt.period := by
  obtain h | h | ⟨w, h⟩ | h := s.chainRun_cases j n ecc <;> rw [h]
  · exact s.chainBegun_period j n ecc
  · rw [State.chainPoison_filt]; exact s.chainBegun_period j n ecc
  · rw [(State.chainStore_regsOnly _ _ _).filt]; exact s.chainBegun_period j n ecc

/-- A run leaves the detectors alone. -/
theorem State.chainRun_det (s : State) (j n : Nat) (ecc : ChainEcc) : (s.chainRun j n ecc).det = s.det := by
  obtain h | h | ⟨w, h⟩ | h := s.chainRun_cases j n ecc <;> rw [h]
  · rfl
  · rw [State.chainPoison_det]; rfl
  · rw [(State.chainStore_regsOnly _ _ _).det]; rfl

/-- A run moves no date of its chain. -/
theorem State.chainRun_sameDates (s : State) (j n : Nat) (ecc : ChainEcc) : (s.chain j).SameDates ((s.chainRun j n ecc).chain j) := by
  obtain h | h | ⟨w, h⟩ | h := s.chainRun_cases j n ecc <;> rw [h]
  · exact Chain.SameDates.refl' _
  · rw [s.chain_chainBegun]; exact Chain.begun_sameDates _ _
  · rw [State.chain_chainPoison, s.chain_chainBegun]; exact (Chain.begun_sameDates _ n).trans' (Chain.zero_sameDates _ _)
  · rw [State.chain_chainStore]; exact (Chain.begun_sameDates _ n).trans' (s.chainOut_keeps _ n _).1

/-- What every run keeps, the filter phase keeps. -/
theorem State.filterPhase_keeps {γ : Type} (p : State → γ) (h : ∀ (t : State) (j n : Nat), p (t.chainRun j n .clean) = p t) (s : State) :
    p s.filterPhase = p s := by
  unfold State.filterPhase
  split
  · rename_i n _
    exact State.forL_keeps (α := Nat × Chain) p (fun e t => t.chainRun e.1 n .clean) (fun e t => h t e.1 n) _ s
  · rfl

theorem State.filterPhase_period (s : State) : s.filterPhase.filt.period = s.filt.period :=
  State.filterPhase_keeps (fun t => t.filt.period) (fun t j n => t.chainRun_period j n .clean) s

theorem State.filterPhase_det (s : State) : s.filterPhase.det = s.det :=
  State.filterPhase_keeps State.det (fun t j n => t.chainRun_det j n .clean) s

end Sys2Proof.Machine
end

section
/-!
PROOF. FILTER_CHAIN_START (R20, R245): what the command answers in each branch of a run.
-/
namespace Sys2Proof.Machine

/-- Chain j has been poisoned by word w (none: a state word) in its run for index n: its state is 0, it gives nothing, and the poisoning
is counted and recorded (R245). -/
def State.Poisoned (s : State) (j n : Nat) (w : Option Nat) (t : State) : Prop :=
  t.chain j = { ((s.chain j).begun n).zero with poison := some w } ∧ t.src = s.src ∧ t.dst = s.dst
    ∧ t.get R.CNT_FILT_POISON_Count = (s.get R.CNT_FILT_POISON_Count + 1) % 2 ^ 32
    ∧ t.errWait = s.errWait ++ [{ code := 0x14, block := 17, write := false, aux := j }]

/-- Chain j has given its response at index n: its source slot holds it, and saturation is counted (R20, R248). -/
def State.Responded (s : State) (j n : Nat) (t : State) : Prop :=
  (t.chain j).ran = some n
    ∧ tget 0#32 t.src (6720 + j) = BitVec.ofInt 32 (s.chainOut ((s.chain j).begun n) n (s.chainIn j)).1 ∧ t.dst = s.dst
    ∧ t.get R.CNT_FILT_SAT_Count = (s.get R.CNT_FILT_SAT_Count
        + (if (s.chainOut ((s.chain j).begun n) n (s.chainIn j)).2.1 then 1 else 0)) % 2 ^ 32

theorem State.chainPoison_poisoned (s : State) (j n : Nat) (ecc : ChainEcc) (w : Option Nat) :
    s.Poisoned j n w ((s.chainBegun j n ecc).chainPoison j w).settle := by
  refine ⟨?_, ?_, ?_, ?_, ?_⟩
  · rw [State.chain_settle, State.chain_chainPoison, State.chain_chainBegun]
  · rw [State.settle_src, State.chainPoison_src]; rfl
  · rw [State.settle_dst, State.chainPoison_dst]; rfl
  · rw [State.settle_get _ (by decide), State.chainPoison_count]; rfl
  · rw [State.settle_errWait, State.chainPoison_errWait]; rfl

theorem State.chainStore_responded (s : State) (j n : Nat) (ecc : ChainEcc) :
    s.Responded j n ((s.chainBegun j n ecc).chainStore j (s.chainOut ((s.chain j).begun n) n (s.chainIn j))).settle := by
  have hr := (s.chainBegun j n ecc).chainStore_regsOnly j (s.chainOut ((s.chain j).begun n) n (s.chainIn j))
  refine ⟨?_, ?_, ?_, ?_⟩
  · rw [State.chain_settle, State.chain_chainStore, (s.chainOut_keeps _ n _).2]; rfl
  · rw [State.settle_src, hr.src]; exact tget_tput_same _ _ _ _
  · rw [State.settle_dst, hr.dst]; rfl
  · rw [State.settle_get _ (by decide), State.chainStore_sat]; rfl

section
variable {s : State} {j : Nat} (hs : Ready s) (hj : j < 1024)
include hs hj

theorem exec_filterChainStart_before (hn : s.heddle.last = none) (ecc : ChainEcc) : exec (.filterChainStart j ecc) s = s.done := by
  refine (s.accept_live _ _ (decide_eq_true hj) hs).trans ?_
  simp only [hn]

theorem exec_filterChainStart {n : Nat} (hn : s.heddle.last = some n) (ecc : ChainEcc) :
    exec (.filterChainStart j ecc) s = (if s.time.running then s.chainRun j n ecc else s).done := by
  refine (s.accept_live _ _ (decide_eq_true hj) hs).trans ?_
  simp only [hn]

variable {n : Nat} (hn : s.heddle.last = some n)
include hn

theorem filterChainStart_idle (ecc : ChainEcc) (h : ¬ (s.time.running = true ∧ s.chainDue j n)) : Ends (.filterChainStart j ecc) s s := by
  refine Ends.of_done ((exec_filterChainStart hs hj hn ecc).trans (congrArg State.done ?_))
  split
  · rename_i hr
    exact State.chainRun_idle (fun hd => h ⟨hr, hd⟩) ecc
  · rfl

variable (hr : s.time.running = true)
include hr

theorem filterChainStart_gives {ecc : ChainEcc} {u : State} {P : State → Prop} (hu : s.chainRun j n ecc = u) (hP : P u.settle) :
    Gives (.filterChainStart j ecc) s P :=
  Gives.of_done ((exec_filterChainStart hs hj hn ecc).trans (congrArg State.done ((if_pos hr).trans hu))) hP

variable (hd : s.chainDue j n)
include hd

theorem filterChainStart_poisoned (ecc : ChainEcc) (hp : ((s.chain j).begun n).poison.isSome = true) :
    Gives (.filterChainStart j ecc) s (fun t => t.chain j = (s.chain j).begun n ∧ OnlyRegs [] s { t with filt := s.filt }) :=
  filterChainStart_gives hs hj hn hr (State.chainRun_poisoned hd ecc hp)
    ⟨by rw [State.chain_settle, State.chain_chainBegun], s.updF_onlyRegs _⟩

theorem filterChainStart_chainState (hp : ((s.chain j).begun n).poison = none) :
    Gives (.filterChainStart j .chainState) s (s.Poisoned j n none) :=
  filterChainStart_gives hs hj hn hr (State.chainRun_chainState hd hp) (s.chainPoison_poisoned j n _ _)

/-- With no uncorrectable state word: the words known to be bad decide between poison and response. -/
theorem filterChainStart_runs {ecc : ChainEcc} (hp : ((s.chain j).begun n).poison = none) (he : ecc ≠ .chainState) :
    (∀ w, (s.updF (fun e => e.noted ecc)).chainBad ((s.chain j).begun n) = some w →
        Gives (.filterChainStart j ecc) s (s.Poisoned j n (some w)))
      ∧ ((s.updF (fun e => e.noted ecc)).chainBad ((s.chain j).begun n) = none → Gives (.filterChainStart j ecc) s (s.Responded j n)) :=
  ⟨fun _ hw => filterChainStart_gives hs hj hn hr (State.chainRun_coefBad hd hp he hw) (s.chainPoison_poisoned j n _ _),
    fun hw => filterChainStart_gives hs hj hn hr (State.chainRun_output hd hp he hw) (s.chainStore_responded j n _)⟩

end

end Sys2Proof.Machine
end

section
/-!
PROOF. The ends of fades and of a Realign period (R30, R216, R254, R255).
-/
namespace Sys2Proof.Machine

-- ## A chain's fade and closing cross-fade

section
variable {s : State} {j : Nat} (hs : Ready s) (hj : j < 1024)
include hs hj

/-- FADE_END does nothing unless the chain's fade has run to its last index. -/
theorem fadeEnd_idle (h : ∀ n f, s.heddle.last = some n → (s.chain j).fade = some f → n + 1 < f.s + f.n) : Ends (.fadeEnd j) s s := by
  refine Ends.of_done ((s.accept_live _ _ (decide_eq_true hj) hs).trans (congrArg State.done ?_))
  split
  · rename_i n hn
    split
    · rename_i f hf
      exact if_neg (Nat.not_le.2 (h n f hn hf))
    · rfl
  · rfl

theorem exec_fadeEnd {n : Nat} {f : ChFade} (hn : s.heddle.last = some n) (hf : (s.chain j).fade = some f) (hle : f.s + f.n ≤ n + 1) :
    exec (.fadeEnd j) s = ((s.chainRun j n .clean).updChain j (fun c => c.fadeDue (n + 1))).filtStatus.done := by
  refine (s.accept_live _ _ (decide_eq_true hj) hs).trans ?_
  simp only [hn, hf, hle, if_true]

/-- CLOSING_CROSSFADE_END does nothing unless the closing cross-fade has run to its last index. -/
theorem closingCrossfadeEnd_idle (h : ∀ n a len, s.heddle.last = some n → (s.chain j).closing = some (a, len) → n + 1 < a + len) :
    Ends (.closingCrossfadeEnd j) s s := by
  refine Ends.of_done ((s.accept_live _ _ (decide_eq_true hj) hs).trans (congrArg State.done ?_))
  split
  · rename_i n hn
    split
    · rename_i a len hc
      exact if_neg (Nat.not_le.2 (h n a len hn hc))
    · rfl
  · rfl

theorem exec_closingCrossfadeEnd {n a len : Nat} (hn : s.heddle.last = some n) (hc : (s.chain j).closing = some (a, len))
    (hle : a + len ≤ n + 1) :
    exec (.closingCrossfadeEnd j) s = ((s.chainRun j n .clean).updChain j (fun c => c.closeDue (n + 1))).done := by
  refine (s.accept_live _ _ (decide_eq_true hj) hs).trans ?_
  simp only [hn, hc, hle, if_true]

end

/-- A fade over before index n ends. -/
theorem Chain.fadeDue_over {c d : Chain} {n : Nat} {f : ChFade} (hd : c.SameDates d) (hf : c.fade = some f) (hle : f.s + f.n ≤ n) :
    d.fadeDue n = d.fadeEnd := by
  obtain ⟨g, hg, hspan⟩ : ∃ g, d.fade = some g ∧ g.span = f.span := by
    have e := hd.fade
    rw [hf] at e
    exact Option.map_eq_some_iff.1 e
  obtain ⟨h1, h2⟩ := Prod.mk.inj hspan
  unfold Chain.fadeDue
  rw [hg]
  exact if_pos (by omega)

/-- A closing cross-fade over before index n ends. -/
theorem Chain.closeDue_over {c d : Chain} {n a len : Nat} (hd : c.SameDates d) (hc : c.closing = some (a, len)) (hle : a + len ≤ n) :
    d.closeDue n = d.closeEnd := by
  unfold Chain.closeDue
  rw [hd.closing, hc]
  exact if_pos hle

/-- FADE_END frees the outgoing bank, and a held Base comes into force (R254). -/
theorem fadeEnd_over {s : State} {j n : Nat} {f : ChFade} (hs : Ready s) (hj : j < 1024) (hn : s.heddle.last = some n)
    (hf : (s.chain j).fade = some f) (hle : f.s + f.n ≤ n + 1) :
    Gives (.fadeEnd j) s (fun t => (t.chain j).fade = none ∧ (t.chain j).eff = (s.chain j).cfg ∧ (t.chain j).cfg = (s.chain j).cfg) := by
  have hd := s.chainRun_sameDates j n .clean
  refine Gives.of_done (exec_fadeEnd hs hj hn hf hle) ?_
  rw [State.chain_settle, State.chain_filtStatus, State.chain_updChain_same, Chain.fadeDue_over hd hf hle]
  exact ⟨rfl, hd.cfg, hd.cfg⟩

/-- CLOSING_CROSSFADE_END puts the shadow in the chain's place (R255). -/
theorem closingCrossfadeEnd_over {s : State} {j n a len : Nat} (hs : Ready s) (hj : j < 1024) (hn : s.heddle.last = some n)
    (hc : (s.chain j).closing = some (a, len)) (hle : a + len ≤ n + 1) :
    Gives (.closingCrossfadeEnd j) s (fun t => (t.chain j).closing = none ∧ (t.chain j).shadow = none) := by
  refine Gives.of_done (exec_closingCrossfadeEnd hs hj hn hc hle) ?_
  rw [State.chain_settle, State.chain_updChain_same, Chain.closeDue_over (s.chainRun_sameDates j n .clean) hc hle]
  exact ⟨rfl, rfl⟩

-- ## The Realign period

/-- A shadow that does not close yet begins to close at index n (R255). -/
def Chain.closeStart (c : Chain) (n : Nat) : Chain :=
  if c.shadow.isSome ∧ c.closing.isNone then { c with closing := some (n, fcF c.eff R.FC_CFG_FadeLen) } else c

/-- Where the engine's period ends, every chain's shadow begins to close (R255). -/
theorem State.chain_filtRealignEnd (s : State) (n j : Nat) : (s.filtRealignEnd n).chain j = (s.chain j).closeStart n :=
  tget_map ({} : Chain) (fun c => c.closeStart n) rfl s.filt.chains j

theorem Chain.closeStart_closing {c : Chain} (hsh : c.shadow.isSome = true) (hc : c.closing = none) (n : Nat) :
    (c.closeStart n).closing = some (n, fcF c.eff R.FC_CFG_FadeLen) := by
  simp [Chain.closeStart, hsh, hc]

/-- At the end of the detectors' period each shadow's values come into force (R30). -/
theorem State.detEnt_detRealignEnd (s : State) (e : Nat) : (s.detRealignEnd.detEnt e).val = (s.detEnt e).sh :=
  congrArg Det.val (tget_map ({} : Det) (fun x : Det => { x with val := x.sh, sh := {} }) rfl s.det.ents e)

theorem State.realignDue_filt_over {s : State} {n a k : Nat} (hp : s.filt.period = some (a, k)) (hle : a + k ≤ n) :
    (s.realignDue n).filt = (s.filtRealignEnd (a + k)).filt := by
  simp only [State.realignDue, hp, hle, if_true]
  split
  · split <;> rfl
  · rfl

theorem State.realignDue_filt_none {s : State} (hp : s.filt.period = none) (n : Nat) : (s.realignDue n).filt = s.filt := by
  simp only [State.realignDue, hp]
  split
  · split <;> rfl
  · rfl

/-- The detectors' period ends where it is over before index n, and only there, whatever the engine's own period does. -/
theorem State.realignDue_det (s : State) (n : Nat) :
    (∀ b l, s.det.period = some (b, l) → b + l ≤ n → (s.realignDue n).det = s.detRealignEnd.det)
      ∧ ((∀ b l, s.det.period = some (b, l) → n < b + l) → (s.realignDue n).det = s.det) := by
  unfold State.realignDue
  extract_lets u
  have hu : u.det = s.det := by
    unfold u
    split
    · split <;> rfl
    · rfl
  constructor
  · intro b l hd hle
    simp only [hu, hd, hle, if_true, State.detRealignEnd]
  · intro h
    split
    · rename_i b l hd
      rw [if_neg (Nat.not_le.2 (h b l (hu ▸ hd))), hu]
    · exact hu

section
variable {s : State} (hs : Ready s)
include hs

/-- REALIGN_PERIOD_END does nothing unless the period of the engine, or else of the detectors, has run to its last index. -/
theorem realignPeriodEnd_idle
    (h : ∀ n a k, s.heddle.last = some n →
      s.filt.period = some (a, k) ∨ (s.filt.period = none ∧ s.det.period = some (a, k)) → n + 1 < a + k) :
    Ends .realignPeriodEnd s s := by
  refine Ends.of_done ((show execRealignPeriodEnd s = _ from s.live_live _ hs).trans (congrArg State.done ?_))
  split
  · rename_i _ n a k hn hp
    exact if_neg (Nat.not_le.2 (h n a k hn (.inl hp)))
  · rename_i n a k hn hp hd
    exact if_neg (Nat.not_le.2 (h n a k hn (.inr ⟨hp, hd⟩)))
  · rfl

variable {n : Nat} (hn : s.heddle.last = some n)
include hn

theorem exec_realignPeriodEnd_filt {a k : Nat} (hp : s.filt.period = some (a, k)) (hle : a + k ≤ n + 1) :
    exec .realignPeriodEnd s = (s.filterPhase.realignDue (n + 1)).filtStatus.done := by
  refine (show execRealignPeriodEnd s = _ from s.live_live _ hs).trans ?_
  simp only [hn, hp, hle, if_true]

theorem exec_realignPeriodEnd_det {a k : Nat} (hp : s.filt.period = none) (hd : s.det.period = some (a, k)) (hle : a + k ≤ n + 1) :
    exec .realignPeriodEnd s = (s.realignDue (n + 1)).done := by
  refine (show execRealignPeriodEnd s = _ from s.live_live _ hs).trans ?_
  simp only [hn, hp, hd, hle, if_true]

/-- The engine's period ends: its shadows begin to close, and the detectors' period ends with it where it is over too (R30, R255). -/
theorem realignPeriodEnd_filt {a k : Nat} (j : Nat) (hp : s.filt.period = some (a, k)) (hle : a + k ≤ n + 1) :
    Gives .realignPeriodEnd s (fun t => t.filt.period = none
      ∧ ((s.filterPhase.chain j).shadow.isSome = true → (s.filterPhase.chain j).closing = none →
          (t.chain j).closing = some (a + k, fcF (s.filterPhase.chain j).eff R.FC_CFG_FadeLen))
      ∧ (∀ b l, s.det.period = some (b, l) → b + l ≤ n + 1 → t.det.period = none ∧ ∀ e, (t.detEnt e).val = (s.detEnt e).sh)
      ∧ ((∀ b l, s.det.period = some (b, l) → n + 1 < b + l) → t.det = s.det)) := by
  have hf := State.realignDue_filt_over (s.filterPhase_period.trans hp) hle
  obtain ⟨hover, hidle⟩ := s.filterPhase.realignDue_det (n + 1)
  rw [s.filterPhase_det] at hover hidle
  refine Gives.of_done (exec_realignPeriodEnd_filt hs hn hp hle) ⟨?_, fun hsh hc => ?_, fun b l hd hbl => ⟨?_, fun e => ?_⟩, fun h => ?_⟩
  · rw [State.settle_filt, State.filtStatus_filt, hf]
    rfl
  · rw [State.chain_settle, State.chain_filtStatus, State.chain, hf]
    exact (congrArg Chain.closing (s.filterPhase.chain_filtRealignEnd (a + k) j)).trans (Chain.closeStart_closing hsh hc _)
  · rw [State.settle_det, State.filtStatus_det, hover b l hd hbl]
    rfl
  · rw [State.detEnt_settle, State.detEnt_filtStatus, State.detEnt, hover b l hd hbl]
    refine (s.filterPhase.detEnt_detRealignEnd e).trans ?_
    rw [State.detEnt, s.filterPhase_det]
    rfl
  · rw [State.settle_det, State.filtStatus_det, hidle h]

/-- The detectors' period alone ends: the engine's state is untouched (R30). -/
theorem realignPeriodEnd_det {a k : Nat} (hp : s.filt.period = none) (hd : s.det.period = some (a, k)) (hle : a + k ≤ n + 1) :
    Gives .realignPeriodEnd s (fun t => t.filt = s.filt ∧ t.det.period = none ∧ ∀ e, (t.detEnt e).val = (s.detEnt e).sh) := by
  have hover := (s.realignDue_det (n + 1)).1 a k hd hle
  refine Gives.of_done (exec_realignPeriodEnd_det hs hn hp hd hle) ⟨?_, ?_, fun e => ?_⟩
  · rw [State.settle_filt, State.realignDue_filt_none hp]
  · rw [State.settle_det, hover]
    rfl
  · rw [State.detEnt_settle, State.detEnt, hover]
    exact s.detEnt_detRealignEnd e

end

-- ## A delay fade

theorem Dest.fadeEnd_running {d : Dest} {n : Nat} (h : ∀ f, d.fade = some f → (n : Int) < f.s + f.f) : d.fadeEnd n = d := by
  unfold Dest.fadeEnd
  split
  · rfl
  · rename_i f hf
    exact if_pos (h f hf)

theorem Dest.fadeEnd_over {d : Dest} {n : Nat} {f : DelayFade} (hf : d.fade = some f) (hle : f.s + f.f ≤ (n : Int)) (hh : d.held = none) :
    d.fadeEnd n = { d with fade := none } := by
  simp only [Dest.fadeEnd, hf, Int.not_lt.2 hle, if_false, hh]

/-- A held delay comes into force with a fade of its own, which a fade length of at most 1 leaves out (R216). -/
theorem Dest.fadeEnd_held {d : Dest} {n x : Nat} {f : DelayFade} (hf : d.fade = some f) (hle : f.s + f.f ≤ (n : Int)) (hh : d.held = some x) :
    d.fadeEnd n = { d with
      now := x, held := none
      fade := if dsF d.eff R.DS_DFADE_Fade ≤ 1 then none else some { old := d.now, s := n, f := dsF d.eff R.DS_DFADE_Fade } } := by
  simp only [Dest.fadeEnd, hf, Int.not_lt.2 hle, if_false, hh]
  split <;> rfl

section
variable {s : State} {d : Nat} (hs : Ready s) (hd : d < 8192)
include hs hd

theorem delayFadeEnd_before (hn : s.heddle.last = none) : Ends (.delayFadeEnd d) s s := by
  refine Ends.of_done ((s.accept_live _ _ (decide_eq_true hd) hs).trans ?_)
  simp only [hn]

theorem exec_delayFadeEnd {n : Nat} (hn : s.heddle.last = some n) :
    exec (.delayFadeEnd d) s = (s.updDest d (fun v => v.fadeEnd (n + 1))).done := by
  refine (s.accept_live _ _ (decide_eq_true hd) hs).trans ?_
  simp only [hn]

/-- DELAY_FADE_END ends the destination's fade as R216 has it, and changes nothing but that destination. -/
theorem delayFadeEnd_gives {n : Nat} (hn : s.heddle.last = some n) :
    Gives (.delayFadeEnd d) s (fun t => OnlyRegs [] s { t with heddle := s.heddle } ∧ t.dest d = (s.dest d).fadeEnd (n + 1)) :=
  Gives.of_done (exec_delayFadeEnd hs hd hn) ⟨s.updH_onlyRegs _, by rw [State.dest_settle, State.dest_updDest_same]⟩

end

end Sys2Proof.Machine
end

section
/-!
PROOF. What the filter engine does at an index, and the ends of fades: the statement.
-/
namespace Sys2Proof.Machine

theorem Gives.mono {c : Instr} {s : State} {P Q : State → Prop} (h : Gives c s P) (hPQ : ∀ t, P t → Q t) : Gives c s Q := by
  obtain ⟨t, ht, hP⟩ := h
  exact ⟨t, ht, hPQ t hP⟩

/-- Settles O36, by the branches of a run (`State.chainRun_cases`) and, for the ends, by what a run leaves alone. -/
theorem filterEngineEvents : Obligations.FilterEngineEvents := by
  intro s j hs hj
  refine ⟨fun hn => ?_, fun n hn => ?_⟩
  · have never : ∀ {p : Prop} (n : Nat), s.heddle.last = some n → p := fun n h => by rw [hn] at h; cases h
    exact ⟨fun ecc => Ends.of_done (exec_filterChainStart_before hs hj hn ecc), fadeEnd_idle hs hj (fun n _ h => never n h),
      closingCrossfadeEnd_idle hs hj (fun n _ _ h => never n h), realignPeriodEnd_idle hs (fun n _ _ h => never n h),
      fun d hd => delayFadeEnd_before hs hd hn⟩
  have at_n : ∀ m, s.heddle.last = some m → m = n := fun m h => Option.some.inj (h.symm.trans hn)
  intro x c runs poisons
  refine ⟨?_, ?_, ?_, ?_, ?_, ?_, ?_, ?_, ?_, ?_, ?_, ?_, ?_, ?_, ?_⟩
  · exact fun ecc h => filterChainStart_idle hs hj hn ecc h
  · exact fun ecc ⟨hr, hd⟩ hp => filterChainStart_poisoned hs hj hn hr hd ecc hp
  · exact fun ⟨hr, hd⟩ hp => filterChainStart_chainState hs hj hn hr hd hp
  · rintro ecc u ⟨hr, hd⟩ hp (⟨rfl, rfl⟩ | ⟨w, rfl, rfl⟩)
    · exact filterChainStart_runs (ecc := .clean) hs hj hn hr hd hp (by simp)
    · exact filterChainStart_runs (ecc := .coef w) hs hj hn hr hd hp (by simp)
  · exact fun h => fadeEnd_idle hs hj (fun m f _ hf => by cases h.symm.trans hf)
  · exact fun h => closingCrossfadeEnd_idle hs hj (fun m a len _ hc => by cases h.symm.trans hc)
  · intro f hf hlt
    refine fadeEnd_idle hs hj (fun m g hm hg => ?_)
    obtain rfl := at_n m hm
    obtain rfl := Option.some.inj (hf.symm.trans hg)
    exact hlt
  · exact fun f hf hle => fadeEnd_over hs hj hn hf hle
  · intro a len hc hlt
    refine closingCrossfadeEnd_idle hs hj (fun m b l hm hb => ?_)
    obtain rfl := at_n m hm
    cases hc.symm.trans hb
    exact hlt
  · exact fun a len hc hle => closingCrossfadeEnd_over hs hj hn hc hle
  · refine fun hp hd => realignPeriodEnd_idle hs (fun m a k _ h => ?_)
    obtain h | ⟨_, h⟩ := h
    · cases hp.symm.trans h
    · cases hd.symm.trans h
  · intro a k h hlt
    refine realignPeriodEnd_idle hs (fun m b l hm hb => ?_)
    obtain rfl := at_n m hm
    obtain h | ⟨hp, h⟩ := h <;> obtain hb | ⟨hq, hb⟩ := hb
    · cases h.symm.trans hb; exact hlt
    · cases h.symm.trans hq
    · cases hp.symm.trans hb
    · cases h.symm.trans hb; exact hlt
  · exact fun a k hp hle => realignPeriodEnd_filt hs hn j hp hle
  · exact fun a k hp hd hle => realignPeriodEnd_det hs hn hp hd hle
  · intro d hd
    refine (delayFadeEnd_gives hs hd hn).mono (fun t ⟨honly, hdest⟩ => ⟨honly, fun h => ?_, fun f hf hle hh => ?_, fun f h hf hle hh => ?_⟩)
    · rw [hdest, Dest.fadeEnd_running (by push_cast; exact h)]
    · rw [hdest, Dest.fadeEnd_over hf (by push_cast; exact hle) hh]
    · rw [hdest, Dest.fadeEnd_held hf (by push_cast; exact hle) hh]
      push_cast
      rfl

end Sys2Proof.Machine
end

section
/-!
PROOF. What the media timeline's proofs need of registers and of the end of a command (R9, R383): fields beside the one that is written,
and states that differ in listed words only.
-/
namespace Sys2Proof.Machine

-- ## Fields after a write

theorem State.is_put_ne (s : State) {f g : Fld} (hf : f.lsb + f.wid ≤ 32)
    (h : g.reg ≠ f.reg ∨ g.lsb + g.wid ≤ f.lsb ∨ f.lsb + f.wid ≤ g.lsb) (v : Nat) : (s.put f v).is g = s.is g := by
  unfold State.is; rw [State.get_put_ne s hf h]

theorem State.get_putB_ne (s : State) {f g : Fld} (hf : f.lsb + f.wid ≤ 32)
    (h : g.reg ≠ f.reg ∨ g.lsb + g.wid ≤ f.lsb ∨ f.lsb + f.wid ≤ g.lsb) (b : Bool) : (s.putB f b).get g = s.get g :=
  State.get_put_ne s hf h _

/-- A field of w bits that is set reads as the low w bits of its value. -/
theorem State.get_put_wid (s : State) {f : Fld} {w : Nat} (v : Nat) (hf : f.lsb + f.wid ≤ 32) (hw : f.wid = w) : (s.put f v).get f = v % 2 ^ w :=
  hw ▸ State.get_put_same s f v hf

/-- A field narrow enough for its value reads as that value once set. -/
theorem State.get_put_fit (s : State) {f : Fld} {v w : Nat} (hf : f.lsb + f.wid ≤ 32) (hw : f.wid = w) (h : v < 2 ^ w) :
    (s.put f v).get f = v := by
  rw [State.get_put_same s f v hf, hw, Nat.mod_eq_of_lt h]

theorem State.is_putB_same (s : State) {f : Fld} (hf : f.lsb + f.wid ≤ 32) (hw : f.wid = 1) (b : Bool) : (s.putB f b).is f = b := by
  unfold State.is State.putB
  rw [State.get_put_same s f _ hf, hw]
  cases b <;> rfl

theorem State.is_put_one (s : State) {f : Fld} (hf : f.lsb + f.wid ≤ 32) (hw : f.wid = 1) : (s.put f 1).is f = true :=
  State.is_putB_same s hf hw true

theorem State.is_put_zero (s : State) {f : Fld} (hf : f.lsb + f.wid ≤ 32) (hw : f.wid = 1) : (s.put f 0).is f = false :=
  State.is_putB_same s hf hw false

theorem State.get_bump_ne (s : State) {f g : Fld} (hf : f.lsb + f.wid ≤ 32)
    (h : g.reg ≠ f.reg ∨ g.lsb + g.wid ≤ f.lsb ∨ f.lsb + f.wid ≤ g.lsb) : (s.bump f).get g = s.get g :=
  State.get_put_ne s hf h _

theorem State.is_bump_ne (s : State) {f g : Fld} (hf : f.lsb + f.wid ≤ 32)
    (h : g.reg ≠ f.reg ∨ g.lsb + g.wid ≤ f.lsb ∨ f.lsb + f.wid ≤ g.lsb) : (s.bump f).is g = s.is g :=
  State.is_put_ne s hf h _

/-- What a field reads as depends on its register's word alone. -/
theorem State.get_congr {s t : State} {f : Fld} (h : t.rd f.reg = s.rd f.reg) : t.get f = s.get f := by unfold State.get; rw [h]

theorem State.is_congr {s t : State} {f : Fld} (h : t.rd f.reg = s.rd f.reg) : t.is f = s.is f := by
  unfold State.is; rw [State.get_congr h]

/-- The high word of a 64-bit value that has been put. -/
theorem State.get_put64_hi (s : State) (lo : Fld) {hi : Fld} (v : Nat) (h : hi.lsb + hi.wid ≤ 32) (hw : hi.wid = 32) :
    (s.put64 lo hi v).get hi = v / 2 ^ 32 % 2 ^ 32 := State.get_put_wid _ _ h hw

/-- The low word of a 64-bit value that has been put, its high word lying in another register. -/
theorem State.get_put64_lo (s : State) {lo hi : Fld} (v : Nat) (h : lo.lsb + lo.wid ≤ 32) (hw : lo.wid = 32) (hne : lo.reg ≠ hi.reg) :
    (s.put64 lo hi v).get lo = v % 2 ^ 32 := by
  unfold State.put64
  rw [State.get_put_reg _ hne, State.get_put_wid _ _ h hw, Nat.mod_mod]

theorem State.get_put64_ne (s : State) {lo hi f : Fld} (hlo : f.reg ≠ lo.reg) (hhi : f.reg ≠ hi.reg) (v : Nat) :
    (s.put64 lo hi v).get f = s.get f := by
  unfold State.put64
  rw [State.get_put_reg _ hhi, State.get_put_reg _ hlo]

-- ## States that differ in listed words only

theorem SameRegs.refl' (offs : List Nat) (s : State) : SameRegs offs s s := fun _ _ _ => rfl

theorem SameRegs.put' {offs : List Nat} {s t : State} (h : SameRegs offs s t) {f : Fld} (hf : f.reg ∈ offs) (v : Nat) :
    SameRegs offs s (t.put f v) := fun a ha hp =>
  (State.rd_put_ne t (fun e => ha (by rwa [e])) v).trans (h a ha hp)

theorem SameRegs.putB' {offs : List Nat} {s t : State} (h : SameRegs offs s t) {f : Fld} (hf : f.reg ∈ offs) (b : Bool) :
    SameRegs offs s (t.putB f b) := h.put' hf _

theorem SameRegs.put64' {offs : List Nat} {s t : State} (h : SameRegs offs s t) {lo hi : Fld} (hlo : lo.reg ∈ offs) (hhi : hi.reg ∈ offs)
    (v : Nat) : SameRegs offs s (t.put64 lo hi v) := (h.put' hlo _).put' hhi _

theorem SameRegs.settle' {offs : List Nat} {s t : State} (h : SameRegs offs s t) : SameRegs offs s t.settle := fun a ha hp =>
  (t.settle_rd hp).trans (h a ha hp)

theorem RegsOnly.put64' {s t : State} (h : RegsOnly s t) (lo hi : Fld) (v : Nat) : RegsOnly s (t.put64 lo hi v) := (h.put' _ _).put' _ _

theorem RegsOnly.time {s t : State} (h : RegsOnly s t) : t.time = s.time := by
  have e := congrArg State.time h; exact e

/-- A state in which nothing but listed register words differs. -/
theorem OnlyRegs.of_regs {offs : List Nat} {s t : State} (h : SameRegs offs s t) (k : RegsOnly s t) : OnlyRegs offs s t :=
  ⟨h, congrArg (fun u : State => { u with regs := s.regs, outbox := s.outbox, msixLevel := s.msixLevel }) k⟩

theorem OnlyRegs.send' {offs : List Nat} {s t : State} (h : OnlyRegs offs s t) (m : Sent) : OnlyRegs offs s (t.send m) := h

/-- A state that differs in listed words and in messages sent differs so once interrupts are settled. -/
theorem OnlyRegs.settle' {offs : List Nat} {s t : State} (h : OnlyRegs offs s t) : OnlyRegs offs s t.settle := by
  obtain ⟨hregs, hrest⟩ := h
  refine ⟨hregs.settle', ?_⟩
  have e := congrArg (fun u : State => { u with regs := s.regs, outbox := s.outbox, msixLevel := s.msixLevel }) t.settle_msix.2.2.2
  exact Eq.trans e hrest

theorem Sends.settle' {s t : State} {ms : List Sent} (h : t.outbox = s.outbox ++ ms) : Sends ms s t.settle := by
  obtain ⟨vs, e⟩ := t.settle_outbox
  exact ⟨vs, by rw [e, h]⟩

/-- A latching read (R9): the high word of a count is latched in a register of its own and the low word is returned. -/
theorem State.latch_gives {s u : State} {f : Fld} {v : Nat} {m : Sent} (hu : u = (s.put f v).send m) (hf : f.lsb + f.wid ≤ 32) (hw : f.wid = 32)
    (hp : f.reg ≠ R.MSIX_PBA 0) : Sends [m] s u.settle ∧ u.settle.get f = v % 2 ^ 32 ∧ OnlyRegs [f.reg] s u.settle := by
  subst hu
  refine ⟨Sends.settle' ?_, (State.settle_get _ hp).trans ((State.get_send _ _ _).trans (State.get_put_wid _ _ hf hw)), ?_⟩
  · rw [State.send_outbox, State.put_outbox]
  · exact ((OnlyRegs.of_regs ((SameRegs.refl' _ s).put' (List.mem_singleton_self _) _) ((RegsOnly.refl' s).put' _ _)).send' m).settle'

-- ## Folds

/-- What every step of a counted fold keeps, the fold keeps. -/
theorem State.forN_keeps {γ : Type} (p : State → γ) (n : Nat) (f : Nat → State → State) (h : ∀ i, i < n → ∀ t, p (f i t) = p t) (s : State) :
    p (s.forN n f) = p s := by
  have key : ∀ (xs : List Nat), (∀ i ∈ xs, i < n) → ∀ s : State, p (xs.foldl (fun t i => f i t) s) = p s := by
    intro xs
    induction xs with
    | nil => exact fun _ _ => rfl
    | cons x r ih =>
      exact fun hx s => (ih (fun i hi => hx i (List.mem_cons_of_mem _ hi)) (f x s)).trans (h x (hx x List.mem_cons_self) s)
  exact key _ (fun i hi => List.mem_range.mp hi) s

-- ## Commands without operands

section
variable {s : State} (hs : Ready s)
include hs

theorem exec_timeSet : exec .timeSet s = (s.timeSet.startTime none).done := by
  show execTimeSet s = _
  unfold execTimeSet
  rw [State.live_live _ _ hs]

theorem exec_timeCapture : exec .timeCapture s = s.timeCapture.done := by
  show execTimeCapture s = _
  unfold execTimeCapture
  rw [State.live_live _ _ hs]

theorem exec_pickLoRead : exec .pickLoRead s =
    ((s.put R.PICK_HI_Pick (s.time.pick / 2 ^ 32)).send (.readData R.PICK_LO (s.time.pick % 2 ^ 32))).done := by
  show execPickLoRead s = _
  unfold execPickLoRead
  rw [State.live_live _ _ hs]
  rfl

theorem exec_sysCyclesRead : exec .sysCyclesRead s =
    ((s.put R.SYS_CYCLES_HI_Cycles (s.time.cycles / 2 ^ 32)).send (.readData R.SYS_CYCLES_LO (s.time.cycles % 2 ^ 32))).done := by
  show execSysCyclesRead s = _
  unfold execSysCyclesRead
  rw [State.live_live _ _ hs]
  rfl

end

end Sys2Proof.Machine
end

section
/-!
PROOF. Setting the time, and the captures and latching reads (R9, R35, R50).
-/
namespace Sys2Proof.Machine

/-- The clock is valid and the firmware of this launch still waits for a time: a state in which a Set is ignored and yet starts the counter. -/
def waitingWithTime : State := { State.reset.put R.TIME_STATUS_TodValid 1 with life := { wantTime := true } }

/-- Refutes O8: while the firmware waits for a time, a Set that is ignored because TodValid is 1 still ends the wait and starts the pick
counter, so more than the record is written. -/
theorem not_timeIsSetWhileInvalid : ¬ Obligations.TimeIsSetWhileInvalid := by
  intro h
  obtain ⟨-, ignored⟩ := h waitingWithTime rfl
  obtain ⟨t, ht, -, -, hrest⟩ := ignored (.inl (by decide))
  have hends : (waitingWithTime.timeSet.startTime none).settle.life.wantTime = false := by decide +kernel
  obtain rfl : (waitingWithTime.timeSet.startTime none).settle = t := Host.Outcome.next.inj ((exec_timeSet (s := waitingWithTime) rfl).symm.trans ht)
  have hlife := congrArg (fun u : State => u.life.wantTime) hrest
  exact absurd (hends.symm.trans hlife) (by decide)

end Sys2Proof.Machine
end

section
/-!
PROOF. Captures and latching reads hand out one coherent count (R9, R50).
-/
namespace Sys2Proof.Machine

/-- The words TIME_CAPTURE writes (R50). -/
def snapshotWords : List Nat := [R.SNAP_NS, R.SNAP_FRAC, R.SNAP_SEC_LO, R.SNAP_SEC_HI, R.SNAP_PICK_LO, R.SNAP_PICK_HI]

theorem State.timeCapture_onlyRegs (s : State) : OnlyRegs snapshotWords s s.timeCapture := by
  unfold State.timeCapture
  extract_lets t sec s1 s2
  have h1 : SameRegs snapshotWords s s1 := ((SameRegs.refl' _ s).put' (by decide) _).put' (by decide) _
  have h2 : SameRegs snapshotWords s s2 := (h1.put' (by decide) _).put' (by decide) _
  have k1 : RegsOnly s s1 := ((RegsOnly.refl' s).put' _ _).put' _ _
  have k2 : RegsOnly s s2 := (k1.put' _ _).put' _ _
  exact .of_regs (h2.put64' (by decide) (by decide) _) (k2.put64' _ _ _)

/-- The snapshot holds the time of day and the pick count of one cycle. -/
theorem State.timeCapture_snapshot (s : State) :
    s.timeCapture.get R.SNAP_NS_Ns = s.time.tai % unitsPerSec / 65536 ∧ s.timeCapture.get R.SNAP_FRAC_Frac = s.time.tai % 65536
    ∧ s.timeCapture.get R.SNAP_SEC_LO_Sec = s.time.tai / unitsPerSec % 2 ^ 32
    ∧ s.timeCapture.get R.SNAP_SEC_HI_Sec = s.time.tai / unitsPerSec / 2 ^ 32 % 2 ^ 16
    ∧ s.timeCapture.get R.SNAP_PICK_LO_Pick = s.time.pick % 2 ^ 32 ∧ s.timeCapture.get R.SNAP_PICK_HI_Pick = s.time.pick / 2 ^ 32 % 2 ^ 32 := by
  have hns : s.time.tai % unitsPerSec / 65536 < 2 ^ 30 := by unfold unitsPerSec; omega
  unfold State.timeCapture
  extract_lets t sec s1 s2
  have k1 : RegsOnly s s1 := ((RegsOnly.refl' s).put' _ _).put' _ _
  have k2 : RegsOnly s s2 := (k1.put' _ _).put' _ _
  rw [k2.time]
  refine ⟨?_, ?_, ?_, ?_, State.get_put64_lo _ _ (by decide) rfl (by decide), State.get_put64_hi _ _ _ (by decide) rfl⟩
  all_goals rw [State.get_put64_ne _ (by decide) (by decide)]
  · simp (disch := decide) only [s2, s1, State.get_put_ne]
    exact State.get_put_fit _ (by decide) rfl hns
  · simp (disch := decide) only [s2, s1, State.get_put_ne]
    exact State.get_put_fit _ (w := 16) (by decide) rfl (by omega)
  · simp (disch := decide) only [s2, State.get_put_ne]
    exact State.get_put_fit _ (w := 32) (by decide) rfl (by omega)
  · exact State.get_put_wid _ _ (by decide) rfl

/-- Settles O9: a capture puts one cycle's time and pick into the snapshot registers, and a latching read puts the high word of the count whose low
word it returns. -/
theorem capturesAreCoherent : Obligations.CapturesAreCoherent := by
  refine ⟨fun s hs => ?_, fun s hs => ⟨?_, ?_⟩⟩
  · obtain ⟨hns, hfrac, hlo, hhi, hplo, hphi⟩ := s.timeCapture_snapshot
    have kept : ∀ {f : Fld} {v : Nat}, f.reg ≠ R.MSIX_PBA 0 → s.timeCapture.get f = v → s.timeCapture.settle.get f = v :=
      fun hf h => (State.settle_get _ hf).trans h
    exact Gives.of_done (exec_timeCapture hs) ⟨kept (by decide) hns, kept (by decide) hfrac, kept (by decide) hlo, kept (by decide) hhi,
      kept (by decide) hplo, kept (by decide) hphi, s.timeCapture_onlyRegs.settle'⟩
  · exact Gives.of_done (exec_pickLoRead hs) (State.latch_gives rfl (by decide) rfl (by decide))
  · exact Gives.of_done (exec_sysCyclesRead hs) (State.latch_gives rfl (by decide) rfl (by decide))

end Sys2Proof.Machine
end

section
/-!
PROOF. What the parts of the unit that lie outside the media timeline leave alone: the words of the TIME and TREADLE blocks, the reed's state, and
what decides the next strobes (R38, R46, R47).
-/
namespace Sys2Proof.Machine

/-- The pick counter, the pending cues, what could move the count, and the index last computed. -/
structure Schedule where
  time : TimeSt
  cues : List Cue
  patDue : Option (Nat × List EpRec)
  due : Option (Nat × List EpRec)
  last : Option Nat

/-- The schedule of a state. -/
def State.schedule (s : State) : Schedule := { time := s.time, cues := s.cues, patDue := s.patDue, due := s.sv.due, last := s.heddle.last }

/-- The words of the TIME and TREADLE blocks, the reed, and the schedule. -/
structure Timeline where
  word : Nat → BitVec 32
  reed : ReedSt
  schedule : Schedule

/-- The timeline of a state. -/
def State.timeline (s : State) : Timeline :=
  { word := fun a => if 0x68000 ≤ a ∧ a < 0x70000 then s.rd a else 0#32, reed := s.reed, schedule := s.schedule }

-- ## What an equal schedule or timeline says

section
variable {s t : State}

theorem cues_of_schedule (h : t.schedule = s.schedule) : t.cues = s.cues := congrArg Schedule.cues h

theorem schedule_of_timeline (h : t.timeline = s.timeline) : t.schedule = s.schedule := congrArg Timeline.schedule h

theorem reed_of_timeline (h : t.timeline = s.timeline) : t.reed = s.reed := congrArg Timeline.reed h

theorem rd_of_timeline (h : t.timeline = s.timeline) {a : Nat} (ha : 0x68000 ≤ a ∧ a < 0x70000) : t.rd a = s.rd a := by
  have e := congrFun (congrArg Timeline.word h) a
  simpa [State.timeline, ha] using e

theorem get_of_timeline (h : t.timeline = s.timeline) {f : Fld} (ha : 0x68000 ≤ f.reg ∧ f.reg < 0x70000) : t.get f = s.get f :=
  State.get_congr (rd_of_timeline h ha)

theorem is_of_timeline (h : t.timeline = s.timeline) {f : Fld} (ha : 0x68000 ≤ f.reg ∧ f.reg < 0x70000) : t.is f = s.is f :=
  State.is_congr (rd_of_timeline h ha)

end

-- ## Writes

@[simp] theorem State.wr_schedule (s : State) (a : Nat) (w : BitVec 32) : (s.wr a w).schedule = s.schedule := (rfl)

@[simp] theorem State.put_schedule (s : State) (f : Fld) (v : Nat) : (s.put f v).schedule = s.schedule := (rfl)

@[simp] theorem State.putB_schedule (s : State) (f : Fld) (b : Bool) : (s.putB f b).schedule = s.schedule := (rfl)

@[simp] theorem State.bump_schedule (s : State) (f : Fld) : (s.bump f).schedule = s.schedule := (rfl)

@[simp] theorem State.add_schedule (s : State) (f : Fld) (k : Nat) : (s.add f k).schedule = s.schedule := (rfl)

@[simp] theorem State.report_schedule (s : State) (e : ErrReport) : (s.report e).schedule = s.schedule := (rfl)

@[simp] theorem State.send_schedule (s : State) (m : Sent) : (s.send m).schedule = s.schedule := (rfl)

/-- A register outside the TIME and TREADLE blocks. -/
abbrev Aside (a : Nat) : Prop := a < 0x68000 ∨ 0x70000 ≤ a

theorem State.wr_timeline (s : State) {a : Nat} (ha : Aside a) (w : BitVec 32) : (s.wr a w).timeline = s.timeline := by
  have e : ∀ b, (if 0x68000 ≤ b ∧ b < 0x70000 then (s.wr a w).rd b else 0#32) = if 0x68000 ≤ b ∧ b < 0x70000 then s.rd b else 0#32 := by
    intro b
    split
    · exact State.rd_wr_ne s (by omega) w
    · rfl
  unfold State.timeline
  rw [funext e]
  rfl

theorem State.put_timeline (s : State) {f : Fld} (hf : Aside f.reg) (v : Nat) : (s.put f v).timeline = s.timeline := s.wr_timeline hf _

theorem State.putB_timeline (s : State) {f : Fld} (hf : Aside f.reg) (b : Bool) : (s.putB f b).timeline = s.timeline := s.wr_timeline hf _

theorem State.bump_timeline (s : State) {f : Fld} (hf : Aside f.reg) : (s.bump f).timeline = s.timeline := s.wr_timeline hf _

@[simp] theorem State.report_timeline (s : State) (e : ErrReport) : (s.report e).timeline = s.timeline := (rfl)

@[simp] theorem State.send_timeline (s : State) (m : Sent) : (s.send m).timeline = s.timeline := (rfl)

-- ## Heddle's transactions

/-- What a write of Heddle's transaction registers keeps, xtStatus keeps. -/
theorem State.xtStatus_timeline (s : State) : s.xtStatus.timeline = s.timeline := by
  unfold State.xtStatus
  refine (State.put_timeline _ (by decide) _).trans (State.forN_keeps State.timeline 8 _ (fun k hk t => ?_) s)
  have hr : Aside (R.XT_STATE k) := .inl (by unfold R.XT_STATE; omega)
  split
  · rw [State.put_timeline _ hr, State.put_timeline _ hr, State.put_timeline _ hr]
  · exact t.wr_timeline hr _

theorem State.updTrans_timeline (s : State) (id : Nat) (f : Trans → Trans) : (s.updTrans id f).timeline = s.timeline :=
  State.xtStatus_timeline _

@[simp] theorem State.xtStatus_outbox (s : State) : s.xtStatus.outbox = s.outbox := by
  unfold State.xtStatus
  refine (State.put_outbox _ _ _).trans (State.forN_keeps State.outbox 8 _ (fun k _ t => ?_) s)
  split
  · rw [State.put_outbox, State.put_outbox, State.put_outbox]
  · rw [State.wr_outbox]

@[simp] theorem State.updTrans_outbox (s : State) (id : Nat) (f : Trans → Trans) : (s.updTrans id f).outbox = s.outbox :=
  State.xtStatus_outbox _

end Sys2Proof.Machine
end

section
/-!
PROOF. What the cue queue's registers show, and what the checks of a push establish (R41 to R44, R453).
-/
namespace Sys2Proof.Machine

/-- The words that show the queue: TRD_STATUS, NEXT_PICK, HD_STATUS and TIME_STATUS. -/
def cueStatusWords : List Nat := [R.TRD_STATUS, R.NEXT_PICK_LO, R.NEXT_PICK_HI, R.HD_STATUS, R.TIME_STATUS]

/-- The keys of the pending cues, in the queue's order (R42). -/
def State.cueKeys (s : State) : List (Nat × Nat) := s.cues.map (fun d => (d.pick, d.order))

theorem RegsOnly.cues {s t : State} (h : RegsOnly s t) : t.cues = s.cues := by
  have e := congrArg State.cues h; exact e

theorem RegsOnly.outbox {s t : State} (h : RegsOnly s t) : t.outbox = s.outbox := by
  have e := congrArg State.outbox h; exact e

-- ## The status words

theorem State.cueStatus_regsOnly (s : State) : RegsOnly s s.cueStatus := by
  unfold State.cueStatus
  extract_lets n s1 s2 s3 s4
  have h1 : RegsOnly s s1 := ((RegsOnly.refl' s).put' _ _).putB' _ _
  have h2 : RegsOnly s s2 := h1.putB' _ _
  have h3 : RegsOnly s s3 := h2.put64' _ _ _
  have h4 : RegsOnly s s4 := h3.putB' _ _
  exact h4.putB' _ _

theorem State.cueStatus_sameRegs (s : State) : SameRegs cueStatusWords s s.cueStatus := by
  unfold State.cueStatus
  extract_lets n s1 s2 s3 s4
  have h1 : SameRegs cueStatusWords s s1 := ((SameRegs.refl' _ s).put' (by decide) _).putB' (by decide) _
  have h2 : SameRegs cueStatusWords s s2 := h1.putB' (by decide) _
  have h3 : SameRegs cueStatusWords s s3 := h2.put64' (by decide) (by decide) _
  have h4 : SameRegs cueStatusWords s s4 := h3.putB' (by decide) _
  exact h4.putB' (by decide) _

@[simp] theorem State.cueStatus_cues (s : State) : s.cueStatus.cues = s.cues := s.cueStatus_regsOnly.cues

@[simp] theorem State.cueStatus_outbox (s : State) : s.cueStatus.outbox = s.outbox := s.cueStatus_regsOnly.outbox

@[simp] theorem State.cueStatus_cueKeys (s : State) : s.cueStatus.cueKeys = s.cueKeys := by simp [State.cueKeys]

-- ## Staging

/-- Staging leaves a cue its key. -/
theorem State.cueStage_key (s : State) (c : Cue) : ((s.cueStage c).pick, (s.cueStage c).order) = (c.pick, c.order) := by
  unfold State.cueStage
  extract_lets
  split <;> rfl

/-- The cues as staging finds them: those whose pick has come within StageLead begin it (R44). -/
def State.staged (s : State) : List Cue :=
  s.cues.map (fun c => if !c.staging && decide (c.pick ≤ s.time.pick + s.get R.STAGE_LEAD_Lead) then s.cueStage c else c)

theorem State.staged_keys (s : State) : s.staged.map (fun d => (d.pick, d.order)) = s.cueKeys := by
  unfold State.staged State.cueKeys
  rw [List.map_map]
  refine List.map_congr_left (fun c _ => ?_)
  simp only [Function.comp_apply]
  split
  · exact s.cueStage_key c
  · rfl

/-- Everything that staging can do: nothing, or the due cues begin it and the status words follow. -/
theorem State.stageDue_cases (s : State) : s.stageDue = s ∨ s.stageDue = ({ s with cues := s.staged } : State).cueStatus := by
  unfold State.stageDue
  split
  · exact .inl rfl
  · exact .inr rfl

@[simp] theorem State.stageDue_outbox (s : State) : s.stageDue.outbox = s.outbox := by
  obtain h | h := s.stageDue_cases <;> rw [h]
  exact State.cueStatus_outbox _

@[simp] theorem State.stageDue_cueKeys (s : State) : s.stageDue.cueKeys = s.cueKeys := by
  obtain h | h := s.stageDue_cases <;> rw [h]
  exact (State.cueStatus_cueKeys _).trans s.staged_keys

theorem State.stageDue_sameRegs (s : State) : SameRegs cueStatusWords s s.stageDue := by
  obtain h | h := s.stageDue_cases <;> rw [h]
  · exact SameRegs.refl' _ s
  · exact State.cueStatus_sameRegs { s with cues := s.staged }

-- ## The checks of a push

/-- Treadle disabled is the first check (R453). -/
theorem State.cueCheck_disabled {s : State} (h : s.is R.TRD_CTRL_Enable = false) (c : Cue) (r : Bool) : s.cueCheck c r = 0x0E := by
  unfold State.cueCheck
  exact if_pos (by rw [h]; rfl)

/-- An action's own check answers NotSecond, Budget, or passes. -/
theorem State.cueBudget_cases (s : State) (c : Cue) : s.cueBudget c = 0 ∨ s.cueBudget c = 8 ∨ s.cueBudget c = 9 := by
  unfold State.cueBudget
  split_ifs <;> simp

/-- A push that is accepted has passed the checks for a full queue and for a key already pending (R42, R453). -/
theorem State.cueCheck_accepts {s : State} {c : Cue} {r : Bool} (h : s.cueCheck c r ≤ 1) :
    s.cues.length < 256 ∧ ∀ d ∈ s.cues, ¬ (d.pick = c.pick ∧ d.order = c.order) := by
  unfold State.cueCheck at h
  split at h
  · omega
  split at h
  · omega
  split at h
  · omega
  split at h
  · omega
  split at h
  · omega
  rename_i hlen
  split at h
  · omega
  rename_i hkey
  refine ⟨by omega, fun d hd hk => hkey (List.any_eq_true.2 ⟨d, hd, decide_eq_true hk⟩)⟩

/-- Every code of a push fits a result register. -/
theorem State.cueCheck_lt (s : State) (c : Cue) (r : Bool) : s.cueCheck c r < 256 := by
  have hb : s.cueBudget c < 256 := by rcases s.cueBudget_cases c with h | h | h <;> omega
  unfold State.cueCheck
  iterate 11 refine iteInduction (motive := (· < 256)) (fun _ => by omega) (fun _ => ?_)
  decide

-- ## The three outcomes of a push

/-- The state in which a push that was accepted has put its cue at the end of the queue; an XpCommit's transaction becomes Cued (R210). -/
def State.cueQueued (s : State) (c : Cue) : State :=
  let t : State := { s with cues := s.cues ++ [c] }
  if c.action = 3 then t.updTrans (c.arg0 % 65536) (fun x => { x with state := 3 }) else t

theorem State.cueQueued_keeps {γ : Type} (p : State → γ) (h : ∀ (t : State) id f, p (t.updTrans id f) = p t) (s : State) (c : Cue) :
    p (s.cueQueued c) = p { s with cues := s.cues ++ [c] } := by
  unfold State.cueQueued
  extract_lets t
  split
  · exact h _ _ _
  · rfl

theorem State.cueQueued_cues (s : State) (c : Cue) : (s.cueQueued c).cues = s.cues ++ [c] :=
  State.cueQueued_keeps State.cues (fun t id f => cues_of_schedule (schedule_of_timeline (t.updTrans_timeline id f))) s c

theorem State.cueQueued_outbox (s : State) (c : Cue) : (s.cueQueued c).outbox = s.outbox :=
  State.cueQueued_keeps State.outbox State.updTrans_outbox s c

theorem State.cueQueued_rd (s : State) (c : Cue) {a : Nat} (ha : 0x68000 ≤ a ∧ a < 0x70000) : (s.cueQueued c).rd a = s.rd a :=
  State.cueQueued_keeps (fun t => t.rd a) (fun t id f => rd_of_timeline (t.updTrans_timeline id f) ha) s c

section
variable (s : State) (ws : List (BitVec 32)) (o : CueOrigin) (off : Nat)

/-- The code a push of these words is answered with. -/
def State.pushCode : Nat := s.cueCheck (cueOf ws o) (cueReserved ws)

theorem State.cuePush_code : (s.cuePush ws o off).1 = s.pushCode ws o := by
  unfold State.cuePush State.pushCode
  extract_lets c code s1 s2
  split
  · rfl
  · split
    · rename_i h
      exact h.symm
    · rfl

variable {s ws o}

theorem State.cuePush_accepted (h : s.pushCode ws o ≤ 1) : (s.cuePush ws o off).2 = (s.cueQueued (cueOf ws o)).stageDue.cueStatus := by
  unfold State.cuePush
  extract_lets c code s1 s2
  rw [if_pos (show code ≤ 1 from h)]
  rfl

theorem State.cuePush_stale (h : s.pushCode ws o = 2) : (s.cuePush ws o off).2 = s.bump R.CNT_STALE_Count := by
  unfold State.cuePush
  extract_lets c code s1 s2
  have hc : code = 2 := h
  rw [if_neg (by omega), if_pos hc]

theorem State.cuePush_refused (h1 : 1 < s.pushCode ws o) (h2 : s.pushCode ws o ≠ 2) :
    ∃ e : ErrReport, (s.cuePush ws o off).2 = (s.bump R.CNT_REFUSED_Count).report e := by
  unfold State.cuePush
  extract_lets c code s1 s2
  have hc1 : 1 < code := h1
  have hc2 : code ≠ 2 := h2
  rw [if_neg (by omega), if_neg hc2]
  exact ⟨_, rfl⟩

/-- An accepted cue joins the end of the queue. -/
theorem State.cuePush_accepted_keys (h : s.pushCode ws o ≤ 1) :
    (s.cuePush ws o off).2.cueKeys = s.cueKeys ++ [((cueOf ws o).pick, (cueOf ws o).order)] := by
  rw [State.cuePush_accepted off h, State.cueStatus_cueKeys, State.stageDue_cueKeys]
  simp [State.cueKeys, State.cueQueued_cues]

/-- A push that is not accepted leaves the queue as it is. -/
theorem State.cuePush_turned_cues (h : 1 < s.pushCode ws o) : (s.cuePush ws o off).2.cues = s.cues := by
  by_cases h2 : s.pushCode ws o = 2
  · rw [State.cuePush_stale off h2, State.bump_cues]
  · obtain ⟨e, he⟩ := State.cuePush_refused off h h2
    rw [he, State.report_cues, State.bump_cues]

/-- A push hands nothing out. -/
theorem State.cuePush_outbox : (s.cuePush ws o off).2.outbox = s.outbox := by
  rcases Nat.lt_or_ge 1 (s.pushCode ws o) with h | h
  · by_cases h2 : s.pushCode ws o = 2
    · rw [State.cuePush_stale off h2, State.bump_outbox]
    · obtain ⟨e, he⟩ := State.cuePush_refused off h h2
      rw [he, State.report_outbox, State.bump_outbox]
  · rw [State.cuePush_accepted off h, State.cueStatus_outbox, State.stageDue_outbox, State.cueQueued_outbox]

/-- A push leaves every word of TIME and TREADLE as it is but its two counters and those that show the queue. -/
theorem State.cuePush_rd {a : Nat} (ha : 0x68000 ≤ a ∧ a < 0x70000) (hp : a ∉ R.CNT_STALE :: R.CNT_REFUSED :: cueStatusWords) :
    (s.cuePush ws o off).2.rd a = s.rd a := by
  simp only [List.mem_cons, not_or] at hp
  obtain ⟨hstale, hrefused, hshow⟩ := hp
  have hpba : a ≠ R.MSIX_PBA 0 := by unfold R.MSIX_PBA; omega
  rcases Nat.lt_or_ge 1 (s.pushCode ws o) with h | h
  · by_cases h2 : s.pushCode ws o = 2
    · rw [State.cuePush_stale off h2]
      exact State.rd_bump_ne s hstale
    · obtain ⟨e, he⟩ := State.cuePush_refused off h h2
      rw [he, State.rd_report]
      exact State.rd_bump_ne s hrefused
  · rw [State.cuePush_accepted off h, State.cueStatus_sameRegs _ a hshow hpba, State.stageDue_sameRegs _ a hshow hpba, State.cueQueued_rd _ _ ha]

end

end Sys2Proof.Machine
end

section
/-!
PROOF. What a push answers and leaves behind, from the firmware, from a message and from a window (R41, R42, R49, R453).
-/
namespace Sys2Proof.Machine

theorem State.result_cues (s : State) (code seq : Fld) (v : Nat) : (s.result code seq v).cues = s.cues := by
  unfold State.result
  rw [State.bump_cues, State.put_cues]

/-- A push keeps the keys distinct and the queue within 256 (R42). -/
theorem State.cuePush_distinct {s : State} {ws : List (BitVec 32)} {o : CueOrigin} {off : Nat} (hlen : s.cues.length ≤ 256) (hnd : s.cueKeys.Nodup) :
    (s.cuePush ws o off).2.cues.length ≤ 256 ∧ (s.cuePush ws o off).2.cueKeys.Nodup := by
  rcases Nat.lt_or_ge 1 (s.pushCode ws o) with h | h
  · have e := State.cuePush_turned_cues off h
    exact ⟨by rw [e]; exact hlen, by unfold State.cueKeys; rw [e]; exact hnd⟩
  · have e := State.cuePush_accepted_keys off h
    obtain ⟨hroom, hnew⟩ := State.cueCheck_accepts h
    constructor
    · have hl := congrArg List.length e
      simp only [State.cueKeys, List.length_append, List.length_map, List.length_singleton] at hl
      omega
    · rw [e, List.nodup_append]
      refine ⟨hnd, List.nodup_singleton _, fun a ha b hb hab => ?_⟩
      obtain ⟨d, hd, rfl⟩ := List.mem_map.1 ha
      rw [List.mem_singleton.1 hb] at hab
      exact hnew d hd ⟨congrArg Prod.fst hab, congrArg Prod.snd hab⟩

/-- What a write of a window's CMD does: the window's own words are pushed, and the code is stored and counted. -/
theorem State.windowCmd_push (s : State) (k : Nat) : s.windowCmd k 1 =
    (s.cuePush (s.windowCue k) (.window k) (R.W_CMD k)).2.result (R.W_RESULT_Code k) (R.W_RESULT_Seq k) (s.pushCode (s.windowCue k) (.window k)) := by
  unfold State.windowCmd
  rw [← State.cuePush_code]
  rfl

theorem State.windowCmd_cancel (s : State) (k : Nat) : s.windowCmd k 2 =
    (s.cueCancel (cueOf (s.windowCue k) (.window k)).pick (cueOf (s.windowCue k) (.window k)).order).2.result (R.W_RESULT_Code k) (R.W_RESULT_Seq k)
      (s.cueCancel (cueOf (s.windowCue k) (.window k)).pick (cueOf (s.windowCue k) (.window k)).order).1 := by
  unfold State.windowCmd
  rfl

end Sys2Proof.Machine
end

section
/-!
PROOF. Bobbin's queues and the control protocol's messages lie outside the media timeline (R175 to R187, R354 to R368).
-/
namespace Sys2Proof.Machine

-- ## Queues

@[simp] theorem State.setQueue_timeline (s : State) (q : Nat) (v : Queue) : (s.setQueue q v).timeline = s.timeline := (rfl)

@[simp] theorem State.pickCell_timeline (s : State) : s.pickCell.2.timeline = s.timeline := (rfl)

theorem State.qInsert_timeline {s t : State} {q k : Nat} {w : BitVec 32} (h : s.qInsert q k w = some t) : t.timeline = s.timeline := by
  unfold State.qInsert at h
  dsimp only at h
  split at h
  · rw [← Option.some.inj h, State.setQueue_timeline]
  · split at h
    · cases h
    · rw [← Option.some.inj h, State.setQueue_timeline, State.pickCell_timeline]

@[simp] theorem State.qTrim_timeline (s : State) (q : Nat) : (s.qTrim q).timeline = s.timeline := by
  unfold State.qTrim State.free
  dsimp only
  split
  · rfl
  · exact State.setQueue_timeline _ _ _

theorem State.qStart_timeline {s t : State} {q by_ : Nat} (h : s.qStart q by_ = some t) : t.timeline = s.timeline := by
  obtain ⟨u, hu, rfl⟩ := Option.map_eq_some_iff.1 h
  rw [State.setQueue_timeline, State.qInsert_timeline hu]

theorem State.qPush_timeline {s t : State} {q by_ : Nat} {w : BitVec 32} (h : s.qPush q by_ w = some t) : t.timeline = s.timeline := by
  unfold State.qPush at h
  split at h
  · cases h
  · obtain ⟨u, hu, rfl⟩ := Option.map_eq_some_iff.1 h
    rw [State.setQueue_timeline, State.qInsert_timeline hu]

@[simp] theorem State.qDrop_timeline (s : State) (q by_ k : Nat) : (s.qDrop q by_ k).timeline = s.timeline :=
  (State.qTrim_timeline _ _).trans (State.setQueue_timeline _ _ _)

@[simp] theorem State.qCommitFor_timeline (s : State) (q by_ len need : Nat) : (s.qCommitFor q by_ len need).timeline = s.timeline := by
  unfold State.qCommitFor
  extract_lets v
  split
  · exact s.setQueue_timeline _ _
  · rfl

@[simp] theorem State.qFill_timeline (s : State) (q by_ len : Nat) (ws : List (BitVec 32)) : (s.qFill q by_ len ws).2.timeline = s.timeline := by
  induction ws generalizing s with
  | nil => rfl
  | cons w ws ih =>
    unfold State.qFill
    extract_lets v k
    split
    · rfl
    · split
      · rename_i t ht
        rw [ih, State.qPush_timeline ht]
      · rfl

@[simp] theorem State.qDropAs_timeline (s : State) (q by_ : Nat) (r : PutResult) : (s.qDropAs q by_ r).timeline = s.timeline := by
  unfold State.qDropAs
  split
  · exact s.qDrop_timeline _ _ _
  · exact s.qDrop_timeline _ _ _
  · rfl

@[simp] theorem State.qBegin_timeline (s : State) (q by_ len : Nat) (ws : List (BitVec 32)) : (s.qBegin q by_ len ws).2.timeline = s.timeline := by
  unfold State.qBegin
  extract_lets v
  split
  · rfl
  · split
    · rfl
    · rename_i t ht
      rw [State.qFill_timeline, State.qStart_timeline ht]

@[simp] theorem State.qPut_timeline (s : State) (q by_ : Nat) (ws : List (BitVec 32)) (len need : Nat) :
    (s.qPut q by_ ws len need).2.timeline = s.timeline := by
  have hb := s.qBegin_timeline q by_ len ws
  unfold State.qPut
  split
  · rename_i t ht
    rw [ht] at hb
    exact (t.qCommitFor_timeline _ _ _ _).trans hb
  · rename_i r t _ ht
    rw [ht] at hb
    exact (t.qDropAs_timeline _ _ _).trans hb

-- ## Messages

@[simp] theorem State.fwSend_timeline (s : State) (n : Nat) (f : FwFrame) : (s.fwSend n f).timeline = s.timeline := (rfl)

@[simp] theorem State.setObj_timeline (s : State) (i j v : Nat) : (s.setObj i j v).timeline = s.timeline := (rfl)

@[simp] theorem State.lcpCount_timeline (s : State) (i : Nat) : (s.lcpCount i).timeline = s.timeline := (rfl)

@[simp] theorem State.nextCounter_timeline (s : State) : s.nextCounter.2.timeline = s.timeline := (rfl)

@[simp] theorem State.notifySeq_timeline (s : State) (who : Requester) : (s.notifySeq who).2.timeline = s.timeline := (rfl)

@[simp] theorem State.lcpSend_timeline (s : State) (port ip udp cls kind flags target txn : Nat) (body : List Byte) :
    (s.lcpSend port ip udp cls kind flags target txn body).timeline = s.timeline :=
  (State.fwSend_timeline _ _ _).trans s.nextCounter_timeline

@[simp] theorem State.notify_timeline (s : State) (who : Requester) (items : List (List Byte)) : (s.notify who items).timeline = s.timeline := by
  cases who with
  | net port ip udp unit => exact (State.lcpCount_timeline _ _).trans ((State.lcpSend_timeline _ _ _ _ _ _ _ _ _ _).trans (s.notifySeq_timeline _))
  | mbox m =>
    have hr : Aside (R.MBX_NOTIFY_DROP m) := .inr (by unfold R.MBX_NOTIFY_DROP; omega)
    unfold State.notify
    dsimp only
    split
    · rfl
    · generalize hp : State.qPut _ _ _ _ _ _ = p
      have hk : p.2.timeline = s.timeline := by rw [← hp, State.qPut_timeline, State.notifySeq_timeline]
      split
      · exact (State.lcpCount_timeline _ _).trans hk
      · exact (State.lcpCount_timeline _ _).trans ((State.bump_timeline _ hr).trans hk)

@[simp] theorem State.cueNotify_timeline (s : State) (c : Cue) (d : DoneRec) : (s.cueNotify c d).timeline = s.timeline := by
  unfold State.cueNotify
  extract_lets item
  split
  · rfl
  · split
    · exact s.notify_timeline _ _
    · exact s.notify_timeline _ _
    · rfl

@[simp] theorem State.planRefused_timeline (s : State) (i : Nat) : (s.planRefused i).timeline = s.timeline := (rfl)

end Sys2Proof.Machine
end

section
/-!
PROOF. Cues that leave the queue (R45, R46, R49): completion records, cancels, and what a window's result shows.
-/
namespace Sys2Proof.Machine

-- ## The completion log

/-- Completing a cue leaves every word of TIME and TREADLE as it is but the two counters of completions. -/
theorem State.cueDone_rd (s : State) (c : Cue) (status exec : Nat) {a : Nat} (ha : 0x68000 ≤ a ∧ a < 0x70000) (hl : a ≠ R.CNT_DONE_LOST)
    (hd : a ≠ R.CNT_DONE) : (s.cueDone c status exec).rd a = s.rd a := by
  unfold State.cueDone
  extract_lets d s1 s2 s3 s4
  have h1 : s1.rd a = s.rd a := by
    dsimp only [s1]
    split
    · rfl
    · exact State.rd_bump_ne _ hl
  have h3 : s3.rd a = s.rd a := by
    dsimp only [s3]
    split
    · exact (State.rd_bump_ne s2 hd).trans h1
    · exact h1
  have h4 : s4.timeline = s3.timeline := by
    dsimp only [s4]
    split
    · exact s3.planRefused_timeline _
    · rfl
  exact (rd_of_timeline ((s4.cueNotify_timeline c d).trans h4) ha).trans h3

@[simp] theorem State.cueDone_schedule (s : State) (c : Cue) (status exec : Nat) : (s.cueDone c status exec).schedule = s.schedule := by
  unfold State.cueDone
  extract_lets d s1 s2 s3 s4
  have h1 : s1.schedule = s.schedule := by
    dsimp only [s1]
    split
    · rfl
    · exact State.bump_schedule _ _
  have h3 : s3.schedule = s.schedule := by
    dsimp only [s3]
    split
    · exact (State.bump_schedule s2 _).trans h1
    · exact h1
  have h4 : s4.timeline = s3.timeline := by
    dsimp only [s4]
    split
    · exact s3.planRefused_timeline _
    · rfl
  exact (schedule_of_timeline ((s4.cueNotify_timeline c d).trans h4)).trans h3

-- ## Cancels

theorem State.cueRelease_timeline (s : State) (c : Cue) : (s.cueRelease c).timeline = s.timeline := by
  unfold State.cueRelease
  split
  · exact s.updTrans_timeline _ _
  · rfl

/-- A cue that is cancelled is counted (R49). -/
theorem State.cueDiscard_cancel (s : State) (c : Cue) : s.cueDiscard c 3 = ((s.cueRelease c).bump R.CNT_CANCEL_Count).cueDone c 3 0 := rfl

theorem State.cueDiscard_cues (s : State) (c : Cue) : (s.cueDiscard c 3).cues = s.cues := by
  rw [State.cueDiscard_cancel, cues_of_schedule (State.cueDone_schedule _ _ _ _), State.bump_cues]
  exact cues_of_schedule (schedule_of_timeline (s.cueRelease_timeline c))

theorem State.cueDiscard_count (s : State) (c : Cue) : (s.cueDiscard c 3).get R.CNT_CANCEL_Count = (s.get R.CNT_CANCEL_Count + 1) % 2 ^ 32 := by
  rw [State.cueDiscard_cancel, State.get_congr (State.cueDone_rd _ c 3 0 (by decide) (by decide) (by decide)), State.get_bump_same _ _ (by decide),
    get_of_timeline (s.cueRelease_timeline c) (by decide)]
  rfl

/-- A cancel leaves every word of TIME and TREADLE as it is but the counters and those that show the queue. -/
theorem State.cueDiscard_rd (s : State) (c : Cue) {a : Nat} (ha : 0x68000 ≤ a ∧ a < 0x70000)
    (hc : a ∉ [R.CNT_DONE_LOST, R.CNT_DONE, R.CNT_CANCEL]) : (s.cueDiscard c 3).rd a = s.rd a := by
  simp only [List.mem_cons, List.not_mem_nil, or_false, not_or] at hc
  obtain ⟨hlost, hdone, hcancel⟩ := hc
  rw [State.cueDiscard_cancel, State.cueDone_rd _ c 3 0 ha hlost hdone, State.rd_bump_ne _ hcancel, rd_of_timeline (s.cueRelease_timeline c) ha]

/-- The pending cues without those of a key. -/
def State.cuesWithout (s : State) (pick order : Nat) : List Cue := s.cues.filter (fun d => decide (¬ (d.pick = pick ∧ d.order = order)))

/-- Everything a cancel can do: it finds the key, or no cue has it. -/
theorem State.cueCancel_cases (s : State) (pick order : Nat) :
    ((∀ d ∈ s.cues, ¬ (d.pick = pick ∧ d.order = order)) ∧ s.cueCancel pick order = (0x0B, s))
    ∨ ((∃ d ∈ s.cues, d.pick = pick ∧ d.order = order)
        ∧ ∃ c, s.cueCancel pick order = (0x0C, (({ s with cues := s.cuesWithout pick order } : State).cueDiscard c 3).cueStatus)) := by
  unfold State.cueCancel
  split
  · rename_i h
    exact .inl ⟨fun d hd hk => by simpa [hk] using List.find?_eq_none.1 h d hd, rfl⟩
  · rename_i c h
    have hk : c.pick = pick ∧ c.order = order := by simpa using List.find?_some h
    refine .inr ⟨⟨c, List.mem_of_find?_eq_some h, hk⟩, c, ?_⟩
    obtain ⟨rfl, rfl⟩ := hk
    have e : s.cuesWithout c.pick c.order = s.cues.filter (fun d => !d.sameKey c) := by
      simp [State.cuesWithout, Cue.sameKey]
    rw [e]

/-- A cancel takes the cues with the key from the queue (R49). -/
theorem State.cueCancel_cues (s : State) (pick order : Nat) : (s.cueCancel pick order).2.cues = s.cuesWithout pick order := by
  obtain ⟨hno, e⟩ | ⟨-, c, e⟩ := s.cueCancel_cases pick order
  · rw [e]
    exact (List.filter_eq_self.2 (fun d hd => decide_eq_true (hno d hd))).symm
  · rw [e, State.cueStatus_cues, State.cueDiscard_cues]

/-- The code a cancel answers. -/
theorem State.cueCancel_code (s : State) (pick order : Nat) :
    (s.cueCancel pick order).1 = if s.cues.any (fun d => decide (d.pick = pick ∧ d.order = order)) then 0x0C else 0x0B := by
  obtain ⟨hno, e⟩ | ⟨⟨d, hd, hk⟩, c, e⟩ := s.cueCancel_cases pick order
  · rw [e, if_neg]
    simpa using hno
  · rw [e, if_pos]
    exact List.any_eq_true.2 ⟨d, hd, decide_eq_true hk⟩

theorem State.cueCancel_rd (s : State) (pick order : Nat) {a : Nat} (ha : 0x68000 ≤ a ∧ a < 0x70000)
    (hc : a ∉ [R.CNT_DONE_LOST, R.CNT_DONE, R.CNT_CANCEL]) (hw : a ∉ cueStatusWords) : (s.cueCancel pick order).2.rd a = s.rd a := by
  obtain ⟨-, e⟩ | ⟨-, c, e⟩ := s.cueCancel_cases pick order
  · rw [e]
  · rw [e, State.cueStatus_sameRegs _ a hw (by unfold R.MSIX_PBA; omega), State.cueDiscard_rd _ c ha hc]
    rfl

end Sys2Proof.Machine
end

section
/-!
PROOF. Pushes, cancels, arming and the completion log: the statements (R41, R42, R44, R45, R49, R453).
-/
namespace Sys2Proof.Machine

-- ## What the commands answer

section
variable {s : State} (hs : Ready s)
include hs

theorem exec_cuePush {path : CuePath} (hp : ∀ k, path ≠ .window k) (hw : path.wf = true) (ws : List (BitVec 32)) :
    exec (.cuePush path ws) s = ((s.cuePush ws (originOf path) 0).2.send (.opResult 0x9110 0 (s.pushCode ws (originOf path)))).done := by
  refine (s.accept_live _ _ hw hs).trans ?_
  rw [← State.cuePush_code s ws (originOf path) 0]
  cases path with
  | window k => exact absurd rfl (hp k)
  | firmware => rfl
  | writeAt port ip udp => rfl

theorem exec_cuePush_window {k : Nat} (hk : k < 4) (ws : List (BitVec 32)) : exec (.cuePush (.window k) ws) s = (s.windowCmd k 1).done :=
  s.accept_live _ _ (decide_eq_true hk) hs

theorem exec_cueCancel {path : CuePath} (hp : ∀ k, path ≠ .window k) (hw : path.wf = true) (pick order : Nat) :
    exec (.cueCancel path pick order) s = ((s.cueCancel pick order).2.send (.opResult 0x9111 0 (s.cueCancel pick order).1)).done := by
  refine (s.accept_live _ _ hw hs).trans ?_
  cases path with
  | window k => exact absurd rfl (hp k)
  | firmware => rfl
  | writeAt port ip udp => rfl

theorem exec_cueCancel_window {k : Nat} (hk : k < 4) (pick order : Nat) :
    exec (.cueCancel (.window k) pick order) s = (s.windowCmd k 2).done :=
  s.accept_live _ _ (decide_eq_true hk) hs

end

/-- Everything a push can answer: a refusal, the state unchanged, or the push from the path's words with its result put somewhere that holds no cue. -/
theorem exec_cuePush_cases (s : State) (path : CuePath) (ws : List (BitVec 32)) :
    (∃ r, exec (.cuePush path ws) s = .refused r) ∨ exec (.cuePush path ws) s = .next s
      ∨ ∃ (us : List (BitVec 32)) (o : CueOrigin) (off : Nat) (u : State), exec (.cuePush path ws) s = u.done ∧ u.cues = (s.cuePush us o off).2.cues := by
  rcases s.accept_cases path.wf _ with ⟨-, h⟩ | ⟨-, -, h⟩ | ⟨hw, hs, -⟩
  · exact .inl ⟨_, h⟩
  · exact .inr (.inl h)
  · refine .inr (.inr ?_)
    by_cases hp : ∀ k, path ≠ .window k
    · exact ⟨ws, originOf path, 0, _, exec_cuePush hs hp hw ws, State.send_cues _ _⟩
    · obtain ⟨k, rfl⟩ : ∃ k, path = .window k := by simpa using hp
      refine ⟨s.windowCue k, .window k, R.W_CMD k, _, exec_cuePush_window hs (of_decide_eq_true hw) ws, ?_⟩
      rw [State.windowCmd_push, State.result_cues]

/-- Settles O13: a push that is accepted has passed the checks of a full queue and of its key, and any other leaves the queue as it is. -/
theorem cueKeysStayDistinct : Obligations.CueKeysStayDistinct := by
  intro s t path ws hlen hnd ht
  rcases exec_cuePush_cases s path ws with ⟨r, h⟩ | h | ⟨us, o, off, u, h, hu⟩
  · cases h.symm.trans ht
  · obtain rfl := Host.Outcome.next.inj (h.symm.trans ht)
    exact ⟨hlen, hnd⟩
  · obtain rfl := Host.Outcome.next.inj (h.symm.trans ht)
    have hpush := State.cuePush_distinct (ws := us) (o := o) (off := off) hlen hnd
    rw [State.settle_cues, hu]
    exact hpush

-- ## A window's result

theorem windowResult_plain : ∀ k, k < 4 → R.W_RESULT k ∉ R.CNT_STALE :: R.CNT_REFUSED :: cueStatusWords
    ∧ R.W_RESULT k ∉ [R.CNT_DONE_LOST, R.CNT_DONE, R.CNT_CANCEL] := by decide

theorem windowResult_bounds {k : Nat} (hk : k < 4) : 0x68000 ≤ R.W_RESULT k ∧ R.W_RESULT k < 0x70000 := by unfold R.W_RESULT; omega

/-- The code and the count of a result are two fields of one word. -/
theorem windowResult_fields (k : Nat) : (R.W_RESULT_Code k).lsb + (R.W_RESULT_Code k).wid ≤ 32 ∧ (R.W_RESULT_Seq k).lsb + (R.W_RESULT_Seq k).wid ≤ 32
    ∧ (R.W_RESULT_Code k).lsb + (R.W_RESULT_Code k).wid ≤ (R.W_RESULT_Seq k).lsb :=
  ⟨Nat.le_of_ble_eq_true rfl, Nat.le_of_ble_eq_true rfl, Nat.le_of_ble_eq_true rfl⟩

/-- A result put into a window's register: the code stands in it, and Seq has counted it. -/
theorem State.result_window (s : State) {k v : Nat} (hk : k < 4) (hv : v < 256) :
    (s.result (R.W_RESULT_Code k) (R.W_RESULT_Seq k) v).settle.get (R.W_RESULT_Code k) = v
    ∧ (s.result (R.W_RESULT_Code k) (R.W_RESULT_Seq k) v).settle.get (R.W_RESULT_Seq k) = (s.get (R.W_RESULT_Seq k) + 1) % 2 ^ 16 := by
  have hpba : R.W_RESULT k ≠ R.MSIX_PBA 0 := fun e => absurd (e ▸ windowResult_bounds hk) (by decide)
  obtain ⟨hcode, hseq, hbeside⟩ := windowResult_fields k
  unfold State.result
  constructor
  · rw [State.settle_get _ hpba, State.get_bump_ne _ hseq (.inr (.inl hbeside))]
    exact State.get_put_fit _ (w := 8) hcode rfl hv
  · rw [State.settle_get _ hpba, State.get_bump_same _ _ hseq, State.get_put_ne _ hcode (.inr (.inr hbeside))]
    rfl

/-- What a push from window k leaves in its result. -/
theorem State.windowPush_result (s : State) {k : Nat} (hk : k < 4) :
    (s.windowCmd k 1).settle.get (R.W_RESULT_Code k) = s.pushCode (s.windowCue k) (.window k)
    ∧ (s.windowCmd k 1).settle.get (R.W_RESULT_Seq k) = (s.get (R.W_RESULT_Seq k) + 1) % 2 ^ 16 := by
  rw [State.windowCmd_push]
  obtain ⟨hcode, hseq⟩ := State.result_window (s.cuePush (s.windowCue k) (.window k) (R.W_CMD k)).2 hk (s.cueCheck_lt _ _)
  refine ⟨hcode, hseq.trans ?_⟩
  rw [State.get_congr (State.cuePush_rd _ (windowResult_bounds hk) (windowResult_plain k hk).1)]

/-- What a cancel from window k leaves in its result and in the queue. -/
theorem State.windowCancel_result (s : State) {k : Nat} (hk : k < 4) {pick order : Nat}
    (hkey : ((cueOf (s.windowCue k) (.window k)).pick, (cueOf (s.windowCue k) (.window k)).order) = (pick, order)) :
    (s.windowCmd k 2).settle.get (R.W_RESULT_Code k) = (if s.cues.any (fun d => decide (d.pick = pick ∧ d.order = order)) then 0x0C else 0x0B)
    ∧ (s.windowCmd k 2).settle.get (R.W_RESULT_Seq k) = (s.get (R.W_RESULT_Seq k) + 1) % 2 ^ 16
    ∧ (s.windowCmd k 2).settle.cues = s.cuesWithout pick order := by
  obtain ⟨rfl, rfl⟩ := Prod.mk.inj hkey
  rw [State.windowCmd_cancel]
  generalize (cueOf (s.windowCue k) (.window k)).pick = pick
  generalize (cueOf (s.windowCue k) (.window k)).order = order
  have hlt : (s.cueCancel pick order).1 < 256 := by
    rw [State.cueCancel_code]
    split <;> decide
  obtain ⟨hcode, hseq⟩ := State.result_window (s.cueCancel pick order).2 hk hlt
  obtain ⟨hpush, hcancel⟩ := windowResult_plain k hk
  have hstatus : R.W_RESULT k ∉ cueStatusWords := fun h => hpush (List.mem_cons_of_mem _ (List.mem_cons_of_mem _ h))
  refine ⟨hcode.trans (s.cueCancel_code _ _), hseq.trans ?_, ?_⟩
  · rw [State.get_congr (s.cueCancel_rd _ _ (windowResult_bounds hk) hcancel hstatus)]
  · rw [State.settle_cues, State.result_cues, State.cueCancel_cues]

/-- Settles O12: the checks of a push, and what each of its outcomes leaves behind. -/
theorem cuePushes : Obligations.CuePushes := by
  refine ⟨fun s path ws hs hp hw => ⟨fun h => State.cueCheck_disabled h _ _, fun h => State.cueCheck_accepts (r := cueReserved ws) (by omega), ?_⟩,
    fun s k ws pick order hs hk => ⟨?_, ?_⟩⟩
  · refine Gives.of_done (exec_cuePush hs hp hw ws) ⟨Sends.settle' (congrArg (· ++ _) (State.cuePush_outbox _)), fun h => ?_, fun h => ?_, fun h1 h2 => ?_⟩
    · rw [State.settle_cues, State.send_cues]
      exact State.cuePush_accepted_keys 0 (by unfold State.pushCode; omega)
    · rw [State.settle_cues, State.send_cues, State.settle_get _ (by decide), State.get_send]
      refine ⟨State.cuePush_turned_cues 0 (by unfold State.pushCode; omega), ?_⟩
      rw [State.cuePush_stale 0 h, State.get_bump_same _ _ (by decide)]
      rfl
    · rw [State.settle_cues, State.send_cues, State.settle_get _ (by decide), State.get_send]
      refine ⟨State.cuePush_turned_cues 0 h1, ?_⟩
      obtain ⟨e, he⟩ := State.cuePush_refused 0 h1 h2
      rw [he, State.get_report, State.get_bump_same _ _ (by decide)]
      rfl
  · obtain ⟨hcode, hseq⟩ := s.windowPush_result hk
    refine Gives.of_done (exec_cuePush_window hs hk ws) ⟨hcode, hseq, fun h => ?_, fun h => ?_⟩
    · rw [State.settle_cues, State.windowCmd_push, State.result_cues]
      exact State.cuePush_accepted_keys _ (by unfold State.pushCode; omega)
    · rw [State.settle_cues, State.windowCmd_push, State.result_cues]
      exact State.cuePush_turned_cues _ h
  · exact Gives.of_done (exec_cueCancel_window hs hk pick order) (s.windowCancel_result hk rfl)

end Sys2Proof.Machine
end

section
/-!
PROOF. Cancels, the arming of cues, and the completion log (R44, R45, R49).
-/
namespace Sys2Proof.Machine

-- ## Words that change along with the queue or with the log

theorem OnlyRegs.cues_back {offs : List Nat} {s t : State} {cs : List Cue} (h : OnlyRegs offs { s with cues := cs } t) :
    OnlyRegs offs s { t with cues := s.cues } := by
  obtain ⟨hregs, hrest⟩ := h
  have e := congrArg (fun u : State => { u with cues := s.cues }) hrest
  exact ⟨hregs, e⟩

theorem OnlyRegs.doneLog_back {offs : List Nat} {s t : State} {ds : List DoneRec} (h : OnlyRegs offs { s with doneLog := ds } t) :
    OnlyRegs offs s { t with doneLog := s.doneLog } := by
  obtain ⟨hregs, hrest⟩ := h
  have e := congrArg (fun u : State => { u with doneLog := s.doneLog }) hrest
  exact ⟨hregs, e⟩

/-- The words a read of DONE_INFO latches (R45). -/
def doneWords : List Nat := [R.DONE_PICK_LO, R.DONE_PICK_HI, R.DONE_EXEC]

/-- The state in which a completion record's pick and index are latched. -/
def State.doneLatch (s : State) (d : DoneRec) : State := (s.put64 R.DONE_PICK_LO_Pick R.DONE_PICK_HI_Pick d.pick).put R.DONE_EXEC_ExecLo d.exec

theorem State.doneLatch_onlyRegs (s : State) (d : DoneRec) : OnlyRegs doneWords s (s.doneLatch d) :=
  .of_regs (((SameRegs.refl' _ s).put64' (by decide) (by decide) _).put' (by decide) _) (((RegsOnly.refl' s).put64' _ _ _).put' _ _)

theorem State.doneLatch_pick (s : State) (d : DoneRec) : (s.doneLatch d).get R.DONE_PICK_LO_Pick = d.pick % 2 ^ 32 := by
  unfold State.doneLatch
  rw [State.get_put_ne _ (by decide) (by decide)]
  exact State.get_put64_lo _ _ (by decide) rfl (by decide)

theorem State.doneLatch_outbox (s : State) (d : DoneRec) : (s.doneLatch d).outbox = s.outbox := by
  unfold State.doneLatch State.put64
  rw [State.put_outbox, State.put_outbox, State.put_outbox]

theorem State.doneLatch_doneLog (s : State) (d : DoneRec) : (s.doneLatch d).doneLog = s.doneLog := by
  unfold State.doneLatch State.put64
  rw [State.put_doneLog, State.put_doneLog, State.put_doneLog]

-- ## What the commands answer

/-- The pending cues with those armed whose staging completes (R44, R212). -/
def State.armedCues (s : State) (pick order : Nat) : List Cue :=
  s.cues.map (fun c => if c.pick = pick ∧ c.order = order ∧ c.staging ∧ c.action ≠ 3 then { c with armed := true } else c)

section
variable {s : State} (hs : Ready s)
include hs

theorem exec_cueArmed_off (h : s.is R.TRD_CTRL_Enable = false) (pick order : Nat) : exec (.cueArmed pick order) s = s.done := by
  show execCueArmed pick order s = _
  unfold execCueArmed
  rw [State.live_live _ _ hs, h]
  rfl

theorem exec_cueArmed_on (h : s.is R.TRD_CTRL_Enable = true) (pick order : Nat) :
    exec (.cueArmed pick order) s = (({ s with cues := s.armedCues pick order } : State).cueStatus).done := by
  show execCueArmed pick order s = _
  unfold execCueArmed
  rw [State.live_live _ _ hs, h]
  rfl

theorem exec_doneInfoPop_empty (h : s.doneLog = []) : exec .doneInfoPop s = (s.send (.readData R.DONE_INFO 0xFF00)).done := by
  show execDoneInfoPop s = _
  unfold execDoneInfoPop State.donePop
  rw [State.live_live _ _ hs, h]

theorem exec_doneInfoPop {d : DoneRec} {ds : List DoneRec} (h : s.doneLog = d :: ds) : exec .doneInfoPop s =
    ((({ s with doneLog := ds } : State).doneLatch d).send (.readData R.DONE_INFO (d.action + d.status * 2 ^ 8 + d.order * 2 ^ 16))).done := by
  show execDoneInfoPop s = _
  unfold execDoneInfoPop State.donePop
  rw [State.live_live _ _ hs, h]
  rfl

end

-- ## The statement

/-- A cancel that finds its key takes the cue from the queue and counts it (R49). -/
theorem State.cueCancel_count {s : State} {pick order : Nat} (h : ∃ d ∈ s.cues, d.pick = pick ∧ d.order = order) :
    (s.cueCancel pick order).2.get R.CNT_CANCEL_Count = (s.get R.CNT_CANCEL_Count + 1) % 2 ^ 32 := by
  obtain ⟨hno, -⟩ | ⟨-, c, e⟩ := s.cueCancel_cases pick order
  · obtain ⟨d, hd, hk⟩ := h
    exact absurd hk (hno d hd)
  · rw [e, State.get_congr (State.cueStatus_sameRegs _ _ (by decide) (by decide)), State.cueDiscard_count]
    rfl

/-- A completed staging arms its cue and shows it, and nothing else changes (R44). -/
theorem cueArmed_gives {s : State} (hs : Ready s) (h : s.is R.TRD_CTRL_Enable = true) (pick order : Nat) :
    Gives (.cueArmed pick order) s (fun t => t.cues = s.armedCues pick order ∧ OnlyRegs cueStatusWords s { t with cues := s.cues }) := by
  refine Gives.of_done (exec_cueArmed_on hs h pick order) ⟨?_, ?_⟩
  · rw [State.settle_cues, State.cueStatus_cues]
  · exact OnlyRegs.cues_back ((OnlyRegs.of_regs (State.cueStatus_sameRegs _) (State.cueStatus_regsOnly _)).settle')

/-- A read of DONE_INFO removes the oldest record and latches its words (R45). -/
theorem doneInfoPop_gives {s : State} (hs : Ready s) {d : DoneRec} {ds : List DoneRec} (h : s.doneLog = d :: ds) :
    Gives .doneInfoPop s (fun t => t.doneLog = ds ∧ Sends [.readData R.DONE_INFO (d.action + d.status * 2 ^ 8 + d.order * 2 ^ 16)] s t
      ∧ t.get R.DONE_PICK_LO_Pick = d.pick % 2 ^ 32 ∧ OnlyRegs doneWords s { t with doneLog := s.doneLog }) := by
  refine Gives.of_done (exec_doneInfoPop hs h) ⟨?_, Sends.settle' ?_, ?_, ?_⟩
  · rw [State.settle_doneLog, State.send_doneLog, State.doneLatch_doneLog]
  · rw [State.send_outbox, State.doneLatch_outbox]
  · rw [State.settle_get _ (by decide), State.get_send, State.doneLatch_pick]
  · exact OnlyRegs.doneLog_back ((State.doneLatch_onlyRegs { s with doneLog := ds } d).send' _).settle'

/-- Settles O14: a cancel, the arming of a cue, and a read of the completion log, by what each command answers. -/
theorem cueQueueCommands : Obligations.CueQueueCommands := by
  refine fun s hs => ⟨fun path pick order hp hw => ⟨fun hno => ?_, fun hyes => ?_⟩, fun h pick order => Ends.of_done (exec_cueArmed_off hs h pick order),
    cueArmed_gives hs, fun h => Ends.of_done (exec_doneInfoPop_empty hs h), fun d ds h => doneInfoPop_gives hs h⟩
  · have hc := exec_cueCancel hs hp hw pick order
    obtain ⟨-, e⟩ | ⟨⟨d, hd, hk⟩, -⟩ := s.cueCancel_cases pick order
    · rw [e] at hc
      exact Ends.of_done hc
    · exact absurd hk (hno d hd)
  · refine Gives.of_done (exec_cueCancel hs hp hw pick order) ⟨?_, ?_⟩
    · rw [State.settle_cues, State.send_cues, State.cueCancel_cues]
      rfl
    · rw [State.settle_get _ (by decide), State.get_send, State.cueCancel_count hyes]

end Sys2Proof.Machine
end

section
/-!
PROOF. What selection and the DPLL leave of a reference (R53 to R60): its state changes only where selection takes a reference early from its
wait to restore (R58).
-/
namespace Sys2Proof.Machine

/-- What a reference's qualification shows: its status word, its failures, and whether it is present. -/
def State.refView (s : State) (k : Nat) : BitVec 32 × BitVec 32 × Bool := (s.rd (R.REF_STATUS k), s.rd (R.CNT_REF_FAIL k), (s.refSt k).present)

/-- A register that shows neither a reference's status nor its failures. -/
abbrev Apart (a : Nat) : Prop := ∀ k, k < 10 → R.REF_STATUS k ≠ a ∧ R.CNT_REF_FAIL k ≠ a

theorem State.refState_congr {s t : State} {k : Nat} (h : t.refView k = s.refView k) : t.refState k = s.refState k :=
  State.get_congr (f := R.REF_STATUS_State k) (congrArg Prod.fst h)

/-- A change of a reference's other parts, or of another reference. -/
theorem State.updRef_refView (s : State) (k r : Nat) {f : RefSt → RefSt} (hf : ∀ x, (f x).present = x.present) : (s.updRef r f).refView k = s.refView k := by
  have e : ((s.updRef r f).refSt k).present = (s.refSt k).present := by
    unfold State.refSt State.updRef
    by_cases h : k = r
    · subst h
      simp only [tget_tupd_same, hf]
    · simp only [tupd, tget_tput_ne _ h]
  unfold State.refView
  rw [e]
  rfl

/-- A change of what Reed holds beside its references. -/
theorem State.withReed_refView (s : State) {r : ReedSt} (h : r.refs = s.reed.refs) (k : Nat) : ({ s with reed := r } : State).refView k = s.refView k := by
  unfold State.refView State.refSt
  dsimp only
  rw [h]
  rfl

/-- A register of another reference. -/
theorem State.putRef_refView (s : State) {f : Fld} {k r : Nat} (hr : k ≠ r) (hf : f.reg = R.REF_STATUS r) (v : Nat) :
    (s.put f v).refView k = s.refView k := by
  have hst : R.REF_STATUS k ≠ f.reg := by rw [hf]; unfold R.REF_STATUS; omega
  have hfail : R.CNT_REF_FAIL k ≠ f.reg := by rw [hf]; unfold R.CNT_REF_FAIL R.REF_STATUS; omega
  unfold State.refView
  rw [State.rd_put_ne s hst, State.rd_put_ne s hfail]
  rfl

theorem State.moveTai_refView (s : State) (d : Int) (k : Nat) : (s.moveTai d).refView k = s.refView k := rfl

/-- Free run with the history cleared, as Mode 3 takes it up (R57, R64). -/
def State.freeRun (s : State) : State :=
  let s := ((s.put R.RD_STATUS_State 0).select 0xF).put R.RD_STATUS_Target 0xF
  let s := { s with reed := { s.reed with hist := [] } }
  ((s.put R.RD_STATUS_HistValid 0).put R.HOLD_STATUS_OutOfSpec 0).holdShow

theorem State.modeTake_eq (s : State) : s.modeTake =
    if s.get R.RD_CTRL_Mode = 2 then (if s.get R.RD_STATUS_State = 4 then s else s.holdoverEnter)
    else if s.get R.RD_CTRL_Mode = 3 then s.freeRun else s := rfl

-- ## What the DPLL's operations leave alone

section
variable (s : State) {k : Nat} (hk : k < 10)
include hk

theorem State.put_refView {f : Fld} (hf : Apart f.reg) (v : Nat) : (s.put f v).refView k = s.refView k := by
  obtain ⟨hst, hfail⟩ := hf k hk
  unfold State.refView
  rw [State.rd_put_ne s hst, State.rd_put_ne s hfail]
  rfl

theorem State.put64I_refView {lo hi : Fld} (hlo : Apart lo.reg) (hhi : Apart hi.reg) (i : Int) : (s.put64I lo hi i).refView k = s.refView k :=
  (State.put_refView _ hk hhi _).trans (State.put_refView _ hk hlo _)

theorem State.select_refView (r : Nat) : (s.select r).refView k = s.refView k := by
  have h := s.put_refView hk (f := R.RD_STATUS_Selected) (by decide) r
  unfold State.select
  extract_lets old t
  split
  · exact h
  · exact h

theorem State.holdShow_refView : s.holdShow.refView k = s.refView k := by
  unfold State.holdShow
  split
  · rfl
  · exact s.put_refView hk (by decide) _

theorem State.holdoverEnter_refView : s.holdoverEnter.refView k = s.refView k := by
  have put := fun (t : State) {f : Fld} (hf : Apart f.reg) (v : Nat) => t.put_refView hk hf v
  unfold State.holdoverEnter
  extract_lets s0 w fu s1 r2 s2
  have h0 : s0.refView k = s.refView k := s.holdShow_refView hk
  have h1 : s1.refView k = s.refView k :=
    (put _ (by decide) _).trans ((put _ (by decide) _).trans ((State.select_refView _ hk _).trans ((put _ (by decide) _).trans h0)))
  have h2 : s2.refView k = s.refView k := (State.withReed_refView s1 rfl k).trans h1
  exact (put _ (by decide) _).trans ((put _ (by decide) _).trans ((put _ (by decide) _).trans ((put _ (by decide) _).trans h2)))

theorem State.holdOrFree_refView : s.holdOrFree.refView k = s.refView k := by
  unfold State.holdOrFree
  split
  · exact s.holdoverEnter_refView hk
  · exact (State.put_refView _ hk (by decide) _).trans ((State.select_refView _ hk _).trans (s.put_refView hk (by decide) _))

theorem State.acquireFrom_refView (r : Nat) (x : Int) : (s.acquireFrom r x).refView k = s.refView k := by
  unfold State.acquireFrom
  extract_lets t
  have ht : t.refView k = s.refView k := (State.select_refView _ hk _).trans (s.put_refView hk (by decide) _)
  split
  · exact (t.put64I_refView hk (by decide) (by decide) _).trans ht
  · exact ((t.moveTai x).put64I_refView hk (by decide) (by decide) _).trans ((t.moveTai_refView x k).trans ht)

theorem State.switchStart_refView (r : Nat) : (s.switchStart r).refView k = s.refView k := by
  unfold State.switchStart
  extract_lets s1 s2 r3 s3
  have h2 : s2.refView k = s.refView k :=
    (State.put_refView _ hk (by decide) _).trans ((State.put_refView _ hk (by decide) _).trans (s.put_refView hk (by decide) _))
  exact (State.forN_keeps (fun t => t.refView k) 10 _ (fun i _ t => t.updRef_refView k i (by intro; rfl)) s3).trans ((State.withReed_refView s2 rfl k).trans h2)

/-- A free run with the history cleared (R57, R64). -/
theorem State.freeRun_refView : s.freeRun.refView k = s.refView k := by
  unfold State.freeRun
  extract_lets s1 r2 s2
  have h1 : s1.refView k = s.refView k :=
    (State.put_refView _ hk (by decide) _).trans ((State.select_refView _ hk _).trans (s.put_refView hk (by decide) _))
  have h2 : s2.refView k = s.refView k := (State.withReed_refView s1 rfl k).trans h1
  have h3 : (s2.put R.RD_STATUS_HistValid 0).refView k = s.refView k := (State.put_refView _ hk (by decide) _).trans h2
  have h4 : ((s2.put R.RD_STATUS_HistValid 0).put R.HOLD_STATUS_OutOfSpec 0).refView k = s.refView k := (State.put_refView _ hk (by decide) _).trans h3
  exact (State.holdShow_refView _ hk).trans h4

theorem State.modeTake_refView : s.modeTake.refView k = s.refView k := by
  rw [State.modeTake_eq]
  split
  · split
    · rfl
    · exact s.holdoverEnter_refView hk
  · split
    · exact s.freeRun_refView hk
    · rfl

-- ## Qualifying another reference

theorem State.refQualify_refView {r : Nat} (hr : k ≠ r) : (s.refQualify r).refView k = s.refView k := by
  have put := fun (t : State) {f : Fld} (hf : f.reg = R.REF_STATUS r) (v : Nat) => t.putRef_refView hr hf v
  unfold State.refQualify State.refGo
  extract_lets s1 s2
  have h1 : s1.refView k = s.refView k :=
    (put _ rfl _).trans ((put _ rfl _).trans ((State.updRef_refView _ k r (by intro; rfl)).trans ((put _ rfl _).trans (put _ rfl _))))
  have h2 : s2.refView k = s.refView k := by
    dsimp only [s2]
    split
    · exact (State.updRef_refView _ k r (by intro; rfl)).trans h1
    · exact h1
  split
  · exact ((s2.moveTai _).put_refView hk (by decide) _).trans ((s2.moveTai_refView _ k).trans h2)
  · exact h2

-- ## Selection

variable (h5 : s.refState k ≠ 5)
include h5

/-- Selection takes a reference early only from its wait to restore. -/
theorem State.selection_refView : s.selection.2.refView k = s.refView k := by
  have hdis := s.put_refView hk (f := R.RD_STATUS_Disagree) (by decide) 0
  unfold State.selection
  split
  rename_i mode forced hm
  split
  · exact hdis
  split
  · rfl
  extract_lets cs s0 ws top dis s1 s2 sel
  split
  · split
    · split
      · rename_i r hr
        have hmem := List.mem_of_mem_head? hr
        have hr5 : r ≠ k := by
          rintro rfl
          have hr5 := (of_decide_eq_true (List.mem_filter.1 (List.mem_filter.1 hmem).1).2).1
          exact h5 ((State.refState_congr hdis).symm.trans hr5)
        exact (State.refQualify_refView _ hk hr5.symm).trans hdis
      · exact hdis
    · exact hdis
  · have h1 : s1.refView k = s.refView k := by
      dsimp only [s1]
      split
      · exact s.put_refView hk (by decide) _
      · rfl
    have h2 : s2.refView k = s.refView k := (s1.put_refView hk (by decide) _).trans h1
    split
    · exact h2
    · exact h2

theorem State.switchAbandon_refView (best : Option Nat) : (s.switchAbandon best).refView k = s.refView k := by
  unfold State.switchAbandon
  extract_lets held s0 r1 s1
  have h1 : s1.refView k = s.refView k := (State.withReed_refView s0 (by simp only [r1, s0, State.put_reed]) k).trans (s.put_refView hk (by decide) _)
  have hsel : s1.selection.2.refView k = s.refView k :=
    (s1.selection_refView hk (by rw [State.refState_congr h1]; exact h5)).trans h1
  split
  · exact (s1.modeTake_refView hk).trans h1
  · have hpick : (if held then s1.selection else (best, s1)).2.refView k = s.refView k := by
      split
      · exact hsel
      · exact h1
    generalize (if held then s1.selection else (best, s1)) = p at hpick
    obtain ⟨b, t⟩ := p
    dsimp only
    split
    · split
      · exact (t.put_refView hk (by decide) _).trans hpick
      · exact (t.switchStart_refView hk _).trans hpick
    · exact (t.holdoverEnter_refView hk).trans hpick

theorem State.dpllNext_refView (best : Option Nat) (phase : Option Int) : (s.dpllNext best phase).refView k = s.refView k := by
  unfold State.dpllNext
  extract_lets st sel selOk
  split
  · rfl
  split
  · split
    · exact s.acquireFrom_refView hk _ _
    · rfl
  split
  · split
    · rfl
    · exact s.holdOrFree_refView hk
  split
  · split
    · split
      · rfl
      · exact s.switchStart_refView hk _
    · split
      · rfl
      · exact s.holdOrFree_refView hk
  split
  · split
    · rfl
    · exact s.switchAbandon_refView hk h5 best
  · split
    · exact s.switchStart_refView hk _
    · rfl

/-- A selection and the DPLL's transition leave a reference as it is, unless it waits to be restored. -/
theorem State.runSelection_refView (phase : Option Int) : (s.runSelection phase).refView k = s.refView k := by
  have h := s.selection_refView hk h5
  exact (s.selection.2.dpllNext_refView hk (by rw [State.refState_congr h]; exact h5) s.selection.1 phase).trans h

end

end Sys2Proof.Machine
end

section
/-!
PROOF. References qualify when their timers end, and a silent reference is absent (R34, R51, R54): the statement.
-/
namespace Sys2Proof.Machine

-- ## A reference that qualifies

/-- A Qualified reference with no wait left, as its status word shows it. -/
def State.Qualifies (t : State) (k : Nat) : Prop :=
  t.refState k = 3 ∧ t.is (R.REF_STATUS_EverQual k) = true ∧ t.get (R.REF_STATUS_Timer k) = 0

theorem State.Qualifies.congr {s t : State} {k : Nat} (h : t.refView k = s.refView k) (hs : s.Qualifies k) : t.Qualifies k := by
  have hw : t.rd (R.REF_STATUS k) = s.rd (R.REF_STATUS k) := congrArg Prod.fst h
  obtain ⟨hst, hever, htimer⟩ := hs
  exact ⟨(State.refState_congr h).trans hst, (State.is_congr (f := R.REF_STATUS_EverQual k) hw).trans hever,
    (State.get_congr (f := R.REF_STATUS_Timer k) hw).trans htimer⟩

theorem refStatus_fields (k : Nat) : (R.REF_STATUS_State k).lsb + (R.REF_STATUS_State k).wid ≤ 32 ∧ (R.REF_STATUS_EverQual k).lsb + (R.REF_STATUS_EverQual k).wid ≤ 32
    ∧ (R.REF_STATUS_Reason k).lsb + (R.REF_STATUS_Reason k).wid ≤ 32 ∧ (R.REF_STATUS_Timer k).lsb + (R.REF_STATUS_Timer k).wid ≤ 32
    ∧ (R.REF_STATUS_State k).lsb + (R.REF_STATUS_State k).wid ≤ (R.REF_STATUS_EverQual k).lsb
    ∧ (R.REF_STATUS_EverQual k).lsb + (R.REF_STATUS_EverQual k).wid ≤ (R.REF_STATUS_Reason k).lsb
    ∧ (R.REF_STATUS_Reason k).lsb + (R.REF_STATUS_Reason k).wid ≤ (R.REF_STATUS_Timer k).lsb := by
  refine ⟨?_, ?_, ?_, ?_, ?_, ?_, ?_⟩ <;> exact Nat.le_of_ble_eq_true rfl

theorem State.updRef_rd (s : State) (k : Nat) (f : RefSt → RefSt) (a : Nat) : (s.updRef k f).rd a = s.rd a := rfl

/-- What a move to a state leaves in the status word. -/
theorem State.refGo_word (s : State) (k st : Nat) : (s.refGo k st).refState k = st % 8 ∧ (s.refGo k st).get (R.REF_STATUS_Timer k) = s.refWait k st % 2 ^ 20 := by
  obtain ⟨hst, -, -, htimer, h1, h2, h3⟩ := refStatus_fields k
  have hlt : (R.REF_STATUS_State k).lsb + (R.REF_STATUS_State k).wid ≤ (R.REF_STATUS_Timer k).lsb := Nat.le_of_ble_eq_true rfl
  unfold State.refGo State.refState
  constructor
  · rw [State.get_congr (State.updRef_rd _ _ _ _), State.get_put_ne _ htimer (.inr (.inl hlt)), State.get_put_same _ _ _ hst]
    rfl
  · rw [State.get_congr (State.updRef_rd _ _ _ _), State.get_put_same _ _ _ htimer]
    rfl

/-- The state in which a reference has been marked Qualified. -/
def State.refMarked (s : State) (k : Nat) : State := ((s.refGo k 3).put (R.REF_STATUS_EverQual k) 1).put (R.REF_STATUS_Reason k) 0

theorem State.refMarked_qualifies (s : State) (k : Nat) : (s.refMarked k).Qualifies k := by
  obtain ⟨hst, hever, hreason, htimer, h1, h2, h3⟩ := refStatus_fields k
  obtain ⟨hgo, hwait⟩ := s.refGo_word k 3
  unfold State.refMarked
  refine ⟨?_, ?_, ?_⟩
  · show State.get _ _ = _
    rw [State.get_put_ne _ hreason (.inr (.inl (Nat.le_trans (Nat.le_trans h1 (Nat.le_add_right _ _)) h2))), State.get_put_ne _ hever (.inr (.inl h1))]
    exact hgo
  · rw [State.is_put_ne _ hreason (.inr (.inl h2)), State.is_put_one _ hever rfl]
  · rw [State.get_put_ne _ hreason (.inr (.inr h3)), State.get_put_ne _ hever (.inr (.inr (Nat.le_trans (Nat.le_trans h2 (Nat.le_add_right _ _)) h3)))]
    exact hwait

theorem State.refQualify_qualifies (s : State) {k : Nat} (hk : k < 10) : (s.refQualify k).Qualifies k := by
  have h1 := s.refMarked_qualifies k
  unfold State.refQualify
  extract_lets s1 s2
  have h2 : s2.refView k = (s.refMarked k).refView k := by
    dsimp only [s2]
    split
    · exact State.updRef_refView s1 k k (by intro; rfl)
    · rfl
  split
  · exact h1.congr (((s2.moveTai _).put_refView hk (by decide) _).trans ((s2.moveTai_refView _ k).trans h2))
  · exact h1.congr h2

/-- A reference that has just qualified stays so through the selection that follows. -/
theorem State.refQualify_select_qualifies (s : State) {k : Nat} (hk : k < 10) (phase : Option Int) :
    ((s.refQualify k).runSelection phase).settle.Qualifies k := by
  have h := s.refQualify_qualifies hk
  obtain ⟨hst, hever, htimer⟩ := h.congr ((s.refQualify k).runSelection_refView hk (by rw [h.1]; decide) phase)
  have hpba : R.REF_STATUS k ≠ R.MSIX_PBA 0 := fun e => absurd e ((by decide : ∀ j, j < 10 → R.REF_STATUS j ≠ R.MSIX_PBA 0) k hk)
  exact ⟨(State.settle_get _ hpba).trans hst, (State.settle_is _ hpba).trans hever, (State.settle_get _ hpba).trans htimer⟩

end Sys2Proof.Machine
end

section
/-!
PROOF. References that qualify or are lost, by the commands of their timers (R34, R51, R54).
-/
namespace Sys2Proof.Machine

-- ## A reference that is lost

/-- A reference that is absent now, `st` and `c` being its state and its failures before. -/
def State.Lost (t : State) (k st c : Nat) : Prop :=
  (t.refSt k).present = false ∧ t.refState k = (if 2 ≤ st then 1 else st)
    ∧ t.get (R.CNT_REF_FAIL_Count k) = (c + (if st = 3 then 1 else 0)) % 2 ^ 32

theorem State.Lost.congr {s t : State} {k st c : Nat} (h : t.refView k = s.refView k) (hs : s.Lost k st c) : t.Lost k st c := by
  have hfail : t.rd (R.CNT_REF_FAIL k) = s.rd (R.CNT_REF_FAIL k) := congrArg (fun v => v.2.1) h
  have hpres : (t.refSt k).present = (s.refSt k).present := congrArg (fun v => v.2.2) h
  obtain ⟨h1, h2, h3⟩ := hs
  exact ⟨hpres.trans h1, (State.refState_congr h).trans h2, (State.get_congr (f := R.CNT_REF_FAIL_Count k) hfail).trans h3⟩

theorem State.put_refSt (s : State) (f : Fld) (v k : Nat) : (s.put f v).refSt k = s.refSt k := (rfl)

theorem State.bump_refSt (s : State) (f : Fld) (k : Nat) : (s.bump f).refSt k = s.refSt k := (rfl)

theorem State.refGo_present (s : State) (k st : Nat) : ((s.refGo k st).refSt k).present = (s.refSt k).present := by
  unfold State.refGo
  rw [← s.put_refSt (R.REF_STATUS_State k) st k, ← (s.put (R.REF_STATUS_State k) st).put_refSt (R.REF_STATUS_Timer k) (s.refWait k st) k]
  simp only [State.refSt, State.updRef, tget_tupd_same]

/-- A failure is counted where the reference was Qualified (R54). -/
def State.failCounted (s : State) (k : Nat) : State := if s.refState k = 3 then s.bump (R.CNT_REF_FAIL_Count k) else s

theorem State.refFail_eq (s : State) (k st reason : Nat) :
    s.refFail k st reason = ((s.failCounted k).refGo k st).put (R.REF_STATUS_Reason k) reason := rfl

theorem State.failCounted_count (s : State) (k : Nat) :
    (s.failCounted k).get (R.CNT_REF_FAIL_Count k) = (s.get (R.CNT_REF_FAIL_Count k) + (if s.refState k = 3 then 1 else 0)) % 2 ^ 32 := by
  unfold State.failCounted
  split
  · exact State.get_bump_same _ _ (Nat.le_of_ble_eq_true rfl)
  · exact (s.get_mod (R.CNT_REF_FAIL_Count k)).symm

theorem State.failCounted_present (s : State) (k : Nat) : ((s.failCounted k).refSt k).present = (s.refSt k).present := by
  unfold State.failCounted
  split
  · rw [State.bump_refSt]
  · rfl

/-- The status word and the count of failures of a reference that fails or is lost. -/
theorem State.refFail_word (s : State) (k st reason : Nat) : (s.refFail k st reason).refState k = st % 8
    ∧ (s.refFail k st reason).get (R.CNT_REF_FAIL_Count k) = (s.get (R.CNT_REF_FAIL_Count k) + (if s.refState k = 3 then 1 else 0)) % 2 ^ 32
    ∧ ((s.refFail k st reason).refSt k).present = (s.refSt k).present := by
  obtain ⟨-, -, hreason, -, h1, h2, -⟩ := refStatus_fields k
  have hne : R.CNT_REF_FAIL k ≠ R.REF_STATUS k := by unfold R.CNT_REF_FAIL R.REF_STATUS; omega
  rw [State.refFail_eq]
  refine ⟨?_, ?_, ?_⟩
  · exact (State.get_put_ne _ hreason (.inr (.inl (Nat.le_trans (Nat.le_trans h1 (Nat.le_add_right _ _)) h2))) _).trans
      ((s.failCounted k).refGo_word k st).1
  · rw [State.get_put_reg _ hne]
    unfold State.refGo
    rw [State.get_congr (State.updRef_rd _ _ _ _), State.get_put_reg _ hne, State.get_put_reg _ hne, State.failCounted_count]
  · rw [State.put_refSt, State.refGo_present, State.failCounted_present]

/-- The timers of a reference that is absent are followed by a selection (R53, R67). -/
theorem State.refLost_lost (s : State) {k : Nat} (hk : k < 10) : (s.refLost k).Lost k (s.refState k) (s.get (R.CNT_REF_FAIL_Count k)) := by
  unfold State.refLost
  extract_lets s1 s2 s3
  have hst : s1.refState k = s.refState k := rfl
  have hcnt : s1.get (R.CNT_REF_FAIL_Count k) = s.get (R.CNT_REF_FAIL_Count k) := rfl
  have hpres : (s1.refSt k).present = false := by simp [s1, State.refSt, State.updRef]
  have h2 : s2.Lost k (s.refState k) (s.get (R.CNT_REF_FAIL_Count k)) := by
    dsimp only [s2]
    split
    · rename_i h
      obtain ⟨hw, hc, hp⟩ := s1.refFail_word k 1 (s1.absentReason k)
      rw [hst] at h hc
      exact ⟨hp.trans hpres, by rw [hw, if_pos h], by rw [hc, hcnt]⟩
    · rename_i h
      rw [hst] at h
      exact ⟨hpres, by rw [hst, if_neg h], by
        rw [hcnt, if_neg (by omega)]
        exact (s.get_mod (R.CNT_REF_FAIL_Count k)).symm⟩
  have h3 : s3.refView k = s2.refView k := by
    refine State.forN_keeps (fun t => t.refView k) 4 _ (fun j hj t => ?_) s2
    split
    · exact t.put_refView hk ((by decide : ∀ j, j < 4 → Apart (R.FPO_STATUS j)) j hj) _
    · rfl
  have h3' := h2.congr h3
  refine h3'.congr (s3.runSelection_refView hk ?_ none)
  have := h3'.2.1
  split at this <;> omega

-- ## What the commands answer

section
variable {s : State} (hs : Ready s) {k : Nat} (hk : k < 10)
include hs hk

theorem exec_refGateExpire (x : Int) : exec (.refGateExpire ⟨k, x⟩) s =
    (if s.refState k = 2 ∧ s.mayQualify k = true then (s.refQualify k).runSelection (some x) else s).done := by
  refine (s.accept_live _ _ (decide_eq_true hk) hs).trans ?_
  simp only [hk, true_and]

theorem exec_refWtrExpire (x : Int) : exec (.refWtrExpire ⟨k, x⟩) s =
    (if s.refState k = 5 ∧ s.mayQualify k = true then (s.refQualify k).runSelection (some x) else s).done := by
  refine (s.accept_live _ _ (decide_eq_true hk) hs).trans ?_
  simp only [hk, true_and]

theorem exec_refEdgeTimeout : exec (.refEdgeTimeout k) s = (if 4 ≤ k ∧ k < 9 then s.refLost k else s).done :=
  s.accept_live _ _ (decide_eq_true hk) hs

theorem exec_ptpAnnounceTimeout : exec (.ptpAnnounceTimeout k) s = (if k < 4 then s.refLost k else s).done :=
  s.accept_live _ _ (decide_eq_true hk) hs

end

-- ## The statement

theorem State.mayQualify_iff (s : State) (k : Nat) :
    s.mayQualify k = true ↔ s.refPresent k = true ∧ (k < 4 → (s.refSt k).timescale = true) := by
  simp only [State.mayQualify, Bool.and_eq_true, Bool.or_eq_true, decide_eq_true_iff]
  refine and_congr_right fun _ => ⟨fun h hlt => h.resolve_left (by omega), fun h => ?_⟩
  exact (Nat.lt_or_ge k 4).elim (fun hlt => .inr (h hlt)) .inl

/-- A lost reference, as the command that loses it ends. -/
theorem State.refLost_settle (s : State) {k : Nat} (hk : k < 10) :
    ((s.refLost k).settle).Lost k (s.refState k) (s.get (R.CNT_REF_FAIL_Count k)) := by
  refine (s.refLost_lost hk).congr ?_
  have hst : R.REF_STATUS k ≠ R.MSIX_PBA 0 := fun e => absurd e ((by decide : ∀ j, j < 10 → R.REF_STATUS j ≠ R.MSIX_PBA 0) k hk)
  have hfail : R.CNT_REF_FAIL k ≠ R.MSIX_PBA 0 := fun e => absurd e ((by decide : ∀ j, j < 10 → R.CNT_REF_FAIL j ≠ R.MSIX_PBA 0) k hk)
  unfold State.refView State.refSt
  rw [State.settle_rd _ hst, State.settle_rd _ hfail, State.settle_reed]

/-- Settles O17: a timer that ends qualifies its reference where it may, and a timeout loses it. -/
theorem referencesQualifyAndFail : Obligations.ReferencesQualifyAndFail := by
  refine ⟨fun s k hs hk => ⟨fun x hno => ?_, fun x hno => ?_, fun x hst hfit => ?_, fun x hst hfit => ?_⟩, fun s k hs hk => ⟨fun hno => ?_, fun h4 => ?_, ?_⟩⟩
  · exact Ends.of_done ((exec_refGateExpire hs hk x).trans (congrArg State.done (if_neg (fun h => hno ⟨h.1, (s.mayQualify_iff k).1 h.2⟩))))
  · exact Ends.of_done ((exec_refWtrExpire hs hk x).trans (congrArg State.done (if_neg (fun h => hno ⟨h.1, (s.mayQualify_iff k).1 h.2⟩))))
  · exact Gives.of_done ((exec_refGateExpire hs hk x).trans (congrArg State.done (if_pos ⟨hst, (s.mayQualify_iff k).2 hfit⟩)))
      (s.refQualify_select_qualifies hk (some x))
  · exact Gives.of_done ((exec_refWtrExpire hs hk x).trans (congrArg State.done (if_pos ⟨hst, (s.mayQualify_iff k).2 hfit⟩)))
      (s.refQualify_select_qualifies hk (some x))
  · exact Ends.of_done ((exec_refEdgeTimeout hs hk).trans (congrArg State.done (if_neg hno)))
  · exact Ends.of_done ((exec_ptpAnnounceTimeout hs hk).trans (congrArg State.done (if_neg (by omega))))
  · rintro c (⟨rfl, hpin⟩ | ⟨rfl, hptp⟩)
    · exact Gives.of_done ((exec_refEdgeTimeout hs hk).trans (congrArg State.done (if_pos hpin))) (s.refLost_settle hk)
    · exact Gives.of_done ((exec_ptpAnnounceTimeout hs hk).trans (congrArg State.done (if_pos hptp))) (s.refLost_settle hk)

end Sys2Proof.Machine
end

section
/-!
PROOF. What the synthesizers and the status registers of Heddle and the filters leave alone (R70 to R79, R155, R252).
-/
namespace Sys2Proof.Machine

/-- What no register outside the TIME and TREADLE blocks shows. -/
def BlindAside {γ : Type} (p : State → γ) : Prop := ∀ (t : State) (f : Fld) (v : Nat), Aside f.reg → p (t.put f v) = p t

theorem blindAside_timeline : BlindAside State.timeline := fun t _ v h => t.put_timeline h v

theorem blindAside_errWait : BlindAside State.errWait := fun t f v _ => t.put_errWait f v

section
variable {γ : Type} {p : State → γ} (hput : BlindAside p)
include hput

theorem State.xpStatus_keeps (s : State) : p s.xpStatus = p s := by
  unfold State.xpStatus
  extract_lets x t
  exact (hput _ _ _ (by decide)).trans ((hput _ _ _ (by decide)).trans (hput _ _ _ (by decide)))

theorem State.filtStatus_keeps (s : State) : p s.filtStatus = p s := by
  unfold State.filtStatus
  extract_lets es bs s1 s2 s3 s4 s5
  have h1 : p s1 = p s := (hput _ _ _ (by decide)).trans (hput _ _ _ (by decide))
  have h2 : p s2 = p s := (hput _ _ _ (by decide)).trans h1
  have h3 : p s3 = p s := (hput _ _ _ (by decide)).trans ((hput _ _ _ (by decide)).trans h2)
  have h4 : p s4 = p s := (hput _ _ _ (by decide)).trans ((hput _ _ _ (by decide)).trans h3)
  have h5 : p s5 = p s := (hput _ _ _ (by decide)).trans ((hput _ _ _ (by decide)).trans h4)
  exact (hput _ _ _ (by decide)).trans h5

/-- The outputs' registers lie outside the timeline. -/
theorem State.ckoDrive_keeps (s : State) (m : Nat) (run : Bool) : p (s.ckoDrive m run) = p s := by
  refine State.forN_keeps p 12 _ (fun i hi t => ?_) s
  split
  · exact hput _ _ _ ((by decide : ∀ i, i < 12 → Aside (R.CKO_STATUS i)) i hi)
  · rfl

theorem State.mcsPlan_keeps (s : State) : p (s.mcsPlan 0) = p s :=
  (hput _ _ _ (by decide)).trans ((hput _ _ _ (by decide)).trans (hput _ _ _ (by decide)))

theorem State.relock_keeps (s : State) : p (s.relock 0) = p s := by
  unfold State.relock
  extract_lets t
  have ht : p t = p s := (hput _ _ _ (by decide)).trans (s.mcsPlan_keeps hput)
  split
  · exact (State.ckoDrive_keeps hput _ _ _).trans ((hput _ _ _ (by decide)).trans ht)
  · exact (State.ckoDrive_keeps hput _ _ _).trans ((hput _ _ _ (by decide)).trans ht)

variable (hsynth : ∀ (t : State) (y : SynthSt), p { t with synth := y } = p t)
include hsynth

theorem State.setRamp_keeps (s : State) (r : Option RampSt) : p (s.setRamp 0 r) = p s :=
  (hput _ _ _ (by decide)).trans (hsynth s _)

theorem State.rampAbort_keeps (s : State) (ms : Nat) : p (s.rampAbort 0 ms) = p s := by
  unfold State.rampAbort
  split
  · split
    · exact (State.setRamp_keeps hput hsynth _ _).trans (hput _ _ _ (by decide))
    · exact s.setRamp_keeps hput hsynth _
  · rfl

theorem State.familyChange_keeps (s : State) (was : Nat) : p (s.familyChange was) = p s := by
  unfold State.familyChange
  extract_lets fam t slope tgt off n
  have ht : p t = p s := s.rampAbort_keeps hput hsynth _
  split
  · rfl
  split
  · exact (State.mcsPlan_keeps hput _).trans ((hput _ _ _ (by decide)).trans ht)
  split
  · exact (State.setRamp_keeps hput hsynth _ _).trans ((hput _ _ _ (by decide)).trans ht)
  · exact (State.relock_keeps hput _).trans ((hput _ _ _ (by decide)).trans ht)

theorem State.rampStop_keeps (s : State) : p s.rampStop = p s := by
  unfold State.rampStop
  split
  · rfl
  split
  · exact (State.relock_keeps hput _).trans ((hput _ _ _ (by decide)).trans (s.setRamp_keeps hput hsynth _))
  · exact s.rampAbort_keeps hput hsynth _

end

end Sys2Proof.Machine
end

section
/-!
PROOF. TIME_CTRL: Run, Rate, and the stop of the pick counter (R38): the statement.
-/
namespace Sys2Proof.Machine

-- ## A write of TIME_CTRL in its two halves

/-- What a write of TIME_CTRL does with its rate. -/
def State.rateWrite (s : State) (v : Nat) : State :=
  if bitsOf v 1 3 = s.get R.TIME_CTRL_Rate then s
  else if 6 ≤ bitsOf v 1 3 then s.refusedAt R.TIME_CTRL
  else if s.is R.TIME_CTRL_Run then s.ignored R.TIME_CTRL
  else if !s.rateFits (bitsOf v 1 3) then s.refusedAt R.TIME_CTRL
  else (((s.put R.TIME_CTRL_Rate (bitsOf v 1 3)).put R.TIME_STATUS_RateNow (bitsOf v 1 3)).xpStatus.filtStatus).familyChange (s.get R.TIME_CTRL_Rate)

/-- The state in which the counter stops: it neither runs nor waits to resume, and no host write waits for a strobe. -/
def State.counterStopped (s : State) : State := { s with time := { s.time with running := false, resume := false }, marks := [] }

theorem State.timeCtrlWrite_eq (s : State) (v : Nat) : s.timeCtrlWrite v =
    (let t := (s.rateWrite v).putB R.TIME_CTRL_Run (bitOf v 0)
     let t := if !s.is R.TIME_CTRL_Run ∧ bitOf v 0 then t.rampStop else t
     if s.is R.TIME_CTRL_Run ∧ ¬ bitOf v 0 then t.counterStopped.tdmIdle else t) := rfl

/-- A write that stops nothing takes the rate and Run; where Run goes to 1 a ramp of MCS0 stops. -/
theorem State.timeCtrlWrite_goesOn {s : State} {v : Nat} (h : ¬ (s.is R.TIME_CTRL_Run = true ∧ bitOf v 0 = false)) :
    s.timeCtrlWrite v = if s.is R.TIME_CTRL_Run = false ∧ bitOf v 0 = true then ((s.rateWrite v).putB R.TIME_CTRL_Run (bitOf v 0)).rampStop
      else (s.rateWrite v).putB R.TIME_CTRL_Run (bitOf v 0) := by
  rw [State.timeCtrlWrite_eq]
  cases hr : s.is R.TIME_CTRL_Run <;> cases hb : bitOf v 0 <;> simp_all

/-- A write that takes Run from 1 to 0 stops the counter. -/
theorem State.timeCtrlWrite_stops {s : State} {v : Nat} (hrun : s.is R.TIME_CTRL_Run = true) (hv : bitOf v 0 = false) :
    s.timeCtrlWrite v = ((s.rateWrite v).putB R.TIME_CTRL_Run false).counterStopped.tdmIdle := by
  rw [State.timeCtrlWrite_eq, hrun, hv]
  rfl

-- ## The rate

section
variable {s : State} {v : Nat}

theorem State.rateWrite_same (h : bitsOf v 1 3 = s.get R.TIME_CTRL_Rate) : s.rateWrite v = s := if_pos h

variable (hne : bitsOf v 1 3 ≠ s.get R.TIME_CTRL_Rate)
include hne

theorem State.rateWrite_reserved (h : 6 ≤ bitsOf v 1 3) : s.rateWrite v = s.report (turnedDown 0x10 R.TIME_CTRL 0xFF 0) := by
  unfold State.rateWrite
  rw [if_neg hne, if_pos h]
  rfl

variable (hlt : bitsOf v 1 3 < 6)
include hlt

theorem State.rateWrite_running (h : s.is R.TIME_CTRL_Run = true) : s.rateWrite v = s.report (turnedDown 0x11 R.TIME_CTRL 0 0) := by
  unfold State.rateWrite
  rw [if_neg hne, if_neg (Nat.not_le.2 hlt), if_pos h]
  rfl

variable (hrun : s.is R.TIME_CTRL_Run = false)
include hrun

theorem State.rateWrite_refused (h : s.rateFits (bitsOf v 1 3) = false) : s.rateWrite v = s.report (turnedDown 0x10 R.TIME_CTRL 0xFF 0) := by
  unfold State.rateWrite
  rw [if_neg hne, if_neg (Nat.not_le.2 hlt), if_neg (by rw [hrun]; decide), if_pos (by rw [h]; rfl)]
  rfl

/-- A rate that fits is in force at once, with no record. -/
theorem State.rateWrite_fits (h : s.rateFits (bitsOf v 1 3) = true) :
    (s.rateWrite v).get R.TIME_CTRL_Rate = bitsOf v 1 3 ∧ (s.rateWrite v).get R.TIME_STATUS_RateNow = bitsOf v 1 3
    ∧ (s.rateWrite v).errWait = s.errWait := by
  have e : s.rateWrite v = (((s.put R.TIME_CTRL_Rate (bitsOf v 1 3)).put R.TIME_STATUS_RateNow (bitsOf v 1 3)).xpStatus.filtStatus).familyChange
      (s.get R.TIME_CTRL_Rate) := by
    unfold State.rateWrite
    rw [if_neg hne, if_neg (Nat.not_le.2 hlt), if_neg (by rw [hrun]; decide), if_neg (by rw [h]; decide)]
  have hrest : ∀ {γ : Type} {p : State → γ}, BlindAside p → (∀ (t : State) (y : SynthSt), p { t with synth := y } = p t) →
      p (s.rateWrite v) = p ((s.put R.TIME_CTRL_Rate (bitsOf v 1 3)).put R.TIME_STATUS_RateNow (bitsOf v 1 3)) := by
    intro γ p hput hsynth
    rw [e]
    exact (State.familyChange_keeps hput hsynth _ _).trans ((State.filtStatus_keeps hput _).trans (State.xpStatus_keeps hput _))
  have ht := hrest blindAside_timeline (fun _ _ => rfl)
  refine ⟨?_, ?_, ?_⟩
  · rw [get_of_timeline ht (by decide), State.get_put_reg _ (by decide)]
    exact State.get_put_fit _ (w := 3) (by decide) rfl (by omega)
  · rw [get_of_timeline ht (by decide)]
    exact State.get_put_fit _ (w := 3) (by decide) rfl (by omega)
  · rw [hrest blindAside_errWait (fun _ _ => rfl), State.put_errWait, State.put_errWait]

end

-- ## The stop

/-- Masters that go on with frames of 0 only send (R270). -/
theorem State.tdmIdle_keeps {γ : Type} {p : State → γ} (hsend : ∀ (t : State) (m : Sent), p (t.send m) = p t) (s : State) : p s.tdmIdle = p s := by
  refine State.forN_keeps p 16 _ (fun k _ t => ?_) s
  unfold State.tdmIdleOne State.tdmSend
  split
  · split
    · rfl
    · exact hsend _ _
  · rfl

/-- While Run is 1 the rate stays, and a rate that is not the one in force is recorded. -/
theorem State.rateWrite_runs {s : State} {v : Nat} (hrun : s.is R.TIME_CTRL_Run = true) :
    ∃ es : List ErrReport, es = (if bitsOf v 1 3 = s.get R.TIME_CTRL_Rate then []
        else if 6 ≤ bitsOf v 1 3 then [turnedDown 0x10 R.TIME_CTRL 0xFF 0] else [turnedDown 0x11 R.TIME_CTRL 0 0])
      ∧ s.rateWrite v = { s with errWait := s.errWait ++ es } := by
  refine ⟨_, rfl, ?_⟩
  by_cases h : bitsOf v 1 3 = s.get R.TIME_CTRL_Rate
  · rw [State.rateWrite_same h, if_pos h, List.append_nil]
  · rw [if_neg h]
    by_cases h6 : 6 ≤ bitsOf v 1 3
    · rw [State.rateWrite_reserved h h6, if_pos h6]
      rfl
    · rw [State.rateWrite_running h (by omega) hrun, if_neg h6]
      rfl

-- ## The statement

theorem exec_timeCtrlWrite {s : State} (hs : Ready s) {v : Nat} (hv : v < 2 ^ 32) : exec (.timeCtrlWrite v) s = (s.timeCtrlWrite v).done :=
  s.accept_live _ _ (decide_eq_true hv) hs

/-- Settles O10: a write's rate by the branches of its checks, and its Run bit in every one. -/
theorem timeCtrlAndTheCounter : Obligations.TimeCtrlAndTheCounter := by
  refine ⟨fun s v hs hv hon => ?_, fun s v hs hv hrun hv0 => ?_⟩
  · intro begun
    have hexec := (exec_timeCtrlWrite hs hv).trans (congrArg State.done (State.timeCtrlWrite_goesOn hon))
    have ends : ∀ {u : State}, s.rateWrite v = u → Ends (.timeCtrlWrite v) s (begun (u.putB R.TIME_CTRL_Run (bitOf v 0))) := by
      rintro u rfl
      exact Ends.of_done hexec
    refine ⟨fun h => ends (State.rateWrite_same h), fun hne h => ends (State.rateWrite_reserved hne h), fun hne hlt hrun => ?_, fun hne hlt hrun hfit => ?_,
      fun hne hlt hrun hfit => ends (State.rateWrite_refused hne hlt hrun hfit)⟩
    · have h := ends (State.rateWrite_running hne hlt hrun)
      simpa only [begun, hrun, Bool.true_eq_false, false_and, if_false] using h
    · obtain ⟨hrate, hnow, herr⟩ := State.rateWrite_fits hne hlt hrun hfit
      have hstop : ∀ {γ : Type} {p : State → γ}, BlindAside p → (∀ (t : State) (y : SynthSt), p { t with synth := y } = p t) →
          p (if s.is R.TIME_CTRL_Run = false ∧ bitOf v 0 = true then ((s.rateWrite v).putB R.TIME_CTRL_Run (bitOf v 0)).rampStop
            else (s.rateWrite v).putB R.TIME_CTRL_Run (bitOf v 0)) = p ((s.rateWrite v).putB R.TIME_CTRL_Run (bitOf v 0)) := by
        intro γ p hput hsynth
        split
        · exact State.rampStop_keeps hput hsynth _
        · rfl
      have ht := hstop blindAside_timeline (fun _ _ => rfl)
      refine Gives.of_done hexec ⟨?_, ?_, ?_, ?_⟩
      · rw [State.settle_get _ (by decide), get_of_timeline ht (by decide), State.get_putB_ne _ (by decide) (by decide), hrate]
      · rw [State.settle_get _ (by decide), get_of_timeline ht (by decide), State.get_putB_ne _ (by decide) (by decide), hnow]
      · rw [State.settle_is _ (by decide), is_of_timeline ht (by decide), State.is_putB_same _ (by decide) rfl]
      · rw [State.settle_errWait, hstop blindAside_errWait (fun _ _ => rfl), State.putB_errWait, herr]
  · obtain ⟨es, hes, hrate⟩ := s.rateWrite_runs hrun
    rw [← hes]
    have hexec := (exec_timeCtrlWrite hs hv).trans (congrArg State.done (State.timeCtrlWrite_stops hrun hv0))
    rw [hrate] at hexec
    have hidle : ∀ {γ : Type} {p : State → γ}, (∀ (t : State) (m : Sent), p (t.send m) = p t) → ∀ u : State, p u.counterStopped.tdmIdle = p u.counterStopped :=
      fun hsend u => State.tdmIdle_keeps hsend _
    refine Gives.of_done hexec ⟨?_, ?_, ?_, ?_, ?_⟩
    · rw [State.settle_is _ (by decide), hidle (p := fun t => t.is R.TIME_CTRL_Run) (fun _ _ => rfl)]
      exact State.is_putB_same _ (by decide) rfl false
    · rw [State.settle_time, hidle (p := State.time) (fun _ _ => rfl)]
      rfl
    · rw [State.settle_marks, hidle (p := State.marks) (fun _ _ => rfl)]
      rfl
    · rw [State.settle_get _ (by decide), hidle (p := fun t => t.get R.TIME_CTRL_Rate) (fun _ _ => rfl)]
      exact State.get_putB_ne _ (by decide) (by decide) _
    · rw [State.settle_errWait, hidle (p := State.errWait) (fun _ _ => rfl)]
      rfl

end Sys2Proof.Machine
end

section
/-!
PROOF. The ports lie outside the media timeline (R93 to R119, R178, R187): what a port's operations leave alone.
-/
namespace Sys2Proof.Machine

@[simp] theorem State.updPort_timeline (s : State) (n : Nat) (f : PortSt → PortSt) : (s.updPort n f).timeline = s.timeline := (rfl)

@[simp] theorem State.updTx_timeline (s : State) (i : Nat) (f : TxStream → TxStream) : (s.updTx i f).timeline = s.timeline := (rfl)

theorem State.wrRW_timeline (s : State) {a : Nat} (ha : Aside a) (w : Nat) : (s.wrRW a w).timeline = s.timeline := by
  unfold State.wrRW
  split
  · rfl
  · exact s.wr_timeline ha _

@[simp] theorem State.purgeItem_timeline (s : State) (n q start : Nat) : (s.purgeItem n q start).timeline = s.timeline :=
  (State.qTrim_timeline _ _).trans (s.setQueue_timeline _ _)

@[simp] theorem State.purgeCopies_timeline (s : State) (n : Nat) : (s.purgeCopies n).timeline = s.timeline :=
  State.forL_keeps State.timeline _ (fun _ t => State.forL_keeps State.timeline _ (fun _ u => (State.updTx_timeline _ _ _).trans (u.purgeItem_timeline _ _ _)) _ t) _ s

@[simp] theorem State.fwBytes_timeline (s : State) (n : Nat) (bytes : List Byte) : (s.fwBytes n bytes).timeline = s.timeline := s.fwSend_timeline _ _

theorem castBin_le (da : Nat) : castBin da ≤ 2 := by
  unfold castBin
  split <;> [skip; split] <;> decide

theorem sizeBin_le (len : Nat) : sizeBin len ≤ 6 := by
  unfold sizeBin
  split_ifs <;> decide

-- ## One port's registers

section
variable {n : Nat} (hn : n < 4)
include hn

theorem aside_macStatus : Aside (R.MAC_STATUS n) := .inl (by unfold R.MAC_STATUS; omega)

theorem aside_macCtrl : Aside (R.MAC_CTRL n) := .inl (by unfold R.MAC_CTRL; omega)

theorem aside_portCnt {i : Nat} (hi : i < 64) : Aside (R.PORT_CNT n i) := .inl (by unfold R.PORT_CNT; omega)

theorem aside_cntHigh : Aside (R.CNT_HIGH0 n) ∧ Aside (R.CNT_HIGH1 n) ∧ Aside (R.CNT_HALF n) := by
  unfold R.CNT_HIGH0 R.CNT_HIGH1 R.CNT_HALF
  omega

theorem State.cntLevels_timeline (s : State) : (s.cntLevels n).timeline = s.timeline := by
  unfold State.cntLevels
  extract_lets hi sat
  exact (State.putB_timeline _ (aside_macStatus hn) _).trans ((State.put_timeline _ (aside_cntHigh hn).2.1 _).trans
    (s.put_timeline (aside_cntHigh hn).1 _))

theorem State.cntAdd_timeline (s : State) {i : Nat} (hi : i < 64) (k : Nat) : (s.cntAdd n i k).timeline = s.timeline := by
  unfold State.cntAdd State.setCnt
  extract_lets old s1 s2
  have h1 : s1.timeline = s.timeline := s.put_timeline (aside_portCnt hn hi) _
  have h2 : s2.timeline = s.timeline := by
    dsimp only [s2]
    split
    · exact (s1.bump_timeline (aside_cntHigh hn).2.2).trans h1
    · exact h1
  split
  · exact h2
  · exact (s2.cntLevels_timeline hn).trans h2

theorem State.cnt_timeline (s : State) {i : Nat} (hi : i < 64) : (s.cnt n i).timeline = s.timeline := s.cntAdd_timeline hn hi 1

theorem State.txCount_timeline (s : State) (len : Nat) {cast : Nat} (hc : cast ≤ 2) (event bad : Bool) :
    (s.txCount n len cast event bad).timeline = s.timeline := by
  have hsize := sizeBin_le len
  unfold State.txCount
  extract_lets s1 s2
  have h1 : s1.timeline = s.timeline := by
    dsimp only [s1]
    split
    · exact s.cnt_timeline hn (by decide)
    · exact (State.cntAdd_timeline hn _ (by decide) _).trans (s.cnt_timeline hn (by decide))
  have h2 : s2.timeline = s.timeline := (State.cnt_timeline hn _ (by omega)).trans ((s1.cnt_timeline hn (by omega)).trans h1)
  split
  · exact (s2.cnt_timeline hn (by decide)).trans h2
  · exact h2

theorem State.frameOut_timeline (s : State) (bytes : List Byte) (bad : Bool) : (s.frameOut n bytes bad).timeline = s.timeline :=
  s.txCount_timeline hn _ (castBin_le _) _ _

theorem State.ctOut_timeline (s : State) (bytes : List Byte) (bad : Bool) : (s.ctOut n bytes bad).timeline = s.timeline := by
  unfold State.ctOut
  extract_lets s1 s2
  have h1 : s1.timeline = s.timeline := (State.cnt_timeline hn _ (by decide)).trans (s.frameOut_timeline hn _ _)
  refine (State.updPort_timeline _ _ _).trans ?_
  dsimp only [s2]
  split
  · exact (s1.cnt_timeline hn (by decide)).trans h1
  · exact h1

theorem State.ctCut_timeline (s : State) (q : Nat) (bytes : Option (List Byte)) : (s.ctCut n q bytes).timeline = s.timeline := by
  unfold State.ctCut
  split
  · rfl
  · split
    · exact s.ctOut_timeline hn _ _
    · exact s.updPort_timeline _ _

theorem State.purgeCt_timeline (s : State) : (s.purgeCt n).timeline = s.timeline := by
  unfold State.purgeCt
  refine (State.updPort_timeline _ _ _).trans (State.forL_keeps State.timeline _ (fun q t => ?_) _ s)
  refine (State.cnt_timeline hn _ (by decide)).trans ?_
  split
  · exact t.purgeItem_timeline _ _ _
  · exact t.setQueue_timeline _ _

theorem State.pauseEnd_timeline (s : State) (p : Nat) : (s.pauseEnd n p).timeline = s.timeline :=
  (State.updPort_timeline _ _ _).trans (s.put_timeline (aside_macStatus hn) _)

theorem State.watchdogFire_timeline (s : State) (p : Nat) : (s.watchdogFire n p).timeline = s.timeline :=
  (State.putB_timeline _ (aside_macStatus hn) _).trans ((State.cnt_timeline hn _ (by decide)).trans (s.pauseEnd_timeline hn p))

theorem State.pfcPri_timeline (s : State) (p : Nat) : (s.pfcPri n p).timeline = s.timeline := by
  have set := fun (v : Nat) (f : PortSt → PortSt) => (State.updPort_timeline (s.put ⟨R.MAC_STATUS n, 20 + p, 1⟩ v) n f).trans
    (s.put_timeline (f := ⟨R.MAC_STATUS n, 20 + p, 1⟩) (aside_macStatus hn) v)
  unfold State.pfcPri
  extract_lets occ watched waiting
  split
  · exact set _ _
  split
  · split
    · exact set _ _
    · rfl
  split
  · exact set _ _
  · rfl

theorem State.pfcPort_timeline (s : State) : (s.pfcPort n).timeline = s.timeline := by
  unfold State.pfcPort
  split
  · exact State.forN_keeps State.timeline 8 _ (fun p _ t => t.pfcPri_timeline hn p) s
  · rfl

end

-- ## A port that goes down

theorem State.ctBreak_timeline (s : State) (q : Nat) (bytes : Option (List Byte)) : (s.ctBreak q bytes).timeline = s.timeline := by
  refine State.forN_keeps State.timeline 4 _ (fun n hn t => ?_) s
  have h := t.ctCut_timeline hn q bytes
  dsimp only
  split
  · split
    · exact (State.updPort_timeline _ _ _).trans h
    · exact h
  · exact h

theorem State.rxAbandon_timeline (s : State) (n : Nat) : (s.rxAbandon n).timeline = s.timeline := by
  unfold State.rxAbandon
  split
  · rfl
  · refine (State.updPort_timeline _ _ _).trans ?_
    split
    · exact (State.qDrop_timeline _ _ _ _).trans (s.ctBreak_timeline _ _)
    · rfl

theorem State.wireLost_timeline (s : State) (n : Nat) : (s.wireLost n).timeline = s.timeline := by
  unfold State.wireLost
  refine (State.updPort_timeline _ _ _).trans ((State.rxAbandon_timeline _ _).trans ?_)
  split
  · exact s.setQueue_timeline _ _
  · rfl

theorem State.lldpDrop_timeline (s : State) (n : Nat) : (s.lldpDrop n).timeline = s.timeline := (rfl)

theorem State.enterPort_timeline (s : State) {n : Nat} (hn : n < 4) (st : Nat) : (s.enterPort n st).timeline = s.timeline := by
  unfold State.enterPort
  extract_lets s1 s2 s3 s4 s5 s6
  have h1 : s1.timeline = s.timeline := by
    dsimp only [s1]
    split
    · exact (State.put_timeline _ (aside_macStatus hn) _).trans ((State.purgeCt_timeline hn _).trans (s.purgeCopies_timeline n))
    · rfl
  have h2 : s2.timeline = s.timeline := (s1.put_timeline (aside_macStatus hn) _).trans h1
  have h3 : s3.timeline = s.timeline := by
    dsimp only [s3]
    split
    · exact (s2.lldpDrop_timeline n).trans h2
    · exact h2
  have h4 : s4.timeline = s.timeline := by
    dsimp only [s4]
    split
    · exact (s3.wireLost_timeline n).trans h3
    · exact h3
  have h5 : s5.timeline = s.timeline := by
    dsimp only [s5]
    split
    · exact (s4.put_timeline (aside_macCtrl hn) _).trans h4
    · exact h4
  have h6 : s6.timeline = s.timeline := by
    dsimp only [s6]
    split
    · refine (State.forN_keeps State.timeline 8 _ (fun p _ t => ?_) s5).trans h5
      split
      · rfl
      split
      · exact t.pauseEnd_timeline hn p
      split
      · exact t.watchdogFire_timeline hn p
      · rfl
    · exact h5
  exact (s6.pfcPort_timeline hn).trans h6

theorem State.macCtrlWrite_timeline (s : State) {n : Nat} (hn : n < 4) (v : Nat) : (s.macCtrlWrite n v).timeline = s.timeline := by
  unfold State.macCtrlWrite
  extract_lets a req old tx st named ok s1 s2 s3 s4
  have h1 : s1.timeline = s.timeline := by
    dsimp only [s1]
    split
    · exact s.fwBytes_timeline _ _
    · rfl
  have h2 : s2.timeline = s.timeline := (s1.wrRW_timeline (aside_macCtrl hn) _).trans h1
  have h3 : s3.timeline = s.timeline := by
    dsimp only [s3]
    split
    · exact (State.report_timeline _ _).trans ((s2.put_timeline (aside_macCtrl hn) _).trans h2)
    · exact h2
  have h4 : s4.timeline = s.timeline := by
    dsimp only [s4]
    split
    · exact (State.purgeCt_timeline hn _).trans ((s3.purgeCopies_timeline n).trans h3)
    · exact h3
  split
  · exact s.report_timeline _
  split
  · exact (s4.enterPort_timeline hn _).trans h4
  · exact h4

end Sys2Proof.Machine
end

section
/-!
PROOF. PTP messages and time jumps (R33, R34, R36, R51), and what the firmware's start of the time leaves alone (R415).
-/
namespace Sys2Proof.Machine

-- ## The start of the time

theorem State.startService_timeline (s : State) : s.startService.timeline = s.timeline := by
  unfold State.startService
  extract_lets d
  split
  · rfl
  · refine State.forN_keeps State.timeline 4 _ (fun n hn t => ?_) _
    split
    · exact t.macCtrlWrite_timeline hn _
    · rfl

/-- What the firmware's start of the counter does once the time is valid. -/
def State.startRun (s : State) : State :=
  (if s.is R.TIME_CTRL_Run then s else (s.put R.TIME_CTRL_Run 1).rampStop).startService

theorem State.startRun_reed (s : State) : s.startRun.reed = s.reed := by
  refine (reed_of_timeline (State.startService_timeline _)).trans ?_
  split
  · rfl
  · exact (reed_of_timeline (State.rampStop_keeps blindAside_timeline (fun _ _ => rfl) _)).trans (s.put_reed _ _)

theorem State.startRun_rd (s : State) {a : Nat} (ha : 0x68000 ≤ a ∧ a < 0x70000) (hne : a ≠ R.TIME_CTRL) : s.startRun.rd a = s.rd a := by
  refine (rd_of_timeline (State.startService_timeline _) ha).trans ?_
  split
  · rfl
  · exact (rd_of_timeline (State.rampStop_keeps blindAside_timeline (fun _ _ => rfl) _) ha).trans (State.rd_put_ne s hne _)

theorem State.timeSet_reed (s : State) : s.timeSet.reed = s.reed := by
  unfold State.timeSet
  extract_lets sec p
  split
  · exact s.report_reed _
  · exact s.put_reed R.TIME_STATUS_TodValid 1

/-- The time set to a value, through the registers that hold the time to set. -/
def State.setTo (s : State) (t : Nat) : State :=
  let sec := t / unitsPerSec
  (((s.put R.SET_SEC_LO_Sec (sec % 2 ^ 32)).put R.SET_SEC_HI_Sec (sec / 2 ^ 32)).put R.SET_NS_Ns (t % unitsPerSec / 65536)).timeSet

theorem State.setTo_reed (s : State) (t : Nat) : (s.setTo t).reed = s.reed :=
  (State.timeSet_reed _).trans ((State.put_reed _ _ _).trans ((State.put_reed _ _ _).trans (s.put_reed _ _)))

/-- The state in which an offset has set the time of a unit that waits for one. -/
def State.offsetSet (s : State) (off : Option Int) : State := match off with
  | some d =>
    if s.is R.TIME_STATUS_TodValid then s
    else s.setTo ((s.time.tai + d) % (2 ^ 48 * unitsPerSec : Nat)).toNat
  | none => s

/-- What the firmware does with the time there is: nothing while it is not valid; it waits no longer and starts the counter otherwise. -/
def State.startValid (s : State) : State :=
  if !s.is R.TIME_STATUS_TodValid then s else ({ s with life := { s.life with wantTime := false } } : State).startRun

theorem State.startValid_eq (s : State) : s.startValid =
    if !s.is R.TIME_STATUS_TodValid then s
    else
      let s : State := { s with life := { s.life with wantTime := false } }
      (if s.is R.TIME_CTRL_Run then s else (s.put R.TIME_CTRL_Run 1).rampStop).startService := rfl

theorem State.startTime_eq (s : State) (off : Option Int) : s.startTime off = if !s.life.wantTime then s else (s.offsetSet off).startValid := by
  unfold State.startTime
  split
  · rfl
  · extract_lets u t
    have hu : u = s.offsetSet off := rfl
    clear_value u
    subst hu
    exact (State.startValid_eq _).symm

theorem State.startValid_reed (s : State) : s.startValid.reed = s.reed := by
  unfold State.startValid
  split
  · rfl
  · exact State.startRun_reed { s with life := { s.life with wantTime := false } }

theorem State.startValid_rd (s : State) {a : Nat} (ha : 0x68000 ≤ a ∧ a < 0x70000) (hne : a ≠ R.TIME_CTRL) : s.startValid.rd a = s.rd a := by
  unfold State.startValid
  split
  · rfl
  · exact State.startRun_rd { s with life := { s.life with wantTime := false } } ha hne

theorem State.offsetSet_reed (s : State) (off : Option Int) : (s.offsetSet off).reed = s.reed := by
  unfold State.offsetSet
  split
  · split
    · rfl
    · exact s.setTo_reed _
  · rfl

/-- The start of the time leaves Reed alone. -/
theorem State.startTime_reed (s : State) (off : Option Int) : (s.startTime off).reed = s.reed := by
  rw [State.startTime_eq]
  split
  · rfl
  · exact (State.startValid_reed _).trans (s.offsetSet_reed off)

/-- Once the time is valid, its start writes no word of TIME and TREADLE but TIME_CTRL. -/
theorem State.startTime_rd {s : State} (h : s.is R.TIME_STATUS_TodValid = true) (off : Option Int) {a : Nat} (ha : 0x68000 ≤ a ∧ a < 0x70000)
    (hne : a ≠ R.TIME_CTRL) : (s.startTime off).rd a = s.rd a := by
  have hset : s.offsetSet off = s := by
    unfold State.offsetSet
    split
    · exact if_pos h
    · rfl
  rw [State.startTime_eq, hset]
  split
  · rfl
  · exact s.startValid_rd ha hne

-- ## A measured offset

theorem State.refSt_updRef (s : State) (k : Nat) (f : RefSt → RefSt) : (s.updRef k f).refSt k = f (s.refSt k) := by
  simp only [State.refSt, State.updRef, tget_tupd_same]

theorem State.refSt_congr {s t : State} (h : t.reed = s.reed) (k : Nat) : t.refSt k = s.refSt k := by
  unfold State.refSt; rw [h]

theorem State.timeJump_reed (s : State) (n : Nat) (x : Int) : (s.timeJump n x).reed = s.reed := by
  unfold State.timeJump State.put64I State.put64
  extract_lets u
  have hu : u.reed = s.reed := (State.put_reed _ _ _).trans (s.put_reed _ _)
  split
  · rfl
  split
  · split
    · exact hu
    · exact (State.bump_reed _ _).trans ((u.put_reed _ _).trans hu)
  · exact s.put_reed _ _

/-- The reference's own part of a measured offset: its offset, and that Sync arrives (R34, R51). -/
def State.refMeasured (s : State) (n : Nat) (x : Int) : State := (s.updRef n (fun r => { r with off := x, sync := true })).ptpSeen n

theorem State.refMeasured_refSt (s : State) (n : Nat) (x : Int) :
    (s.refMeasured n x).refSt n = { s.refSt n with off := x, sync := true, present := (s.refSt n).announce } := by
  unfold State.refMeasured State.ptpSeen
  rw [State.refSt_updRef, State.refSt_updRef, Bool.and_true]

/-- Everything a measured offset can end in: the jump's detection, and the start of the time where the port qualifies. -/
theorem State.ptpOffset_cases (s : State) (n : Nat) (x : Int) :
    s.ptpOffset n x = (s.refMeasured n x).timeJump n x ∨ s.ptpOffset n x = ((s.refMeasured n x).timeJump n x).startTime (some x) := by
  unfold State.ptpOffset
  extract_lets u
  split
  · exact .inr rfl
  · exact .inl rfl

theorem State.ptpOffset_refSt (s : State) (n : Nat) (x : Int) :
    (s.ptpOffset n x).refSt n = { s.refSt n with off := x, sync := true, present := (s.refSt n).announce } := by
  rw [← State.refMeasured_refSt]
  obtain h | h := s.ptpOffset_cases n x <;> rw [h]
  · exact State.refSt_congr (State.timeJump_reed _ _ _) n
  · exact State.refSt_congr ((State.startTime_reed _ _).trans (State.timeJump_reed _ _ _)) n

-- ## Time jumps (R36)

/-- What the detection of a jump does where the selected reference's time is compared. -/
theorem State.timeJump_selected {s : State} {n : Nat} {x : Int} (hvalid : s.is R.TIME_STATUS_TodValid = true) (hsel : s.get R.RD_STATUS_Selected = n) :
    s.timeJump n x = if x.natAbs ≥ max 1 (s.get R.TIME_STEP_LIMIT_LimitNs) * 65536 then
        (if (s.put64I R.TIME_JUMP_OFFSET_LO_Offset R.TIME_JUMP_OFFSET_HI_Offset (divRoundAway x 65536)).is R.TIME_STATUS_JumpPending then
          s.put64I R.TIME_JUMP_OFFSET_LO_Offset R.TIME_JUMP_OFFSET_HI_Offset (divRoundAway x 65536)
        else ((s.put64I R.TIME_JUMP_OFFSET_LO_Offset R.TIME_JUMP_OFFSET_HI_Offset (divRoundAway x 65536)).put R.TIME_STATUS_JumpPending 1).bump R.CNT_JUMP_Count)
      else s.put R.TIME_STATUS_JumpPending 0 := by
  unfold State.timeJump
  rw [if_neg (by rw [hvalid, hsel]; simp)]

/-- The detection of a jump leaves it to others whether the time is valid. -/
theorem State.timeJump_valid (s : State) (n : Nat) (x : Int) : (s.timeJump n x).is R.TIME_STATUS_TodValid = s.is R.TIME_STATUS_TodValid := by
  unfold State.timeJump State.put64I
  extract_lets u
  have hu : u.is R.TIME_STATUS_TodValid = s.is R.TIME_STATUS_TodValid := State.is_congr (by
    unfold u State.put64
    rw [State.rd_put_ne _ (by decide), State.rd_put_ne _ (by decide)])
  split
  · rfl
  split
  · split
    · exact hu
    · exact (State.is_bump_ne _ (by decide) (by decide)).trans ((u.is_put_ne (by decide) (by decide) _).trans hu)
  · exact s.is_put_ne (by decide) (by decide) _

theorem State.refMeasured_rd (s : State) (n : Nat) (x : Int) (a : Nat) : (s.refMeasured n x).rd a = s.rd a := rfl

/-- While the time is valid, a measured offset writes no word of TIME and TREADLE but TIME_CTRL beside what the detection of a jump writes. -/
theorem State.ptpOffset_rd {s : State} (hvalid : s.is R.TIME_STATUS_TodValid = true) (n : Nat) (x : Int) {a : Nat}
    (ha : 0x68000 ≤ a ∧ a < 0x70000) (hne : a ≠ R.TIME_CTRL) : (s.ptpOffset n x).rd a = ((s.refMeasured n x).timeJump n x).rd a := by
  obtain h | h := s.ptpOffset_cases n x <;> rw [h]
  exact State.startTime_rd ((State.timeJump_valid _ n x).trans ((State.is_congr (State.refMeasured_rd s n x _)).trans hvalid)) _ ha hne

end Sys2Proof.Machine
end

section
/-!
PROOF. What each PTP message does on a port whose PTP runs, and the detection of a time jump (R33, R34, R36, R51): the statement.
-/
namespace Sys2Proof.Machine

/-- The state after the best master's Announce (R34, R51, R163). -/
def State.ptpAnnounced (s : State) (n : Nat) (timescale : Bool) (utc : Int) (gm : Nat) : State :=
  let t := if s.get R.RD_STATUS_Selected = n ∧ (s.refSt n).gm ≠ gm then s.sdpBump else s
  ((t.updRef n (fun r => { r with announce := true, timescale := timescale, gm := gm })).ptpSeen n).setObj 0x2003 0 (ofSigned 32 utc)

/-- The state after a two-step Sync of the best master (R51). -/
def State.ptpSynced (s : State) (n : Nat) : State := (s.updRef n (fun r => { r with sync := true })).ptpSeen n

theorem State.ptpSynced_refSt (s : State) (n : Nat) :
    (s.ptpSynced n).refSt n = { s.refSt n with sync := true, present := (s.refSt n).announce } := by
  unfold State.ptpSynced State.ptpSeen
  rw [State.refSt_updRef, State.refSt_updRef, Bool.and_true]

theorem State.setObj_refSt (s : State) (i j v k : Nat) : (s.setObj i j v).refSt k = s.refSt k := rfl

theorem State.sdpBump_refSt (s : State) (k : Nat) : s.sdpBump.refSt k = s.refSt k := rfl

theorem State.ptpAnnounced_refSt (s : State) (n : Nat) (ts : Bool) (utc : Int) (gm : Nat) :
    (s.ptpAnnounced n ts utc gm).refSt n = { s.refSt n with announce := true, timescale := ts, gm := gm, present := (s.refSt n).sync } := by
  unfold State.ptpAnnounced State.ptpSeen
  extract_lets t
  have ht : t.refSt n = s.refSt n := by
    dsimp only [t]
    split
    · exact s.sdpBump_refSt n
    · rfl
  rw [State.setObj_refSt, State.refSt_updRef, State.refSt_updRef, ht, Bool.true_and]

theorem State.ptpAnnounced_utc (s : State) (n : Nat) (ts : Bool) (utc : Int) (gm : Nat) :
    (s.ptpAnnounced n ts utc gm).obj 0x2003 0 = ofSigned 32 utc := State.obj_setObj_same _ _ _ _

-- ## What the commands answer

section
variable {s : State} (hs : Ready s) {n : Nat} (hn : n < 4)
include hs hn

theorem exec_ptpMessageRx_off (hp : s.ptpProfile n = 0xFF) (m : PtpMsg) : exec (.ptpMessageRx n m) s = s.done :=
  (s.accept_live _ _ (decide_eq_true hn) hs).trans (congrArg State.done (if_pos (.inr hp)))

theorem exec_ptpMessageTx (k : Nat) : exec (.ptpMessageTx n k) s = (if s.ptpSends n k then s.fwPtp n k s.time.tai 0 else s).done :=
  s.accept_live _ _ (decide_eq_true hn) hs

variable (hp : s.ptpProfile n ≠ 0xFF)
include hp

theorem exec_ptpAnnounce_best (ts : Bool) (utc : Int) (gm : Nat) :
    exec (.ptpMessageRx n (.announce true ts utc gm)) s = (s.ptpAnnounced n ts utc gm).done :=
  (s.accept_live _ _ (decide_eq_true hn) hs).trans (congrArg State.done (if_neg (by omega)))

theorem exec_ptpAnnounce_other (ts : Bool) (utc : Int) (gm : Nat) : exec (.ptpMessageRx n (.announce false ts utc gm)) s = s.done :=
  (s.accept_live _ _ (decide_eq_true hn) hs).trans (congrArg State.done (if_neg (by omega)))

theorem exec_ptpSync_oneStep (x : Int) : exec (.ptpMessageRx n (.sync true true x)) s = (s.ptpOffset n x).done :=
  (s.accept_live _ _ (decide_eq_true hn) hs).trans (congrArg State.done (if_neg (by omega)))

theorem exec_ptpSync_twoStep (x : Int) : exec (.ptpMessageRx n (.sync true false x)) s = (s.ptpSynced n).done :=
  (s.accept_live _ _ (decide_eq_true hn) hs).trans (congrArg State.done (if_neg (by omega)))

theorem exec_ptpSync_other (o : Bool) (x : Int) : exec (.ptpMessageRx n (.sync false o x)) s = s.done :=
  (s.accept_live _ _ (decide_eq_true hn) hs).trans (congrArg State.done (if_neg (by omega)))

theorem exec_ptpFollowUp_best (x : Int) : exec (.ptpMessageRx n (.followUp true x)) s = (s.ptpOffset n x).done :=
  (s.accept_live _ _ (decide_eq_true hn) hs).trans (congrArg State.done (if_neg (by omega)))

theorem exec_ptpFollowUp_other (x : Int) : exec (.ptpMessageRx n (.followUp false x)) s = s.done :=
  (s.accept_live _ _ (decide_eq_true hn) hs).trans (congrArg State.done (if_neg (by omega)))

theorem exec_ptpDelayReq (id ago : Nat) : exec (.ptpMessageRx n (.delayReq id ago)) s =
    (if s.ptpMaster n = true ∧ s.ptpProfile n ≠ 3 then s.fwPtp n 9 (s.rxStamp n ago) id else s).done :=
  (s.accept_live _ _ (decide_eq_true hn) hs).trans (congrArg State.done (if_neg (by omega)))

theorem exec_ptpPdelayReq (id ago : Nat) : exec (.ptpMessageRx n (.pdelayReq id ago)) s =
    (if s.ptpProfile n = 3 then s.fwPtp n 3 (s.rxStamp n ago) id else s).done :=
  (s.accept_live _ _ (decide_eq_true hn) hs).trans (congrArg State.done (if_neg (by omega)))

theorem exec_ptpOther : exec (.ptpMessageRx n .other) s = s.done :=
  (s.accept_live _ _ (decide_eq_true hn) hs).trans (congrArg State.done (if_neg (by omega)))

end

-- ## What the engine sends of itself

section
variable {s : State} {n : Nat}

theorem State.ptpSends_off (hp : s.ptpProfile n = 0xFF) (k : Nat) : s.ptpSends n k = false := by
  unfold State.ptpSends
  rw [hp]
  rfl

variable (hp : s.ptpProfile n ≠ 0xFF)
include hp

theorem State.ptpSends_master {k : Nat} (hk : k = 0 ∨ k = 11) : s.ptpSends n k = s.ptpMaster n := by
  unfold State.ptpSends
  rw [decide_eq_true hp, if_pos hk]
  rfl

theorem State.ptpSends_delayReq : s.ptpSends n 1 = true ↔ s.ptpProfile n ≠ 3 ∧ s.ptpMaster n = false := by
  unfold State.ptpSends
  rw [decide_eq_true hp]
  simp

theorem State.ptpSends_pdelayReq : s.ptpSends n 2 = true ↔ s.ptpProfile n = 3 := by
  unfold State.ptpSends
  rw [decide_eq_true hp]
  simp

omit hp in
theorem State.ptpSends_none {k : Nat} (h3 : 3 ≤ k) (h11 : k ≠ 11) : s.ptpSends n k = false := by
  unfold State.ptpSends
  rw [if_neg (by omega), if_neg (by omega), decide_eq_false (by omega : ¬ k = 2)]
  simp

end

-- ## The statements

/-- What a measured offset gives its reference, as the command ends. -/
theorem State.ptpOffset_settle (s : State) (n : Nat) (x : Int) : ((s.ptpOffset n x).settle.refSt n).off = x
    ∧ ((s.ptpOffset n x).settle.refSt n).sync = true ∧ ((s.ptpOffset n x).settle.refSt n).present = (s.refSt n).announce := by
  have h := (State.refSt_congr (State.settle_reed _) n).trans (s.ptpOffset_refSt n x)
  rw [h]
  exact ⟨rfl, rfl, rfl⟩

/-- A signed 64-bit value that has been put reads as its pattern spells it. -/
theorem State.get64I_put64I (s : State) {lo hi : Fld} (hlo : lo.lsb + lo.wid ≤ 32) (wlo : lo.wid = 32) (hhi : hi.lsb + hi.wid ≤ 32)
    (whi : hi.wid = 32) (hne : lo.reg ≠ hi.reg) (i : Int) : (s.put64I lo hi i).get64I lo hi = toSigned 64 (ofSigned 64 i) := by
  have hlt : ofSigned 64 i < 2 ^ 64 := by
    unfold ofSigned
    omega
  unfold State.get64I State.get64 State.put64I
  rw [State.get_put64_lo s _ hlo wlo hne, State.get_put64_hi s lo _ hhi whi]
  congr 1
  omega

section
variable {s : State} {n : Nat} (x : Int) (hvalid : s.is R.TIME_STATUS_TodValid = true) (hsel : s.get R.RD_STATUS_Selected = n)
include hvalid hsel

/-- A time that differs by the limit or more is shown and counted the first time (R36). -/
theorem State.ptpOffset_jump (hfar : max 1 (s.get R.TIME_STEP_LIMIT_LimitNs) * 65536 ≤ x.natAbs) (hnew : s.is R.TIME_STATUS_JumpPending = false) :
    (s.ptpOffset n x).settle.is R.TIME_STATUS_JumpPending = true
    ∧ (s.ptpOffset n x).settle.get R.CNT_JUMP_Count = (s.get R.CNT_JUMP_Count + 1) % 2 ^ 32
    ∧ (s.ptpOffset n x).settle.get64I R.TIME_JUMP_OFFSET_LO_Offset R.TIME_JUMP_OFFSET_HI_Offset = toSigned 64 (ofSigned 64 (divRoundAway x 65536)) := by
  have jump := State.get64I_put64I (s.refMeasured n x) (lo := R.TIME_JUMP_OFFSET_LO_Offset) (hi := R.TIME_JUMP_OFFSET_HI_Offset)
    (by decide) rfl (by decide) rfl (by decide) (divRoundAway x 65536)
  have hrd := fun {a : Nat} (ha : 0x68000 ≤ a ∧ a < 0x70000) (hne : a ≠ R.TIME_CTRL) => State.ptpOffset_rd hvalid n x ha hne
  generalize hu : (s.refMeasured n x).put64I R.TIME_JUMP_OFFSET_LO_Offset R.TIME_JUMP_OFFSET_HI_Offset (divRoundAway x 65536) = u at jump
  have other : ∀ {f : Fld}, f.reg ≠ R.TIME_JUMP_OFFSET_LO → f.reg ≠ R.TIME_JUMP_OFFSET_HI → u.get f = s.get f := by
    intro f hlo hhi
    rw [← hu]
    exact (State.get_put64_ne _ hlo hhi _).trans (State.get_congr (s.refMeasured_rd n x _))
  have hpend : u.is R.TIME_STATUS_JumpPending = false := by
    unfold State.is at hnew ⊢
    rw [other (by decide) (by decide)]
    exact hnew
  have hj : (s.refMeasured n x).timeJump n x = (u.put R.TIME_STATUS_JumpPending 1).bump R.CNT_JUMP_Count := by
    rw [State.timeJump_selected (s := s.refMeasured n x) hvalid hsel, hu, hpend]
    exact if_pos hfar
  rw [hj] at hrd
  refine ⟨?_, ?_, ?_⟩
  · rw [State.settle_is _ (by decide), State.is_congr (hrd (by decide) (by decide)), State.is_bump_ne _ (by decide) (by decide)]
    exact State.is_put_one _ (by decide) rfl
  · rw [State.settle_get _ (by decide), State.get_congr (hrd (by decide) (by decide)), State.get_bump_same _ _ (by decide),
      State.get_put_reg _ (by decide), other (by decide) (by decide)]
    rfl
  · rw [← jump]
    have word : ∀ {f : Fld}, f.reg = R.TIME_JUMP_OFFSET_LO ∨ f.reg = R.TIME_JUMP_OFFSET_HI → (s.ptpOffset n x).settle.get f = u.get f := by
      intro f hf
      have ha : 0x68000 ≤ f.reg ∧ f.reg < 0x70000 := by rcases hf with e | e <;> rw [e] <;> decide
      have hne : ∀ a ∈ [R.MSIX_PBA 0, R.TIME_CTRL, R.CNT_JUMP, R.TIME_STATUS], f.reg ≠ a := by rcases hf with e | e <;> rw [e] <;> decide
      rw [State.settle_get _ (hne _ (by simp)), State.get_congr (hrd ha (hne _ (by simp)))]
      exact (State.get_put_reg _ (hne R.CNT_JUMP (by simp)) _).trans (State.get_put_reg _ (hne R.TIME_STATUS (by simp)) _)
    unfold State.get64I State.get64
    rw [word (.inl rfl), word (.inr rfl)]

/-- A time that does not clears the jump (R36). -/
theorem State.ptpOffset_noJump (hnear : x.natAbs < max 1 (s.get R.TIME_STEP_LIMIT_LimitNs) * 65536) :
    (s.ptpOffset n x).settle.is R.TIME_STATUS_JumpPending = false := by
  have hj : (s.refMeasured n x).timeJump n x = (s.refMeasured n x).put R.TIME_STATUS_JumpPending 0 := by
    rw [State.timeJump_selected (s := s.refMeasured n x) hvalid hsel]
    exact if_neg (Nat.not_le.2 hnear)
  rw [State.settle_is _ (by decide), State.is_congr (State.ptpOffset_rd hvalid n x (by decide) (by decide)), hj]
  exact State.is_put_zero _ (by decide) rfl

end

/-- Settles O15: what each message does by its kind, and the jump that a measured offset shows. -/
theorem ptpAndTimeJumps : Obligations.PtpAndTimeJumps := by
  refine ⟨fun s n hs hn => ⟨fun hp => ⟨fun m => Ends.of_done (exec_ptpMessageRx_off hs hn hp m), fun k => ?_⟩, fun hp =>
    ⟨fun x => Gives.of_done (exec_ptpSync_oneStep hs hn hp x) (s.ptpOffset_settle n x), fun x => ?_,
      fun x => Ends.of_done (exec_ptpFollowUp_other hs hn hp x), fun x => ?_, fun o x => Ends.of_done (exec_ptpSync_other hs hn hp o x),
      Ends.of_done (exec_ptpOther hs hn hp), fun ts utc gm => ⟨Ends.of_done (exec_ptpAnnounce_other hs hn hp ts utc gm), ?_⟩,
      fun id ago => Ends.of_done (exec_ptpDelayReq hs hn hp id ago), fun id ago => Ends.of_done (exec_ptpPdelayReq hs hn hp id ago),
      fun k hk => ?_, ?_, ?_, fun k h3 h11 => ?_⟩⟩, fun s n x hs hn hp hvalid hsel => ⟨fun hfar hnew => ?_, fun hnear => ?_⟩⟩
  · refine Ends.of_done ((exec_ptpMessageTx hs hn k).trans ?_)
    rw [State.ptpSends_off hp]
    rfl
  · refine Gives.of_done (exec_ptpSync_twoStep hs hn hp x) ?_
    rw [State.refSt_congr (State.settle_reed _), State.ptpSynced_refSt]
    exact ⟨rfl, rfl, rfl⟩
  · obtain ⟨hoff, hsync, -⟩ := s.ptpOffset_settle n x
    exact Gives.of_done (exec_ptpFollowUp_best hs hn hp x) ⟨hoff, hsync⟩
  · refine Gives.of_done (exec_ptpAnnounce_best hs hn hp ts utc gm) ?_
    rw [State.refSt_congr (State.settle_reed _), State.ptpAnnounced_refSt]
    refine ⟨?_, rfl, rfl⟩
    unfold State.obj
    rw [State.settle_objs]
    exact s.ptpAnnounced_utc n ts utc gm
  · refine Ends.of_done ((exec_ptpMessageTx hs hn k).trans ?_)
    rw [State.ptpSends_master hp hk]
  · refine Ends.of_done ((exec_ptpMessageTx hs hn 1).trans (congrArg State.done ?_))
    exact if_congr (State.ptpSends_delayReq hp) rfl rfl
  · refine Ends.of_done ((exec_ptpMessageTx hs hn 2).trans (congrArg State.done ?_))
    exact if_congr (State.ptpSends_pdelayReq hp) rfl rfl
  · refine Ends.of_done ((exec_ptpMessageTx hs hn k).trans ?_)
    rw [State.ptpSends_none h3 h11]
    rfl
  · exact Gives.of_done (exec_ptpSync_oneStep hs hn hp x) (State.ptpOffset_jump x hvalid hsel hfar hnew)
  · exact Gives.of_done (exec_ptpSync_oneStep hs hn hp x) (State.ptpOffset_noJump x hvalid hsel hnear)

end Sys2Proof.Machine
end

section
/-!
PROOF. What the work around a strobe leaves of the schedule (R15 to R22): the lease timers, local links, TDM and the decimators.
-/
namespace Sys2Proof.Machine

-- ## Updates

@[simp] theorem State.put64_schedule (s : State) (lo hi : Fld) (v : Nat) : (s.put64 lo hi v).schedule = s.schedule :=
  (State.put_schedule _ _ _).trans (s.put_schedule _ _)

@[simp] theorem State.updPort_schedule (s : State) (n : Nat) (f : PortSt → PortSt) : (s.updPort n f).schedule = s.schedule := (rfl)

@[simp] theorem State.updTx_schedule (s : State) (i : Nat) (f : TxStream → TxStream) : (s.updTx i f).schedule = s.schedule := (rfl)

@[simp] theorem State.updRx_schedule (s : State) (i : Nat) (f : RxStream → RxStream) : (s.updRx i f).schedule = s.schedule := (rfl)

@[simp] theorem State.setQueue_schedule (s : State) (q : Nat) (v : Queue) : (s.setQueue q v).schedule = s.schedule := (rfl)

@[simp] theorem State.updRef_schedule (s : State) (k : Nat) (f : RefSt → RefSt) : (s.updRef k f).schedule = s.schedule := (rfl)

@[simp] theorem State.updL_schedule (s : State) (f : LeaseSt → LeaseSt) : (s.updL f).schedule = s.schedule := (rfl)

@[simp] theorem State.updLl_schedule (s : State) (k : Nat) (f : LlSt → LlSt) : (s.updLl k f).schedule = s.schedule := (rfl)

@[simp] theorem State.updTdm_schedule (s : State) (k : Nat) (f : TdmSt → TdmSt) : (s.updTdm k f).schedule = s.schedule := (rfl)

@[simp] theorem State.updDin_schedule (s : State) (k : Nat) (f : DinSt → DinSt) : (s.updDin k f).schedule = s.schedule := (rfl)

@[simp] theorem State.srcPuts_schedule (s : State) (vs : List (Nat × BitVec 32)) : (s.srcPuts vs).schedule = s.schedule := (rfl)

@[simp] theorem State.withDec_schedule (s : State) (d : DecSt) : ({ s with dec := d } : State).schedule = s.schedule := (rfl)

@[simp] theorem State.withSrc_schedule (s : State) (v : List (Nat × BitVec 32)) : ({ s with src := v } : State).schedule = s.schedule := (rfl)

theorem State.withSv_schedule (s : State) {v : SvSt} (h : v.due = s.sv.due) : ({ s with sv := v } : State).schedule = s.schedule := by
  unfold State.schedule
  dsimp only
  rw [h]

theorem State.wrRW_schedule (s : State) (a w : Nat) : (s.wrRW a w).schedule = s.schedule := by
  unfold State.wrRW
  split
  · rfl
  · exact s.wr_schedule _ _

-- ## The lease timers (R289, R291, R295)

theorem State.refGo_schedule (s : State) (k st : Nat) : (s.refGo k st).schedule = s.schedule :=
  (State.updRef_schedule _ _ _).trans ((State.put_schedule _ _ _).trans (s.put_schedule _ _))

theorem State.refCfgApply_schedule (s : State) (k v : Nat) : (s.refCfgApply k v).schedule = s.schedule := by
  unfold State.refCfgApply
  extract_lets was t now
  have ht : t.schedule = s.schedule := s.wrRW_schedule _ _
  split
  · exact (State.put_schedule _ _ _).trans ((t.refGo_schedule _ _).trans ht)
  split
  · exact (t.refGo_schedule _ _).trans ht
  · exact ht

theorem State.roleRefs_schedule (s : State) : s.roleRefs.schedule = s.schedule := by
  unfold State.roleRefs
  extract_lets v
  split
  · rfl
  split
  · exact s.refCfgApply_schedule _ _
  · exact s.refCfgApply_schedule _ _

theorem State.senderEval_schedule (s : State) : s.senderEval.schedule = s.schedule := by
  unfold State.senderEval
  extract_lets now v t w
  have ht : t.schedule = s.schedule := by
    dsimp only [t]
    split
    · exact s.withSv_schedule rfl
    · rfl
  exact ((t.putB R.SV_STATUS_EpochSender now).withSv_schedule rfl).trans ((t.putB_schedule _ _).trans ht)

theorem State.reserveEval_schedule (s : State) : s.reserveEval.schedule = s.schedule := by
  unfold State.reserveEval
  extract_lets was now t
  split
  · exact (t.bump_schedule _).trans (s.putB_schedule _ _)
  · exact s.putB_schedule _ _

theorem State.holdEval_schedule (s : State) : s.holdEval.schedule = s.schedule := by
  unfold State.holdEval
  extract_lets mode was now t
  have ht : t.schedule = s.schedule := (State.putB_schedule _ _ _).trans (s.putB_schedule _ _)
  split
  · exact ht
  · exact t.roleRefs_schedule.trans ht

theorem State.collisionEval_schedule (s : State) : s.collisionEval.schedule = s.schedule := by
  unfold State.collisionEval
  extract_lets pa coll was t
  have ht : t.schedule = s.schedule := (State.putB_schedule _ _ _).trans (s.putB_schedule _ _)
  split
  · exact (t.bump_schedule _).trans ht
  · exact ht

theorem State.tdmRelease_schedule (s : State) : s.tdmRelease.schedule = s.schedule := by
  refine State.forN_keeps State.schedule 16 _ (fun k _ t => ?_) s
  split
  · exact (State.bump_schedule _ _).trans (t.put_schedule _ _)
  · rfl

theorem State.driveEval_schedule (s : State) : s.driveEval.schedule = s.schedule := by
  unfold State.driveEval
  extract_lets t was u
  have ht : t.schedule = s.schedule := by
    dsimp only [t]
    split
    · rfl
    · exact s.put_schedule _ _
  have hu : u.schedule = s.schedule := (State.updL_schedule _ _).trans ((t.put_schedule _ _).trans ht)
  split
  · exact (t.updL_schedule _).trans ht
  split
  · exact u.tdmRelease_schedule.trans hu
  · exact hu

theorem State.leaseEval_schedule (s : State) : s.leaseEval.schedule = s.schedule := by
  unfold State.leaseEval
  extract_lets t u
  have ht : t.schedule = s.schedule :=
    (State.driveEval_schedule _).trans ((State.collisionEval_schedule _).trans ((State.holdEval_schedule _).trans s.reserveEval_schedule))
  exact (State.senderEval_schedule _).trans ((State.putB_schedule _ _ _).trans ((t.putB_schedule _ _).trans ht))

theorem State.leaseTimers_schedule (s : State) : s.leaseTimers.schedule = s.schedule := by
  unfold State.leaseTimers
  extract_lets t u
  have ht : t.schedule = s.schedule := by
    dsimp only [t]
    split
    · exact (State.leaseEval_schedule _).trans ((State.bump_schedule _ _).trans (s.put_schedule _ _))
    · rfl
  have hu : u.schedule = s.schedule := by
    dsimp only [u]
    split
    · exact (State.leaseEval_schedule _).trans ((State.put_schedule _ _ _).trans ((t.put_schedule _ _).trans ht))
    · exact ht
  have hf : u.fence.schedule = s.schedule := by
    unfold State.fence
    split
    · exact (State.leaseEval_schedule _).trans ((State.bump_schedule _ _).trans ((u.put_schedule _ _).trans hu))
    · exact hu
  unfold State.driveArm
  split
  · split
    · exact (State.put_schedule _ _ _).trans hf
    · exact hf
  · exact hf

-- ## Local links (R277 to R281)

theorem State.nextCell_schedule (s : State) (k p w : Nat) : (s.nextCell k p w).2.schedule = s.schedule := by
  unfold State.nextCell
  split
  · exact (State.put_schedule _ _ _).trans (s.updLl_schedule _ _)
  · rfl

theorem State.linkSend_schedule (s : State) (k : Nat) : (s.linkSend k).schedule = s.schedule := by
  unfold State.linkSend
  split
  · rfl
  · rename_i n _
    extract_lets t w p
    split
    · rfl
    · exact (State.send_schedule _ _).trans ((State.updLl_schedule _ _ _).trans (s.nextCell_schedule k p w))

theorem State.linkDown_schedule (s : State) (k : Nat) : (s.linkDown k).schedule = s.schedule := by
  unfold State.linkDown
  split
  · exact (State.updLl_schedule _ _ _).trans ((State.bump_schedule _ _).trans (s.put_schedule _ _))
  · rfl

theorem State.linkUnseen_schedule (s : State) (k : Nat) : (s.linkUnseen k).schedule = s.schedule := by
  unfold State.linkUnseen
  split
  · split
    · exact (State.put_schedule _ _ _).trans (s.updLl_schedule _ _)
    · rfl
  · rfl

theorem State.linkStrobe_schedule (s : State) : s.linkStrobe.schedule = s.schedule := by
  refine State.forN_keeps State.schedule 4 _ (fun k _ t => ?_) s
  extract_lets u v w x
  have hu : u.schedule = t.schedule := t.linkSend_schedule k
  have hw : w.schedule = t.schedule := by
    dsimp only [w]
    split
    · exact (u.bump_schedule _).trans hu
    · exact hu
  split
  · exact hu
  · exact (x.updLl_schedule _ _).trans ((w.linkDown_schedule k).trans hw)

theorem State.linkTake_schedule (s : State) : s.linkTake.schedule = s.schedule :=
  State.forN_keeps State.schedule 4 _ (fun k _ t => (State.linkUnseen_schedule _ k).trans (t.updLl_schedule k _)) s

-- ## TDM (R265 to R271)

theorem State.tdmSend_schedule (s : State) (k m : Nat) (dout : List (Option Bool)) : (s.tdmSend k m dout).schedule = s.schedule := by
  unfold State.tdmSend
  split
  · rfl
  · exact s.send_schedule _

theorem State.tdmFrameStart_schedule (s : State) (m k : Nat) : (s.tdmFrameStart m k).schedule = s.schedule := by
  unfold State.tdmFrameStart
  extract_lets t u v db
  have ht : t.schedule = s.schedule := by
    dsimp only [t]
    split
    · exact (State.updTdm_schedule _ _ _).trans (s.put_schedule _ _)
    · rfl
  split
  · rfl
  · exact (State.tdmSend_schedule _ _ _ _).trans ((State.updTdm_schedule _ _ _).trans ((t.putB_schedule _ _).trans ht))

theorem State.tdmStrobe_schedule (s : State) (m : Nat) : (s.tdmStrobe m).schedule = s.schedule :=
  State.forN_keeps State.schedule 16 _ (fun k _ t => t.tdmFrameStart_schedule m k) s

theorem State.tdmFill_schedule (s : State) (m : Nat) : (s.tdmFill m).schedule = s.schedule :=
  State.forN_keeps State.schedule 16 _ (fun k _ t => (State.updTdm_schedule _ k _).trans (t.srcPuts_schedule _)) s

-- ## Decimators (R225 to R239)

theorem State.decStatus_schedule (s : State) : s.decStatus.schedule = s.schedule :=
  (State.putB_schedule _ _ _).trans (s.putB_schedule _ _)

theorem State.dinWatch_schedule (s : State) (k osr word : Nat) : (s.dinWatch k osr word).schedule = s.schedule := by
  unfold State.dinWatch
  extract_lets ones t same run u stuck rises v
  have hv : v.schedule = s.schedule :=
    (State.putB_schedule _ _ _).trans ((State.putB_schedule _ _ _).trans ((State.updDin_schedule _ _ _).trans (s.put_schedule _ _)))
  split
  · exact (v.bump_schedule _).trans hv
  · exact hv

theorem State.decWatch_schedule (s : State) (bits : List (Nat × Nat)) : (s.decWatch bits).schedule = s.schedule := by
  refine State.forN_keeps State.schedule 64 _ (fun k _ t => ?_) s
  split
  · split
    · exact t.dinWatch_schedule _ _ _
    · rfl
  · rfl

theorem State.dinPass_schedule (s : State) (k n osr word : Nat) (bad : Bool) : (s.dinPass k n osr word bad).schedule = s.schedule := by
  unfold State.dinPass
  extract_lets g profile live
  split
  · rfl
  split
  split
  extract_lets line v t1 t2 t3 w
  have h1 : t1.schedule = s.schedule := s.updDin_schedule _ _
  have h2 : t2.schedule = s.schedule := by
    dsimp only [t2]
    split
    · exact (t1.bump_schedule _).trans h1
    · exact h1
  have h3 : t3.schedule = s.schedule := by
    dsimp only [t3]
    split
    · exact (t2.bump_schedule _).trans h2
    · exact h2
  exact (t3.withDec_schedule _).trans h3

theorem State.decPass_schedule (s : State) (n : Nat) (osrs : List (Option Nat)) (bits : List (Nat × Nat)) (bad : List Nat) :
    (s.decPass n osrs bits bad).schedule = s.schedule := by
  refine (State.forN_keeps State.schedule 64 _ (fun k _ t => ?_) _).trans (s.withDec_schedule _)
  split
  · exact t.dinPass_schedule _ _ _ _ _
  · rfl

theorem State.decSlots_schedule (s : State) (n : Nat) : (s.decSlots n).schedule = s.schedule := by
  refine State.forL_keeps State.schedule _ (fun e t => ?_) _ s
  split
  · rfl
  · generalize t.dinTrim e.1 e.2.1 = r
    obtain ⟨o, sat⟩ := r
    refine (State.withSrc_schedule _ _).trans ?_
    split
    · exact t.bump_schedule _
    · rfl

theorem State.setDec_schedule (s : State) (k st : Nat) : (s.setDec k st).schedule = s.schedule :=
  (State.put_schedule _ _ _).trans (s.put_schedule _ _)

theorem State.decSync_schedule (s : State) (p : Nat) : (s.decSync p).schedule = s.schedule := by
  unfold State.decSync
  extract_lets t d u
  have ht : t.schedule = s.schedule := by
    refine State.forN_keeps State.schedule 4 _ (fun g _ t => ?_) s
    split
    · rfl
    · refine (State.forN_keeps State.schedule 16 _ (fun i _ u => ?_) _).trans (t.setDec_schedule g 3)
      exact (State.updDin_schedule _ _ _).trans ((State.put_schedule _ _ _).trans ((State.put_schedule _ _ _).trans
        ((State.put_schedule _ _ _).trans (u.put_schedule _ _))))
  have hu : u.schedule = s.schedule := (t.withDec_schedule _).trans ht
  split
  · rfl
  · exact (State.decStatus_schedule _).trans ((State.bump_schedule _ _).trans ((u.put64_schedule _ _ _).trans hu))

theorem State.decCommit_schedule (s : State) (p cues : Nat) : (s.decCommit p cues).schedule = s.schedule := by
  unfold State.decCommit
  extract_lets n d t
  have ht : t.schedule = s.schedule := s.withDec_schedule _
  split
  · exact ht
  · exact (State.add_schedule _ _ _).trans ((t.decSync_schedule p).trans ht)

theorem State.decClear_schedule (s : State) : s.decClear.schedule = s.schedule := by
  unfold State.decClear
  split
  · split
    · rfl
    · refine (State.decStatus_schedule _).trans ((State.withDec_schedule _ _).trans (State.forN_keeps State.schedule 64 _ (fun k _ t => ?_) s))
      split
      · exact t.updDin_schedule _ _
      · rfl
  · rfl

theorem State.decStart_schedule (s : State) (n : Nat) : (s.decStart n).schedule = s.schedule :=
  (State.withDec_schedule _ _).trans ((State.decClear_schedule _).trans (s.decCommit_schedule (n - 1) 0))

end Sys2Proof.Machine
end

section
/-!
PROOF. What the streams' work at an index leaves of the schedule (R127 to R165, R187, R188): Shuttle's pass, the digests, and Warp's pass.
-/
namespace Sys2Proof.Machine

/-- What every step of a fold with an answer keeps, the fold keeps. -/
theorem foldl_snd_keeps {α β γ : Type} (p : State → γ) (f : β × State → α → β × State) (h : ∀ acc a, p (f acc a).2 = p acc.2) (xs : List α) :
    ∀ acc : β × State, p (xs.foldl f acc).2 = p acc.2 := by
  induction xs with
  | nil => exact fun _ => rfl
  | cons x r ih => exact fun acc => (ih (f acc x)).trans (h acc x)

-- ## Queues

@[simp] theorem State.qDrop_schedule (s : State) (q by_ k : Nat) : (s.qDrop q by_ k).schedule = s.schedule :=
  schedule_of_timeline (s.qDrop_timeline q by_ k)

theorem State.qFreeDone_schedule (s : State) (q k : Nat) : (s.qFreeDone q k).schedule = s.schedule := by
  unfold State.qFreeDone
  extract_lets v keep
  split
  · rfl
  · exact (schedule_of_timeline (State.qTrim_timeline _ _)).trans (s.setQueue_schedule _ _)

theorem State.qRelease_schedule (s : State) (q start : Nat) : (s.qRelease q start).schedule = s.schedule :=
  (State.qFreeDone_schedule _ _ _).trans (s.setQueue_schedule _ _)

theorem State.qPoison_schedule (s : State) (q : Nat) : (s.qPoison q).schedule = s.schedule :=
  (State.bump_schedule _ _).trans (s.setQueue_schedule _ _)

theorem State.closePorts_schedule (s : State) (q : Nat) : (s.closePorts q).schedule = s.schedule := (rfl)

theorem State.qFlush_schedule (s : State) (q k : Nat) : (s.qFlush q k).schedule = s.schedule := by
  unfold State.qFlush State.free
  extract_lets v
  exact (State.put_schedule _ _ _).trans ((State.setQueue_schedule _ _ _).trans (State.closePorts_schedule _ _))

theorem State.qEccReset_schedule (s : State) (q : Nat) (words : List Nat) : (s.qEccReset q words).schedule = s.schedule := by
  unfold State.qEccReset
  split
  · rfl
  · exact (State.forL_keeps State.schedule _ (fun w t => (State.report_schedule _ _).trans (t.bump_schedule _)) _ _).trans (s.qFlush_schedule q 6)

theorem State.cutQueue_schedule (s : State) (q : Nat) : (s.cutQueue q).schedule = s.schedule := by
  refine State.forN_keeps State.schedule 4 _ (fun n hn t => ?_) s
  refine (State.updPort_schedule _ _ _).trans ((schedule_of_timeline (State.ctCut_timeline hn _ _ _)).trans ?_)
  split
  · split
    · exact (State.updPort_schedule _ _ _).trans (schedule_of_timeline (t.frameOut_timeline hn _ _))
    · rfl
  · rfl

theorem State.txLost_schedule (s : State) (q : Nat) : (s.txLost q).schedule = s.schedule := by
  unfold State.txLost
  extract_lets t
  have ht : t.schedule = s.schedule := State.forL_keeps State.schedule _ (fun i t => t.updTx_schedule _ _) _ s
  split
  · rfl
  · refine (State.forL_keeps State.schedule _ (fun e u => ?_) _ t).trans ht
    split
    · exact u.updTx_schedule _ _
    · rfl

theorem State.qReset_schedule (s : State) (q : Nat) (words : List Nat) : (s.qReset q words).schedule = s.schedule := by
  unfold State.qReset
  split
  · rfl
  · exact (State.qEccReset_schedule _ _ _).trans ((State.cutQueue_schedule _ _).trans (s.txLost_schedule q))

-- ## Shuttle (R145 to R165)

theorem State.txAbort_schedule (s : State) (i : Nat) : (s.txAbort i).schedule = s.schedule := by
  unfold State.txAbort
  split
  · rfl
  · refine (State.updTx_schedule _ _ _).trans ?_
    split
    · exact s.qDrop_schedule _ _ _
    · rfl

theorem State.txReaders_schedule (s : State) (ws : List (BitVec 32)) : (s.txReaders ws).schedule = s.schedule := by
  unfold State.txReaders
  extract_lets q
  split
  · exact s.setQueue_schedule _ _
  · rfl

theorem State.txTake_schedule (s : State) (i n : Nat) : (s.txTake i n).schedule = s.schedule := by
  unfold State.txTake
  extract_lets e was t u
  have ht : t.schedule = s.schedule := by
    dsimp only [t]
    split
    · exact s.txAbort_schedule i
    · rfl
  split
  · rfl
  · exact (State.txReaders_schedule _ _).trans ((t.updTx_schedule _ _).trans ht)

theorem State.txRelease_schedule (s : State) (i n0 m : Nat) (payload : List Byte) : (s.txRelease i n0 m payload).2.schedule = s.schedule := by
  unfold State.txRelease
  extract_lets ws q digest frame t mask need down u
  have hu : u.schedule = s.schedule :=
    (State.qFreeDone_schedule _ _ _).trans ((schedule_of_timeline (State.qCommitFor_timeline _ _ _ _ _)).trans (s.setQueue_schedule _ _))
  exact (u.updTx_schedule _ _).trans hu

theorem State.txEntry_schedule (s : State) (i n : Nat) : (s.txEntry i n).2.schedule = s.schedule := by
  unfold State.txEntry
  extract_lets e ws p q t begins u
  have ht : t.schedule = s.schedule := by
    dsimp only [t]
    split
    · rfl
    · exact s.txAbort_schedule i
  have hu : u.schedule = s.schedule := by
    dsimp only [u]
    split
    · split
      · rename_i v hv
        exact (State.updTx_schedule _ _ _).trans ((schedule_of_timeline (State.qStart_timeline hv)).trans ((t.txAbort_schedule i).trans ht))
      · exact (State.updTx_schedule _ _ _).trans ((t.txAbort_schedule i).trans ht)
    · exact ht
  split
  · exact s.txAbort_schedule i
  split
  · exact hu
  · rename_i n0 sofar _
    extract_lets payload whole frame item
    split
    · exact (u.updTx_schedule _ _).trans hu
    · rename_i j _
      have hf := schedule_of_timeline (u.qFill_timeline q 0 (16 + frame.length) (item.drop (j.words - 1)))
      split
      · rename_i v hv
        rw [hv] at hf
        have hv' : v.schedule = s.schedule := hf.trans hu
        split
        · exact (v.txRelease_schedule i n0 (n + 1) payload).trans hv'
        · exact (v.updTx_schedule _ _).trans hv'
      · rename_i r v _ hv
        rw [hv] at hf
        exact (State.updTx_schedule _ _ _).trans ((schedule_of_timeline (v.qDropAs_timeline _ _ _)).trans (hf.trans hu))

-- ## Digests (R129, R158 to R160)

theorem State.withDig_schedule (s : State) (d : PairDig) : ({ s with dig := d } : State).schedule = s.schedule := (rfl)

theorem State.pmRecord_schedule (s : State) (r : PmRec) : (s.pmRecord r).schedule = s.schedule := by
  unfold State.pmRecord
  split
  · exact s.bump_schedule _
  · rfl

theorem State.pairOut_schedule (s : State) (m : Nat) : (s.pairOut m).schedule = s.schedule := by
  unfold State.pairOut
  extract_lets a b d d'
  clear_value a b
  split
  · split
    · exact s.withDig_schedule _
    · exact (State.send_schedule _ _).trans ((State.bump_schedule _ _).trans (s.withDig_schedule _))
  · rfl

theorem State.pairIn_schedule (s : State) (n : Nat) : (s.pairIn n).schedule = s.schedule := by
  unfold State.pairIn
  split
  · extract_lets d d' diff
    clear_value diff
    split
    · exact s.withDig_schedule _
    · exact (State.pmRecord_schedule _ _).trans ((State.bump_schedule _ _).trans (s.withDig_schedule _))
  · rfl

theorem State.inputPass_schedule (s : State) (n : Nat) : (s.inputPass n).schedule = s.schedule := by
  unfold State.inputPass
  extract_lets all d t ds
  have ht : t.schedule = s.schedule := s.withDig_schedule _
  split
  · rfl
  split
  · exact ht
  · exact (State.pairIn_schedule _ _).trans ((t.withDig_schedule _).trans ht)

theorem State.outputPass_schedule (s : State) (m : Nat) (ps : List (Nat × Nat)) : (s.outputPass m ps).schedule = s.schedule := by
  unfold State.outputPass
  extract_lets tw d t x
  have ht : t.schedule = s.schedule := s.withDig_schedule _
  split
  · rfl
  split
  · exact ht
  · exact (State.pairOut_schedule _ _).trans ((t.withDig_schedule _).trans ht)

theorem State.shuttlePass_schedule (s : State) (n : Nat) : (s.shuttlePass n).schedule = s.schedule := by
  unfold State.shuttlePass
  refine (State.outputPass_schedule _ _ _).trans (foldl_snd_keeps State.schedule _ (fun acc x => ?_) _ _)
  have h : ((acc.2.txTake x.1 n).txEntry x.1 n).2.schedule = acc.2.schedule := (State.txEntry_schedule _ _ _).trans (acc.2.txTake_schedule _ _)
  dsimp only
  split
  · rename_i d u hu
    rw [hu] at h
    exact h
  · rename_i u hu
    rw [hu] at h
    exact h

-- ## Warp (R127 to R143, R188)

theorem State.jitterFlush_schedule (s : State) (ws : List (BitVec 32)) : (s.jitterFlush ws).schedule = s.schedule := by
  unfold State.jitterFlush
  extract_lets q
  split
  · exact s.qFlush_schedule _ _
  · rfl

theorem State.rxWordsTake_schedule (s : State) (i n : Nat) : (s.rxWordsTake i n).schedule = s.schedule := by
  unfold State.rxWordsTake
  extract_lets e d both fresh moved t u
  have ht : t.schedule = s.schedule := by
    dsimp only [t]
    split
    · exact s.setQueue_schedule _ _
    · rfl
  have hu : u.schedule = s.schedule := by
    dsimp only [u]
    split
    · exact (State.updRx_schedule _ _ _).trans ((t.jitterFlush_schedule _).trans ht)
    · exact ht
  split
  · rfl
  · exact (u.updRx_schedule _ _).trans hu

theorem State.srcPut_schedule (s : State) (a : Nat) (vs : List (BitVec 32)) : (s.srcPut a vs).schedule = s.schedule := by
  induction vs generalizing s a with
  | nil => rfl
  | cons v vs ih => exact (ih _ _).trans (s.withSrc_schedule _)

theorem State.rxGot_schedule (s : State) (i n : Nat) (vs : List (BitVec 32)) : (s.rxGot i n vs).schedule = s.schedule :=
  (State.updRx_schedule _ _ _).trans (s.srcPut_schedule _ _)

theorem State.heldRead_schedule (s : State) (i q : Nat) (bad : List Nat) (vs : List (BitVec 32)) : (s.heldRead i q bad vs).2.schedule = s.schedule :=
  State.forL_keeps State.schedule _ (fun _ t => t.qPoison_schedule q) _ s

theorem State.warpEntry_schedule (s : State) (i n : Nat) (bad : List Nat) : (s.warpEntry i n bad).schedule = s.schedule := by
  unfold State.warpEntry
  extract_lets t e q v c p held old u
  have ht : t.schedule = s.schedule := (State.rxWordsTake_schedule _ _ _).trans (s.updRx_schedule _ _)
  have hu : u.schedule = s.schedule := by
    refine (State.forL_keeps State.schedule _ (fun j w => ?_) _ t).trans ht
    split
    · exact w.qRelease_schedule _ _
    · rfl
  split
  · exact ht
  split
  · exact hu
  split
  · rename_i vs _
    exact (State.rxGot_schedule _ _ _ _).trans ((u.heldRead_schedule i q bad vs).trans hu)
  · split
    · exact (u.srcPut_schedule _ _).trans hu
    · exact hu

theorem State.warpEcc_schedule (s : State) (bad : List Nat) : (s.warpEcc bad).schedule = s.schedule := by
  unfold State.warpEcc
  extract_lets t str
  have ht : t.schedule = s.schedule := State.forL_keeps State.schedule _ (fun _ u => u.bump_schedule _) _ s
  refine (State.forL_keeps State.schedule _ (fun q u => ?_) _ t).trans ht
  split
  · exact u.qReset_schedule _ _
  · rfl

theorem State.warpPass_schedule (s : State) (n : Nat) (bad : List Nat) : (s.warpPass n bad).schedule = s.schedule := by
  unfold State.warpPass
  refine (State.forL_keeps State.schedule _ (fun x u => ?_) _ _).trans (s.warpEcc_schedule bad)
  split
  · exact u.warpEntry_schedule _ _ _
  · exact u.rxWordsTake_schedule _ _

end Sys2Proof.Machine
end

section
/-!
PROOF. What Heddle, the detectors and the filter engine leave of the schedule (R205 to R219, R242 to R263), and the commit of an empty queue (R45).
-/
namespace Sys2Proof.Machine

-- ## Updates

theorem State.updH_schedule (s : State) {f : Heddle → Heddle} (h : (f s.heddle).last = s.heddle.last) : (s.updH f).schedule = s.schedule := by
  unfold State.schedule State.updH
  dsimp only
  rw [h]

@[simp] theorem State.updF_schedule (s : State) (f : Filt → Filt) : (s.updF f).schedule = s.schedule := (rfl)

@[simp] theorem State.updChain_schedule (s : State) (j : Nat) (f : Chain → Chain) : (s.updChain j f).schedule = s.schedule := (rfl)

@[simp] theorem State.updDet_schedule (s : State) (e : Nat) (f : Det → Det) : (s.updDet e f).schedule = s.schedule := (rfl)

@[simp] theorem State.withDet_schedule (s : State) (d : DetSt) : ({ s with det := d } : State).schedule = s.schedule := (rfl)

@[simp] theorem State.withDst_schedule (s : State) (v : List (Nat × BitVec 32)) : ({ s with dst := v } : State).schedule = s.schedule := (rfl)

@[simp] theorem State.withPool_schedule (s : State) (m : Memory) : ({ s with pool := m } : State).schedule = s.schedule := (rfl)

@[simp] theorem State.withMarks_schedule (s : State) (m : List Nat) : ({ s with marks := m } : State).schedule = s.schedule := (rfl)

theorem blindAside_schedule : BlindAside State.schedule := fun t f v _ => t.put_schedule f v

-- ## Heddle (R205 to R219)

theorem State.updDest_schedule (s : State) (d : Nat) (f : Dest → Dest) : (s.updDest d f).schedule = s.schedule := s.updH_schedule rfl

theorem State.groupSet_schedule (s : State) (g : Nat) (target : Int) (len : Nat) (db : Bool) (n : Nat) :
    (s.groupSet g target len db n).schedule = s.schedule := by
  unfold State.groupSet
  split
  · rfl
  · exact s.updH_schedule rfl

theorem State.applyEdit_schedule (s : State) (e : Edit) (n : Nat) : (s.applyEdit e n).schedule = s.schedule := by
  unfold State.applyEdit
  split
  · exact s.updH_schedule rfl
  split
  · exact s.updH_schedule rfl
  split
  · rfl
  · exact s.updDest_schedule _ _

theorem State.xtCommit_schedule (s : State) (id n : Nat) : (s.xtCommit id n).schedule = s.schedule := by
  unfold State.xtCommit
  split
  · rfl
  · rename_i x _
    extract_lets t u
    have ht : t.schedule = s.schedule := State.forL_keeps State.schedule _ (fun e t => t.applyEdit_schedule e n) _ s
    have hu : u.schedule = s.schedule := (t.updH_schedule rfl).trans ht
    exact (State.bump_schedule _ _).trans ((State.xpStatus_keeps blindAside_schedule _).trans ((schedule_of_timeline u.xtStatus_timeline).trans hu))

theorem State.tableTake_schedule (s : State) : s.tableTake.schedule = s.schedule := by
  unfold State.tableTake
  split
  · rfl
  · exact (State.xpStatus_keeps blindAside_schedule _).trans (s.updH_schedule rfl)

theorem State.destTake_schedule (s : State) (d n : Nat) : (s.destTake d n).schedule = s.schedule := by
  unfold State.destTake
  generalize (s.dest d).take n = r
  obtain ⟨rep, v⟩ := r
  dsimp only
  split
  · exact (State.bump_schedule _ _).trans (s.updDest_schedule _ _)
  · exact s.updDest_schedule _ _

theorem State.heddleTake_schedule (s : State) (n : Nat) : (s.heddleTake n).schedule = s.schedule := by
  unfold State.heddleTake
  extract_lets t u v w
  have hu : u.schedule = s.schedule :=
    (State.forL_keeps State.schedule _ (fun e t => (State.destTake_schedule _ _ _).trans (t.updDest_schedule _ _)) _ t).trans s.tableTake_schedule
  have hv : v.schedule = s.schedule := by
    refine (State.forL_keeps State.schedule _ (fun e t => ?_) _ u).trans hu
    split
    · exact t.groupSet_schedule _ _ _ _ _
    · rfl
  have hw : w.schedule = s.schedule := (v.updH_schedule rfl).trans hv
  exact (State.forL_keeps State.schedule _ (fun x t => t.xtCommit_schedule _ _) _ w).trans hw

theorem State.delayLine_schedule (s : State) (d n : Nat) (y : BitVec 32) (badNow badOld : Bool) :
    (s.delayLine d n y badNow badOld).2.schedule = s.schedule := by
  unfold State.delayLine
  extract_lets v t v' tap lost now
  have ht : t.schedule = s.schedule := by
    dsimp only [t]
    split
    · exact s.updDest_schedule _ _
    · rfl
  split
  · rfl
  · split
    exact (State.withPool_schedule _ _).trans ((State.add_schedule _ _ _).trans ((t.add_schedule _ _).trans ht))

-- ## Detectors (R247 to R252)

theorem State.overLog_schedule (s : State) (e n : Nat) : (s.overLog e n).schedule = s.schedule := by
  unfold State.overLog
  extract_lets t
  have ht : t.schedule = s.schedule := s.bump_schedule _
  split
  · exact (t.withDet_schedule _).trans ht
  · exact (t.bump_schedule _).trans ht

theorem State.detect_schedule (s : State) (e n : Nat) (x : BitVec 32) : (s.detect e n x).schedule = s.schedule := by
  unfold State.detect
  extract_lets d v sh t u
  have ht : t.schedule = s.schedule := s.updDet_schedule _ _
  have hu : u.schedule = s.schedule := by
    dsimp only [u]
    split
    · exact (t.overLog_schedule _ _).trans ht
    · exact ht
  split
  · rfl
  split
  · exact (u.bump_schedule _).trans hu
  · exact hu

theorem State.detTake_schedule (s : State) : s.detTake.schedule = s.schedule := s.withDet_schedule _

-- ## The filter engine (R242 to R263)

theorem State.chainPoison_schedule (s : State) (j : Nat) (w : Option Nat) : (s.chainPoison j w).schedule = s.schedule :=
  (State.report_schedule _ _).trans ((State.bump_schedule _ _).trans (s.updChain_schedule _ _))

theorem State.filtTake_schedule (s : State) : s.filtTake.schedule = s.schedule := s.updF_schedule _

theorem State.swapStart_schedule (s : State) (j len n : Nat) : (s.swapStart j len n).schedule = s.schedule :=
  (State.bump_schedule _ _).trans (s.updChain_schedule _ _)

theorem State.swapTry_schedule (s : State) (j len n : Nat) : (s.swapTry j len n).schedule = s.schedule := by
  unfold State.swapTry
  extract_lets need
  split
  · exact s.swapStart_schedule _ _ _
  · exact (State.bump_schedule _ _).trans (s.updChain_schedule _ _)

theorem State.swapRequest_schedule (s : State) (j len n : Nat) : (s.swapRequest j len n).schedule = s.schedule := by
  unfold State.swapRequest
  extract_lets c len' t
  have ht : t.schedule = s.schedule := s.updChain_schedule _ _
  split
  · exact s.swapStart_schedule _ _ _
  split
  · exact s.swapTry_schedule _ _ _
  split
  · exact (t.bump_schedule _).trans ht
  · exact ht

theorem State.swapChain_schedule (s : State) (reqs : List (Nat × Nat)) (n j : Nat) : (s.swapChain reqs n j).schedule = s.schedule := by
  unfold State.swapChain
  extract_lets t u
  have ht : t.schedule = s.schedule := s.updChain_schedule _ _
  have hu : u.schedule = s.schedule := by
    dsimp only [u]
    split
    · split
      · exact (t.swapTry_schedule _ _ _).trans ht
      · exact ht
    · exact ht
  exact (State.forL_keeps State.schedule _ (fun r t => t.swapRequest_schedule _ _ _) _ u).trans hu

theorem State.swapPass_schedule (s : State) (n : Nat) : (s.swapPass n).schedule = s.schedule := by
  unfold State.swapPass
  extract_lets reqs t js
  exact (State.filtStatus_keeps blindAside_schedule _).trans
    ((State.forL_keeps State.schedule (fun j t => t.swapChain reqs n j) (fun j t => t.swapChain_schedule reqs n j) js t).trans (s.updF_schedule _))

theorem State.filtDue_schedule (s : State) (n : Nat) : (s.filtDue n).schedule = s.schedule := s.updF_schedule _

theorem State.realignDue_schedule (s : State) (n : Nat) : (s.realignDue n).schedule = s.schedule := by
  unfold State.realignDue
  extract_lets t
  have ht : t.schedule = s.schedule := by
    dsimp only [t]
    split
    · split
      · exact s.updF_schedule _
      · rfl
    · rfl
  split
  · split
    · exact (t.withDet_schedule _).trans ht
    · exact ht
  · exact ht

theorem State.chainPut_schedule (s : State) (j : Nat) (r : Int × Bool × Chain) : (s.chainPut j r).schedule = s.schedule := (rfl)

theorem State.chainRun_schedule (s : State) (j n : Nat) (ecc : ChainEcc) : (s.chainRun j n ecc).schedule = s.schedule := by
  obtain h | h | ⟨w, h⟩ | h := s.chainRun_cases j n ecc <;> rw [h]
  · exact s.updF_schedule _
  · exact (State.chainPoison_schedule _ _ _).trans (s.updF_schedule _)
  · unfold State.chainStore
    split
    · exact (State.bump_schedule _ _).trans ((State.chainPut_schedule _ _ _).trans (s.updF_schedule _))
    · exact (State.chainPut_schedule _ _ _).trans (s.updF_schedule _)

theorem State.filterPhase_schedule (s : State) : s.filterPhase.schedule = s.schedule :=
  State.filterPhase_keeps State.schedule (fun t j n => t.chainRun_schedule j n .clean) s

theorem State.takeAll_schedule (s : State) (n : Nat) : (s.takeAll n).schedule = s.schedule := by
  unfold State.takeAll
  extract_lets t u
  have hu : u.schedule = s.schedule := (State.forL_keeps State.schedule _ (fun e t => t.txTake_schedule _ _) _ t).trans (s.heddleTake_schedule n)
  exact (State.linkTake_schedule _).trans ((State.detTake_schedule _).trans (u.filtTake_schedule.trans hu))

-- ## An empty queue

theorem RegsOnly.schedule_eq {s t : State} (h : RegsOnly s t) : t.schedule = s.schedule := by
  have e := congrArg State.schedule h; exact e

/-- With no cue pending, a commit computes the index before the strobe, gathers nothing, and leaves the schedule. -/
theorem State.cueCommit_empty {s : State} (h : s.cues = []) (m : Nat) :
    ∃ u : State, u.schedule = s.schedule ∧ s.cueCommit m = ({ index := some (m - 1) }, u) := by
  unfold State.cueCommit
  split
  · exact ⟨s, rfl, rfl⟩
  · exact ⟨s.cueStatus, s.cueStatus_regsOnly.schedule_eq, by simp [h, cueSort]⟩

end Sys2Proof.Machine
end

section
/-!
PROOF. The start of the pick counter and the strobe that begins a pick (R15 to R22, R37, R38, R46).
-/
namespace Sys2Proof.Machine

-- ## The mix and the fill (R18 to R20)

theorem State.mixDest_schedule (s : State) (half : List (Nat × BitVec 32)) (bad : List Nat) (n d : Nat) :
    (s.mixDest half bad n d).schedule = s.schedule := by
  unfold State.mixDest
  split
  · exact s.detect_schedule _ _ _
  generalize s.mixSum half d n = r
  obtain ⟨y, sat⟩ := r
  have hline := s.delayLine_schedule d n y (bad.contains d) (bad.contains (16384 + d))
  dsimp only
  generalize s.delayLine d n y (bad.contains d) (bad.contains (16384 + d)) = r at hline ⊢
  obtain ⟨w, t⟩ := r
  have ht : (t.detect d n w).schedule = s.schedule := (t.detect_schedule d n w).trans hline
  dsimp only
  split
  · exact (State.bump_schedule _ _).trans ((State.withDst_schedule _ _).trans ht)
  · exact (State.withDst_schedule _ _).trans ht

theorem State.withLast_schedule (s : State) (n : Nat) :
    ({ s with heddle := { s.heddle with last := some n } } : State).schedule = { s.schedule with last := some n } := rfl

/-- The mix of an index notes it as the last that was computed, and leaves the rest of the schedule. -/
theorem State.mixPhase_schedule (s : State) (half : List (Nat × BitVec 32)) (bad : List Nat) (n : Nat) :
    (s.mixPhase half bad n).schedule = { s.schedule with last := some n } := by
  unfold State.mixPhase
  extract_lets t u v w
  have hu : u.schedule = s.schedule :=
    (State.forL_keeps State.schedule (fun d t => t.mixDest half bad n d) (fun d t => t.mixDest_schedule half bad n d) _ t).trans (s.withDst_schedule [])
  have hv : v.schedule = s.schedule := (State.forN_keeps State.schedule 64 _ (fun k _ t => t.detect_schedule _ _ _) u).trans hu
  have hw : w.schedule = s.schedule := (v.shuttlePass_schedule n).trans hv
  exact (w.withLast_schedule n).trans (by rw [hw])

theorem State.fillPhase_schedule (s : State) (osrs : List (Option Nat)) (bits : List (Nat × Nat)) (bad : List Nat) :
    (s.fillPhase osrs bits bad).schedule = s.schedule :=
  (State.decPass_schedule _ _ _ _ _).trans ((State.warpPass_schedule _ _ _).trans (s.tdmFill_schedule _))

/-- Staging changes the cues of the schedule only. -/
theorem State.stageDue_schedule (s : State) : s.stageDue.schedule = { s.schedule with cues := s.stageDue.cues } := by
  obtain h | h := s.stageDue_cases <;> rw [h]
  · rfl
  · rw [State.cueStatus_cues]
    exact (State.cueStatus_regsOnly _).schedule_eq

-- ## Time passes

theorem State.stageDue_time (s : State) : s.stageDue.time = s.time := congrArg Schedule.time s.stageDue_schedule

theorem State.stageDue_last (s : State) : s.stageDue.heddle.last = s.heddle.last := congrArg Schedule.last s.stageDue_schedule

/-- The state at a time of day, before the lease timers act. -/
def State.passTo (s : State) (t : Nat) : State :=
  if t ≤ s.time.tai then s
  else
    let k := (t - s.time.tai) * 5 / 524288
    { s with time := { s.time with tai := t, taiRem := 0, cycles := (s.time.cycles + k) % 2 ^ 64 }, xref := s.xref + k }

theorem State.timeTo_schedule (s : State) (t : Nat) : (s.timeTo t).schedule = (s.passTo t).schedule := by
  unfold State.timeTo State.passTo
  split
  · rfl
  · exact State.leaseTimers_schedule _

/-- As time passes to t, only the time of day moves on, and never back. -/
theorem State.passTo_schedule (s : State) (t : Nat) : ∃ c : Nat, ∃ r : Nat, (s.passTo t).schedule =
    { s.schedule with time := { s.time with tai := max s.time.tai t, taiRem := r, cycles := c } } := by
  unfold State.passTo
  split
  · rename_i h
    refine ⟨s.time.cycles, s.time.taiRem, ?_⟩
    rw [max_eq_left h]
    rfl
  · rename_i h
    refine ⟨(s.time.cycles + (t - s.time.tai) * 5 / 524288) % 2 ^ 64, 0, ?_⟩
    rw [max_eq_right (by omega)]
    rfl

-- ## Patterns and epochs that do not wait

theorem State.patternStrobe_none {s : State} (h : s.patDue = none) (n : Nat) : s.patternStrobe n = s := by
  unfold State.patternStrobe
  rw [h]

theorem State.epochApply_none {s : State} (h : s.sv.due = none) (a n : Nat) : s.epochApply a n = s := by
  unfold State.epochApply
  rw [h]

-- ## The start of the counter (R38, R46)

/-- The counter at pick n, whose strobe mixes no index. -/
def State.counterBegun (s : State) (n : Nat) : State :=
  { s with src := [], dst := [], time := { s.time with pick := n, running := true, resume := false } }

theorem State.counterBegun_schedule (s : State) (n : Nat) :
    (s.counterBegun n).schedule = { s.schedule with time := { s.time with pick := n, running := true, resume := false } } := rfl

theorem State.counterStart_eq (s : State) (n : Nat) : s.counterStart n =
    (((((((s.timeTo (s.edge n)).counterBegun n).tdmStrobe n).takeAll n).patternStrobe n).decStart n).fillPhase [] [] []).stageDue := rfl

/-- Where no pattern waits, the counter starts at its pick, at that pick's boundary. -/
theorem State.counterStart_time {s : State} (h : s.patDue = none) (n : Nat) :
    (s.counterStart n).time.running = true ∧ (s.counterStart n).time.resume = false ∧ (s.counterStart n).time.pick = n
    ∧ (s.counterStart n).time.tai = max s.time.tai (s.edge n) := by
  obtain ⟨c, r, hpass⟩ := s.passTo_schedule (s.edge n)
  have h1 := (s.timeTo_schedule (s.edge n)).trans hpass
  rw [State.counterStart_eq]
  generalize s.timeTo (s.edge n) = t at h1 ⊢
  have htime : t.time = { s.time with tai := max s.time.tai (s.edge n), taiRem := r, cycles := c } := congrArg Schedule.time h1
  have hpat : t.patDue = none := (congrArg Schedule.patDue h1).trans h
  have h2 := (State.takeAll_schedule ((t.counterBegun n).tdmStrobe n) n).trans (((t.counterBegun n).tdmStrobe_schedule n).trans (t.counterBegun_schedule n))
  generalize ((t.counterBegun n).tdmStrobe n).takeAll n = u at h2 ⊢
  rw [State.patternStrobe_none ((congrArg Schedule.patDue h2).trans hpat)]
  have h3 : (((u.decStart n).fillPhase [] [] []).stageDue).time = { t.time with pick := n, running := true, resume := false } :=
    (State.stageDue_time _).trans (congrArg Schedule.time ((State.fillPhase_schedule _ [] [] []).trans ((u.decStart_schedule n).trans h2)))
  rw [h3, htime]
  exact ⟨rfl, rfl, rfl, rfl⟩

-- ## The strobe (R15, R37)

theorem State.withPick_schedule (s : State) (n : Nat) :
    ({ s with time := { s.time with pick := n } } : State).schedule = { s.schedule with time := { s.schedule.time with pick := n } } := rfl

/-- The state in which a strobe finds its cues: the pick that ends is complete, and pick n has begun. -/
def State.strobeBegun (s : State) (n : Nat) (bits : List (Nat × Nat)) : State :=
  let s := (((s.timeTo (s.edge n)).filterPhase.linkStrobe).tdmStrobe n).decWatch bits
  { s with time := { s.time with pick := n } }

theorem State.strobeBegun_schedule (s : State) (n : Nat) (bits : List (Nat × Nat)) :
    ∃ c : Nat, ∃ r : Nat, (s.strobeBegun n bits).schedule =
      { s.schedule with time := { s.time with tai := max s.time.tai (s.edge n), taiRem := r, cycles := c, pick := n } } := by
  obtain ⟨c, r, hpass⟩ := s.passTo_schedule (s.edge n)
  refine ⟨c, r, ?_⟩
  unfold State.strobeBegun
  have h := (State.decWatch_schedule ((((s.timeTo (s.edge n)).filterPhase.linkStrobe).tdmStrobe n)) bits).trans
    ((State.tdmStrobe_schedule _ n).trans ((State.linkStrobe_schedule _).trans ((State.filterPhase_schedule _).trans
      ((s.timeTo_schedule (s.edge n)).trans hpass))))
  generalize (((s.timeTo (s.edge n)).filterPhase.linkStrobe).tdmStrobe n).decWatch bits = t at h ⊢
  exact (t.withPick_schedule n).trans (by rw [h])

/-- The index that a strobe computes when no cue has changed its number, from the state in which the cues have been run. -/
def State.strobeIndex (s : State) (n e : Nat) (osrs : List (Option Nat)) (bits : List (Nat × Nat)) (bad : List Nat) : State :=
  let s := (((((s.decCommit e 0).filtDue e).realignDue e).takeAll e).swapPass e)
  let s : State := { s with marks := [] }
  let s := (s.patternStrobe e).epochApply n e
  let s := (s.decSlots e).inputPass e
  let half := s.src
  let s := ({ s with src := [] } : State).mixPhase half bad e
  (s.fillPhase osrs bits bad).stageDue

theorem State.strobe_plain {s u : State} {n : Nat} {bits : List (Nat × Nat)} {bad : List Nat}
    (h : (s.strobeBegun n bits).cueCommit n = ({ index := some (n - 1) }, u)) :
    ∃ osrs, s.strobe n bits bad [] = u.strobeIndex n (n - 1) osrs bits bad := by
  unfold State.strobe
  extract_lets v osrs clock w
  have hw : w.cueCommit n = ({ index := some (n - 1) }, u) := h
  rw [hw]
  exact ⟨osrs, rfl⟩

end Sys2Proof.Machine
end

section
/-!
PROOF. The pick counter (R38, R46) and its strobes (R15, R37, R63): the statement settled.
-/
namespace Sys2Proof.Machine

-- ## The index of a plain strobe

/-- With no pattern and no epoch due, the index is computed with the time as it is, and is then the last one. -/
theorem State.strobeIndex_time_last {s : State} (hp : s.patDue = none) (hd : s.sv.due = none) (n e : Nat)
    (osrs : List (Option Nat)) (bits : List (Nat × Nat)) (bad : List Nat) :
    (s.strobeIndex n e osrs bits bad).time = s.time ∧ (s.strobeIndex n e osrs bits bad).heddle.last = some e := by
  unfold State.strobeIndex
  have h1 := (State.swapPass_schedule ((((s.decCommit e 0).filtDue e).realignDue e).takeAll e) e).trans
    ((State.takeAll_schedule _ e).trans ((State.realignDue_schedule _ e).trans ((State.filtDue_schedule _ e).trans (s.decCommit_schedule e 0))))
  generalize ((((s.decCommit e 0).filtDue e).realignDue e).takeAll e).swapPass e = t at h1 ⊢
  have h2 := (t.withMarks_schedule []).trans h1
  dsimp only
  generalize ({ t with marks := [] } : State) = u at h2 ⊢
  rw [State.patternStrobe_none ((congrArg Schedule.patDue h2).trans hp), State.epochApply_none ((congrArg Schedule.due h2).trans hd)]
  have h3 := ((u.decSlots e).inputPass_schedule e).trans ((u.decSlots_schedule e).trans h2)
  generalize (u.decSlots e).inputPass e = v at h3 ⊢
  have h4 := (State.fillPhase_schedule (({ v with src := [] } : State).mixPhase v.src bad e) osrs bits bad).trans
    ((State.mixPhase_schedule _ v.src bad e).trans (congrArg (fun c : Schedule => { c with last := some e }) ((v.withSrc_schedule []).trans h3)))
  generalize (({ v with src := [] } : State).mixPhase v.src bad e).fillPhase osrs bits bad = w at h4 ⊢
  exact ⟨w.stageDue_time.trans (congrArg Schedule.time h4), w.stageDue_last.trans (congrArg Schedule.last h4)⟩

/-- A strobe at which nothing waits begins pick n at its boundary and computes the index before it. -/
theorem State.strobe_time_last {s : State} (hc : s.cues = []) (hp : s.patDue = none) (hd : s.sv.due = none) (n : Nat)
    (bits : List (Nat × Nat)) (bad : List Nat) :
    ∃ c : Nat, ∃ r : Nat, (s.strobe n bits bad []).time = { s.time with tai := max s.time.tai (s.edge n), taiRem := r, cycles := c, pick := n }
      ∧ (s.strobe n bits bad []).heddle.last = some (n - 1) := by
  obtain ⟨c, r, hbegun⟩ := s.strobeBegun_schedule n bits
  obtain ⟨u, hu, hcommit⟩ := State.cueCommit_empty ((congrArg Schedule.cues hbegun).trans hc) n
  obtain ⟨osrs, hstrobe⟩ := State.strobe_plain hcommit
  have hus := hu.trans hbegun
  obtain ⟨htime, hlast⟩ := State.strobeIndex_time_last ((congrArg Schedule.patDue hus).trans hp) ((congrArg Schedule.due hus).trans hd) n (n - 1) osrs bits bad
  exact ⟨c, r, hstrobe ▸ htime.trans (congrArg Schedule.time hus), hstrobe ▸ hlast⟩

-- ## The commands

section
variable {s : State} (hs : Ready s)
include hs

theorem exec_pickCounterStart : exec .pickCounterStart s =
    (if s.is R.TIME_CTRL_Run ∧ s.is R.TIME_STATUS_TodValid ∧ ¬ s.time.running ∧ ¬ s.is R.TIME_STATUS_RateSwitching ∧ ¬ s.time.resume ∧ 0 < s.fs then
      s.counterStart (s.firstEdgeAt s.time.tai) else s).done := by
  show execPickCounterStart s = _
  unfold execPickCounterStart
  rw [State.live_live _ _ hs]

theorem exec_pickCounterResume : exec .pickCounterResume s =
    (if s.time.resume ∧ s.is R.TIME_CTRL_Run ∧ s.is R.TIME_STATUS_TodValid ∧ ¬ s.time.running then
      s.counterStart (ceilDiv (s.media s.time.tai) unitsPerSec * s.fs) else s).done := by
  show execPickCounterResume s = _
  unfold execPickCounterResume
  rw [State.live_live _ _ hs]

theorem exec_pickStrobe (bits : List (Nat × Nat)) (bad : List Nat) (host : List (Nat × Nat)) : exec (.pickStrobe bits bad host) s =
    (if s.time.running then s.strobe (s.time.pick + 1) bits bad host else s).done := by
  show execPickStrobe bits bad host s = _
  unfold execPickStrobe
  rw [State.live_live _ _ hs]

end

-- ## The statement

/-- Settles O11: the start and the resumption by the counter's start, the strobe by what it leaves of the schedule. -/
theorem picksBegin : Obligations.PicksBegin := by
  refine ⟨fun s hs hstop hpat hrun htod => ⟨fun hsw hres hfs => ?_, fun hres => ?_⟩, fun s hs => ?_, fun s bits bad hs => ⟨fun hstop host => ?_, fun hrun hc hp hd => ?_⟩⟩
  · obtain ⟨hr, -, hpick, htai⟩ := State.counterStart_time hpat (s.firstEdgeAt s.time.tai)
    have hexec := (exec_pickCounterStart hs).trans (congrArg State.done (if_pos (by simp [hrun, htod, hstop, hsw, hres, hfs])))
    refine Gives.of_done hexec ?_
    rw [State.settle_time]
    exact ⟨hr, hpick, htai⟩
  · obtain ⟨hr, hres', hpick, -⟩ := State.counterStart_time hpat (ceilDiv (s.media s.time.tai) unitsPerSec * s.fs)
    have hexec := (exec_pickCounterResume hs).trans (congrArg State.done (if_pos (by simp [hrun, htod, hstop, hres])))
    refine Gives.of_done hexec ?_
    rw [State.settle_time]
    exact ⟨hr, hres', hpick⟩
  · intro may
    refine ⟨fun h => Ends.of_done ((exec_pickCounterStart hs).trans (congrArg State.done (if_neg ?_))),
      fun h => Ends.of_done ((exec_pickCounterResume hs).trans (congrArg State.done (if_neg ?_)))⟩
    · rintro ⟨hrun, htod, hstop, hsw, hres, hfs⟩
      exact h ⟨⟨hrun, htod, Bool.eq_false_iff.mpr hstop⟩, Bool.eq_false_iff.mpr hsw, Bool.eq_false_iff.mpr hres, hfs⟩
    · rintro ⟨hres, hrun, htod, hstop⟩
      exact h ⟨⟨hrun, htod, Bool.eq_false_iff.mpr hstop⟩, hres⟩
  · exact Ends.of_done ((exec_pickStrobe hs bits bad host).trans (congrArg State.done (if_neg (Bool.eq_false_iff.mp hstop))))
  · obtain ⟨c, r, htime, hlast⟩ := State.strobe_time_last hc hp hd (s.time.pick + 1) bits bad
    refine Gives.of_done ((exec_pickStrobe hs bits bad []).trans (congrArg State.done (if_pos hrun))) ?_
    rw [State.settle_time, State.settle_heddle, htime]
    exact ⟨rfl, hrun, rfl, hlast⟩

end Sys2Proof.Machine
end

section
/-!
PROOF. What Reed's proofs need of signed fields and of the posting of its registers (R8, R381).
-/
namespace Sys2Proof.Machine

-- ## Signed words

theorem satSigned_bounds (i : Int) : -2147483648 ≤ satSigned 32 i ∧ satSigned 32 i ≤ 2147483647 := by
  unfold satSigned
  split
  · omega
  · split <;> omega

theorem satSigned_of_bounds {i : Int} (h : -2147483648 ≤ i ∧ i ≤ 2147483647) : satSigned 32 i = i := by
  unfold satSigned
  rw [if_neg (by omega), if_neg (by omega)]

theorem toSigned_ofSigned {i : Int} (h : -2147483648 ≤ i ∧ i ≤ 2147483647) : toSigned 32 (ofSigned 32 i) = i := by
  unfold toSigned ofSigned
  split <;> omega

/-- A signed word set with saturation reads as the saturated value. -/
theorem State.getI_putSat (s : State) {f : Fld} (hf : f.lsb + f.wid ≤ 32) (hw : f.wid = 32) (i : Int) : (s.putSat f i).getI f = satSigned 32 i := by
  unfold State.getI State.putSat State.putI
  rw [State.get_put_same s f _ hf, hw, Nat.mod_eq_of_lt (by unfold ofSigned; omega)]
  exact toSigned_ofSigned (satSigned_bounds i)

theorem State.getI_congr {s t : State} {f : Fld} (h : t.rd f.reg = s.rd f.reg) : t.getI f = s.getI f := by
  unfold State.getI; rw [State.get_congr h]

/-- What Reed holds behind its registers shows in none. -/
theorem State.withReed_rd (s : State) (r : ReedSt) (a : Nat) : ({ s with reed := r } : State).rd a = s.rd a := rfl

-- ## Writes that Reed takes

/-- While Reed is not busy a write of one of its registers is applied (R381). -/
theorem State.slow_reed {s : State} (hb : s.is R.RD_STATUS_Busy = false) {off : Nat} (ho : 0x60000 ≤ off ∧ off < 0x64000) (apply : State → State) :
    s.slow off apply = apply s := by
  have h : slowBusy off = some R.RD_STATUS_Busy := by
    unfold slowBusy
    rw [if_neg (by omega), if_pos ho]
  unfold State.slow
  rw [h]
  exact if_neg (by rw [hb]; decide)

end Sys2Proof.Machine
end

section
/-!
PROOF. Phase steps, and the realignment of frame pulses (R62, R63, R67).
-/
namespace Sys2Proof.Machine

-- ## Submission

theorem phaseReqOk_iff (r : PhaseReq) : phaseReqOk r = true ↔ r.size.natAbs ≤ 2500 * 65536 ∧ (r.step = true → r.size.natAbs ≤ 200 * 65536) :=
  decide_eq_true_iff

/-- The phase step that PSTEP_LO, PSTEP_HI and the written Mode describe. -/
def State.hostStep (s : State) (v : Nat) : PhaseReq := ⟨s.get64I R.PSTEP_LO_Step R.PSTEP_HI_Step, bitOf v 1⟩

theorem State.pstepApply_idle (s : State) {v : Nat} (h : bitOf v 0 = false) : s.pstepApply v = s := if_pos (by rw [h]; rfl)

theorem State.pstepApply_fits {s : State} {v : Nat} (h : bitOf v 0 = true) (hfit : phaseReqOk (s.hostStep v) = true) :
    s.pstepApply v = s.phaseSubmit (s.hostStep v) :=
  (if_neg (by rw [h]; decide)).trans (if_pos hfit)

theorem State.pstepApply_refused {s : State} {v : Nat} (h : bitOf v 0 = true) (hfit : ¬ phaseReqOk (s.hostStep v) = true) :
    s.pstepApply v = (s.put R.PSTEP_STATUS_Result 2).report (turnedDown 0x10 R.PSTEP_CMD 0xFF 0) :=
  (if_neg (by rw [h]; decide)).trans (if_neg hfit)

-- ## A request taken at its boundary

theorem phaseLimit_bounds (x : Int) : -163840000 ≤ phaseLimit x ∧ phaseLimit x ≤ 163840000 := by
  unfold phaseLimit; omega

/-- PHASE_ADJ moved, with what remains of the slew. -/
def State.phaseTo (s : State) (adj rem : Int) : State :=
  let s := s.putSat R.PHASE_ADJ_Adj adj
  let s := { s with reed := { s.reed with slewRem := rem } }
  s.putB R.PSTEP_STATUS_Slewing (decide (rem ≠ 0))

theorem State.phaseTo_reed (s : State) (adj rem : Int) : (s.phaseTo adj rem).reed = { s.reed with slewRem := rem } := by
  unfold State.phaseTo State.putB
  exact (State.put_reed _ _ _).trans (congrArg (fun r : ReedSt => { r with slewRem := rem }) (State.putSat_reed s R.PHASE_ADJ_Adj adj))

theorem State.phaseTo_shows (s : State) {adj : Int} (rem : Int) (h : -163840000 ≤ adj ∧ adj ≤ 163840000) :
    (s.phaseTo adj rem).getI R.PHASE_ADJ_Adj = adj ∧ (s.phaseTo adj rem).is R.PSTEP_STATUS_Slewing = decide (rem ≠ 0) := by
  have hadj : (s.putSat R.PHASE_ADJ_Adj adj).getI R.PHASE_ADJ_Adj = adj :=
    (s.getI_putSat (by decide) rfl adj).trans (satSigned_of_bounds (by omega))
  unfold State.phaseTo
  exact ⟨(State.getI_congr ((State.rd_put_ne _ (by decide) _).trans (State.withReed_rd _ _ _))).trans hadj, State.is_putB_same _ (by decide) rfl _⟩

section
variable (s : State) (r : PhaseReq)

/-- The request is taken at once: a step within STEP_MAX (R63). -/
abbrev State.phaseNow : Prop := r.step = true ∧ r.size.natAbs ≤ s.get R.STEP_MAX_Ns * 65536

/-- Where PHASE_ADJ would go, and what would then remain to be slewed, were nothing clipped. -/
def State.phaseGoal : Int := s.getI R.PHASE_ADJ_Adj + (if s.phaseNow r then r.size else 0)
def State.phaseRest : Int := s.reed.slewRem + (if s.phaseNow r then 0 else r.size)

/-- What remains to be slewed, the slew's end being clipped to ±2,500 ns. -/
def State.phaseRem : Int := phaseLimit (phaseLimit (s.phaseGoal r) + s.phaseRest r) - phaseLimit (s.phaseGoal r)

/-- The result of a request that is not clipped: AsSlew for a step that is taken as a slew. -/
def State.phaseResult : Nat := if r.step = true ∧ ¬ s.phaseNow r then 3 else 0

/-- The request has moved PHASE_ADJ and the slew; its result is not shown yet. -/
def State.phaseMoved : State := s.phaseTo (phaseLimit (s.phaseGoal r)) (s.phaseRem r)

theorem State.phaseTake_def : s.phaseTake r =
    (let asSlew := r.step && decide (r.size.natAbs > s.get R.STEP_MAX_Ns * 65536)
     let now := r.step && !asSlew
     let goal := s.getI R.PHASE_ADJ_Adj + (if now then r.size else 0)
     let rest := s.reed.slewRem + (if now then 0 else r.size)
     let adj := phaseLimit goal
     let rem := phaseLimit (adj + rest) - adj
     if adj ≠ goal ∨ rem ≠ rest then ((s.phaseTo adj rem).put R.PSTEP_STATUS_Result 1).bump R.CNT_PHASE_CLIP_Count
     else (s.phaseTo adj rem).put R.PSTEP_STATUS_Result (if asSlew then 3 else 0)) := rfl

theorem State.phaseTake_eq : s.phaseTake r =
    if phaseLimit (s.phaseGoal r) ≠ s.phaseGoal r ∨ s.phaseRem r ≠ s.phaseRest r then
      ((s.phaseMoved r).put R.PSTEP_STATUS_Result 1).bump R.CNT_PHASE_CLIP_Count
    else (s.phaseMoved r).put R.PSTEP_STATUS_Result (s.phaseResult r) := by
  rw [State.phaseTake_def]
  extract_lets asSlew now goal rest adj rem
  have hslew : asSlew = true ↔ r.step = true ∧ ¬ s.phaseNow r := by
    simp only [asSlew, State.phaseNow, Bool.and_eq_true, decide_eq_true_iff, gt_iff_lt, ← Nat.not_le]
    tauto
  have hnow : now = true ↔ s.phaseNow r := by
    simp only [now, Bool.and_eq_true, Bool.not_eq_true', ← Bool.not_eq_true, hslew]
    tauto
  have hgoal : goal = s.phaseGoal r := by simp only [goal, State.phaseGoal, hnow]
  have hrest : rest = s.phaseRest r := by simp only [rest, State.phaseRest, hnow]
  have hadj : adj = phaseLimit (s.phaseGoal r) := congrArg phaseLimit hgoal
  have hrem : rem = s.phaseRem r := by simp only [rem, State.phaseRem, hadj, hrest]
  have hresult : (if asSlew = true then 3 else 0) = s.phaseResult r := by simp only [State.phaseResult, hslew]
  rw [hresult, hadj, hrem, hgoal, hrest]
  rfl

theorem State.phaseTake_reed : (s.phaseTake r).reed = { s.reed with slewRem := s.phaseRem r } := by
  rw [State.phaseTake_eq, ← s.phaseTo_reed (phaseLimit (s.phaseGoal r))]
  split
  · exact (State.bump_reed _ _).trans (State.put_reed _ _ _)
  · exact State.put_reed _ _ _

theorem State.phaseTake_steps : (s.phaseTake r).reed.steps = s.reed.steps := by rw [State.phaseTake_reed]

/-- The request's effect: where it takes PHASE_ADJ, the slew that goes on, and its result. -/
theorem State.phaseTake_shows : (s.phaseTake r).getI R.PHASE_ADJ_Adj = phaseLimit (s.phaseGoal r)
    ∧ (s.phaseTake r).is R.PSTEP_STATUS_Slewing = decide (s.phaseRem r ≠ 0)
    ∧ (s.phaseTake r).get R.PSTEP_STATUS_Result =
        (if phaseLimit (s.phaseGoal r) ≠ s.phaseGoal r ∨ s.phaseRem r ≠ s.phaseRest r then 1 else s.phaseResult r) := by
  obtain ⟨hadj, hslew⟩ : (s.phaseMoved r).getI R.PHASE_ADJ_Adj = _ ∧ (s.phaseMoved r).is R.PSTEP_STATUS_Slewing = _ :=
    s.phaseTo_shows (s.phaseRem r) (phaseLimit_bounds (s.phaseGoal r))
  rw [State.phaseTake_eq]
  split
  · refine ⟨?_, ?_, ?_⟩
    · exact (State.getI_congr ((State.rd_bump_ne _ (by decide)).trans (State.rd_put_ne _ (by decide) _))).trans hadj
    · rw [State.is_bump_ne _ (by decide) (by decide), State.is_put_ne _ (by decide) (by decide), hslew]
    · rw [State.get_bump_ne _ (by decide) (by decide)]
      exact State.get_put_fit _ (w := 2) (by decide) rfl (by decide)
  · refine ⟨?_, ?_, ?_⟩
    · exact (State.getI_congr (State.rd_put_ne _ (by decide) _)).trans hadj
    · rw [State.is_put_ne _ (by decide) (by decide), hslew]
    · refine State.get_put_fit _ (w := 2) (by decide) rfl ?_
      unfold State.phaseResult
      split <;> decide

end

end Sys2Proof.Machine
end

section
/-!
PROOF. Frame pulses: an input pulse measures the error of an output's grid, and its removal begins (R67).
-/
namespace Sys2Proof.Machine

-- ## What an output holds

theorem State.fpoSt_congr {s t : State} (h : t.reed = s.reed) (j : Nat) : t.fpoSt j = s.fpoSt j := by
  unfold State.fpoSt; rw [h]

theorem State.updFpo_fpoSt (s : State) (j : Nat) (f : FpoSt → FpoSt) : (s.updFpo j f).fpoSt j = f (s.fpoSt j) := by
  simp only [State.fpoSt, State.updFpo, tget_tupd_same]

theorem RegsOnly.reed {s t : State} (h : RegsOnly s t) : t.reed = s.reed := by
  have e := congrArg State.reed h; exact e

/-- The registers show nothing of an output's state. -/
theorem State.updFpo_settle_rd (s : State) (j : Nat) (f : FpoSt → FpoSt) {a : Nat} (ha : a ≠ R.MSIX_PBA 0) : (s.updFpo j f).settle.rd a = s.rd a :=
  (s.updFpo j f).settle_rd ha

/-- Where listed words and an output's state changed, nothing else differs at the command's end. -/
theorem OnlyRegs.updFpo_settle {offs : List Nat} {s t : State} (h : SameRegs offs s t) (k : RegsOnly s t) (j : Nat) (f : FpoSt → FpoSt) :
    OnlyRegs offs s { (t.updFpo j f).settle with reed := s.reed } := by
  refine ⟨fun a ha hp => (t.updFpo_settle_rd j f hp).trans (h a ha hp), ?_⟩
  have rest := congrArg (fun u : State => { u with regs := s.regs, outbox := s.outbox, msixLevel := s.msixLevel, reed := s.reed })
    (t.updFpo j f).settle_msix.2.2.2
  exact Eq.trans rest (congrArg (fun u : State => { u with outbox := s.outbox, msixLevel := s.msixLevel, reed := s.reed }) k)

theorem fpoStatus_fields (j : Nat) : (R.FPO_STATUS_Aligned j).lsb + (R.FPO_STATUS_Aligned j).wid ≤ 32
    ∧ (R.FPO_STATUS_Flywheel j).lsb + (R.FPO_STATUS_Flywheel j).wid ≤ 32 ∧ (R.FPO_STATUS_Realigning j).lsb + (R.FPO_STATUS_Realigning j).wid ≤ 32
    ∧ (R.FPO_STATUS_Aligned j).lsb + (R.FPO_STATUS_Aligned j).wid ≤ (R.FPO_STATUS_Flywheel j).lsb
    ∧ (R.FPO_STATUS_Flywheel j).lsb + (R.FPO_STATUS_Flywheel j).wid ≤ (R.FPO_STATUS_Realigning j).lsb := by
  refine ⟨?_, ?_, ?_, ?_, ?_⟩ <;> exact Nat.le_of_ble_eq_true rfl

theorem fpoWords_ne_pba {j : Nat} (hj : j < 4) :
    R.FPO_ERR j ≠ R.MSIX_PBA 0 ∧ R.FPO_STATUS j ≠ R.MSIX_PBA 0 ∧ R.CNT_FPO_REALIGN j ≠ R.MSIX_PBA 0 := by
  unfold R.FPO_ERR R.FPO_STATUS R.CNT_FPO_REALIGN R.MSIX_PBA; omega

-- ## An input pulse

section
variable (s : State) (j : Nat) (err : Int)

/-- The error is shown, and the source is there. -/
def State.fpoMeasured : State := (s.putSat (R.FPO_ERR_Err j) err).put (R.FPO_STATUS_Flywheel j) 0

/-- An error beyond AlignTol is counted, and the output shows whether it is aligned and whether a slew removes an error. -/
def State.fpoJudged (small steps : Bool) : State :=
  let s := if small then s else s.bump (R.CNT_FPO_REALIGN_Count j)
  (s.putB (R.FPO_STATUS_Aligned j) small).putB (R.FPO_STATUS_Realigning j) (!steps && decide (err ≠ 0))

/-- The error lies within AlignTol. -/
abbrev State.fpoSmall : Prop := err.natAbs * 4 ≤ s.get (R.FPO_ALIGN_AlignTol j) * 5

/-- The error is removed by a step. -/
abbrev State.fpoSteps : Prop := ¬ s.fpoSmall j err ∧ s.is (R.FPO_CFG_StepAllowed j) = true

/-- The registers once an input pulse has been measured and judged. -/
def State.fpoShown : State := (s.fpoMeasured j err).fpoJudged j err (decide (s.fpoSmall j err)) (decide (s.fpoSteps j err))

/-- The removal of an error begins: by a step at the next pulse, or by a slew. -/
def FpoSt.removing (steps : Bool) (f : FpoSt) : FpoSt :=
  { f with step := if steps then some (err * fpoUnit) else none, slew := if steps then 0 else err * fpoUnit }

theorem State.fpoMeasured_reads : (s.fpoMeasured j err).getI (R.FPO_ERR_Err j) = satSigned 32 err
    ∧ (s.fpoMeasured j err).is (R.FPO_STATUS_Flywheel j) = false := by
  have hne : R.FPO_ERR j ≠ R.FPO_STATUS j := by unfold R.FPO_ERR R.FPO_STATUS; omega
  exact ⟨(State.getI_congr (State.rd_put_ne _ hne 0)).trans (s.getI_putSat (Nat.le_of_ble_eq_true rfl) rfl err),
    State.is_put_zero _ (fpoStatus_fields j).2.1 rfl⟩

theorem State.fpoMeasured_rd {a : Nat} (he : a ≠ R.FPO_ERR j) (hs : a ≠ R.FPO_STATUS j) : (s.fpoMeasured j err).rd a = s.rd a :=
  (State.rd_put_ne _ hs 0).trans (s.rd_put_ne he _)

theorem State.fpoJudged_rd (small steps : Bool) {a : Nat} (hs : a ≠ R.FPO_STATUS j) (hc : a ≠ R.CNT_FPO_REALIGN j) :
    (s.fpoJudged j err small steps).rd a = s.rd a := by
  refine (State.rd_put_ne _ hs _).trans ((State.rd_put_ne _ hs _).trans ?_)
  split
  · rfl
  · exact State.rd_bump_ne _ hc

theorem State.fpoJudged_shows (small steps : Bool) : (s.fpoJudged j err small steps).is (R.FPO_STATUS_Aligned j) = small
    ∧ (s.fpoJudged j err small steps).is (R.FPO_STATUS_Realigning j) = (!steps && decide (err ≠ 0))
    ∧ (s.fpoJudged j err small steps).is (R.FPO_STATUS_Flywheel j) = s.is (R.FPO_STATUS_Flywheel j)
    ∧ (s.fpoJudged j err small steps).get (R.CNT_FPO_REALIGN_Count j) = (s.get (R.CNT_FPO_REALIGN_Count j) + (if small then 0 else 1)) % 2 ^ 32 := by
  obtain ⟨hal, hfly, hre, h1, h2⟩ := fpoStatus_fields j
  have hne : R.CNT_FPO_REALIGN j ≠ R.FPO_STATUS j := by unfold R.CNT_FPO_REALIGN R.FPO_STATUS; omega
  unfold State.fpoJudged State.putB
  refine ⟨?_, State.is_putB_same _ hre rfl _, ?_, ?_⟩
  · rw [State.is_put_ne _ hre (.inr (.inl (Nat.le_trans (Nat.le_trans h1 (Nat.le_add_right _ _)) h2)))]
    exact State.is_putB_same _ hal rfl small
  · rw [State.is_put_ne _ hre (.inr (.inl h2)), State.is_put_ne _ hal (.inr (.inr h1))]
    split
    · rfl
    · exact State.is_congr (State.rd_bump_ne _ hne.symm)
  · rw [State.get_put_reg _ hne, State.get_put_reg _ hne]
    split
    · exact (s.get_mod (R.CNT_FPO_REALIGN_Count j)).symm
    · exact s.get_bump_same _ (Nat.le_of_ble_eq_true rfl)

/-- What the registers show of an input pulse. -/
theorem State.fpoShown_reads : (s.fpoShown j err).getI (R.FPO_ERR_Err j) = satSigned 32 err ∧ (s.fpoShown j err).is (R.FPO_STATUS_Flywheel j) = false
    ∧ (s.fpoShown j err).is (R.FPO_STATUS_Aligned j) = decide (s.fpoSmall j err)
    ∧ (s.fpoShown j err).is (R.FPO_STATUS_Realigning j) = decide (¬ s.fpoSteps j err ∧ err ≠ 0)
    ∧ (s.fpoShown j err).get (R.CNT_FPO_REALIGN_Count j) = (s.get (R.CNT_FPO_REALIGN_Count j) + (if s.fpoSmall j err then 0 else 1)) % 2 ^ 32 := by
  have herr : R.FPO_ERR j ≠ R.FPO_STATUS j ∧ R.FPO_ERR j ≠ R.CNT_FPO_REALIGN j := by unfold R.FPO_ERR R.FPO_STATUS R.CNT_FPO_REALIGN; omega
  have hcnt : R.CNT_FPO_REALIGN j ≠ R.FPO_ERR j ∧ R.CNT_FPO_REALIGN j ≠ R.FPO_STATUS j := by unfold R.FPO_ERR R.FPO_STATUS R.CNT_FPO_REALIGN; omega
  obtain ⟨hmeas, hfly⟩ := s.fpoMeasured_reads j err
  obtain ⟨hal, hre, hfly', hc⟩ := (s.fpoMeasured j err).fpoJudged_shows j err (decide (s.fpoSmall j err)) (decide (s.fpoSteps j err))
  refine ⟨(State.getI_congr (f := R.FPO_ERR_Err j) (State.fpoJudged_rd _ j err _ _ herr.1 herr.2)).trans hmeas, hfly'.trans hfly, hal, hre.trans ?_, hc.trans ?_⟩
  · simp only [Bool.decide_and, decide_not]
  · rw [State.get_congr (f := R.CNT_FPO_REALIGN_Count j) (s.fpoMeasured_rd j err hcnt.1 hcnt.2)]
    simp only [decide_eq_true_eq]

theorem State.fpoShown_only : SameRegs [R.FPO_ERR j, R.FPO_STATUS j, R.CNT_FPO_REALIGN j] s (s.fpoShown j err) ∧ RegsOnly s (s.fpoShown j err) := by
  refine ⟨fun a ha _ => ?_, ?_⟩
  · simp only [List.mem_cons, List.not_mem_nil, or_false, not_or] at ha
    obtain ⟨he, hs, hc⟩ := ha
    exact ((s.fpoMeasured j err).fpoJudged_rd j err _ _ hs hc).trans (s.fpoMeasured_rd j err he hs)
  · refine RegsOnly.putB' (RegsOnly.putB' ?_ _ _) _ _
    split
    · exact ((RegsOnly.refl' s).put' _ _).put' _ _
    · exact (((RegsOnly.refl' s).put' _ _).put' _ _).put' _ _

end

section
variable {s : State} (hs : Ready s) {j : Nat} (hj : j < 4)
include hs hj

theorem exec_fpoInputPulse (err : Int) : exec (.fpoInputPulse j err) s =
    (if s.get (R.FPO_CFG_Mode j) = 2 then (s.fpoShown j err).updFpo j (FpoSt.removing err (decide (s.fpoSteps j err))) else s).done := by
  have halign : R.FPO_ALIGN j ≠ R.FPO_ERR j ∧ R.FPO_ALIGN j ≠ R.FPO_STATUS j := by unfold R.FPO_ALIGN R.FPO_ERR R.FPO_STATUS; omega
  have hcfg : R.FPO_CFG j ≠ R.FPO_ERR j ∧ R.FPO_CFG j ≠ R.FPO_STATUS j := by unfold R.FPO_CFG R.FPO_ERR R.FPO_STATUS; omega
  have hsmall : (s.fpoMeasured j err).fpoSmall j err ↔ s.fpoSmall j err := by
    unfold State.fpoSmall
    rw [State.get_congr (f := R.FPO_ALIGN_AlignTol j) (s.fpoMeasured_rd j err halign.1 halign.2)]
  have hsteps : (!decide ((s.fpoMeasured j err).fpoSmall j err) && (s.fpoMeasured j err).is (R.FPO_CFG_StepAllowed j)) = decide (s.fpoSteps j err) := by
    rw [State.is_congr (f := R.FPO_CFG_StepAllowed j) (s.fpoMeasured_rd j err hcfg.1 hcfg.2)]
    simp only [State.fpoSteps, hsmall, Bool.decide_and, decide_not, Bool.decide_eq_true]
  refine (s.accept_live _ _ (decide_eq_true hj) hs).trans (congrArg State.done ?_)
  unfold State.fpoShown
  rw [← hsteps, ← decide_eq_decide.2 hsmall]
  simp only [hj, true_and]
  rfl

/-- An input pulse in Aligned mode (R67). -/
theorem fpoInputPulse_gives (err : Int) (h : s.get (R.FPO_CFG_Mode j) = 2) : Gives (.fpoInputPulse j err) s (fun t =>
    t.getI (R.FPO_ERR_Err j) = satSigned 32 err ∧ t.is (R.FPO_STATUS_Flywheel j) = false ∧ t.is (R.FPO_STATUS_Aligned j) = decide (s.fpoSmall j err)
    ∧ t.is (R.FPO_STATUS_Realigning j) = decide (¬ s.fpoSteps j err ∧ err ≠ 0)
    ∧ t.get (R.CNT_FPO_REALIGN_Count j) = (s.get (R.CNT_FPO_REALIGN_Count j) + (if s.fpoSmall j err then 0 else 1)) % 2 ^ 32
    ∧ t.fpoSt j = (s.fpoSt j).removing err (decide (s.fpoSteps j err))
    ∧ OnlyRegs [R.FPO_ERR j, R.FPO_STATUS j, R.CNT_FPO_REALIGN j] s { t with reed := s.reed }) := by
  obtain ⟨herr, hstat, hcnt⟩ := fpoWords_ne_pba hj
  obtain ⟨hmeas, hfly, hal, hre, hc⟩ := s.fpoShown_reads j err
  obtain ⟨hsame, honly⟩ := s.fpoShown_only j err
  refine Gives.of_done ((exec_fpoInputPulse hs hj err).trans (congrArg State.done (if_pos h))) ?_
  have hword := fun {a : Nat} (ha : a ≠ R.MSIX_PBA 0) =>
    (s.fpoShown j err).updFpo_settle_rd j (FpoSt.removing err (decide (s.fpoSteps j err))) ha
  refine ⟨(State.getI_congr (f := R.FPO_ERR_Err j) (hword herr)).trans hmeas, (State.is_congr (f := R.FPO_STATUS_Flywheel j) (hword hstat)).trans hfly,
    (State.is_congr (f := R.FPO_STATUS_Aligned j) (hword hstat)).trans hal, (State.is_congr (f := R.FPO_STATUS_Realigning j) (hword hstat)).trans hre,
    (State.get_congr (f := R.CNT_FPO_REALIGN_Count j) (hword hcnt)).trans hc, ?_, OnlyRegs.updFpo_settle hsame honly j _⟩
  rw [State.fpoSt_congr (State.settle_reed _), State.updFpo_fpoSt, State.fpoSt_congr honly.reed]

theorem exec_fpoStepApply_none (h : (s.fpoSt j).step = none) : exec (.fpoStepApply j) s = s.done := by
  refine (s.accept_live _ _ (decide_eq_true hj) hs).trans ?_
  simp only [h]

theorem exec_fpoStepApply {e : Int} (h : (s.fpoSt j).step = some e) : exec (.fpoStepApply j) s =
    ((s.updFpo j (fun f => { f with step := none, corr := f.corr + e })).put (R.FPO_STATUS_Aligned j) 1).done := by
  refine (s.accept_live _ _ (decide_eq_true hj) hs).trans ?_
  simp only [h]

/-- The next pulse takes the step (R67). -/
theorem fpoStepApply_gives {e : Int} (h : (s.fpoSt j).step = some e) : Gives (.fpoStepApply j) s (fun t =>
    t.fpoSt j = { s.fpoSt j with step := none, corr := (s.fpoSt j).corr + e } ∧ t.is (R.FPO_STATUS_Aligned j) = true
    ∧ OnlyRegs [R.FPO_STATUS j] s { t with reed := s.reed }) := by
  have hsame : SameRegs [R.FPO_STATUS j] s (s.put (R.FPO_STATUS_Aligned j) 1) := (SameRegs.refl' [R.FPO_STATUS j] s).put' (f := R.FPO_STATUS_Aligned j) (List.mem_singleton_self _) 1
  refine Gives.of_done (exec_fpoStepApply hs hj h) ⟨?_, (State.settle_is _ (fpoWords_ne_pba hj).2.1).trans (State.is_put_one _ (fpoStatus_fields j).1 rfl),
    OnlyRegs.updFpo_settle hsame ((RegsOnly.refl' s).put' _ _) j (fun f => { f with step := none, corr := f.corr + e })⟩
  rw [State.fpoSt_congr (State.settle_reed _), State.fpoSt_congr (State.put_reed _ _ _), State.updFpo_fpoSt]

end

end Sys2Proof.Machine
end

section
/-!
PROOF. Phase steps within bounds, and the realignment of frame pulses (R63, R67): the statement.
-/
namespace Sys2Proof.Machine

section
variable {s : State} (hs : Ready s)
include hs

theorem exec_pstepGo (hb : s.is R.RD_STATUS_Busy = false) {v : Nat} (hv : v < 2 ^ 32) : exec (.pstepGo v) s = (s.pstepApply v).done :=
  (s.accept_live _ _ (decide_eq_true hv) hs).trans (congrArg State.done (State.slow_reed hb (off := R.PSTEP_CMD) (by decide) _))

/-- The state from which the waiting requests have been taken away. -/
def State.stepsTaken (s : State) : State := { s with reed := { s.reed with steps := [] } }

theorem exec_phaseStepApply : exec .phaseStepApply s =
    (if s.get R.RD_STATUS_State = 3 then s else s.stepsTaken.forL s.reed.steps (fun r t => t.phaseTake r)).done := by
  show execPhaseStepApply s = _
  unfold execPhaseStepApply
  rw [State.live_live _ _ hs]
  rfl

/-- At a boundary outside a switch everything that waits is taken (R63, R68). -/
theorem phaseStepApply_gives (h : s.get R.RD_STATUS_State ≠ 3) : Gives .phaseStepApply s (fun t => t.reed.steps = []
    ∧ (s.reed.steps = [] → OnlyRegs [] s t)
    ∧ ∀ r, s.reed.steps = [r] → t.getI R.PHASE_ADJ_Adj = phaseLimit (s.phaseGoal r) ∧ t.reed.slewRem = s.phaseRem r
        ∧ t.is R.PSTEP_STATUS_Slewing = decide (s.phaseRem r ≠ 0)
        ∧ t.get R.PSTEP_STATUS_Result = (if phaseLimit (s.phaseGoal r) ≠ s.phaseGoal r ∨ s.phaseRem r ≠ s.phaseRest r then 1 else s.phaseResult r)) := by
  refine Gives.of_done ((exec_phaseStepApply hs).trans (congrArg State.done (if_neg h))) ⟨?_, fun hnone => ?_, fun r hr => ?_⟩
  · rw [State.settle_reed]
    exact State.forL_keeps (fun t => t.reed.steps) _ (fun r t => t.phaseTake_steps r) _ _
  · have e : s.stepsTaken = s := by
      unfold State.stepsTaken
      rw [← hnone]
    rw [hnone, e]
    exact (OnlyRegs.of_regs (SameRegs.refl' _ s) (RegsOnly.refl' s)).settle'
  · obtain ⟨hadj, hslew, hres⟩ := s.stepsTaken.phaseTake_shows r
    have hreed := s.stepsTaken.phaseTake_reed r
    rw [hr]
    refine ⟨(State.getI_congr (State.settle_rd _ (by decide))).trans hadj, ?_, (State.settle_is _ (by decide)).trans hslew,
      (State.settle_get _ (by decide)).trans hres⟩
    rw [State.settle_reed]
    exact congrArg ReedSt.slewRem hreed

end

/-- Settles O20: a request by its limits and by what it makes of PHASE_ADJ and the slew, a pulse by its error. -/
theorem phaseStepsAndFramePulses : Obligations.PhaseStepsAndFramePulses := by
  refine ⟨fun s v hs hb hv => ?_, fun s j err hs hj => ?_⟩
  · intro r fits
    have hfits : phaseReqOk (s.hostStep v) = true ↔ fits := phaseReqOk_iff r
    refine ⟨fun h => ?_, fun h hf => ?_, fun h hf => ?_, fun h => ?_, fun h => ?_⟩
    · exact Ends.of_done ((exec_pstepGo hs hb hv).trans (congrArg State.done (s.pstepApply_idle h)))
    · exact Ends.of_done ((exec_pstepGo hs hb hv).trans (congrArg State.done (State.pstepApply_fits h (hfits.2 hf))))
    · exact Ends.of_done ((exec_pstepGo hs hb hv).trans (congrArg State.done (State.pstepApply_refused h (mt hfits.1 hf))))
    · exact Ends.of_done ((exec_phaseStepApply hs).trans (congrArg State.done (if_pos h)))
    · refine (phaseStepApply_gives hs h).mono (fun t ⟨hsteps, hnone, hone⟩ => ⟨hsteps, hnone, fun r hr => ?_⟩)
      obtain ⟨hadj, hrem, hslew, hres⟩ := hone r hr
      refine ⟨hadj, hrem, ?_, ?_⟩
      · rw [hslew, hrem]
      · rw [hres, hrem]
        rfl
  · refine ⟨fun h => ?_, fun h => ?_, fun h => Ends.of_done (exec_fpoStepApply_none hs hj h), fun e h => fpoStepApply_gives hs hj h⟩
    · exact Ends.of_done ((exec_fpoInputPulse hs hj err).trans (congrArg State.done (if_neg h)))
    · refine (fpoInputPulse_gives hs hj err h).mono (fun t ⟨hmeas, hfly, hal, hre, hc, hst, honly⟩ => ⟨hmeas, hfly, ⟨hal, hre, hc, hst.trans ?_⟩, honly⟩)
      by_cases hsteps : s.fpoSteps j err
      · rw [if_pos hsteps, decide_eq_true hsteps]
        rfl
      · rw [if_neg hsteps, decide_eq_false hsteps]
        rfl

end Sys2Proof.Machine
end

section
/-!
PROOF. A register after a write of its RW fields (R9, R379): a field that is written reads as the written bits.
-/
namespace Sys2Proof.Machine

-- ## The bits of a written word

theorem bitsOf_allOnes {l w : Nat} (h : l + w ≤ 32) : bitsOf (2 ^ 32 - 1) l w = 2 ^ w - 1 := by
  refine Nat.eq_of_testBit_eq (fun i => ?_)
  unfold bitsOf
  rw [Nat.testBit_mod_two_pow, Nat.testBit_div_two_pow, Nat.testBit_two_pow_sub_one, Nat.testBit_two_pow_sub_one]
  simp only [← Bool.decide_and, decide_eq_decide]
  omega

/-- A field of which every bit is enabled takes the written bits. -/
theorem bitsOf_merged {l w : Nat} (h : l + w ≤ 32) (old v : Nat) :
    (bitsOf v l w &&& bitsOf (2 ^ 32 - 1) l w) ||| (bitsOf old l w &&& (2 ^ w - 1 - bitsOf (2 ^ 32 - 1) l w)) = bitsOf v l w := by
  have hv : bitsOf v l w < 2 ^ w := Nat.mod_lt _ (Nat.two_pow_pos w)
  rw [bitsOf_allOnes h, Nat.sub_self, Nat.and_zero, Nat.or_zero, Nat.and_two_pow_sub_one_eq_mod, Nat.mod_eq_of_lt hv]

theorem mergeFields_lt {fs : List FieldRow} (hfs : ∀ f ∈ fs, f.lsb + f.wid ≤ 32) (v en : Nat) : ∀ old, old < 2 ^ 32 → mergeFields fs old v en < 2 ^ 32 := by
  induction fs with
  | nil => exact fun _ h => h
  | cons f fs ih =>
    intro old h
    refine ih (fun g hg => hfs g (List.mem_cons_of_mem _ hg)) _ ?_
    split
    · exact setBits_lt _ _ _ _ 32 (hfs f List.mem_cons_self) h
    · exact h

/-- Bits of no field keep what they held. -/
theorem bitsOf_mergeFields_ne {fs : List FieldRow} {l w : Nat} (hfs : ∀ f ∈ fs, l + w ≤ f.lsb ∨ f.lsb + f.wid ≤ l) (v en : Nat) :
    ∀ old, bitsOf (mergeFields fs old v en) l w = bitsOf old l w := by
  induction fs with
  | nil => exact fun _ => rfl
  | cons f fs ih =>
    intro old
    refine (ih (fun g hg => hfs g (List.mem_cons_of_mem _ hg)) _).trans ?_
    split
    · exact bitsOf_setBits_ne _ _ _ _ _ _ (hfs f List.mem_cons_self)
    · rfl

/-- An RW field below the fields that follow it takes the written bits. -/
theorem bitsOf_mergeFields {l w : Nat} {rst : List Nat} {post : List FieldRow} (h : l + w ≤ 32) (hpost : ∀ f ∈ post, l + w ≤ f.lsb) (v : Nat)
    (pre : List FieldRow) : ∀ old, bitsOf (mergeFields (pre ++ ⟨l, w, .rw, rst⟩ :: post) old v (2 ^ 32 - 1)) l w = bitsOf v l w := by
  induction pre with
  | nil =>
    intro old
    refine (bitsOf_mergeFields_ne (fun f hf => .inl (hpost f hf)) _ _ _).trans ?_
    rw [bitsOf_merged h, bitsOf_setBits_same]
    exact Nat.mod_mod _ _
  | cons f fs ih => exact fun old => ih _

-- ## A write of a whole word

theorem State.wrRW_rd_ne (s : State) {a b : Nat} (h : b ≠ a) (v : Nat) : (s.wrRW a v).rd b = s.rd b := by
  unfold State.wrRW
  split
  · rfl
  · exact s.rd_wr_ne h _

/-- An RW field of the register written reads as the written bits. -/
theorem State.wrRW_get (s : State) {a l w i : Nat} {row : RegRow} (hrow : findRow (blockRows a) a = some (row, i))
    {pre post : List FieldRow} {rst : List Nat} (hfields : row.fields = pre ++ ⟨l, w, .rw, rst⟩ :: post)
    (hfit : ∀ g ∈ row.fields, g.lsb + g.wid ≤ 32) (hpost : ∀ g ∈ post, l + w ≤ g.lsb) (v : Nat) :
    (s.wrRW a v).get ⟨a, l, w⟩ = bitsOf v l w := by
  have hf : l + w ≤ 32 := hfit ⟨l, w, .rw, rst⟩ (by rw [hfields]; exact List.mem_append_right _ List.mem_cons_self)
  unfold State.get State.wrRW
  rw [hrow]
  dsimp only
  rw [State.rd_wr_same, BitVec.toNat_ofNat, Nat.mod_eq_of_lt (mergeFields_lt hfit _ _ _ (s.rd a).isLt), hfields]
  exact bitsOf_mergeFields hf hpost v pre _

end Sys2Proof.Machine
end

section
/-!
PROOF. What the moves of references, holdover and switches leave alone (R54 to R65): everything that shows neither the words they write nor
what Reed and the session descriptions hold.
-/
namespace Sys2Proof.Machine

/-- The words that show the DPLL's state, holdover, and disagreement. -/
def dpllWords : List Nat := [R.RD_STATUS, R.HOLD_STATUS, R.HOLD_EST, R.HOLD_FREQ, R.HOLD_FU, R.CNT_HOLDOVER, R.CNT_DISAGREE]

/-- One of these words, or one that shows a reference's state or its failures. -/
def DpllWord (a : Nat) : Prop := a ∈ dpllWords ∨ ∃ k, a = R.REF_STATUS k ∨ a = R.CNT_REF_FAIL k

theorem dpllWord_refStatus (k : Nat) : DpllWord (R.REF_STATUS k) := .inr ⟨k, .inl rfl⟩

theorem dpllWord_refFail (k : Nat) : DpllWord (R.CNT_REF_FAIL k) := .inr ⟨k, .inr rfl⟩

/-- A word below the references' is named by its offset. -/
theorem not_dpllWord {a : Nat} (h : a < 0x60100) (hm : a ∉ dpllWords) : ¬ DpllWord a := by
  rintro (hmem | ⟨k, rfl | rfl⟩)
  · exact hm hmem
  · unfold R.REF_STATUS at h; omega
  · unfold R.CNT_REF_FAIL at h; omega

/-- What shows none of these words, and nothing that Reed and the session descriptions hold but the mode in force and which references are
present. -/
structure BlindDpll {γ : Type} (p : State → γ) : Prop where
  put : ∀ (t : State) (f : Fld) (v : Nat), DpllWord f.reg → p (t.put f v) = p t
  tx : ∀ (t : State) (x : List (Nat × TxStream)), p { t with tx := x } = p t
  reed : ∀ (t : State) (r : ReedSt), r.modeHeld = t.reed.modeHeld → (∀ k, (tget {} r.refs k).present = (tget {} t.reed.refs k).present) →
    p { t with reed := r } = p t

theorem blindDpll_rd {a : Nat} (ha : ¬ DpllWord a) : BlindDpll (fun t => t.rd a) where
  put := fun t f _ hf => t.rd_put_ne (fun e => ha (by rwa [e])) _
  tx := fun _ _ => rfl
  reed := fun _ _ _ _ => rfl

section
variable {γ : Type} {p : State → γ} (h : BlindDpll p) (s : State)
include h

theorem BlindDpll.updRef (k : Nat) {f : RefSt → RefSt} (hf : ∀ x, (f x).present = x.present) : p (s.updRef k f) = p s :=
  h.reed s _ rfl (fun j => congrArg (fun v => v.2.2) (s.updRef_refView j k hf))

theorem BlindDpll.select (k : Nat) : p (s.select k) = p s := by
  have hput := h.put s R.RD_STATUS_Selected k (.inl (by decide))
  unfold State.select
  extract_lets old t
  split
  · exact hput
  · exact (h.tx t _).trans hput

theorem BlindDpll.holdShow : p s.holdShow = p s := by
  unfold State.holdShow
  split
  · rfl
  · exact h.put _ _ _ (.inl (by decide))

theorem BlindDpll.holdoverEnter : p s.holdoverEnter = p s := by
  have put := fun (t : State) {f : Fld} (hf : f.reg ∈ dpllWords) (v : Nat) => h.put t f v (.inl hf)
  unfold State.holdoverEnter
  extract_lets s0 w fu s1 r2 s2
  have h1 : p s1 = p s :=
    (put _ (by decide) _).trans ((put _ (by decide) _).trans ((h.select _ _).trans ((put _ (by decide) _).trans (h.holdShow s))))
  have h2 : p s2 = p s := (h.reed s1 s2.reed rfl (fun _ => rfl)).trans h1
  exact (put _ (by decide) _).trans ((put _ (by decide) _).trans ((put _ (by decide) _).trans ((put _ (by decide) _).trans h2)))

theorem BlindDpll.holdOrFree : p s.holdOrFree = p s := by
  unfold State.holdOrFree
  split
  · exact h.holdoverEnter s
  · exact (h.put _ _ _ (.inl (by decide))).trans ((h.select _ _).trans (h.put _ _ _ (.inl (by decide))))

theorem BlindDpll.freeRun : p s.freeRun = p s := by
  have put := fun (t : State) {f : Fld} (hf : f.reg ∈ dpllWords) (v : Nat) => h.put t f v (.inl hf)
  unfold State.freeRun
  extract_lets s1 r2 s2
  have h1 : p s1 = p s := (put _ (by decide) _).trans ((h.select _ _).trans (put _ (by decide) _))
  have h2 : p s2 = p s := (h.reed s1 s2.reed rfl (fun _ => rfl)).trans h1
  exact (h.holdShow _).trans ((put _ (by decide) _).trans ((put _ (by decide) _).trans h2))

theorem BlindDpll.modeTake : p s.modeTake = p s := by
  rw [State.modeTake_eq]
  split
  · split
    · rfl
    · exact h.holdoverEnter s
  · split
    · exact h.freeRun s
    · rfl

theorem BlindDpll.switchStart (k : Nat) : p (s.switchStart k) = p s := by
  have put := fun (t : State) {f : Fld} (hf : f.reg ∈ dpllWords) (v : Nat) => h.put t f v (.inl hf)
  unfold State.switchStart
  extract_lets s1 s2 r3 s3
  have h2 : p s2 = p s := (put _ (by decide) _).trans ((put _ (by decide) _).trans (put _ (by decide) _))
  exact (State.forN_keeps p 10 _ (fun i _ t => h.updRef t i (by intro; rfl)) s3).trans ((h.reed s2 s3.reed rfl (fun _ => rfl)).trans h2)

theorem BlindDpll.refGo (k st : Nat) : p (s.refGo k st) = p s :=
  (h.updRef _ k (by intro; rfl)).trans ((h.put _ _ _ (dpllWord_refStatus k)).trans (h.put _ _ _ (dpllWord_refStatus k)))

theorem BlindDpll.refFail (k st reason : Nat) : p (s.refFail k st reason) = p s := by
  rw [State.refFail_eq]
  refine (h.put _ _ _ (dpllWord_refStatus k)).trans ((h.refGo _ k st).trans ?_)
  unfold State.failCounted
  split
  · exact h.put _ _ _ (dpllWord_refFail k)
  · rfl

end

-- ## The state that holdover and free run show

theorem State.select_rd (s : State) (k a : Nat) : (s.select k).rd a = (s.put R.RD_STATUS_Selected k).rd a := by
  unfold State.select
  extract_lets old t
  split <;> rfl

/-- The DPLL without a reference: its state, with nothing selected and no target. -/
def State.alone (s : State) (st : Nat) : State := ((s.put R.RD_STATUS_State st).select 0xF).put R.RD_STATUS_Target 0xF

theorem State.alone_shows (s : State) {st : Nat} (h : st < 8) : (s.alone st).get R.RD_STATUS_State = st ∧ (s.alone st).get R.RD_STATUS_Selected = 15 := by
  unfold State.alone
  constructor
  · rw [State.get_put_ne _ (by decide) (by decide), State.get_congr (State.select_rd _ _ _), State.get_put_ne _ (by decide) (by decide)]
    exact State.get_put_fit _ (by decide) (w := 3) rfl h
  · rw [State.get_put_ne _ (by decide) (by decide), State.get_congr (State.select_rd _ _ _)]
    exact State.get_put_fit _ (by decide) (w := 4) rfl (by decide)

theorem State.holdShow_rd (s : State) {a : Nat} (h : a ≠ R.HOLD_FREQ) : s.holdShow.rd a = s.rd a := by
  unfold State.holdShow
  split
  · rfl
  · exact s.rd_put_ne h _

theorem State.holdShow_reed (s : State) : s.holdShow.reed = s.reed := by
  unfold State.holdShow
  split
  · rfl
  · exact s.putSat_reed _ _

theorem State.holdoverEnter_shows (s : State) : s.holdoverEnter.get R.RD_STATUS_State = 4 ∧ s.holdoverEnter.get R.RD_STATUS_Selected = 15 := by
  have hword : s.holdoverEnter.rd R.RD_STATUS = (s.holdShow.alone 4).rd R.RD_STATUS := by
    unfold State.holdoverEnter
    extract_lets s0 w fu s1 r2 s2
    have h1 : s1.rd R.RD_STATUS = (s.holdShow.alone 4).rd R.RD_STATUS := State.rd_bump_ne _ (by decide)
    have h2 : s2.rd R.RD_STATUS = (s.holdShow.alone 4).rd R.RD_STATUS := (s1.withReed_rd _ _).trans h1
    exact (State.rd_put_ne _ (by decide) _).trans ((State.rd_put_ne _ (by decide) _).trans ((State.rd_put_ne _ (by decide) _).trans
      ((State.rd_put_ne _ (by decide) _).trans h2)))
  obtain ⟨hst, hsel⟩ := s.holdShow.alone_shows (st := 4) (by decide)
  exact ⟨(State.get_congr (f := R.RD_STATUS_State) hword).trans hst, (State.get_congr (f := R.RD_STATUS_Selected) hword).trans hsel⟩

theorem State.freeRun_shows (s : State) : s.freeRun.get R.RD_STATUS_State = 0 ∧ s.freeRun.get R.RD_STATUS_Selected = 15 ∧ s.freeRun.reed.hist = [] := by
  obtain ⟨hst, hsel⟩ := s.alone_shows (st := 0) (by decide)
  unfold State.freeRun
  extract_lets s1 r2 s2
  have h2 : s2.rd R.RD_STATUS = (s.alone 0).rd R.RD_STATUS := s1.withReed_rd _ _
  have get : ∀ {f : Fld}, f.reg = R.RD_STATUS → f.lsb + f.wid ≤ R.RD_STATUS_HistValid.lsb →
      ((s2.put R.RD_STATUS_HistValid 0).put R.HOLD_STATUS_OutOfSpec 0).holdShow.get f = (s.alone 0).get f := by
    intro f hr hf
    rw [State.get_congr (State.holdShow_rd _ (by rw [hr]; decide)), State.get_put_reg _ (by rw [hr]; decide), State.get_put_ne _ (by decide) (.inr (.inl hf))]
    exact State.get_congr (by rw [hr]; exact h2)
  refine ⟨(get rfl (by decide)).trans hst, (get rfl (by decide)).trans hsel, ?_⟩
  rw [State.holdShow_reed, State.put_reed, State.put_reed]

end Sys2Proof.Machine
end

section
/-!
PROOF. Writes of REFk_CFG and RD_CTRL (R54, R57, R68): the statement.
-/
namespace Sys2Proof.Machine

-- ## The registers written

/-- The row of REFk_CFG (03_reed_references.md, Registers). -/
def refCfgRow : RegRow :=
  ⟨0x60100, [(0x40, 10)], [⟨0, 1, .rw, [0]⟩, ⟨1, 4, .rw, [15]⟩, ⟨5, 3, .ro, [0, 0, 0, 0, 1, 1, 2, 3, 4, 5]⟩, ⟨8, 1, .rw, [0]⟩,
    ⟨9, 1, .rw, [1, 1, 1, 1, 0, 0, 0, 0, 0, 0]⟩]⟩

/-- The row of RD_CTRL. -/
def rdCtrlRow : RegRow := ⟨0x60000, [], [⟨0, 2, .rw, [0]⟩, ⟨2, 4, .rw, [0]⟩, ⟨6, 1, .rw, [1]⟩, ⟨7, 1, .rw, [1]⟩]⟩

theorem findRow_refCfg : ∀ k, k < 10 → findRow (blockRows (R.REF_CFG k)) (R.REF_CFG k) = some (refCfgRow, k) := by decide

theorem findRow_rdCtrl : findRow (blockRows R.RD_CTRL) R.RD_CTRL = some (rdCtrlRow, 0) := by decide

theorem State.wrRW_refCfg (s : State) {k : Nat} (hk : k < 10) (v : Nat) :
    (s.wrRW (R.REF_CFG k) v).get (R.REF_CFG_Enable k) = bitsOf v 0 1 ∧ (s.wrRW (R.REF_CFG k) v).get (R.REF_CFG_Rank k) = bitsOf v 1 4 :=
  ⟨s.wrRW_get (findRow_refCfg k hk) (pre := []) rfl (by decide) (by decide) v,
    s.wrRW_get (findRow_refCfg k hk) (pre := [⟨0, 1, .rw, [0]⟩]) rfl (by decide) (by decide) v⟩

theorem State.wrRW_rdCtrl (s : State) (v : Nat) :
    (s.wrRW R.RD_CTRL v).get R.RD_CTRL_Mode = bitsOf v 0 2 ∧ (s.wrRW R.RD_CTRL v).get R.RD_CTRL_ForcedRef = bitsOf v 2 4 :=
  ⟨s.wrRW_get findRow_rdCtrl (pre := []) rfl (by decide) (by decide) v,
    s.wrRW_get findRow_rdCtrl (pre := [⟨0, 2, .rw, [0]⟩]) rfl (by decide) (by decide) v⟩

theorem bitsOf_one (v i : Nat) : decide (bitsOf v i 1 = 1) = bitOf v i := rfl

-- ## REFk_CFG

theorem not_dpllWord_refCfg (k : Nat) : ¬ DpllWord (R.REF_CFG k) := by
  rintro (hmem | ⟨j, h | h⟩)
  · simp only [dpllWords, List.mem_cons, List.not_mem_nil, or_false, R.REF_CFG, R.RD_STATUS, R.HOLD_STATUS, R.HOLD_EST, R.HOLD_FREQ, R.HOLD_FU,
      R.CNT_HOLDOVER, R.CNT_DISAGREE] at hmem
    omega
  · unfold R.REF_CFG R.REF_STATUS at h; omega
  · unfold R.REF_CFG R.CNT_REF_FAIL at h; omega

/-- The state machine's part of a write: Off without Enable, Absent where Enable goes to 1 (R54). -/
def State.refEnabled (s : State) (k : Nat) (was now : Bool) : State :=
  if !now then (s.refGo k 0).put (R.REF_STATUS_EverQual k) 0 else if !was then s.refGo k 1 else s

theorem State.refCfgApply_eq (s : State) (k v : Nat) : s.refCfgApply k v =
    (s.wrRW (R.REF_CFG k) v).refEnabled k (s.is (R.REF_CFG_Enable k)) ((s.wrRW (R.REF_CFG k) v).is (R.REF_CFG_Enable k)) := rfl

theorem State.refEnabled_rd (s : State) (k : Nat) (was now : Bool) : (s.refEnabled k was now).rd (R.REF_CFG k) = s.rd (R.REF_CFG k) := by
  have blind := blindDpll_rd (not_dpllWord_refCfg k)
  unfold State.refEnabled
  split
  · exact (blind.put _ (R.REF_STATUS_EverQual k) 0 (dpllWord_refStatus k)).trans (blind.refGo s k 0)
  · split
    · exact blind.refGo s k 1
    · rfl

theorem State.refEnabled_state (s : State) (k : Nat) (was now : Bool) :
    (s.refEnabled k was now).refState k = if now then (if was then s.refState k else 1) else 0 := by
  obtain ⟨-, hever, -, -, h1, -, -⟩ := refStatus_fields k
  cases now
  · exact (State.get_put_ne _ hever (.inr (.inl h1)) 0).trans (s.refGo_word k 0).1
  · cases was
    · exact (s.refGo_word k 1).1
    · rfl

theorem State.refCfgApply_shows (s : State) {k : Nat} (hk : k < 10) (v : Nat) :
    (s.refCfgApply k v).is (R.REF_CFG_Enable k) = bitOf v 0 ∧ (s.refCfgApply k v).get (R.REF_CFG_Rank k) = bitsOf v 1 4
    ∧ (s.refCfgApply k v).refState k = (if bitOf v 0 then (if s.is (R.REF_CFG_Enable k) then s.refState k else 1) else 0) := by
  have hne : R.REF_STATUS k ≠ R.REF_CFG k := by unfold R.REF_STATUS R.REF_CFG; omega
  obtain ⟨hen, hrank⟩ := s.wrRW_refCfg hk v
  have hnow : (s.wrRW (R.REF_CFG k) v).is (R.REF_CFG_Enable k) = bitOf v 0 := by
    unfold State.is
    rw [hen, bitsOf_one]
  have hst : (s.wrRW (R.REF_CFG k) v).refState k = s.refState k := State.get_congr (f := R.REF_STATUS_State k) (s.wrRW_rd_ne hne v)
  rw [State.refCfgApply_eq]
  have hword := (s.wrRW (R.REF_CFG k) v).refEnabled_rd k (s.is (R.REF_CFG_Enable k)) ((s.wrRW (R.REF_CFG k) v).is (R.REF_CFG_Enable k))
  refine ⟨(State.is_congr (f := R.REF_CFG_Enable k) hword).trans hnow, (State.get_congr (f := R.REF_CFG_Rank k) hword).trans hrank, ?_⟩
  rw [State.refEnabled_state, hnow, hst]

-- ## RD_CTRL

/-- The mode in force until the end of a switch is the one before the write (R68). -/
def State.holdMode (s : State) (m : Nat × Nat) : State := { s with reed := { s.reed with modeHeld := some m } }

theorem State.holdMode_rdMode (s : State) (m : Nat × Nat) : (s.holdMode m).settle.rdMode = m := by
  have h : (s.holdMode m).settle.reed.modeHeld = some m := by rw [State.settle_reed]; rfl
  unfold State.rdMode
  rw [h]

section
variable (s : State) {v : Nat} (hv : bitsOf v 2 4 < 10)
include hv

theorem State.rdCtrlApply_switching (h : s.get R.RD_STATUS_State = 3) : s.rdCtrlApply v = (s.wrRW R.RD_CTRL v).holdMode s.rdMode :=
  (if_neg (Nat.not_le.2 hv)).trans (if_pos ((State.get_congr (s.wrRW_rd_ne (by decide) v)).trans h))

theorem State.rdCtrlApply_takes (h : s.get R.RD_STATUS_State ≠ 3) : s.rdCtrlApply v = (s.wrRW R.RD_CTRL v).modeTake :=
  (if_neg (Nat.not_le.2 hv)).trans (if_neg (fun e => h ((State.get_congr (s.wrRW_rd_ne (by decide) v)).symm.trans e)))

/-- The fields are taken whether the mode is in force at once or not. -/
theorem State.rdCtrlApply_rd : (s.rdCtrlApply v).rd R.RD_CTRL = (s.wrRW R.RD_CTRL v).rd R.RD_CTRL := by
  by_cases h : s.get R.RD_STATUS_State = 3
  · rw [s.rdCtrlApply_switching hv h]
    exact State.withReed_rd _ _ _
  · rw [s.rdCtrlApply_takes hv h]
    exact (blindDpll_rd (not_dpllWord (by decide) (by decide))).modeTake _

end

/-- Mode 2 is holdover. -/
theorem State.modeTake_holdover {s : State} (h : s.get R.RD_CTRL_Mode = 2) : s.modeTake.get R.RD_STATUS_State = 4 := by
  rw [State.modeTake_eq, if_pos h]
  split
  · assumption
  · exact s.holdoverEnter_shows.1

/-- Mode 3 is free run with the history cleared. -/
theorem State.modeTake_freeRun {s : State} (h : s.get R.RD_CTRL_Mode = 3) : s.modeTake = s.freeRun := by
  rw [State.modeTake_eq, if_neg (by rw [h]; decide), if_pos h]

-- ## The statement

section
variable {s : State} {v : Nat} (hs : Ready s) (hb : s.is R.RD_STATUS_Busy = false) (hv : v < 2 ^ 32)
include hs hb hv

theorem exec_refEnableWrite {k : Nat} (hk : k < 10) : exec (.refEnableWrite k v) s = (s.refCfgApply k v).done := by
  have hoff : 0x60000 ≤ R.REF_CFG k ∧ R.REF_CFG k < 0x64000 := by unfold R.REF_CFG; omega
  refine (s.accept_live _ _ (Bool.and_eq_true_iff.2 ⟨decide_eq_true hk, decide_eq_true hv⟩) hs).trans (congrArg State.done ?_)
  rw [if_pos hk, State.slow_reed hb hoff]

theorem exec_rdCtrlWrite : exec (.rdCtrlWrite v) s = (s.rdCtrlApply v).done :=
  (s.accept_live _ _ (decide_eq_true hv) hs).trans (congrArg State.done (State.slow_reed hb (off := R.RD_CTRL) (by decide) _))

end

/-- Settles O18: a write of REFk_CFG by its Enable, one of RD_CTRL by whether a switch runs. -/
theorem reedConfigurationWrites : Obligations.ReedConfigurationWrites := by
  refine fun s v hs hb hv => ⟨fun k hk => ?_, fun h => ?_, fun h => ?_⟩
  · have hcfg : R.REF_CFG k ≠ R.MSIX_PBA 0 := by unfold R.REF_CFG R.MSIX_PBA; omega
    have hst : R.REF_STATUS k ≠ R.MSIX_PBA 0 := by unfold R.REF_STATUS R.MSIX_PBA; omega
    obtain ⟨hen, hrank, hstate⟩ := s.refCfgApply_shows hk v
    exact Gives.of_done (exec_refEnableWrite hs hb hv hk) ⟨(State.settle_is _ (f := R.REF_CFG_Enable k) hcfg).trans hen,
      (State.settle_get _ (f := R.REF_CFG_Rank k) hcfg).trans hrank, (State.settle_get _ (f := R.REF_STATUS_State k) hst).trans hstate⟩
  · exact Ends.of_done ((exec_rdCtrlWrite hs hb hv).trans (congrArg State.done (if_pos h)))
  · have hword := s.rdCtrlApply_rd h
    obtain ⟨hmode, hforced⟩ := s.wrRW_rdCtrl v
    refine Gives.of_done (exec_rdCtrlWrite hs hb hv) ⟨?_, ?_, fun h3 => ?_, fun h3 h2 => ?_, fun h3 hfree => ?_⟩
    · exact (State.settle_get _ (by decide)).trans ((State.get_congr (f := R.RD_CTRL_Mode) hword).trans hmode)
    · exact (State.settle_get _ (by decide)).trans ((State.get_congr (f := R.RD_CTRL_ForcedRef) hword).trans hforced)
    · rw [s.rdCtrlApply_switching h h3]
      refine ⟨State.holdMode_rdMode _ _, (State.settle_get _ (by decide)).trans ?_⟩
      exact (State.get_congr ((State.withReed_rd _ _ _).trans (s.wrRW_rd_ne (by decide) v))).trans h3
    · rw [s.rdCtrlApply_takes h h3, State.settle_get _ (by decide)]
      exact State.modeTake_holdover (hmode.trans h2)
    · rw [s.rdCtrlApply_takes h h3, State.modeTake_freeRun (hmode.trans hfree)]
      obtain ⟨hst, -, hhist⟩ := (s.wrRW R.RD_CTRL v).freeRun_shows
      refine ⟨(State.settle_get _ (by decide)).trans hst, by rw [State.settle_reed, hhist], (State.settle_get _ (by decide)).trans ?_⟩
      exact State.get_congr (f := R.DPLL_FREQ_Freq) (((blindDpll_rd (not_dpllWord (by decide) (by decide))).freeRun _).trans (s.wrRW_rd_ne (by decide) v))

end Sys2Proof.Machine
end

section
/-!
PROOF. The end of a switch (R59, R68): the target is selected, or a mode written during the switch comes into force.
-/
namespace Sys2Proof.Machine

-- ## Folds

theorem State.forN_succ (s : State) (n : Nat) (f : Nat → State → State) : s.forN (n + 1) f = f n (s.forN n f) := by
  unfold State.forN
  rw [List.range_succ, List.foldl_append]
  rfl

/-- A property that every step of a counted fold keeps holds at its end. -/
theorem State.forN_inv (P : State → Prop) (n : Nat) (f : Nat → State → State) (h : ∀ i, i < n → ∀ t, P t → P (f i t)) {s : State} (hs : P s) :
    P (s.forN n f) := by
  induction n with
  | zero => exact hs
  | succ n ih =>
    rw [State.forN_succ]
    exact h n (Nat.lt_succ_self n) _ (ih (fun i hi => h i (Nat.lt_succ_of_lt hi)))

-- ## 64-bit values

theorem State.get64_congr {s t : State} {lo hi : Fld} (hlo : t.rd lo.reg = s.rd lo.reg) (hhi : t.rd hi.reg = s.rd hi.reg) : t.get64 lo hi = s.get64 lo hi := by
  unfold State.get64; rw [State.get_congr hlo, State.get_congr hhi]

theorem State.get64_put64I (s : State) {lo hi : Fld} (hlo : lo.lsb + lo.wid ≤ 32) (wlo : lo.wid = 32) (hhi : hi.lsb + hi.wid ≤ 32)
    (whi : hi.wid = 32) (hne : lo.reg ≠ hi.reg) (i : Int) : (s.put64I lo hi i).get64 lo hi = ofSigned 64 i := by
  have hlt : ofSigned 64 i < 2 ^ 64 := by
    unfold ofSigned
    omega
  unfold State.get64 State.put64I
  rw [State.get_put64_lo s _ hlo wlo hne, State.get_put64_hi s lo _ hhi whi]
  omega

-- ## The move to the target

/-- The loop has moved to the target; references that qualified meanwhile have not been looked at. -/
def State.switchMoved (s : State) (tgt : Nat) (phase : Int) : State :=
  ((((s.put64I R.BUILDOUT_LO_Bo R.BUILDOUT_HI_Bo phase).put R.RD_STATUS_State 2).select tgt).put R.RD_STATUS_Target 0xF).bump R.CNT_SWITCH_Count

theorem State.switchMove_eq (s : State) (tgt : Nat) (phase : Int) : s.switchMove tgt phase =
    (s.switchMoved tgt phase).forN 10 (fun k t => t.lateTake ((s.switchMoved tgt phase).get (R.REF_CFG_Rank tgt)) k) := rfl

theorem blindDpll_time : BlindDpll State.time := ⟨fun t f v _ => t.put_time f v, fun _ _ => rfl, fun _ _ _ _ => rfl⟩

theorem blindDpll_modeHeld : BlindDpll (fun t => t.reed.modeHeld) :=
  ⟨fun t f v _ => congrArg ReedSt.modeHeld (t.put_reed f v), fun _ _ => rfl, fun _ _ h _ => h⟩

theorem State.lateTake_keeps {γ : Type} {p : State → γ} (h : BlindDpll p) (s : State) (rank k : Nat) : p (s.lateTake rank k) = p s := by
  unfold State.lateTake
  refine (h.updRef _ k (by intro; rfl)).trans ?_
  split
  · exact h.refGo s k 5
  · rfl

theorem State.lateTake_rd (s : State) (rank k : Nat) {a : Nat} (ha : a ≠ R.REF_STATUS k) : (s.lateTake rank k).rd a = s.rd a := by
  unfold State.lateTake
  refine (State.updRef_rd _ _ _ _).trans ?_
  split
  · exact (State.updRef_rd _ _ _ _).trans ((State.rd_put_ne _ ha _).trans (s.rd_put_ne ha _))
  · rfl

/-- A reference whose rank is not better keeps its state. -/
theorem State.lateTake_stays {s : State} {rank k : Nat} (h : rank ≤ s.get (R.REF_CFG_Rank k)) (a : Nat) : (s.lateTake rank k).rd a = s.rd a := by
  unfold State.lateTake
  refine (State.updRef_rd _ _ _ _).trans ?_
  rw [if_neg (fun c => absurd c.2.2 (Nat.not_lt.2 h))]

section
variable (s : State) {tgt : Nat} (htgt : tgt < 10) (phase : Int)

theorem State.switchMove_rd {a : Nat} (ha : ∀ k, a ≠ R.REF_STATUS k) : (s.switchMove tgt phase).rd a = (s.switchMoved tgt phase).rd a := by
  rw [State.switchMove_eq]
  exact State.forN_keeps (fun t => t.rd a) 10 _ (fun k _ t => t.lateTake_rd _ k (ha k)) _

theorem State.switchMove_low {a : Nat} (ha : a < 0x60100) : (s.switchMove tgt phase).rd a = (s.switchMoved tgt phase).rd a :=
  s.switchMove_rd phase (fun k e => by unfold R.REF_STATUS at e; omega)

/-- The target's own state is not looked at again. -/
theorem State.switchMove_target : (s.switchMove tgt phase).refState tgt = (s.switchMoved tgt phase).refState tgt := by
  rw [State.switchMove_eq]
  have keep := State.forN_inv (fun t => t.rd (R.REF_CFG tgt) = (s.switchMoved tgt phase).rd (R.REF_CFG tgt)
      ∧ t.rd (R.REF_STATUS tgt) = (s.switchMoved tgt phase).rd (R.REF_STATUS tgt)) 10
    (fun k t => t.lateTake ((s.switchMoved tgt phase).get (R.REF_CFG_Rank tgt)) k) (fun k _ t ⟨hcfg, hst⟩ => ?_) ⟨rfl, rfl⟩
  · exact State.get_congr (f := R.REF_STATUS_State tgt) keep.2
  · have hrank : t.get (R.REF_CFG_Rank tgt) = (s.switchMoved tgt phase).get (R.REF_CFG_Rank tgt) := State.get_congr (f := R.REF_CFG_Rank tgt) hcfg
    have hne : R.REF_CFG tgt ≠ R.REF_STATUS k := by unfold R.REF_CFG R.REF_STATUS; omega
    refine ⟨(t.lateTake_rd _ k hne).trans hcfg, ?_⟩
    by_cases hk : tgt = k
    · subst hk
      exact (State.lateTake_stays hrank.ge _).trans hst
    · exact (t.lateTake_rd _ k (by unfold R.REF_STATUS; omega)).trans hst

theorem State.switchMoved_rd {a : Nat} (ha : a ∉ [R.BUILDOUT_LO, R.BUILDOUT_HI, R.RD_STATUS, R.CNT_SWITCH]) : (s.switchMoved tgt phase).rd a = s.rd a := by
  simp only [List.mem_cons, List.not_mem_nil, or_false, not_or] at ha
  obtain ⟨hlo, hhi, hst, hcnt⟩ := ha
  unfold State.switchMoved
  exact (State.rd_bump_ne _ hcnt).trans ((State.rd_put_ne _ hst _).trans ((State.select_rd _ _ _).trans ((State.rd_put_ne _ hst _).trans
    ((State.rd_put_ne _ hst _).trans ((State.rd_put_ne _ hhi _).trans (s.rd_put_ne hlo _))))))

theorem State.switchMove_keeps {γ : Type} {p : State → γ} (h : BlindDpll p) : p (s.switchMove tgt phase) = p (s.switchMoved tgt phase) := by
  rw [State.switchMove_eq]
  exact State.forN_keeps p 10 _ (fun k _ t => t.lateTake_keeps h _ k) _

theorem State.switchMoved_keeps {γ : Type} {p : State → γ} (hput : ∀ (t : State) (f : Fld) (v : Nat), p (t.put f v) = p t)
    (htx : ∀ (t : State) (x : List (Nat × TxStream)), p { t with tx := x } = p t) : p (s.switchMoved tgt phase) = p s := by
  have hsel : ∀ t : State, p (t.select tgt) = p t := fun t => by
    unfold State.select
    extract_lets old u
    split
    · exact hput _ _ _
    · exact (htx u _).trans (hput _ _ _)
  unfold State.switchMoved
  exact (hput _ _ _).trans ((hput _ _ _).trans ((hsel _).trans ((hput _ _ _).trans ((hput _ _ _).trans (hput _ _ _)))))

include htgt

/-- The loop is Locked to its target, the measured phase is the build-out, and the switch is counted (R59). -/
theorem State.switchMove_shows : (s.switchMove tgt phase).get R.RD_STATUS_State = 2 ∧ (s.switchMove tgt phase).get R.RD_STATUS_Selected = tgt
    ∧ (s.switchMove tgt phase).get64 R.BUILDOUT_LO_Bo R.BUILDOUT_HI_Bo = ofSigned 64 phase
    ∧ (s.switchMove tgt phase).get R.CNT_SWITCH_Count = (s.get R.CNT_SWITCH_Count + 1) % 2 ^ 32 := by
  have status : ∀ {f : Fld}, f.reg = R.RD_STATUS → (s.switchMove tgt phase).get f =
      ((((s.put64I R.BUILDOUT_LO_Bo R.BUILDOUT_HI_Bo phase).put R.RD_STATUS_State 2).select tgt).put R.RD_STATUS_Target 0xF).get f := by
    intro f hf
    rw [State.get_congr (f := f) (s.switchMove_low phase (by rw [hf]; decide))]
    exact State.get_put_reg _ (by rw [hf]; decide) _
  refine ⟨?_, ?_, ?_, ?_⟩
  · rw [status rfl, State.get_put_ne _ (by decide) (by decide), State.get_congr (State.select_rd _ _ _), State.get_put_ne _ (by decide) (by decide)]
    exact State.get_put_fit _ (by decide) (w := 3) rfl (by decide)
  · rw [status rfl, State.get_put_ne _ (by decide) (by decide), State.get_congr (State.select_rd _ _ _)]
    exact State.get_put_fit _ (by decide) (w := 4) rfl (by omega)
  · have keep : ∀ {a : Nat}, a < 0x60100 → a ∉ [R.RD_STATUS, R.CNT_SWITCH] →
        (s.switchMove tgt phase).rd a = (s.put64I R.BUILDOUT_LO_Bo R.BUILDOUT_HI_Bo phase).rd a := by
      intro a ha hn
      simp only [List.mem_cons, List.not_mem_nil, or_false, not_or] at hn
      refine (s.switchMove_low phase ha).trans ?_
      unfold State.switchMoved
      exact (State.rd_bump_ne _ hn.2).trans ((State.rd_put_ne _ hn.1 _).trans ((State.select_rd _ _ _).trans ((State.rd_put_ne _ hn.1 _).trans
        (State.rd_put_ne _ hn.1 _))))
    exact (State.get64_congr (keep (by decide) (by decide)) (keep (by decide) (by decide))).trans
      (s.get64_put64I (by decide) rfl (by decide) rfl (by decide) phase)
  · have before : ((((s.put64I R.BUILDOUT_LO_Bo R.BUILDOUT_HI_Bo phase).put R.RD_STATUS_State 2).select tgt).put R.RD_STATUS_Target 0xF).get R.CNT_SWITCH_Count
        = s.get R.CNT_SWITCH_Count := by
      rw [State.get_put_reg _ (by decide), State.get_congr (State.select_rd _ _ _), State.get_put_reg _ (by decide), State.get_put_reg _ (by decide)]
      exact State.get_put64_ne _ (by decide) (by decide) _
    rw [State.get_congr (f := R.CNT_SWITCH_Count) (s.switchMove_low phase (by decide)), ← before]
    exact State.get_bump_same _ _ (by decide)

end

-- ## Selection in Locked

/-- Selection among Qualified references writes nothing but what it finds of their disagreement (R58, R60). -/
theorem State.selection_keeps {γ : Type} {p : State → γ} (hdis : ∀ (t : State) (v : Nat), p (t.put R.RD_STATUS_Disagree v) = p t)
    (hcnt : ∀ t : State, p (t.bump R.CNT_DISAGREE_Count) = p t) {s : State} (hq : s.qualified ≠ []) : p s.selection.2 = p s := by
  unfold State.selection
  split
  split
  · exact hdis _ _
  split
  · rfl
  extract_lets cs s0 ws top dis s1 s2 sel
  rw [if_neg (show ¬ cs = [] from hq)]
  have h1 : p s1 = p s := by
    dsimp only [s1]
    split
    · exact hcnt _
    · rfl
  have h2 : p s2 = p s := (hdis _ _).trans h1
  split <;> exact h2

/-- In Locked on a Qualified reference the DPLL starts a switch or stays as it is. -/
theorem State.dpllNext_locked {s : State} (hst : s.get R.RD_STATUS_State = 2) (hok : s.refState (s.get R.RD_STATUS_Selected) = 3) (best : Option Nat)
    (phase : Option Int) : s.dpllNext best phase = s ∨ ∃ k, s.dpllNext best phase = s.switchStart k := by
  unfold State.dpllNext
  extract_lets st sel selOk
  split
  · exact .inl rfl
  have locked : st = 2 := hst
  rw [if_neg (show ¬ st = 0 by omega), if_neg (show ¬ st = 1 by omega)]
  split
  · split
    · exact .inl rfl
    · exact .inr ⟨_, rfl⟩
  · exact .inl (if_pos (decide_eq_true hok))

theorem State.switchStart_selected (s : State) (k : Nat) : (s.switchStart k).get R.RD_STATUS_Selected = s.get R.RD_STATUS_Selected := by
  unfold State.switchStart
  extract_lets s1 s2 r3 s3
  have h2 : s2.get R.RD_STATUS_Selected = s.get R.RD_STATUS_Selected := by
    dsimp only [s2, s1]
    rw [State.get_put_ne _ (by decide) (by decide), State.get_put_ne _ (by decide) (by decide), State.get_put_reg _ (by decide)]
  have h3 : s3.get R.RD_STATUS_Selected = s.get R.RD_STATUS_Selected := (State.get_congr (s2.withReed_rd s3.reed _)).trans h2
  exact (State.forN_keeps (fun t => t.get R.RD_STATUS_Selected) 10 _ (fun i _ t => State.get_congr (t.updRef_rd i _ _)) s3).trans h3

-- ## The commit

/-- No mode is held back any more (R68). -/
def State.modeFree (s : State) : State := { s with reed := { s.reed with modeHeld := none } }

/-- A mode that was written during the switch and names no reference comes into force at its end. -/
abbrev State.modeDue (s : State) : Prop := s.reed.modeHeld.isSome = true ∧ 2 ≤ s.get R.RD_CTRL_Mode

/-- The loop has moved to the switch's target, and no mode is held back. -/
def State.switchDone (s : State) (phase : Int) : State := (s.switchMove (s.get R.RD_STATUS_Target) phase).modeFree

theorem State.modeFree_rd (s : State) (a : Nat) : s.modeFree.rd a = s.rd a := s.withReed_rd _ a

theorem State.modeFree_get (s : State) (f : Fld) : s.modeFree.get f = s.get f := State.get_congr (s.modeFree_rd _)

theorem State.modeFree_get64 (s : State) (lo hi : Fld) : s.modeFree.get64 lo hi = s.get64 lo hi := State.get64_congr (s.modeFree_rd _) (s.modeFree_rd _)

theorem State.modeFree_time (s : State) : s.modeFree.time = s.time := rfl

theorem State.modeFree_refState (s : State) (k : Nat) : s.modeFree.refState k = s.refState k := State.get_congr (f := R.REF_STATUS_State k) (s.modeFree_rd _)

section
variable (s : State) (phase : Int)

theorem State.switchMove_time (tgt : Nat) : (s.switchMove tgt phase).time = s.time :=
  (s.switchMove_keeps phase blindDpll_time).trans (s.switchMoved_keeps phase (fun t f v => t.put_time f v) (fun _ _ => rfl))

theorem State.switchMove_modeHeld (tgt : Nat) : (s.switchMove tgt phase).reed.modeHeld = s.reed.modeHeld :=
  (s.switchMove_keeps phase blindDpll_modeHeld).trans
    (s.switchMoved_keeps phase (p := fun t => t.reed.modeHeld) (fun t f v => congrArg ReedSt.modeHeld (t.put_reed f v)) (fun _ _ => rfl))

theorem State.switchDone_mode : (s.switchDone phase).get R.RD_CTRL_Mode = s.get R.RD_CTRL_Mode :=
  State.get_congr (f := R.RD_CTRL_Mode) ((State.modeFree_rd _ _).trans ((s.switchMove_low phase (by decide)).trans (s.switchMoved_rd phase (by decide))))

theorem State.switchDone_time : (s.switchDone phase).time = s.time := (State.modeFree_time _).trans (s.switchMove_time phase _)

theorem State.switchDone_modeHeld : (s.switchDone phase).reed.modeHeld = none := rfl

theorem State.switchCommit_eq : s.switchCommit phase = if s.modeDue then (s.switchDone phase).modeTake else (s.switchDone phase).runSelection none := by
  have hdue : (s.switchMove (s.get R.RD_STATUS_Target) phase).reed.modeHeld.isSome = true ∧ 2 ≤ (s.switchDone phase).get R.RD_CTRL_Mode ↔ s.modeDue := by
    rw [s.switchMove_modeHeld phase, s.switchDone_mode phase]
  rw [← if_congr hdue rfl rfl]
  rfl

variable {s} (htgt : s.get R.RD_STATUS_Target < 10) (hq : s.refState (s.get R.RD_STATUS_Target) = 3)
include htgt

theorem State.switchDone_shows : (s.switchDone phase).get R.RD_STATUS_State = 2 ∧ (s.switchDone phase).get R.RD_STATUS_Selected = s.get R.RD_STATUS_Target
    ∧ (s.switchDone phase).get64 R.BUILDOUT_LO_Bo R.BUILDOUT_HI_Bo = ofSigned 64 phase
    ∧ (s.switchDone phase).get R.CNT_SWITCH_Count = (s.get R.CNT_SWITCH_Count + 1) % 2 ^ 32 := by
  obtain ⟨hst, hsel, hbo, hcnt⟩ := s.switchMove_shows htgt phase
  unfold State.switchDone
  rw [State.modeFree_get, State.modeFree_get, State.modeFree_get, State.modeFree_get64]
  exact ⟨hst, hsel, hbo, hcnt⟩

include hq

theorem State.switchDone_target : (s.switchDone phase).refState (s.get R.RD_STATUS_Target) = 3 := by
  have hne : R.REF_STATUS (s.get R.RD_STATUS_Target) ∉ [R.BUILDOUT_LO, R.BUILDOUT_HI, R.RD_STATUS, R.CNT_SWITCH] :=
    (by decide : ∀ k, k < 10 → R.REF_STATUS k ∉ [R.BUILDOUT_LO, R.BUILDOUT_HI, R.RD_STATUS, R.CNT_SWITCH]) _ htgt
  refine (State.modeFree_refState _ _).trans ((s.switchMove_target phase).trans ?_)
  exact (State.get_congr (f := R.REF_STATUS_State _) (s.switchMoved_rd phase hne)).trans hq

end

section
variable {s : State} {tgt : Nat} (htgt : tgt < 10) (hst : s.get R.RD_STATUS_State = 2) (hsel : s.get R.RD_STATUS_Selected = tgt) (hq : s.refState tgt = 3)
include htgt hst hsel hq

/-- A selection in Locked on a Qualified reference starts a switch at the most. -/
theorem State.runSelection_locked (phase : Option Int) :
    s.runSelection phase = s.selection.2 ∨ ∃ k, s.runSelection phase = s.selection.2.switchStart k := by
  have hcand : s.qualified ≠ [] := List.ne_nil_of_mem (a := tgt) (List.mem_filter.2 ⟨List.mem_range.2 htgt, decide_eq_true hq⟩)
  have keep : ∀ {f : Fld}, f.reg ≠ R.CNT_DISAGREE → (f.reg ≠ R.RD_STATUS ∨ f.lsb + f.wid ≤ R.RD_STATUS_Disagree.lsb) → s.selection.2.get f = s.get f :=
    fun {f} hc hd => State.selection_keeps (p := fun t => t.get f) (fun t v => t.get_put_ne (by decide) (hd.imp_right .inl) v)
      (fun t => t.get_bump_ne (by decide) (.inl hc)) hcand
  have hne : R.REF_STATUS tgt ≠ R.CNT_DISAGREE ∧ R.REF_STATUS tgt ≠ R.RD_STATUS :=
    (by decide : ∀ k, k < 10 → R.REF_STATUS k ≠ R.CNT_DISAGREE ∧ R.REF_STATUS k ≠ R.RD_STATUS) tgt htgt
  have hsel' : s.selection.2.get R.RD_STATUS_Selected = tgt := (keep (by decide) (.inr (by decide))).trans hsel
  refine State.dpllNext_locked ((keep (by decide) (.inr (by decide))).trans hst) ?_ s.selection.1 phase
  rw [hsel']
  exact (keep (f := R.REF_STATUS_State tgt) hne.1 (.inl hne.2)).trans hq

theorem State.runSelection_locked_keeps {γ : Type} {p : State → γ} (h : BlindDpll p) (phase : Option Int) : p (s.runSelection phase) = p s := by
  have hcand : s.qualified ≠ [] := List.ne_nil_of_mem (a := tgt) (List.mem_filter.2 ⟨List.mem_range.2 htgt, decide_eq_true hq⟩)
  have keep : p s.selection.2 = p s := State.selection_keeps (fun t v => h.put t _ v (.inl (by decide))) (fun t => h.put t _ _ (.inl (by decide))) hcand
  obtain e | ⟨k, e⟩ := State.runSelection_locked htgt hst hsel hq phase
  · rw [e, keep]
  · rw [e, h.switchStart, keep]

theorem State.runSelection_locked_selected (phase : Option Int) : (s.runSelection phase).get R.RD_STATUS_Selected = tgt := by
  have hcand : s.qualified ≠ [] := List.ne_nil_of_mem (a := tgt) (List.mem_filter.2 ⟨List.mem_range.2 htgt, decide_eq_true hq⟩)
  have keep : s.selection.2.get R.RD_STATUS_Selected = tgt :=
    (State.selection_keeps (p := fun t => t.get R.RD_STATUS_Selected) (fun t v => t.get_put_ne (by decide) (by decide) v)
      (fun t => t.get_bump_ne (by decide) (by decide)) hcand).trans hsel
  obtain e | ⟨k, e⟩ := State.runSelection_locked htgt hst hsel hq phase
  · rw [e, keep]
  · rw [e, State.switchStart_selected, keep]

end

-- ## The end of a switch

section
variable {s : State} (phase : Int) (htgt : s.get R.RD_STATUS_Target < 10) (hq : s.refState (s.get R.RD_STATUS_Target) = 3)
include htgt hq

theorem State.switchCommit_keeps {γ : Type} {p : State → γ} (h : BlindDpll p) : p (s.switchCommit phase) = p (s.switchDone phase) := by
  obtain ⟨hst, hsel, -, -⟩ := State.switchDone_shows phase htgt
  rw [State.switchCommit_eq]
  split
  · exact h.modeTake _
  · exact State.runSelection_locked_keeps htgt hst hsel (State.switchDone_target phase htgt hq) h none

theorem State.switchCommit_selected (h : ¬ s.modeDue) : (s.switchCommit phase).get R.RD_STATUS_Selected = s.get R.RD_STATUS_Target := by
  obtain ⟨hst, hsel, -, -⟩ := State.switchDone_shows phase htgt
  rw [State.switchCommit_eq, if_neg h]
  exact State.runSelection_locked_selected htgt hst hsel (State.switchDone_target phase htgt hq) none

omit hq in
/-- Mode 2 or 3 written during the switch: holdover or free run, with no reference selected. -/
theorem State.switchCommit_mode (h : s.modeDue) : (s.switchCommit phase).get R.RD_STATUS_Selected = 15
    ∧ (s.switchCommit phase).get R.RD_STATUS_State = (if s.get R.RD_CTRL_Mode = 2 then 4 else 0) := by
  obtain ⟨hst, -, -, -⟩ := State.switchDone_shows phase htgt
  have hmode := s.switchDone_mode phase
  have hlt : s.get R.RD_CTRL_Mode < 4 := Nat.mod_lt _ (by decide)
  rw [State.switchCommit_eq, if_pos h, State.modeTake_eq, hmode]
  by_cases h2 : s.get R.RD_CTRL_Mode = 2
  · rw [if_pos h2, if_pos h2, if_neg (by rw [hst]; decide)]
    exact ⟨(State.holdoverEnter_shows _).2, (State.holdoverEnter_shows _).1⟩
  · have h3 : s.get R.RD_CTRL_Mode = 3 := by have := h.2; omega
    rw [if_neg h2, if_neg h2, if_pos h3]
    exact ⟨(State.freeRun_shows _).2.1, (State.freeRun_shows _).1⟩

end

end Sys2Proof.Machine
end

section
/-!
PROOF. The history of Locked seconds and the estimate of a holdover (R64, R65, R332).
-/
namespace Sys2Proof.Machine

-- ## The synthesizers' use (R332)

theorem State.healthSynth_off {s : State} (h : s.is R.TP_CTRL_Enable = false) (use : List Nat) : s.healthSynth use = s := if_pos (by rw [h]; rfl)

theorem State.healthSynth_on {s : State} (h : s.is R.TP_CTRL_Enable = true) (use : List Nat) :
    (s.healthSynth use).obj 0xA024 1 = use.getD 0 0 % 65536 ∧ (s.healthSynth use).obj 0xA024 2 = use.getD 1 0 % 65536 := by
  have e : ∀ i j, (s.healthSynth use).obj i j = ((s.setObj 0xA024 1 (use.getD 0 0 % 65536)).setObj 0xA024 2 (use.getD 1 0 % 65536)).obj i j := by
    intro i j
    unfold State.healthSynth
    rw [if_neg (by rw [h]; decide)]
    rfl
  exact ⟨(e _ _).trans ((State.obj_setObj_ne _ _ _ _ _ _ (by decide)).trans (State.obj_setObj_same _ _ _ _)), (e _ _).trans (State.obj_setObj_same _ _ _ _)⟩

/-- Nothing but objects and the day's greatest use changes. -/
theorem State.healthSynth_keeps {γ : Type} {p : State → γ} (hobjs : ∀ (t : State) (x : List (Nat × Nat)), p { t with objs := x } = p t)
    (hday : ∀ (t : State) (n : Nat), p { t with day := { t.day with synth := n } } = p t) (s : State) (use : List Nat) : p (s.healthSynth use) = p s := by
  unfold State.healthSynth
  split
  · rfl
  · exact (hday _ _).trans ((hobjs _ _).trans (hobjs s _))

theorem State.healthSynth_rest (s : State) (use : List Nat) : ({ s.healthSynth use with objs := s.objs, day := s.day } : State) = s := by
  unfold State.healthSynth
  split <;> rfl

-- ## A second in Locked

/-- The end of a second in Locked: a second after the entry before it at least. -/
def State.historySecond (s : State) : State := match s.reed.hist with
  | [] => s
  | e :: _ => s.xrefTo (e.time + 1000 * cclkMs)

/-- The history with the entry of the second that ends now. -/
def State.historyNow (s : State) : List HistEnt := (⟨s.getI R.DPLL_FREQ_Freq, s.getI (R.TEMP_Temp 0), s.xref⟩ :: s.reed.hist).take 3600

/-- A history taken up: HistValid, the estimate shown, and the day's count of seconds. -/
def State.historyStore (s : State) (h : List HistEnt) : State :=
  let s := { s with reed := { s.reed with hist := h } }
  (s.putB R.RD_STATUS_HistValid (decide (h.length ≥ 10))).holdShow.dayTake

theorem State.historySecond_cases (s : State) : s.historySecond = s ∨ ∃ t, s.historySecond = s.xrefTo t := by
  unfold State.historySecond
  split
  · exact .inl rfl
  · exact .inr ⟨_, rfl⟩

theorem State.historySecond_keeps {γ : Type} {p : State → γ} (h : ∀ (t : State) (n : Nat), p { t with xref := n } = p t) (s : State) :
    p s.historySecond = p s := by
  obtain e | ⟨t, e⟩ := s.historySecond_cases
  · rw [e]
  · rw [e]
    exact h s _

theorem State.historySecond_xref (s : State) : (s.reed.hist = [] → s.historySecond.xref = s.xref)
    ∧ ∀ e es, s.reed.hist = e :: es → s.historySecond.xref = max s.xref (e.time + 625000000) := by
  unfold State.historySecond
  constructor
  · intro h
    rw [h]
  · intro e es h
    rw [h]
    rfl

theorem State.holdShow_xref (s : State) : s.holdShow.xref = s.xref := by
  unfold State.holdShow
  split
  · rfl
  · exact s.putSat_xref _ _

theorem State.holdShow_day (s : State) : s.holdShow.day = s.day := by
  unfold State.holdShow
  split
  · rfl
  · exact s.putSat_day _ _

theorem State.historyStore_shows (s : State) (h : List HistEnt) : (s.historyStore h).reed.hist = h ∧ (s.historyStore h).xref = s.xref
    ∧ (s.historyStore h).is R.RD_STATUS_HistValid = decide (10 ≤ h.length) ∧ (s.historyStore h).day.secs = s.day.secs + 1 := by
  unfold State.historyStore
  extract_lets r s1
  generalize hs2 : s1.putB R.RD_STATUS_HistValid (decide (h.length ≥ 10)) = s2
  have hreed : s2.reed.hist = h := by rw [← hs2]; exact congrArg ReedSt.hist (State.put_reed _ _ _)
  have hxref : s2.xref = s.xref := by rw [← hs2]; exact State.put_xref _ _ _
  have hday : s2.day = s.day := by rw [← hs2]; exact State.put_day _ _ _
  have hvalid : s2.is R.RD_STATUS_HistValid = decide (10 ≤ h.length) := by rw [← hs2]; exact State.is_putB_same _ (by decide) rfl _
  refine ⟨?_, ?_, ?_, ?_⟩
  · rw [← hreed, ← s2.holdShow_reed]
    rfl
  · rw [← hxref, ← s2.holdShow_xref]
    rfl
  · rw [← hvalid]
    exact State.is_congr (f := R.RD_STATUS_HistValid) (s2.holdShow_rd (by decide))
  · rw [← hday, ← s2.holdShow_day]
    rfl

/-- A second in Locked, its entry taken up. -/
def State.historyTake (s : State) : State := s.historySecond.historyStore s.historySecond.historyNow

theorem State.historyTake_shows (s : State) :
    s.historyTake.reed.hist = (⟨s.getI R.DPLL_FREQ_Freq, s.getI (R.TEMP_Temp 0), s.historyTake.xref⟩ :: s.reed.hist).take 3600
    ∧ (s.reed.hist = [] → s.historyTake.xref = s.xref) ∧ (∀ e es, s.reed.hist = e :: es → s.historyTake.xref = max s.xref (e.time + 625000000))
    ∧ s.historyTake.is R.RD_STATUS_HistValid = decide (9 ≤ s.reed.hist.length) ∧ s.historyTake.day.secs = s.day.secs + 1 := by
  obtain ⟨hhist, hxref, hvalid, hsecs⟩ := s.historySecond.historyStore_shows s.historySecond.historyNow
  obtain ⟨hnone, hsome⟩ := s.historySecond_xref
  have hnow : s.historySecond.historyNow = (⟨s.getI R.DPLL_FREQ_Freq, s.getI (R.TEMP_Temp 0), s.historySecond.xref⟩ :: s.reed.hist).take 3600 := by
    unfold State.historyNow
    rw [State.historySecond_keeps (p := fun t => t.getI R.DPLL_FREQ_Freq) (fun _ _ => rfl), State.historySecond_keeps (p := fun t => t.getI (R.TEMP_Temp 0)) (fun _ _ => rfl),
      State.historySecond_keeps (p := fun t => t.reed.hist) (fun _ _ => rfl)]
  have hday : s.historySecond.day.secs = s.day.secs := State.historySecond_keeps (p := fun t => t.day.secs) (fun _ _ => rfl) s
  unfold State.historyTake
  refine ⟨?_, fun h => hxref.trans (hnone h), fun e es h => hxref.trans (hsome e es h), ?_, by rw [hsecs, hday]⟩
  · rw [hhist, hxref, hnow]
  · rw [hvalid, hnow, decide_eq_decide, List.length_take, List.length_cons]
    omega

-- ## A second in Holdover

section
variable (s : State)

/-- The second of the holdover that ends now. -/
def State.holdSecond : Nat := s.get R.HOLD_STATUS_Seconds + 1

/-- The measured ageing rate is applied (R64). -/
def State.holdAged : Bool := s.is R.HOLD_CFG_AgeCorrect && s.is R.TP_STATUS_AgeValid

theorem State.holdAged_iff : s.holdAged = true ↔ s.is R.HOLD_CFG_AgeCorrect = true ∧ s.is R.TP_STATUS_AgeValid = true := Bool.and_eq_true_iff

/-- The ageing that the estimate counts: the rate's uncertainty where the rate is applied, the rate itself otherwise (R65). -/
def State.holdAgeing : Int := if s.holdAged then s.get R.AGE_UNC_Unc else (s.getI R.AGE_RATE_Rate).natAbs

/-- The estimate at the end of the second, in units of 1/(1,382,400,000 × holdN) ns (R65). -/
def State.holdEst : Int :=
  s.reed.est + (s.get R.HOLD_FU_Fu : Int) * 1382400 * s.reed.holdN + s.holdAgeing * s.holdSecond * 16 * s.reed.holdN
    + s.getI R.AGE_TC_Tc * ((s.getI (R.TEMP_Temp 0) * s.reed.holdN - s.reed.tSum).natAbs : Int) * 86400

/-- A nanosecond in these units. -/
def State.holdUnit : Nat := 1382400000 * s.reed.holdN

/-- The holdover's frequency: f0 with the known ageing (R64). -/
def State.holdFreqNow : Int :=
  divRoundAway (s.reed.f0Sum * 86400 + (if s.holdAged then s.getI R.AGE_RATE_Rate * s.holdSecond * s.reed.holdN else 0)) (s.reed.holdN * 86400)

/-- The second is over: its time and the estimate. -/
def State.holdBegun (e : Int) (k : Nat) : State :=
  { s.xrefTo (s.reed.heldAt + k * 1000 * cclkMs) with reed := { s.reed with est := e }, day := { s.day with hsecs := s.day.hsecs + 1 } }

/-- What a holdover's registers show at the end of a second. -/
def State.holdShown (k ns : Nat) (f : Int) : State := ((s.putCap R.HOLD_STATUS_Seconds k).putCap R.HOLD_EST_Ns ns).putSat R.HOLD_FREQ_Freq f

/-- An estimate above HOLD_LIMIT is out of spec, and counted once (R65). -/
def State.holdJudged (e : Int) (unit : Nat) : State :=
  if e > (s.get R.HOLD_LIMIT_Ns * unit : Nat) ∧ !s.is R.HOLD_STATUS_OutOfSpec then (s.put R.HOLD_STATUS_OutOfSpec 1).bump R.CNT_HOLD_OOS_Count else s

/-- A second in Holdover. -/
def State.holdTick : State :=
  ((s.holdBegun s.holdEst s.holdSecond).holdShown s.holdSecond (s.holdEst / s.holdUnit).toNat s.holdFreqNow).holdJudged s.holdEst s.holdUnit

theorem State.holdBegun_rd (e : Int) (k a : Nat) : (s.holdBegun e k).rd a = s.rd a := rfl

theorem State.holdShown_rd (k ns : Nat) (f : Int) {a : Nat} (h : a ∉ [R.HOLD_STATUS, R.HOLD_EST, R.HOLD_FREQ]) : (s.holdShown k ns f).rd a = s.rd a := by
  simp only [List.mem_cons, List.not_mem_nil, or_false, not_or] at h
  obtain ⟨hst, hest, hfreq⟩ := h
  exact (State.rd_put_ne _ hfreq _).trans ((State.rd_put_ne _ hest _).trans (s.rd_put_ne hst _))

theorem State.get_putCap {f : Fld} {w v : Nat} (hf : f.lsb + f.wid ≤ 32) (hw : f.wid = w) : (s.putCap f v).get f = min v (2 ^ w - 1) := by
  unfold State.putCap
  rw [hw]
  exact State.get_put_fit s hf hw (lt_of_le_of_lt (Nat.min_le_right _ _) (Nat.sub_lt (Nat.two_pow_pos w) Nat.one_pos))

theorem State.holdShown_reads (k ns : Nat) (f : Int) : (s.holdShown k ns f).get R.HOLD_STATUS_Seconds = min k (2 ^ 31 - 1)
    ∧ (s.holdShown k ns f).get R.HOLD_EST_Ns = min ns (2 ^ 32 - 1) ∧ (s.holdShown k ns f).getI R.HOLD_FREQ_Freq = satSigned 32 f
    ∧ (s.holdShown k ns f).is R.HOLD_STATUS_OutOfSpec = s.is R.HOLD_STATUS_OutOfSpec := by
  unfold State.holdShown
  refine ⟨?_, ?_, State.getI_putSat _ (by decide) rfl f, ?_⟩
  · exact (State.get_put_reg _ (by decide) _).trans ((State.get_put_reg _ (by decide) _).trans (s.get_putCap (by decide) rfl))
  · exact (State.get_put_reg _ (by decide) _).trans (State.get_putCap _ (by decide) rfl)
  · exact (State.is_put_ne _ (by decide) (by decide) _).trans ((State.is_put_ne _ (by decide) (by decide) _).trans (s.is_put_ne (by decide) (by decide) _))

theorem State.holdJudged_get (e : Int) (unit : Nat) {f : Fld} (hc : f.reg ≠ R.CNT_HOLD_OOS)
    (h : f.reg ≠ R.HOLD_STATUS ∨ R.HOLD_STATUS_OutOfSpec.lsb + R.HOLD_STATUS_OutOfSpec.wid ≤ f.lsb) : (s.holdJudged e unit).get f = s.get f := by
  unfold State.holdJudged
  split
  · rw [State.get_bump_ne _ (by decide) (.inl hc), State.get_put_ne _ (by decide) (h.imp_right .inr)]
  · rfl

theorem State.holdJudged_reed (e : Int) (unit : Nat) : (s.holdJudged e unit).reed = s.reed := by
  unfold State.holdJudged
  split
  · exact (State.bump_reed _ _).trans (s.put_reed _ _)
  · rfl

theorem State.holdJudged_outOfSpec (e : Int) (unit : Nat) :
    (s.holdJudged e unit).is R.HOLD_STATUS_OutOfSpec = (s.is R.HOLD_STATUS_OutOfSpec || decide ((s.get R.HOLD_LIMIT_Ns * unit : Nat) < e)) := by
  unfold State.holdJudged
  by_cases h : ((s.get R.HOLD_LIMIT_Ns * unit : Nat) : Int) < e
  · rw [decide_eq_true h, Bool.or_true]
    cases hout : s.is R.HOLD_STATUS_OutOfSpec
    · rw [if_pos ⟨h, rfl⟩]
      exact (State.is_bump_ne _ (by decide) (by decide)).trans (State.is_put_one _ (by decide) rfl)
    · rw [if_neg (by simp), hout]
  · rw [decide_eq_false h, Bool.or_false, if_neg (fun c => h c.1)]

theorem State.holdTick_shows : s.holdTick.reed.est = s.holdEst ∧ s.holdTick.get R.HOLD_STATUS_Seconds = min s.holdSecond (2 ^ 31 - 1)
    ∧ s.holdTick.get R.HOLD_EST_Ns = min (s.holdEst / s.holdUnit).toNat (2 ^ 32 - 1) ∧ s.holdTick.getI R.HOLD_FREQ_Freq = satSigned 32 s.holdFreqNow
    ∧ s.holdTick.is R.HOLD_STATUS_OutOfSpec = (s.is R.HOLD_STATUS_OutOfSpec || decide ((s.get R.HOLD_LIMIT_Ns * s.holdUnit : Nat) < s.holdEst)) := by
  have hbegun := s.holdBegun_rd s.holdEst s.holdSecond
  have hest : (s.holdBegun s.holdEst s.holdSecond).reed.est = s.holdEst := rfl
  unfold State.holdTick
  generalize s.holdBegun s.holdEst s.holdSecond = u at hbegun hest
  obtain ⟨hsec, hns, hfreq, hout⟩ := u.holdShown_reads s.holdSecond (s.holdEst / s.holdUnit).toNat s.holdFreqNow
  have hlimit := u.holdShown_rd s.holdSecond (s.holdEst / s.holdUnit).toNat s.holdFreqNow (a := R.HOLD_LIMIT) (by decide)
  have hreed : (u.holdShown s.holdSecond (s.holdEst / s.holdUnit).toNat s.holdFreqNow).reed = u.reed :=
    (State.putSat_reed _ _ _).trans ((State.putCap_reed _ _ _).trans (u.putCap_reed _ _))
  generalize u.holdShown s.holdSecond (s.holdEst / s.holdUnit).toNat s.holdFreqNow = w at hsec hns hfreq hout hlimit hreed
  refine ⟨?_, (w.holdJudged_get _ _ (by decide) (by decide)).trans hsec, (w.holdJudged_get _ _ (by decide) (by decide)).trans hns, ?_, ?_⟩
  · rw [w.holdJudged_reed, hreed, hest]
  · rw [← hfreq]
    exact congrArg (toSigned 32) (w.holdJudged_get _ _ (f := R.HOLD_FREQ_Freq) (by decide) (by decide))
  · rw [w.holdJudged_outOfSpec, hout, State.get_congr (f := R.HOLD_LIMIT_Ns) (hlimit.trans (hbegun _)), State.is_congr (f := R.HOLD_STATUS_OutOfSpec) (hbegun _)]

end

end Sys2Proof.Machine
end

section
/-!
PROOF. Lock and loss of lock, switches, and holdover (R56, R57, R59, R64, R65, R68, R332): the statement.
-/
namespace Sys2Proof.Machine

theorem State.get64I_congr {s t : State} {lo hi : Fld} (hlo : t.rd lo.reg = s.rd lo.reg) (hhi : t.rd hi.reg = s.rd hi.reg) :
    t.get64I lo hi = s.get64I lo hi := congrArg (toSigned 64) (State.get64_congr hlo hhi)

section
variable {s : State} (hs : Ready s)
include hs

theorem exec_dpllAcquireLock (err : Int) : exec (.dpllAcquireLock err) s =
    (if s.get R.RD_STATUS_State = 1 ∧ err.natAbs ≤ s.selWindow then s.put R.RD_STATUS_State 2 else s).done := by
  show execDpllAcquireLock err s = _
  unfold execDpllAcquireLock
  rw [State.live_live _ _ hs]

theorem exec_dpllLockLoss (err : Int) : exec (.dpllLockLoss err) s =
    (if s.get R.RD_STATUS_State = 2 ∧ 4 * s.selWindow < err.natAbs then
      (if s.is R.TIME_CTRL_Run then
        (s.put R.RD_STATUS_State 1).put64I R.BUILDOUT_LO_Bo R.BUILDOUT_HI_Bo (s.get64I R.BUILDOUT_LO_Bo R.BUILDOUT_HI_Bo + err)
      else s.put R.RD_STATUS_State 1)
    else s).done := by
  have hbo : (s.put R.RD_STATUS_State 1).get64I R.BUILDOUT_LO_Bo R.BUILDOUT_HI_Bo = s.get64I R.BUILDOUT_LO_Bo R.BUILDOUT_HI_Bo :=
    State.get64I_congr (s.rd_put_ne (by decide) 1) (s.rd_put_ne (by decide) 1)
  rw [← hbo]
  show execDpllLockLoss err s = _
  unfold execDpllLockLoss
  rw [State.live_live _ _ hs]

theorem exec_switchCommit (phase : Int) : exec (.switchCommit phase) s =
    (if s.get R.RD_STATUS_State = 3 ∧ s.refState (s.get R.RD_STATUS_Target) = 3 then
      (s.xrefTo (s.reed.measure + s.measureTime (refType (s.get R.RD_STATUS_Target)))).switchCommit phase
    else s).done := by
  show execSwitchCommit phase s = _
  unfold execSwitchCommit
  rw [State.live_live _ _ hs]

theorem exec_holdHistorySample (use : List Nat) : exec (.holdHistorySample use) s =
    (if (s.healthSynth use).get R.RD_STATUS_State = 2 then (s.healthSynth use).historyTake else s.healthSynth use).done := by
  show execHoldHistorySample use s = _
  unfold execHoldHistorySample
  rw [State.live_live _ _ hs]
  rfl

theorem exec_holdoverSecond : exec .holdoverSecond s = (if s.get R.RD_STATUS_State = 4 then s.holdTick else s).done := by
  show execHoldoverSecond s = _
  unfold execHoldoverSecond
  rw [State.live_live _ _ hs]
  rfl

/-- The end of a switch to a target that is Qualified (R59, R68). -/
theorem switchCommit_gives (phase : Int) (h : s.get R.RD_STATUS_State = 3) (hq : s.refState (s.get R.RD_STATUS_Target) = 3)
    (htgt : s.get R.RD_STATUS_Target < 10) : Gives (.switchCommit phase) s (fun t =>
      (¬ s.modeDue → t.get R.RD_STATUS_Selected = s.get R.RD_STATUS_Target)
      ∧ (s.modeDue → t.get R.RD_STATUS_Selected = 15 ∧ t.get R.RD_STATUS_State = (if s.get R.RD_CTRL_Mode = 2 then 4 else 0))
      ∧ t.reed.modeHeld = none ∧ t.get64 R.BUILDOUT_LO_Bo R.BUILDOUT_HI_Bo = ofSigned 64 phase
      ∧ t.get R.CNT_SWITCH_Count = (s.get R.CNT_SWITCH_Count + 1) % 2 ^ 32 ∧ t.time = s.time) := by
  have hexec := (exec_switchCommit hs phase).trans (congrArg State.done (if_pos ⟨h, hq⟩))
  generalize hu : s.xrefTo (s.reed.measure + s.measureTime (refType (s.get R.RD_STATUS_Target))) = u at hexec
  have hget : ∀ f, u.get f = s.get f := by rw [← hu]; exact fun _ => rfl
  have hdue : u.modeDue ↔ s.modeDue := by rw [← hu]; exact Iff.rfl
  have htime : u.time = s.time := by rw [← hu]; rfl
  have htgt' : u.get R.RD_STATUS_Target < 10 := by rw [hget]; exact htgt
  have hq' : u.refState (u.get R.RD_STATUS_Target) = 3 := by rw [hget]; exact (hget _).trans hq
  obtain ⟨-, -, hbo, hcnt⟩ := State.switchDone_shows phase htgt'
  have keep : ∀ {a : Nat}, a < 0x60100 → a ∉ dpllWords → (u.switchCommit phase).rd a = (u.switchDone phase).rd a :=
    fun {a} ha hm => State.switchCommit_keeps (p := fun t => t.rd a) phase htgt' hq' (blindDpll_rd (not_dpllWord ha hm))
  refine Gives.of_done hexec ⟨fun hm => ?_, fun hm => ?_, ?_, ?_, ?_, ?_⟩
  · rw [State.settle_get _ (by decide), State.switchCommit_selected phase htgt' hq' (mt hdue.1 hm), hget]
  · obtain ⟨hsel, hst⟩ := State.switchCommit_mode phase htgt' (hdue.2 hm)
    rw [State.settle_get _ (by decide), State.settle_get _ (by decide), hsel, hst, hget]
    exact ⟨rfl, rfl⟩
  · rw [State.settle_reed]
    exact (State.switchCommit_keeps phase htgt' hq' blindDpll_modeHeld).trans (u.switchDone_modeHeld phase)
  · rw [← hbo]
    exact State.get64_congr (lo := R.BUILDOUT_LO_Bo) (hi := R.BUILDOUT_HI_Bo) ((State.settle_rd _ (by decide)).trans (keep (by decide) (by decide)))
      ((State.settle_rd _ (by decide)).trans (keep (by decide) (by decide)))
  · rw [State.settle_get _ (by decide), State.get_congr (f := R.CNT_SWITCH_Count) (keep (by decide) (by decide)), hcnt, hget]
  · rw [State.settle_time, State.switchCommit_keeps phase htgt' hq' blindDpll_time, State.switchDone_time, htime]

/-- A second in Locked (R64). -/
theorem holdHistorySample_gives (use : List Nat) (h : s.get R.RD_STATUS_State = 2) : Gives (.holdHistorySample use) s (fun t =>
    t.reed.hist = (⟨s.getI R.DPLL_FREQ_Freq, s.getI (R.TEMP_Temp 0), t.xref⟩ :: s.reed.hist).take 3600
    ∧ (s.reed.hist = [] → t.xref = s.xref) ∧ (∀ e es, s.reed.hist = e :: es → t.xref = max s.xref (e.time + 625000000))
    ∧ t.is R.RD_STATUS_HistValid = decide (9 ≤ s.reed.hist.length) ∧ t.day.secs = s.day.secs + 1) := by
  have hget : ∀ f, (s.healthSynth use).get f = s.get f := fun f => State.healthSynth_keeps (p := fun t => t.get f) (fun _ _ => rfl) (fun _ _ => rfl) s use
  have hgetI : ∀ f, (s.healthSynth use).getI f = s.getI f := fun f => congrArg (toSigned f.wid) (hget f)
  have hreed : (s.healthSynth use).reed = s.reed := State.healthSynth_keeps (fun _ _ => rfl) (fun _ _ => rfl) s use
  have hxref : (s.healthSynth use).xref = s.xref := State.healthSynth_keeps (fun _ _ => rfl) (fun _ _ => rfl) s use
  have hsecs : (s.healthSynth use).day.secs = s.day.secs := State.healthSynth_keeps (p := fun t => t.day.secs) (fun _ _ => rfl) (fun _ _ => rfl) s use
  have hexec := (exec_holdHistorySample hs use).trans (congrArg State.done (if_pos ((hget _).trans h)))
  have hshows := (s.healthSynth use).historyTake_shows
  rw [hgetI, hgetI, hreed, hxref, hsecs] at hshows
  obtain ⟨hhist, hnone, hsome, hvalid, hday⟩ := hshows
  refine Gives.of_done hexec ?_
  rw [State.settle_reed, State.settle_xref, State.settle_day, State.settle_is _ (by decide)]
  exact ⟨hhist, hnone, hsome, hvalid, hday⟩

/-- In other states only Temple's view of the synthesizers changes (R332). -/
theorem holdHistorySample_health (use : List Nat) (hon : s.is R.TP_CTRL_Enable = true) (h : s.get R.RD_STATUS_State ≠ 2) :
    Gives (.holdHistorySample use) s (fun t => t.obj 0xA024 1 = use.getD 0 0 % 65536 ∧ t.obj 0xA024 2 = use.getD 1 0 % 65536
      ∧ OnlyRegs [] s { t with objs := s.objs, day := s.day }) := by
  have hget : ∀ f, (s.healthSynth use).get f = s.get f := fun f => State.healthSynth_keeps (p := fun t => t.get f) (fun _ _ => rfl) (fun _ _ => rfl) s use
  have hrd : ∀ a, (s.healthSynth use).rd a = s.rd a := fun a => State.healthSynth_keeps (p := fun t => t.rd a) (fun _ _ => rfl) (fun _ _ => rfl) s use
  have hexec := (exec_holdHistorySample hs use).trans (congrArg State.done (if_neg (by rw [hget]; exact h)))
  obtain ⟨h1, h2⟩ := State.healthSynth_on hon use
  have hrest := s.healthSynth_rest use
  generalize s.healthSynth use = u at hexec hrd h1 h2 hrest
  have hobj : ∀ i j, u.settle.obj i j = u.obj i j := fun i j => by unfold State.obj; rw [State.settle_objs]
  refine Gives.of_done hexec ⟨(hobj _ _).trans h1, (hobj _ _).trans h2, fun a _ ha => (u.settle_rd ha).trans (hrd a), ?_⟩
  have settled := congrArg (fun t : State => { t with regs := s.regs, outbox := s.outbox, msixLevel := s.msixLevel, objs := s.objs, day := s.day }) u.settle_msix.2.2.2
  exact Eq.trans settled (congrArg (fun t : State => { t with regs := s.regs, outbox := s.outbox, msixLevel := s.msixLevel }) hrest)

/-- A second in Holdover (R64, R65). -/
theorem holdoverSecond_gives (h : s.get R.RD_STATUS_State = 4) : Gives .holdoverSecond s (fun t =>
    t.reed.est = s.holdEst ∧ t.get R.HOLD_STATUS_Seconds = min s.holdSecond (2 ^ 31 - 1)
    ∧ t.get R.HOLD_EST_Ns = min (s.holdEst / s.holdUnit).toNat (2 ^ 32 - 1) ∧ t.getI R.HOLD_FREQ_Freq = satSigned 32 s.holdFreqNow
    ∧ t.is R.HOLD_STATUS_OutOfSpec = (s.is R.HOLD_STATUS_OutOfSpec || decide ((s.get R.HOLD_LIMIT_Ns * s.holdUnit : Nat) < s.holdEst))) := by
  obtain ⟨hest, hsec, hns, hfreq, hout⟩ := s.holdTick_shows
  refine Gives.of_done ((exec_holdoverSecond hs).trans (congrArg State.done (if_pos h))) ⟨by rw [State.settle_reed, hest],
    (State.settle_get _ (by decide)).trans hsec, (State.settle_get _ (by decide)).trans hns,
    (State.getI_congr (f := R.HOLD_FREQ_Freq) (State.settle_rd _ (by decide))).trans hfreq, (State.settle_is _ (by decide)).trans hout⟩

end

/-- Settles O19: locks by the phase error, a switch by its target, a second by the DPLL's state. -/
theorem locksSwitchesAndHoldover : Obligations.LocksSwitchesAndHoldover := by
  refine ⟨fun s err hs => ⟨Ends.of_done (exec_dpllAcquireLock hs err), Ends.of_done (exec_dpllLockLoss hs err)⟩, fun s phase hs => ⟨fun h => ?_, fun h hq htgt => ?_⟩,
    fun s hs => ⟨fun use hoff h => ?_, fun use hon h => holdHistorySample_health hs use hon h, fun use h => holdHistorySample_gives hs use h, fun h => ?_, fun h => ?_⟩⟩
  · exact Ends.of_done ((exec_switchCommit hs phase).trans (congrArg State.done (if_neg h)))
  · exact switchCommit_gives hs phase h hq htgt
  · have hexec := exec_holdHistorySample hs use
    rw [State.healthSynth_off hoff, if_neg h] at hexec
    exact Ends.of_done hexec
  · exact Ends.of_done ((exec_holdoverSecond hs).trans (congrArg State.done (if_neg h)))
  · have hgives := holdoverSecond_gives hs h
    unfold State.holdEst State.holdFreqNow State.holdAgeing at hgives
    simp only [State.holdAged_iff] at hgives
    exact hgives

end Sys2Proof.Machine
end

section
/-!
PROOF. What Reed's tick leaves alone (R52 to R54, R57): everything that shows neither the words of references, the DPLL, the build-out and the
time of day, nor what Reed holds.
-/
namespace Sys2Proof.Machine

/-- What shows nothing that references and the DPLL change, the build-out and the time of day included. -/
structure BlindReed {γ : Type} (p : State → γ) : Prop extends BlindDpll p where
  held : ∀ (t : State) (m : Option (Nat × Nat)), p { t with reed := { t.reed with modeHeld := m } } = p t
  buildout : ∀ (t : State) (x : Int), p (t.put64I R.BUILDOUT_LO_Bo R.BUILDOUT_HI_Bo x) = p t
  tai : ∀ (t : State) (d : Int), p (t.moveTai d) = p t
  valid : ∀ (t : State) (v : Nat), p (t.put R.TIME_STATUS_TodValid v) = p t

theorem blindReed_rd {a : Nat} (ha : ¬ DpllWord a) (hn : a ∉ [R.BUILDOUT_LO, R.BUILDOUT_HI, R.TIME_STATUS]) : BlindReed (fun t => t.rd a) := by
  simp only [List.mem_cons, List.not_mem_nil, or_false, not_or] at hn
  obtain ⟨hlo, hhi, hvalid⟩ := hn
  exact { blindDpll_rd ha with
    held := fun _ _ => rfl
    buildout := fun t _ => (State.rd_put_ne _ hhi _).trans (t.rd_put_ne hlo _)
    tai := fun _ _ => rfl
    valid := fun t _ => t.rd_put_ne hvalid _ }

section
variable {γ : Type} {p : State → γ} (h : BlindReed p) (s : State)
include h

theorem BlindReed.acquireFrom (k : Nat) (x : Int) : p (s.acquireFrom k x) = p s := by
  unfold State.acquireFrom
  extract_lets t
  have ht : p t = p s := (h.select _ _).trans (h.put _ _ _ (.inl (by decide)))
  split
  · exact (h.buildout t x).trans ht
  · exact (h.buildout _ 0).trans ((h.tai t x).trans ht)

theorem BlindReed.refQualify (k : Nat) : p (s.refQualify k) = p s := by
  have put := fun (t : State) {f : Fld} (hf : f.reg = R.REF_STATUS k) (v : Nat) => h.put t f v (.inr ⟨k, .inl hf⟩)
  unfold State.refQualify
  extract_lets s1 s2
  have h1 : p s1 = p s := (put _ rfl _).trans ((put _ rfl _).trans (h.refGo s k 3))
  have h2 : p s2 = p s := by
    dsimp only [s2]
    split
    · exact (h.updRef s1 k (by intro; rfl)).trans h1
    · exact h1
  split
  · exact (h.valid _ 1).trans ((h.tai s2 _).trans h2)
  · exact h2

theorem BlindReed.refReturn (k : Nat) (pass : Bool) : p (s.refReturn k pass) = p s := by
  unfold State.refReturn
  split
  · extract_lets t
    have ht : p t = p s := h.refGo s k 5
    split
    · exact (h.refQualify t k).trans ht
    · exact ht
  · exact h.refGo s k 2

theorem BlindReed.refTickFail (k : Nat) (present : Bool) (fail : Option Nat) : p (s.refTickFail k present fail) = p s := by
  unfold State.refTickFail
  extract_lets st
  split
  · rfl
  split
  · exact h.refFail s k 1 _
  split
  · split
    · rfl
    · exact h.refFail s k 4 _
  · rfl

theorem BlindReed.refTickUp (k : Nat) (present : Bool) (fail : Option Nat) : p (s.refTickUp k present fail) = p s := by
  unfold State.refTickUp
  extract_lets st pass t s1
  split
  · exact h.refReturn s k pass
  split
  · exact h.refReturn s k pass
  split
  · have h1 : p s1 = p s := (h.put _ _ _ (dpllWord_refStatus k)).trans (h.updRef s k (by intro; rfl))
    split
    · exact (h.refQualify s1 k).trans h1
    · exact h1
  · rfl

theorem BlindReed.selection : p s.selection.2 = p s := by
  have put := fun (t : State) {f : Fld} (hf : f.reg ∈ dpllWords) (v : Nat) => h.put t f v (.inl hf)
  unfold State.selection
  split
  split
  · exact put _ (by decide) _
  split
  · rfl
  extract_lets cs s0 ws top dis s1 s2 sel
  split
  · have h0 : p s0 = p s := put _ (by decide) _
    split
    · split
      · exact (h.refQualify s0 _).trans h0
      · exact h0
    · exact h0
  · have h1 : p s1 = p s := by
      dsimp only [s1]
      split
      · exact put _ (by decide) _
      · rfl
    have h2 : p s2 = p s := (put _ (by decide) _).trans h1
    split <;> exact h2

theorem BlindReed.switchAbandon (best : Option Nat) : p (s.switchAbandon best) = p s := by
  unfold State.switchAbandon
  extract_lets held s0 r1 s1
  have h1 : p s1 = p s := (h.held s0 none).trans (h.put _ _ _ (.inl (by decide)))
  split
  · exact (h.modeTake s1).trans h1
  · have hpick : p (if held then s1.selection else (best, s1)).2 = p s := by
      split
      · exact (h.selection s1).trans h1
      · exact h1
    generalize (if held then s1.selection else (best, s1)) = q at hpick
    obtain ⟨b, t⟩ := q
    dsimp only
    split
    · split
      · exact (h.put _ _ _ (.inl (by decide))).trans hpick
      · exact (h.switchStart t _).trans hpick
    · exact (h.holdoverEnter t).trans hpick

theorem BlindReed.dpllNext (best : Option Nat) (phase : Option Int) : p (s.dpllNext best phase) = p s := by
  unfold State.dpllNext
  extract_lets st sel selOk
  split
  · rfl
  split
  · split
    · exact h.acquireFrom s _ _
    · rfl
  split
  · split
    · rfl
    · exact h.holdOrFree s
  split
  · split
    · split
      · rfl
      · exact h.switchStart s _
    · split
      · rfl
      · exact h.holdOrFree s
  split
  · split
    · rfl
    · exact h.switchAbandon s best
  · split
    · exact h.switchStart s _
    · rfl

theorem BlindReed.runSelection (phase : Option Int) : p (s.runSelection phase) = p s := (h.dpllNext _ _ phase).trans (h.selection s)

end

end Sys2Proof.Machine
end

section
/-!
PROOF. The servo, the slews and the frame-pulse outputs in Reed's tick (R61 to R63, R67): what they leave alone, and the output's frequency.
-/
namespace Sys2Proof.Machine

theorem blindDpll_present (k : Nat) : BlindDpll (fun t => (t.refSt k).present) where
  put := fun t f v _ => congrArg RefSt.present (t.put_refSt f v k)
  tx := fun _ _ => congrArg RefSt.present (State.refSt_congr rfl k)
  reed := fun _ _ _ h => h k

theorem blindReed_present (k : Nat) : BlindReed (fun t => (t.refSt k).present) :=
  { blindDpll_present k with
    held := fun _ _ => rfl
    buildout := fun t x => congrArg RefSt.present (State.refSt_congr (t.put64I_reed _ _ x) k)
    tai := fun _ _ => congrArg RefSt.present (State.refSt_congr rfl k)
    valid := fun t v => congrArg RefSt.present (t.put_refSt _ v k) }

-- ## After the servo

/-- The words that the end of a tick writes. -/
def slewWords : List Nat :=
  [R.HOLD_FREQ, R.PHASE_ADJ, R.PSTEP_STATUS, R.BUILDOUT_LO, R.BUILDOUT_HI, R.FPO_STATUS 0, R.FPO_STATUS 1, R.FPO_STATUS 2, R.FPO_STATUS 3]

/-- What shows none of these words, and nothing that Reed holds but its references. -/
structure BlindSlew {γ : Type} (p : State → γ) : Prop where
  put : ∀ (t : State) (f : Fld) (v : Nat), f.reg ∈ slewWords → p (t.put f v) = p t
  reed : ∀ (t : State) (r : ReedSt), r.refs = t.reed.refs → p { t with reed := r } = p t

theorem blindSlew_rd {a : Nat} (ha : a ∉ slewWords) : BlindSlew (fun t => t.rd a) :=
  ⟨fun t f v hf => t.rd_put_ne (fun e => ha (by rwa [e])) v, fun _ _ _ => rfl⟩

theorem blindSlew_refView {k : Nat} (hk : k < 10) : BlindSlew (fun t => t.refView k) :=
  ⟨fun t f v hf => t.put_refView hk ((by decide : ∀ a ∈ slewWords, Apart a) _ hf) v, fun t _ h => t.withReed_refView h k⟩

section
variable {γ : Type} {p : State → γ} (h : BlindSlew p) (s : State)
include h

theorem BlindSlew.holdShow : p s.holdShow = p s := by
  unfold State.holdShow
  split
  · rfl
  · exact h.put _ _ _ (by decide)

theorem BlindSlew.slewStep : p s.slewStep = p s := by
  unfold State.slewStep
  extract_lets rem bo left s1 r2 s2 s3 sel
  have h1 : p s1 = p s := h.put s _ _ (by decide)
  have h3 : p s3 = p s := (h.put s2 _ _ (by decide)).trans ((h.reed s1 s2.reed rfl).trans h1)
  split
  · exact (h.put _ _ _ (by decide)).trans ((h.put s3 _ _ (by decide)).trans h3)
  · exact h3

theorem BlindSlew.fpoTick {j : Nat} (hj : j < 4) : p (s.fpoTick j) = p s := by
  have put := fun (t : State) {f : Fld} (hf : f.reg = R.FPO_STATUS j) (v : Nat) =>
    h.put t f v (by rw [hf]; exact (by decide : ∀ j, j < 4 → R.FPO_STATUS j ∈ slewWords) j hj)
  unfold State.fpoTick
  split
  · rfl
  extract_lets src s1 e e' s2 s3
  have h1 : p s1 = p s := put s rfl _
  have h2 : p s2 = p s := (h.reed s1 s2.reed rfl).trans h1
  have h3 : p s3 = p s := (put s2 rfl _).trans h2
  split
  · exact (put s3 rfl _).trans h3
  · exact h3

end

/-- The end of a tick after the servo: the estimate shown, the slews, and the frame-pulse outputs. -/
def State.tickEnd (s : State) : State := s.holdShow.slewStep.forN 4 (fun j t => t.fpoTick j)

theorem BlindSlew.tickEnd {γ : Type} {p : State → γ} (h : BlindSlew p) (s : State) : p s.tickEnd = p s :=
  (State.forN_keeps p 4 _ (fun _ hj t => h.fpoTick t hj) _).trans ((h.slewStep _).trans (h.holdShow s))

-- ## The servo

/-- FREQ_RANGE and FREQ_SLEW as the limits of a tick, and what the output's frequency becomes within them (R62). -/
def State.servoRange (s : State) : Int := (s.get R.FREQ_RANGE_Ppm * 1000000 : Nat)
def State.servoSlew (s : State) : Int := (max 1 (s.get R.FREQ_SLEW_Slew) * 100 : Nat)
def State.servo (s : State) (f : Int) : Int :=
  max (-s.servoRange) (min s.servoRange (max (s.getI R.DPLL_FREQ_Freq - s.servoSlew) (min (s.getI R.DPLL_FREQ_Freq + s.servoSlew) f)))

theorem State.servo_bounds (s : State) (f : Int) : -255000000 ≤ s.servo f ∧ s.servo f ≤ 255000000 ∧ (s.servo f).natAbs ≤ s.get R.FREQ_RANGE_Ppm * 1000000 := by
  have hlt : s.get R.FREQ_RANGE_Ppm < 2 ^ 8 := Nat.mod_lt _ (by decide)
  unfold State.servo State.servoRange
  omega

/-- The frequency that the servo follows (R57, R59, R64). -/
def State.servoGoal (s : State) (f : Int) : Int :=
  let st := s.get R.RD_STATUS_State
  if st = 0 then s.getI R.DPLL_FREQ_SET_Freq
  else if st = 4 ∨ (st = 3 ∧ s.refState (s.get R.RD_STATUS_Selected) ≠ 3) then s.getI R.HOLD_FREQ_Freq
  else f

theorem State.loopFreq_eq (s : State) (f : Int) : s.loopFreq f = s.putSat R.DPLL_FREQ_Freq (s.servo (s.servoGoal f)) := rfl

theorem State.loopFreq_freq (s : State) (f : Int) : (s.loopFreq f).getI R.DPLL_FREQ_Freq = s.servo (s.servoGoal f) := by
  obtain ⟨hlo, hhi, -⟩ := s.servo_bounds (s.servoGoal f)
  rw [State.loopFreq_eq, State.getI_putSat _ (by decide) rfl]
  exact satSigned_of_bounds (by omega)

theorem State.loopFreq_rd (s : State) (f : Int) {a : Nat} (h : a ≠ R.DPLL_FREQ) : (s.loopFreq f).rd a = s.rd a := s.rd_put_ne h _

theorem State.loopFreq_refView (s : State) (f : Int) {k : Nat} (hk : k < 10) : (s.loopFreq f).refView k = s.refView k := s.put_refView hk (by decide) _

end Sys2Proof.Machine
end

section
/-!
PROOF. A Reed tick: its monitors, its references and its output (R52 to R54, R57, R62): the statement.
-/
namespace Sys2Proof.Machine

/-- Where one step of a counted fold only changes what `p` shows, the fold shows what that step does. -/
theorem State.forN_at {γ : Type} {p : State → γ} {k n : Nat} {f : Nat → State → State} (hk : k < n) (h : ∀ i, i ≠ k → ∀ t, p (f i t) = p t) (s : State) :
    ∃ u, p u = p s ∧ p (s.forN n f) = p (f k u) := by
  induction n with
  | zero => exact absurd hk (Nat.not_lt_zero k)
  | succ n ih =>
    rw [State.forN_succ]
    by_cases e : n = k
    · subst e
      exact ⟨s.forN n f, State.forN_keeps p n f (fun i hi => h i hi.ne) s, rfl⟩
    · obtain ⟨u, hu, hend⟩ := ih (by omega)
      exact ⟨u, hu, (h n e _).trans hend⟩

-- ## The monitors

section
variable (s : State) (k : Nat) (m : RefSample)

/-- The monitors' results as the registers of a reference show them (R52). -/
def State.monitorShown : State := (s.putSat (R.REF_FREQ_Freq k) (if s.vsOutput then m.vsDpll else m.vsXref)).putCap (R.REF_PHPP_Ns k) m.php

/-- Presence of a pin reference, by its edges (R51). -/
def State.pinSeen (edge : Bool) : State := if 4 ≤ k ∧ k < 9 then s.updRef k (fun r => { r with present := edge }) else s

theorem State.monitor_eq : s.monitor k m = ((s.monitorShown k m).updRef k (fun r => { r with vsXref := m.vsXref })).pinSeen k m.edge := rfl

theorem State.pinSeen_rd (edge : Bool) (a : Nat) : (s.pinSeen k edge).rd a = s.rd a := by
  unfold State.pinSeen
  split <;> rfl

theorem State.monitor_rd_shown (a : Nat) : (s.monitor k m).rd a = (s.monitorShown k m).rd a := by
  rw [s.monitor_eq, State.pinSeen_rd, State.updRef_rd]

theorem State.monitor_rd {a : Nat} (hfreq : a ≠ R.REF_FREQ k) (hphpp : a ≠ R.REF_PHPP k) : (s.monitor k m).rd a = s.rd a :=
  (s.monitor_rd_shown k m a).trans ((State.rd_put_ne _ hphpp _).trans (s.rd_put_ne hfreq _))

theorem State.monitor_shows : (s.monitor k m).getI (R.REF_FREQ_Freq k) = satSigned 32 (if s.vsOutput then m.vsDpll else m.vsXref)
    ∧ (s.monitor k m).get (R.REF_PHPP_Ns k) = min m.php (2 ^ 32 - 1) := by
  have hne : R.REF_FREQ k ≠ R.REF_PHPP k := by unfold R.REF_FREQ R.REF_PHPP; omega
  constructor
  · exact (State.getI_congr (f := R.REF_FREQ_Freq k) ((s.monitor_rd_shown k m _).trans (State.rd_put_ne _ hne _))).trans
      (s.getI_putSat (Nat.le_of_ble_eq_true rfl) rfl _)
  · exact (State.get_congr (f := R.REF_PHPP_Ns k) (s.monitor_rd_shown k m _)).trans (State.get_putCap _ (Nat.le_of_ble_eq_true rfl) rfl)

theorem State.monitorShown_refSt (j : Nat) : (s.monitorShown k m).refSt j = s.refSt j :=
  State.refSt_congr ((State.putCap_reed _ _ _).trans (s.putSat_reed _ _)) j

end

theorem State.updRef_refSt_same (s : State) (k : Nat) (f : RefSt → RefSt) : (s.updRef k f).refSt k = f (s.refSt k) := by
  unfold State.refSt State.updRef
  exact tget_tupd_same _ _ _ _

theorem State.updRef_refSt_ne (s : State) {j k : Nat} (h : j ≠ k) (f : RefSt → RefSt) : (s.updRef k f).refSt j = s.refSt j := by
  unfold State.refSt State.updRef
  exact tget_tput_ne _ h _ _

theorem State.monitor_refSt_ne (s : State) {j k : Nat} (h : j ≠ k) (m : RefSample) : (s.monitor k m).refSt j = s.refSt j := by
  have hshown := (State.updRef_refSt_ne (s.monitorShown k m) h (fun r => { r with vsXref := m.vsXref })).trans (s.monitorShown_refSt k m j)
  rw [s.monitor_eq]
  unfold State.pinSeen
  split
  · exact (State.updRef_refSt_ne _ h _).trans hshown
  · exact hshown

theorem State.monitor_present (s : State) {k : Nat} (h4 : 4 ≤ k) (h9 : k < 9) (m : RefSample) : ((s.monitor k m).refSt k).present = m.edge := by
  rw [s.monitor_eq]
  unfold State.pinSeen
  rw [if_pos ⟨h4, h9⟩, State.updRef_refSt_same]

/-- The monitors of a tick. -/
def State.tickMonitored (s : State) (ms : List RefSample) : State := s.forN 10 (fun k t => t.monitor k (sampleOf ms k))

section
variable (s : State) (ms : List RefSample)

theorem State.tickMonitored_rd {a : Nat} (ha : ∀ k, a ≠ R.REF_FREQ k ∧ a ≠ R.REF_PHPP k) : (s.tickMonitored ms).rd a = s.rd a :=
  State.forN_keeps (fun t => t.rd a) 10 _ (fun k _ t => t.monitor_rd k _ (ha k).1 (ha k).2) s

/-- A word below the references' is none of the monitors'. -/
theorem State.tickMonitored_low {a : Nat} (ha : a < 0x60100) : (s.tickMonitored ms).rd a = s.rd a :=
  s.tickMonitored_rd ms (fun k => by unfold R.REF_FREQ R.REF_PHPP; omega)

theorem State.tickMonitored_refState (k : Nat) : (s.tickMonitored ms).refState k = s.refState k :=
  State.get_congr (f := R.REF_STATUS_State k)
    (s.tickMonitored_rd ms (a := R.REF_STATUS k) (fun j => by unfold R.REF_STATUS R.REF_FREQ R.REF_PHPP; omega))

/-- What the monitors of reference k show, and which clock they measure against. -/
def State.monitorView (s : State) (k : Nat) : BitVec 32 × BitVec 32 × BitVec 32 := (s.rd R.RD_STATUS, s.rd (R.REF_FREQ k), s.rd (R.REF_PHPP k))

theorem State.monitorView_words {s t : State} {k : Nat} (h : t.monitorView k = s.monitorView k) :
    t.rd R.RD_STATUS = s.rd R.RD_STATUS ∧ t.rd (R.REF_FREQ k) = s.rd (R.REF_FREQ k) ∧ t.rd (R.REF_PHPP k) = s.rd (R.REF_PHPP k) :=
  ⟨congrArg Prod.fst h, congrArg (fun v => v.2.1) h, congrArg (fun v => v.2.2) h⟩

theorem State.monitor_monitorView_ne {j k : Nat} (h : j ≠ k) (m : RefSample) : (s.monitor j m).monitorView k = s.monitorView k := by
  have hstatus : R.RD_STATUS ≠ R.REF_FREQ j ∧ R.RD_STATUS ≠ R.REF_PHPP j := by unfold R.RD_STATUS R.REF_FREQ R.REF_PHPP; omega
  have hfreq : R.REF_FREQ k ≠ R.REF_FREQ j ∧ R.REF_FREQ k ≠ R.REF_PHPP j := by unfold R.REF_FREQ R.REF_PHPP; omega
  have hphpp : R.REF_PHPP k ≠ R.REF_FREQ j ∧ R.REF_PHPP k ≠ R.REF_PHPP j := by unfold R.REF_FREQ R.REF_PHPP; omega
  unfold State.monitorView
  rw [s.monitor_rd j m hstatus.1 hstatus.2, s.monitor_rd j m hfreq.1 hfreq.2, s.monitor_rd j m hphpp.1 hphpp.2]

theorem State.tickMonitored_shows {k : Nat} (hk : k < 10) :
    (s.tickMonitored ms).getI (R.REF_FREQ_Freq k) = satSigned 32 (if s.vsOutput then (sampleOf ms k).vsDpll else (sampleOf ms k).vsXref)
    ∧ (s.tickMonitored ms).get (R.REF_PHPP_Ns k) = min (sampleOf ms k).php (2 ^ 32 - 1) := by
  obtain ⟨u, hu, hend⟩ := State.forN_at (p := fun t => t.monitorView k) (f := fun k t => t.monitor k (sampleOf ms k)) hk
    (fun i hi t => t.monitor_monitorView_ne hi _) s
  obtain ⟨hstatus, -, -⟩ := State.monitorView_words hu
  obtain ⟨-, hfreq, hphpp⟩ : _ ∧ (s.tickMonitored ms).rd (R.REF_FREQ k) = _ ∧ (s.tickMonitored ms).rd (R.REF_PHPP k) = _ := State.monitorView_words hend
  have hvs : u.vsOutput = s.vsOutput := by
    unfold State.vsOutput
    rw [State.get_congr (f := R.RD_STATUS_State) hstatus]
  obtain ⟨h1, h2⟩ := u.monitor_shows k (sampleOf ms k)
  rw [hvs] at h1
  exact ⟨(State.getI_congr (f := R.REF_FREQ_Freq k) hfreq).trans h1, (State.get_congr (f := R.REF_PHPP_Ns k) hphpp).trans h2⟩

theorem State.tickMonitored_present {k : Nat} (h4 : 4 ≤ k) (h9 : k < 9) : ((s.tickMonitored ms).refSt k).present = (sampleOf ms k).edge := by
  obtain ⟨u, -, hend⟩ := State.forN_at (p := fun t => t.refSt k) (f := fun k t => t.monitor k (sampleOf ms k)) (show k < 10 by omega)
    (fun i hi t => t.monitor_refSt_ne hi.symm _) s
  exact (congrArg RefSt.present hend).trans (u.monitor_present h4 h9 _)

end

-- ## The references

theorem State.present_congr {s t : State} {k : Nat} (h : t.refView k = s.refView k) : (t.refSt k).present = (s.refSt k).present :=
  congrArg (fun v => v.2.2) h

section
variable (s : State) {k r : Nat} (hr : k ≠ r)
include hr

theorem State.refGo_refView (st : Nat) : (s.refGo r st).refView k = s.refView k :=
  (State.updRef_refView _ k r (by intro; rfl)).trans ((State.putRef_refView _ hr rfl _).trans (s.putRef_refView hr rfl _))

theorem State.failCounted_refView : (s.failCounted r).refView k = s.refView k := by
  have hst : R.REF_STATUS k ≠ R.CNT_REF_FAIL r := by unfold R.REF_STATUS R.CNT_REF_FAIL; omega
  have hfail : R.CNT_REF_FAIL k ≠ R.CNT_REF_FAIL r := by unfold R.CNT_REF_FAIL; omega
  unfold State.failCounted
  split
  · unfold State.refView
    rw [State.rd_bump_ne _ hst, State.rd_bump_ne _ hfail, State.bump_refSt]
  · rfl

theorem State.refFail_refView (st reason : Nat) : (s.refFail r st reason).refView k = s.refView k := by
  rw [s.refFail_eq]
  exact (State.putRef_refView _ hr rfl _).trans ((State.refGo_refView _ hr st).trans (s.failCounted_refView hr))

theorem State.refTickFail_refView (present : Bool) (fail : Option Nat) : (s.refTickFail r present fail).refView k = s.refView k := by
  unfold State.refTickFail
  extract_lets st
  split
  · rfl
  split
  · exact s.refFail_refView hr 1 _
  split
  · split
    · rfl
    · exact s.refFail_refView hr 4 _
  · rfl

variable (hk : k < 10)
include hk

theorem State.refReturn_refView (pass : Bool) : (s.refReturn r pass).refView k = s.refView k := by
  unfold State.refReturn
  split
  · extract_lets t
    have ht : t.refView k = s.refView k := s.refGo_refView hr 5
    split
    · exact (t.refQualify_refView hk hr).trans ht
    · exact ht
  · exact s.refGo_refView hr 2

theorem State.refTickUp_refView (present : Bool) (fail : Option Nat) : (s.refTickUp r present fail).refView k = s.refView k := by
  unfold State.refTickUp
  extract_lets st pass t s1
  split
  · exact s.refReturn_refView hr hk pass
  split
  · exact s.refReturn_refView hr hk pass
  split
  · have h1 : s1.refView k = s.refView k := (State.putRef_refView _ hr rfl _).trans (s.updRef_refView k r (by intro; rfl))
    split
    · exact (s1.refQualify_refView hk hr).trans h1
    · exact h1
  · rfl

end

/-- A reference that has left Absent and is not present becomes Absent (R54). -/
theorem State.refTickFail_lost {s : State} {k : Nat} (h : 2 ≤ s.refState k) (fail : Option Nat) : (s.refTickFail k false fail).refState k = 1 := by
  unfold State.refTickFail
  rw [if_neg (Nat.not_lt.2 h)]
  exact (s.refFail_word k 1 _).1

/-- One that is Off or Absent cannot fail. -/
theorem State.refTickFail_idle {s : State} {k : Nat} (h : s.refState k < 2) (present : Bool) (fail : Option Nat) : s.refTickFail k present fail = s := if_pos h

/-- One that is Off, or Absent and not present, makes no progress. -/
theorem State.refTickUp_idle {s : State} {k : Nat} {present : Bool} (h : s.refState k = 0 ∨ s.refState k = 1 ∧ present = false) (fail : Option Nat) :
    s.refTickUp k present fail = s := by
  have h1 : ¬ (s.refState k = 1 ∧ present = true) := by
    rintro ⟨h1, rfl⟩
    rcases h with h | ⟨-, h⟩
    · omega
    · cases h
  unfold State.refTickUp
  rw [if_neg h1, if_neg (by omega), if_neg (by omega)]

theorem State.refPresent_pin (s : State) {k : Nat} (h9 : k < 9) : s.refPresent k = (s.refSt k).present := if_neg (by omega)

/-- The references' failures of a tick, by the checks that they fail (R53). -/
def State.tickFailed (s : State) (fails : List (Option Nat)) : State := s.forN 10 (fun k t => t.refTickFail k (t.refPresent k) (fails.getD k none))

/-- A reference's checks noted as passed or not. -/
def State.refPassing (s : State) (k : Nat) (pass : Bool) : State := s.updRef k (fun r => { r with passing := pass })

/-- Their progress. -/
def State.tickUp (s : State) (fails : List (Option Nat)) : State :=
  s.forN 10 (fun k t => (t.refTickUp k (t.refPresent k) (fails.getD k none)).refPassing k (fails.getD k none).isNone)

theorem State.refPassing_refView (s : State) (j k : Nat) (pass : Bool) : (s.refPassing k pass).refView j = s.refView j := s.updRef_refView j k (by intro; rfl)

section
variable (s : State) (fails : List (Option Nat))

theorem BlindReed.tickFailed {γ : Type} {p : State → γ} (h : BlindReed p) : p (s.tickFailed fails) = p s :=
  State.forN_keeps p 10 _ (fun k _ t => h.refTickFail t k _ _) s

theorem BlindReed.tickUp {γ : Type} {p : State → γ} (h : BlindReed p) : p (s.tickUp fails) = p s :=
  State.forN_keeps p 10 _ (fun k _ t => (h.updRef _ k (by intro; rfl)).trans (h.refTickUp t k _ _)) s

variable {k : Nat} (hk : k < 10)
include hk

theorem State.tickFailed_at : ∃ u : State, u.refView k = s.refView k ∧
    (s.tickFailed fails).refView k = (u.refTickFail k (u.refPresent k) (fails.getD k none)).refView k :=
  State.forN_at (p := fun t => t.refView k) hk (fun _ hi t => t.refTickFail_refView hi.symm _ _) s

theorem State.tickUp_at : ∃ u : State, u.refView k = s.refView k ∧
    (s.tickUp fails).refView k = (u.refTickUp k (u.refPresent k) (fails.getD k none)).refView k := by
  obtain ⟨u, hu, hend⟩ := State.forN_at (p := fun t => t.refView k)
    (f := fun k t => (t.refTickUp k (t.refPresent k) (fails.getD k none)).refPassing k (fails.getD k none).isNone) hk
    (fun i hi t => (State.refPassing_refView _ k i _).trans (t.refTickUp_refView hi.symm hk _ _)) s
  exact ⟨u, hu, hend.trans (State.refPassing_refView _ k k _)⟩

/-- A reference that is Off stays Off. -/
theorem State.tickRefs_off (h0 : s.refState k = 0) : ((s.tickFailed fails).tickUp fails).refState k = 0 := by
  obtain ⟨u, hu, hfail⟩ := s.tickFailed_at fails hk
  have hu0 : u.refState k = 0 := (State.refState_congr hu).trans h0
  rw [State.refTickFail_idle (by omega)] at hfail
  obtain ⟨v, hv, hup⟩ := (s.tickFailed fails).tickUp_at fails hk
  have hv0 : v.refState k = 0 := (State.refState_congr hv).trans ((State.refState_congr hfail).trans hu0)
  rw [State.refTickUp_idle (.inl hv0)] at hup
  exact (State.refState_congr hup).trans hv0

/-- A pin reference without an edge that had left Absent becomes Absent. -/
theorem State.tickRefs_lost (h9 : k < 9) (hp : (s.refSt k).present = false) (h2 : 2 ≤ s.refState k) : ((s.tickFailed fails).tickUp fails).refState k = 1 := by
  have present : ∀ {t u : State}, u.refView k = t.refView k → (t.refSt k).present = false → u.refPresent k = false :=
    fun h ht => (State.refPresent_pin _ h9).trans ((State.present_congr h).trans ht)
  obtain ⟨u, hu, hfail⟩ := s.tickFailed_at fails hk
  rw [present hu hp] at hfail
  have hfailed : (s.tickFailed fails).refState k = 1 :=
    (State.refState_congr hfail).trans (State.refTickFail_lost (le_of_le_of_eq h2 (State.refState_congr hu).symm) _)
  obtain ⟨v, hv, hup⟩ := (s.tickFailed fails).tickUp_at fails hk
  have hv1 : v.refState k = 1 := (State.refState_congr hv).trans hfailed
  rw [present hv (((blindReed_present k).tickFailed s fails).trans hp), State.refTickUp_idle (.inr ⟨hv1, rfl⟩)] at hup
  exact (State.refState_congr hup).trans hv1

end

-- ## The tick

theorem State.settle_refState (s : State) {k : Nat} (hk : k < 10) : s.settle.refState k = s.refState k :=
  s.settle_get (f := R.REF_STATUS_State k) ((by decide : ∀ j, j < 10 → R.REF_STATUS j ≠ R.MSIX_PBA 0) k hk)

/-- The checks that the references fail in a tick. -/
def State.tickFails (s : State) (ms : List RefSample) : List (Option Nat) := (List.range 10).map (fun k => s.failReason k (sampleOf ms k))

/-- A tick before selection: the monitors, and the references. -/
def State.tickRefs (s : State) (ms : List RefSample) : State :=
  ((s.tickMonitored ms).tickFailed ((s.tickMonitored ms).tickFails ms)).tickUp ((s.tickMonitored ms).tickFails ms)

/-- A tick before the servo. -/
def State.tickSelected (s : State) (ms : List RefSample) (phase : Int) : State := (s.tickRefs ms).runSelection (some phase)

/-- What the servo and the slews make of it. -/
def State.tickServed (s : State) (freq : Int) : State := (s.loopFreq freq).tickEnd

theorem execReedTick_eq (ms : List RefSample) (freq phase : Int) (s : State) :
    execReedTick ms freq phase s = s.live (fun s => ((s.tickSelected ms phase).tickServed freq).done) := rfl

theorem exec_reedTick {s : State} (hs : Ready s) (ms : List RefSample) (freq phase : Int) :
    exec (.reedTick ms freq phase) s = ((s.tickSelected ms phase).tickServed freq).done :=
  (execReedTick_eq ms freq phase s).trans (s.live_live _ hs)

section
variable (s : State) (ms : List RefSample) (freq phase : Int)

theorem State.tickRefs_keeps {γ : Type} {p : State → γ} (h : BlindReed p) : p (s.tickRefs ms) = p (s.tickMonitored ms) :=
  (h.tickUp _ _).trans (h.tickFailed _ _)

theorem State.tickSelected_keeps {γ : Type} {p : State → γ} (h : BlindReed p) : p (s.tickSelected ms phase) = p (s.tickMonitored ms) :=
  (h.runSelection _ _).trans (s.tickRefs_keeps ms h)

/-- A word below the references' that no part of Reed but its servo writes. -/
theorem State.tickSelected_low {a : Nat} (ha : a < 0x60100) (hm : a ∉ dpllWords) (hn : a ∉ [R.BUILDOUT_LO, R.BUILDOUT_HI, R.TIME_STATUS]) :
    (s.tickSelected ms phase).rd a = s.rd a :=
  (s.tickSelected_keeps ms phase (blindReed_rd (not_dpllWord ha hm) hn)).trans (s.tickMonitored_low ms ha)

theorem State.tickServed_rd {a : Nat} (ha : a ∉ slewWords) (hf : a ≠ R.DPLL_FREQ) : (s.tickServed freq).rd a = s.rd a :=
  ((blindSlew_rd ha).tickEnd _).trans (s.loopFreq_rd freq hf)

theorem State.tickServed_refView {k : Nat} (hk : k < 10) : (s.tickServed freq).refView k = s.refView k :=
  ((blindSlew_refView hk).tickEnd _).trans (s.loopFreq_refView freq hk)

theorem State.tickServed_freq : (s.tickServed freq).getI R.DPLL_FREQ_Freq = s.servo (s.servoGoal freq) :=
  (State.getI_congr (f := R.DPLL_FREQ_Freq) ((blindSlew_rd (by decide)).tickEnd _)).trans (s.loopFreq_freq freq)

/-- Selection leaves a reference that does not wait to be restored. -/
theorem State.tickEnd_refState {k : Nat} (hk : k < 10) (h5 : (s.tickRefs ms).refState k ≠ 5) :
    ((s.tickSelected ms phase).tickServed freq).refState k = (s.tickRefs ms).refState k :=
  State.refState_congr ((State.tickServed_refView _ freq hk).trans (State.runSelection_refView _ hk h5 _))

/-- The limits of the output and where it goes in Freerun, as the registers gave them before the tick. -/
theorem State.tickSelected_servo (f : Int) : (s.tickSelected ms phase).servo f = s.servo f := by
  have range := s.tickSelected_low ms phase (a := R.FREQ_RANGE) (by decide) (by decide) (by decide)
  have slew := s.tickSelected_low ms phase (a := R.FREQ_SLEW) (by decide) (by decide) (by decide)
  have freq := s.tickSelected_low ms phase (a := R.DPLL_FREQ) (by decide) (by decide) (by decide)
  unfold State.servo State.servoRange State.servoSlew
  rw [State.get_congr (f := R.FREQ_RANGE_Ppm) range, State.get_congr (f := R.FREQ_SLEW_Slew) slew, State.getI_congr (f := R.DPLL_FREQ_Freq) freq]

theorem State.tickSelected_goal (h : (s.tickSelected ms phase).get R.RD_STATUS_State = 0) :
    (s.tickSelected ms phase).servoGoal freq = s.getI R.DPLL_FREQ_SET_Freq := by
  unfold State.servoGoal
  rw [if_pos h]
  exact State.getI_congr (f := R.DPLL_FREQ_SET_Freq) (s.tickSelected_low ms phase (by decide) (by decide) (by decide))

theorem State.tick_freq : ((s.tickSelected ms phase).tickServed freq).settle.getI R.DPLL_FREQ_Freq = s.servo ((s.tickSelected ms phase).servoGoal freq) := by
  rw [State.getI_congr (f := R.DPLL_FREQ_Freq) (State.settle_rd _ (by decide)), State.tickServed_freq, State.tickSelected_servo]

theorem State.tick_state : ((s.tickSelected ms phase).tickServed freq).settle.get R.RD_STATUS_State = (s.tickSelected ms phase).get R.RD_STATUS_State :=
  (State.settle_get _ (by decide)).trans (State.get_congr (f := R.RD_STATUS_State) (State.tickServed_rd _ freq (by decide) (by decide)))

/-- The words of a reference's monitors are no other part of Reed's. -/
theorem monitorWord_apart (k : Nat) (hk : k < 10) {a : Nat} (ha : a = R.REF_FREQ k ∨ a = R.REF_PHPP k) :
    ¬ DpllWord a ∧ a ∉ [R.BUILDOUT_LO, R.BUILDOUT_HI, R.TIME_STATUS] ∧ a ∉ slewWords ∧ a ≠ R.DPLL_FREQ ∧ a ≠ R.MSIX_PBA 0 := by
  have hlow : a ∉ dpllWords ∧ a ∉ [R.BUILDOUT_LO, R.BUILDOUT_HI, R.TIME_STATUS] ∧ a ∉ slewWords ∧ a ≠ R.DPLL_FREQ ∧ a ≠ R.MSIX_PBA 0 := by
    obtain rfl | rfl := ha
    · exact (by decide : ∀ k, k < 10 → R.REF_FREQ k ∉ dpllWords ∧ R.REF_FREQ k ∉ [R.BUILDOUT_LO, R.BUILDOUT_HI, R.TIME_STATUS]
        ∧ R.REF_FREQ k ∉ slewWords ∧ R.REF_FREQ k ≠ R.DPLL_FREQ ∧ R.REF_FREQ k ≠ R.MSIX_PBA 0) k hk
    · exact (by decide : ∀ k, k < 10 → R.REF_PHPP k ∉ dpllWords ∧ R.REF_PHPP k ∉ [R.BUILDOUT_LO, R.BUILDOUT_HI, R.TIME_STATUS]
        ∧ R.REF_PHPP k ∉ slewWords ∧ R.REF_PHPP k ≠ R.DPLL_FREQ ∧ R.REF_PHPP k ≠ R.MSIX_PBA 0) k hk
  refine ⟨?_, hlow.2⟩
  rintro (hmem | ⟨j, h | h⟩)
  · exact hlow.1 hmem
  · unfold R.REF_FREQ R.REF_PHPP at ha
    unfold R.REF_STATUS at h
    omega
  · unfold R.REF_FREQ R.REF_PHPP at ha
    unfold R.CNT_REF_FAIL at h
    omega

theorem State.tick_monitorWord {k : Nat} (hk : k < 10) {a : Nat} (ha : a = R.REF_FREQ k ∨ a = R.REF_PHPP k) :
    ((s.tickSelected ms phase).tickServed freq).settle.rd a = (s.tickMonitored ms).rd a := by
  obtain ⟨hdpll, hn, hslew, hfreq, hpba⟩ := monitorWord_apart k hk ha
  exact (State.settle_rd _ hpba).trans ((State.tickServed_rd _ freq hslew hfreq).trans (s.tickSelected_keeps ms phase (blindReed_rd hdpll hn)))

end

/-- Settles O16: what each part of the tick shows, kept by the parts that follow it. -/
theorem reedTickMonitors : Obligations.ReedTickMonitors := by
  intro s ms freq phase hs
  refine Gives.of_done (exec_reedTick hs ms freq phase) ⟨fun k hk => ?_, fun k h4 h9 => ?_, fun k hk h0 => ?_, ?_, fun h0 => ?_⟩
  · obtain ⟨hfreq, hphpp⟩ := s.tickMonitored_shows ms hk
    exact ⟨(State.getI_congr (f := R.REF_FREQ_Freq k) (s.tick_monitorWord ms freq phase hk (.inl rfl))).trans hfreq,
      (State.get_congr (f := R.REF_PHPP_Ns k) (s.tick_monitorWord ms freq phase hk (.inr rfl))).trans hphpp⟩
  · have hk : k < 10 := by omega
    have hmon := s.tickMonitored_present ms h4 h9
    refine ⟨?_, fun hedge h2 => ?_⟩
    · rw [State.refSt_congr (State.settle_reed _)]
      exact (State.present_congr (State.tickServed_refView _ freq hk)).trans ((s.tickSelected_keeps ms phase (blindReed_present k)).trans hmon)
    · have hrefs : (s.tickRefs ms).refState k = 1 := State.tickRefs_lost _ _ hk h9 (hmon.trans hedge) (by rwa [State.tickMonitored_refState])
      rw [State.settle_refState _ hk, State.tickEnd_refState _ _ _ _ hk (by omega), hrefs]
  · have hrefs : (s.tickRefs ms).refState k = 0 := State.tickRefs_off _ _ hk ((s.tickMonitored_refState ms k).trans h0)
    rw [State.settle_refState _ hk, State.tickEnd_refState _ _ _ _ hk (by omega), hrefs]
  · rw [s.tick_freq]
    exact (s.servo_bounds _).2.2
  · rw [s.tick_state] at h0
    exact (s.tick_freq ms freq phase).trans (congrArg s.servo (s.tickSelected_goal ms freq phase h0))

end Sys2Proof.Machine
end

section
/-!
PROOF. What the synthesizers' proofs need of registers: the words that a relock, a plan and the drive of the outputs write, and what they show
there (R70, R74, R75, R381).
-/
namespace Sys2Proof.Machine

-- ## Writes that the block takes

/-- While SYNTH is not busy a write of one of its registers is applied (R381). -/
theorem State.slow_synth {s : State} (hb : s.is R.SYN_STATUS_Busy = false) {off : Nat} (ho : 0x64000 ≤ off ∧ off < 0x68000) (apply : State → State) :
    s.slow off apply = apply s := by
  have h : slowBusy off = some R.SYN_STATUS_Busy := by
    unfold slowBusy
    rw [if_neg (by omega), if_neg (by omega), if_pos ho]
  unfold State.slow
  rw [h]
  exact if_neg (by rw [hb]; decide)

-- ## What shows a synthesizer, a ramp and an output

theorem State.mcsState_congr {s t : State} {m : Nat} (h : t.rd (R.MCS_STATUS m) = s.rd (R.MCS_STATUS m)) : t.mcsState m = s.mcsState m :=
  State.get_congr h

theorem State.mcsEn_congr {s t : State} (h : t.rd R.SYN_CTRL = s.rd R.SYN_CTRL) (m : Nat) : t.mcsEn m = s.mcsEn m := by
  unfold State.mcsEn
  rw [State.is_congr (f := R.SYN_CTRL_Mcs0En) h, State.is_congr (f := R.SYN_CTRL_Mcs1En) h]

theorem State.cko_congr {s t : State} (h : t.synth = s.synth) (i : Nat) : t.cko i = s.cko i := by
  unfold State.cko; rw [h]

theorem State.ramp_congr {s t : State} (h : t.synth = s.synth) (m : Nat) : t.ramp m = s.ramp m := by
  unfold State.ramp; rw [h]

theorem mcsStatus_ne_pba {m : Nat} (hm : m < 2) : R.MCS_STATUS m ≠ R.MSIX_PBA 0 := by unfold R.MCS_STATUS R.MSIX_PBA; omega

theorem State.settle_mcsState (s : State) {m : Nat} (hm : m < 2) : s.settle.mcsState m = s.mcsState m :=
  State.mcsState_congr (s.settle_rd (mcsStatus_ne_pba hm))

theorem State.settle_mcsEn (s : State) (m : Nat) : s.settle.mcsEn m = s.mcsEn m := State.mcsEn_congr (s.settle_rd (by decide)) m

/-- A word outside the outputs' registers. -/
def OffOutputs (a : Nat) : Prop := a < 0x64400 ∨ 0x644C0 ≤ a

theorem OffOutputs.ne_status {a i : Nat} (ha : OffOutputs a) (hi : i < 12) : a ≠ R.CKO_STATUS i := by
  unfold OffOutputs at ha
  unfold R.CKO_STATUS
  omega

theorem mcsStatus_offOutputs {m : Nat} (hm : m < 2) : OffOutputs (R.MCS_STATUS m) := by unfold OffOutputs R.MCS_STATUS; omega

theorem ckoStatus_ne_pba {i : Nat} (hi : i < 12) : R.CKO_STATUS i ≠ R.MSIX_PBA 0 := by unfold R.CKO_STATUS R.MSIX_PBA; omega

theorem ckoStatus_ne_ckoStatus {i j : Nat} (h : i ≠ j) : R.CKO_STATUS i ≠ R.CKO_STATUS j := by unfold R.CKO_STATUS; omega

theorem ckoCfg_ne_ckoStatus (i j : Nat) : R.CKO_CFG i ≠ R.CKO_STATUS j := by unfold R.CKO_CFG R.CKO_STATUS; omega

/-- What shows an output: its status and its configuration, and what the block holds of it. -/
def State.ckoView (s : State) (i : Nat) : Word × Word × CkoSt := (s.rd (R.CKO_STATUS i), s.rd (R.CKO_CFG i), s.cko i)

-- ## The drive of the outputs

section
variable (s : State) (m : Nat) (run : Bool)

theorem State.ckoDrive_rd {a : Nat} (ha : OffOutputs a) : (s.ckoDrive m run).rd a = s.rd a := by
  refine State.forN_keeps (fun t => t.rd a) 12 _ (fun i hi t => ?_) s
  split
  · exact t.rd_put_ne (ha.ne_status hi) _
  · rfl

@[simp] theorem State.ckoDrive_synth : (s.ckoDrive m run).synth = s.synth :=
  State.ckoDrive_keeps (p := State.synth) (fun t f v _ => t.put_synth f v) s m run

/-- An output that is on and takes the synthesizer is driven. -/
theorem State.ckoDrive_running {i : Nat} (hi : i < 12) (hsrc : s.get (R.CKO_CFG_Source i) = m) (hon : (s.cko i).on = true) :
    (s.ckoDrive m run).is (R.CKO_STATUS_Running i) = run := by
  have hother : ∀ j, j ≠ i → ∀ t : State,
      (if t.get (R.CKO_CFG_Source j) = m ∧ (t.cko j).on = true then t.putB (R.CKO_STATUS_Running j) run else t).ckoView i = t.ckoView i := by
    intro j hj t
    split
    · exact Prod.ext (t.rd_put_ne (ckoStatus_ne_ckoStatus hj.symm) _) (Prod.ext (t.rd_put_ne (ckoCfg_ne_ckoStatus i j) _) (State.cko_congr (t.putB_synth _ _) i))
    · rfl
  obtain ⟨u, hu, hend⟩ := State.forN_at (p := fun t => t.ckoView i) hi hother s
  have hdriven : u.get (R.CKO_CFG_Source i) = m ∧ (u.cko i).on = true :=
    ⟨(State.get_congr (congrArg (fun x => x.2.1) hu)).trans hsrc, (congrArg (fun x => x.2.2.on) hu).trans hon⟩
  refine (State.is_congr (f := R.CKO_STATUS_Running i) (congrArg Prod.fst hend)).trans ?_
  rw [if_pos hdriven]
  exact State.is_putB_same _ (Nat.le_of_ble_eq_true rfl) rfl run

end

-- ## The plan

/-- The plan of MCS0: its M, the family of the rate, and its frequency. -/
theorem State.mcsPlan_zero (s : State) : s.mcsPlan 0 =
    ((s.put (R.MCS_STATUS_MulM 0) 1).put (R.MCS_STATUS_Family 0) (rateFamily (s.get R.TIME_STATUS_RateNow))).put (R.MCS_FREQ_Hz 0)
      (familyHz (rateFamily (s.get R.TIME_STATUS_RateNow))) := if_pos rfl

/-- The plan of MCS1: its M alone. -/
theorem State.mcsPlan_one (s : State) : s.mcsPlan 1 = s.put (R.MCS_STATUS_MulM 1) (mulCode s.mcs1Hz1001) := if_neg (by decide)

section
variable (s : State) {m : Nat} (hm : m < 2)
include hm

theorem State.mcsPlan_rd {a : Nat} (hst : a ≠ R.MCS_STATUS m) (hfr : a ≠ R.MCS_FREQ m) : (s.mcsPlan m).rd a = s.rd a := by
  obtain rfl | rfl : m = 0 ∨ m = 1 := by omega
  · rw [State.mcsPlan_zero, State.rd_put_ne _ hfr, State.rd_put_ne _ hst, State.rd_put_ne _ hst]
  · rw [State.mcsPlan_one, State.rd_put_ne _ hst]

end

theorem State.mcsPlan_synth (s : State) {m : Nat} (hm : m < 2) : (s.mcsPlan m).synth = s.synth := by
  obtain rfl | rfl : m = 0 ∨ m = 1 := by omega
  · rw [State.mcsPlan_zero, State.put_synth, State.put_synth, State.put_synth]
  · rw [State.mcsPlan_one, State.put_synth]

/-- MCS0 shows the family of the rate in its plan (R70). -/
theorem State.mcsPlan_family (s : State) : (s.mcsPlan 0).get (R.MCS_STATUS_Family 0) = rateFamily (s.get R.TIME_STATUS_RateNow) := by
  have hfam : rateFamily (s.get R.TIME_STATUS_RateNow) < 2 ^ 1 := by
    unfold rateFamily
    split <;> decide
  rw [State.mcsPlan_zero, State.get_put_reg _ (by decide), State.get_put_fit _ (w := 1) (by decide) rfl hfam]

-- ## The relock

/-- A relock takes the plan, enters Acquire, and holds the outputs or lets them run (R75, R76). -/
theorem State.relock_eq (s : State) {m : Nat} (hm : m < 2) : s.relock m =
    (((s.mcsPlan m).put (R.MCS_STATUS_State m) 1).putB (R.MCS_STATUS_Held m) (s.is (R.MCS_CFG_HoldOutputs m))).ckoDrive m
      (!s.is (R.MCS_CFG_HoldOutputs m)) := by
  have hst : R.MCS_CFG m ≠ R.MCS_STATUS m := by unfold R.MCS_CFG R.MCS_STATUS; omega
  have hfr : R.MCS_CFG m ≠ R.MCS_FREQ m := by unfold R.MCS_CFG R.MCS_FREQ; omega
  have hhold : ((s.mcsPlan m).put (R.MCS_STATUS_State m) 1).is (R.MCS_CFG_HoldOutputs m) = s.is (R.MCS_CFG_HoldOutputs m) :=
    State.is_congr ((State.rd_put_ne _ hst _).trans (s.mcsPlan_rd hm hst hfr))
  show (if ((s.mcsPlan m).put (R.MCS_STATUS_State m) 1).is (R.MCS_CFG_HoldOutputs m) = true then _ else _) = _
  rw [hhold]
  cases s.is (R.MCS_CFG_HoldOutputs m) <;> rfl

section
variable (s : State) {m : Nat} (hm : m < 2)
include hm

theorem State.relock_rd {a : Nat} (hst : a ≠ R.MCS_STATUS m) (hfr : a ≠ R.MCS_FREQ m) (hoff : OffOutputs a) : (s.relock m).rd a = s.rd a := by
  rw [s.relock_eq hm, State.ckoDrive_rd _ _ _ hoff]
  exact (State.rd_put_ne _ hst _).trans ((State.rd_put_ne _ hst _).trans (s.mcsPlan_rd hm hst hfr))

theorem State.relock_synth : (s.relock m).synth = s.synth := by
  rw [s.relock_eq hm, State.ckoDrive_synth, State.putB_synth, State.put_synth, s.mcsPlan_synth hm]

theorem State.relock_state : (s.relock m).mcsState m = 1 := by
  rw [s.relock_eq hm, State.mcsState_congr (State.ckoDrive_rd _ _ _ (mcsStatus_offOutputs hm))]
  exact (State.get_putB_ne _ (Nat.le_of_ble_eq_true rfl) (.inr (.inl (Nat.le_of_ble_eq_true rfl))) _).trans
    (State.get_put_fit _ (w := 2) (Nat.le_of_ble_eq_true rfl) rfl (by decide))

theorem State.relock_held : (s.relock m).is (R.MCS_STATUS_Held m) = s.is (R.MCS_CFG_HoldOutputs m) := by
  rw [s.relock_eq hm, State.is_congr (State.ckoDrive_rd _ _ _ (mcsStatus_offOutputs hm))]
  exact State.is_putB_same _ (Nat.le_of_ble_eq_true rfl) rfl _

end

-- ## A ramp set or cleared

section
variable (s : State) (m : Nat) (r : Option RampSt)

theorem State.setRamp_rd {a : Nat} (ha : a ≠ R.RAMP_STATUS m) : (s.setRamp m r).rd a = s.rd a := State.rd_put_ne _ ha _

/-- Beside Running, a field of RAMP_STATUS keeps its value. -/
theorem State.setRamp_get {f : Fld} (h : f.lsb + f.wid ≤ 3 ∨ 4 ≤ f.lsb) : (s.setRamp m r).get f = s.get f :=
  State.get_putB_ne _ (Nat.le_of_ble_eq_true rfl) (.inr h) _

theorem State.setRamp_running : (s.setRamp m r).is (R.RAMP_STATUS_Running m) = r.isSome := State.is_putB_same _ (Nat.le_of_ble_eq_true rfl) rfl _

theorem State.setRamp_xref : (s.setRamp m r).xref = s.xref := by
  unfold State.setRamp
  rw [State.putB_xref]

theorem State.setRamp_ramp : (s.setRamp m r).ramp m = r := by
  unfold State.ramp State.setRamp
  rw [State.putB_synth]
  exact tget_tput_same _ _ _ _

end

-- ## The end of a retune

theorem State.retuneDone_rd (s : State) (m : Nat) {a : Nat} (ha : a ≠ R.TIME_STATUS) : (s.retuneDone m).rd a = s.rd a := by
  unfold State.retuneDone
  split
  · exact s.rd_put_ne ha _
  · rfl

@[simp] theorem State.retuneDone_synth (s : State) (m : Nat) : (s.retuneDone m).synth = s.synth := by
  unfold State.retuneDone
  split
  · exact s.put_synth R.TIME_STATUS_RateSwitching 0
  · rfl

/-- Once MCS0 has ended a retune the counter waits for a whole second (R46). -/
theorem State.retuneDone_resumes {s : State} (h : s.is R.TIME_STATUS_RateSwitching = true) :
    (s.retuneDone 0).is R.TIME_STATUS_RateSwitching = false ∧ (s.retuneDone 0).time.resume = true := by
  have e : s.retuneDone 0 = { s.put R.TIME_STATUS_RateSwitching 0 with time := { s.time with resume := true } } := if_pos ⟨rfl, h⟩
  rw [e]
  exact ⟨s.is_put_zero (by decide) rfl, rfl⟩

end Sys2Proof.Machine
end

section
/-!
PROOF. The states and the enables of the synthesizers (R46, R74, R75): the statement.
-/
namespace Sys2Proof.Machine

-- ## The enables

/-- The row of SYN_CTRL (04_synthesis_clock_outputs.md, Registers). -/
def synCtrlRow : RegRow := ⟨0x64000, [], [⟨0, 1, .rw, [1]⟩, ⟨1, 1, .rw, [0]⟩]⟩

theorem findRow_synCtrl : findRow (blockRows R.SYN_CTRL) R.SYN_CTRL = some (synCtrlRow, 0) := by decide

theorem State.wrRW_synCtrl (s : State) (v : Nat) {m : Nat} (hm : m < 2) : (s.wrRW R.SYN_CTRL v).mcsEn m = bitOf v m := by
  obtain rfl | rfl : m = 0 ∨ m = 1 := by omega
  · exact congrArg (fun x => decide (x = 1)) (s.wrRW_get findRow_synCtrl (pre := []) rfl (by decide) (by decide) v)
  · exact congrArg (fun x => decide (x = 1)) (s.wrRW_get findRow_synCtrl (pre := [⟨0, 1, .rw, [1]⟩]) rfl (by decide) (by decide) v)

section
variable (s : State) {m : Nat} (hm : m < 2) (was : Bool)
include hm

theorem State.mcsFollow_rd {a : Nat} (hst : a ≠ R.MCS_STATUS m) (hfr : a ≠ R.MCS_FREQ m) (hoff : OffOutputs a) :
    (s.mcsFollow m was).rd a = s.rd a := by
  unfold State.mcsFollow
  split
  · rfl
  split
  · exact (State.ckoDrive_rd _ _ _ hoff).trans ((State.rd_put_ne _ hst _).trans (State.rd_put_ne _ hst _))
  · exact s.relock_rd hm hst hfr hoff

/-- A synthesizer whose enable changed is Off or relocks; another keeps its state. -/
theorem State.mcsFollow_state :
    (s.mcsFollow m was).mcsState m = if was = s.mcsEn m then s.mcsState m else if s.mcsEn m = true then 1 else 0 := by
  unfold State.mcsFollow
  by_cases h : s.mcsEn m = was
  · rw [if_pos h, if_pos h.symm]
  rw [if_neg h, if_neg (Ne.symm h)]
  cases was with
  | true =>
    rw [if_pos rfl, if_neg h, State.mcsState_congr (State.ckoDrive_rd _ _ _ (mcsStatus_offOutputs hm))]
    exact (State.get_put_ne _ (Nat.le_of_ble_eq_true rfl) (.inr (.inl (Nat.le_of_ble_eq_true rfl))) _).trans
      (State.get_put_fit _ (w := 2) (Nat.le_of_ble_eq_true rfl) rfl (by decide))
  | false => rw [if_neg Bool.false_ne_true, if_pos (Bool.eq_true_of_not_eq_false h), s.relock_state hm]

end

/-- Both synthesizers follow their enables, each by its own. -/
theorem State.mcsFollow_both (s : State) (was : Nat → Bool) {m : Nat} (hm : m < 2) :
    ((s.mcsFollow 0 (was 0)).mcsFollow 1 (was 1)).mcsEn m = s.mcsEn m
    ∧ ((s.mcsFollow 0 (was 0)).mcsFollow 1 (was 1)).mcsState m =
      if was m = s.mcsEn m then s.mcsState m else if s.mcsEn m = true then 1 else 0 := by
  have hen : ∀ k, k < 2 → ∀ (t : State) b n, (t.mcsFollow k b).mcsEn n = t.mcsEn n := fun k hk t b n =>
    State.mcsEn_congr (t.mcsFollow_rd hk b (by unfold R.MCS_STATUS R.SYN_CTRL; omega) (by unfold R.MCS_FREQ R.SYN_CTRL; omega) (.inl (by decide))) n
  have hother : ∀ k n, k < 2 → n < 2 → n ≠ k → ∀ (t : State) b, (t.mcsFollow k b).mcsState n = t.mcsState n := fun k n hk hn hne t b =>
    State.mcsState_congr (t.mcsFollow_rd hk b (by unfold R.MCS_STATUS; omega) (by unfold R.MCS_STATUS R.MCS_FREQ; omega) (mcsStatus_offOutputs hn))
  refine ⟨(hen 1 (by decide) _ _ m).trans (hen 0 (by decide) _ _ m), ?_⟩
  obtain rfl | rfl : m = 0 ∨ m = 1 := by omega
  · rw [hother 1 0 (by decide) hm (by decide), s.mcsFollow_state hm]
  · rw [State.mcsFollow_state _ hm, hen 0 (by decide), hother 0 1 (by decide) hm (by decide)]

/-- A write of SYN_CTRL enables, disables, or leaves each synthesizer as it is (R75). -/
theorem State.synCtrlApply_shows (s : State) (v : Nat) {m : Nat} (hm : m < 2) : (s.synCtrlApply v).mcsEn m = bitOf v m
    ∧ (s.synCtrlApply v).mcsState m = if s.mcsEn m = bitOf v m then s.mcsState m else if bitOf v m = true then 1 else 0 := by
  have hstate : (s.wrRW R.SYN_CTRL v).mcsState m = s.mcsState m :=
    State.mcsState_congr (s.wrRW_rd_ne (by unfold R.MCS_STATUS R.SYN_CTRL; omega) v)
  have hboth := (s.wrRW R.SYN_CTRL v).mcsFollow_both s.mcsEn hm
  rw [s.wrRW_synCtrl v hm, hstate] at hboth
  exact hboth

-- ## An unlock

/-- The unlock is counted, and a glide is dropped. -/
def State.unlocked (s : State) (m : Nat) : State :=
  let s := s.bump (R.MCS_CNT_UNLOCK_Count m)
  if s.mcsState m = 3 then (s.setRamp m none).put (R.RAMP_OFFSET_Ppb m) 0 else s

theorem State.unlocked_rd (s : State) (m : Nat) {a : Nat} (hc : a ≠ R.MCS_CNT_UNLOCK m) (hr : a ≠ R.RAMP_STATUS m) (ho : a ≠ R.RAMP_OFFSET m) :
    (s.unlocked m).rd a = s.rd a := by
  unfold State.unlocked
  extract_lets t
  have ht : t.rd a = s.rd a := s.rd_bump_ne hc
  split
  · exact (State.rd_put_ne _ ho _).trans ((t.setRamp_rd m none hr).trans ht)
  · exact ht

theorem State.unlocked_count (s : State) (m : Nat) :
    (s.unlocked m).get (R.MCS_CNT_UNLOCK_Count m) = (s.get (R.MCS_CNT_UNLOCK_Count m) + 1) % 2 ^ 32 := by
  unfold State.unlocked
  extract_lets t
  have ht : t.get (R.MCS_CNT_UNLOCK_Count m) = (s.get (R.MCS_CNT_UNLOCK_Count m) + 1) % 2 ^ 32 := s.get_bump_same _ (Nat.le_of_ble_eq_true rfl)
  split
  · have hr : R.MCS_CNT_UNLOCK m ≠ R.RAMP_STATUS m := by unfold R.MCS_CNT_UNLOCK R.RAMP_STATUS; omega
    have ho : R.MCS_CNT_UNLOCK m ≠ R.RAMP_OFFSET m := by unfold R.MCS_CNT_UNLOCK R.RAMP_OFFSET; omega
    exact (State.get_congr ((State.rd_put_ne _ ho _).trans (t.setRamp_rd m none hr))).trans ht
  · exact ht

-- ## The commands

theorem State.mcsStopped_iff {s : State} {m : Nat} : s.mcsStopped m = true ↔ s.mcsEn m = true ∧ s.mcsState m = 0 := by
  unfold State.mcsStopped
  rw [Bool.and_eq_true, decide_eq_true_eq]

/-- A relock at a command's end shows Acquire, and whether the outputs are held. -/
theorem State.relock_settle (s : State) {m : Nat} (hm : m < 2) : (s.relock m).settle.mcsState m = 1
    ∧ (s.relock m).settle.is (R.MCS_STATUS_Held m) = s.is (R.MCS_CFG_HoldOutputs m) :=
  ⟨(State.settle_mcsState _ hm).trans (s.relock_state hm), (State.settle_is _ (mcsStatus_ne_pba hm)).trans (s.relock_held hm)⟩

/-- An output that is on and takes the synthesizer shows the drive at a command's end. -/
theorem State.ckoDrive_settle (s : State) {m i : Nat} (hi : i < 12) {f : Fld} (hf : f.reg = R.MCS_STATUS m) (v : Nat) (run : Bool)
    (hsrc : s.get (R.CKO_CFG_Source i) = m) (hon : (s.cko i).on = true) : ((s.put f v).ckoDrive m run).settle.is (R.CKO_STATUS_Running i) = run := by
  have hcfg : R.CKO_CFG i ≠ f.reg := by rw [hf]; unfold R.CKO_CFG R.MCS_STATUS; omega
  rw [State.settle_is _ (ckoStatus_ne_pba hi)]
  refine State.ckoDrive_running _ m run hi ((State.get_congr (s.rd_put_ne hcfg v)).trans hsrc) ?_
  rw [State.cko_congr (s.put_synth f v), hon]

section
variable {s : State} (hs : Ready s) {m : Nat} (hm : m < 2)
include hs hm

theorem exec_synthLocked : exec (.synthLocked m) s = (if s.mcsState m = 1 then (s.put (R.MCS_STATUS_State m) 2).retuneDone m else s).done := by
  refine (s.accept_live _ _ (decide_eq_true hm) hs).trans ?_
  simp only [hm, true_and]

theorem exec_synthUnlock : exec (.synthUnlock m) s = (if s.mcsEn m = true ∧ s.mcsState m ≥ 2 then (s.unlocked m).relock m else s).done := by
  refine (s.accept_live _ _ (decide_eq_true hm) hs).trans ?_
  simp only [hm, true_and]
  rfl

theorem exec_synthNcdReturn : exec (.synthNcdReturn m) s = (if s.mcsStopped m = true then s.relock m else s).done := by
  refine (s.accept_live _ _ (decide_eq_true hm) hs).trans ?_
  simp only [hm, true_and]

theorem exec_synthStopped : exec (.synthStopped m) s =
    (if s.mcsEn m = true then (s.put (R.MCS_STATUS_State m) 0).ckoDrive m false else s).done := by
  refine (s.accept_live _ _ (decide_eq_true hm) hs).trans ?_
  simp only [hm, true_and]

theorem exec_synthOutputRestart : exec (.synthOutputRestart m) s =
    (if s.mcsState m = 2 ∧ s.is (R.MCS_STATUS_Held m) = true then (s.put (R.MCS_STATUS_Held m) 0).ckoDrive m true else s).done := by
  refine (s.accept_live _ _ (decide_eq_true hm) hs).trans ?_
  simp only [hm, true_and]

theorem synthLocked_gives (h : s.mcsState m = 1) : Gives (.synthLocked m) s (fun t => t.mcsState m = 2
    ∧ (m = 0 → s.is R.TIME_STATUS_RateSwitching = true → t.is R.TIME_STATUS_RateSwitching = false ∧ t.time.resume = true)) := by
  have hstatus : R.MCS_STATUS m ≠ R.TIME_STATUS := by unfold R.MCS_STATUS R.TIME_STATUS; omega
  refine Gives.of_done ((exec_synthLocked hs hm).trans (congrArg State.done (if_pos h))) ⟨?_, fun h0 hsw => ?_⟩
  · rw [State.settle_mcsState _ hm, State.mcsState_congr (State.retuneDone_rd _ m hstatus)]
    exact State.get_put_fit _ (w := 2) (Nat.le_of_ble_eq_true rfl) rfl (by decide)
  · subst h0
    have hsw' : (s.put (R.MCS_STATUS_State 0) 2).is R.TIME_STATUS_RateSwitching = true := (State.is_congr (s.rd_put_ne hstatus.symm 2)).trans hsw
    obtain ⟨hdone, hresume⟩ := State.retuneDone_resumes hsw'
    exact ⟨(State.settle_is _ (by decide)).trans hdone, by rw [State.settle_time, hresume]⟩

theorem synthUnlock_gives (hen : s.mcsEn m = true) (h2 : 2 ≤ s.mcsState m) : Gives (.synthUnlock m) s (fun t => t.mcsState m = 1
    ∧ t.get (R.MCS_CNT_UNLOCK_Count m) = (s.get (R.MCS_CNT_UNLOCK_Count m) + 1) % 2 ^ 32 ∧ t.is (R.MCS_STATUS_Held m) = s.is (R.MCS_CFG_HoldOutputs m)) := by
  obtain ⟨hstate, hheld⟩ := (s.unlocked m).relock_settle hm
  refine Gives.of_done ((exec_synthUnlock hs hm).trans (congrArg State.done (if_pos ⟨hen, h2⟩))) ⟨hstate, ?_, hheld.trans ?_⟩
  · have hcount : (R.MCS_CNT_UNLOCK_Count m).reg ≠ R.MSIX_PBA 0 ∧ R.MCS_CNT_UNLOCK m ≠ R.MCS_STATUS m ∧ R.MCS_CNT_UNLOCK m ≠ R.MCS_FREQ m
        ∧ R.MCS_CNT_UNLOCK m < 0x64400 := by
      show R.MCS_CNT_UNLOCK m ≠ R.MSIX_PBA 0 ∧ _
      unfold R.MCS_CNT_UNLOCK R.MSIX_PBA R.MCS_STATUS R.MCS_FREQ; omega
    obtain ⟨hpba, hst, hfr, hoff⟩ := hcount
    rw [State.settle_get _ hpba, State.get_congr ((s.unlocked m).relock_rd hm hst hfr (.inl hoff)), s.unlocked_count]
  · have hcfg : R.MCS_CFG m ≠ R.MCS_CNT_UNLOCK m ∧ R.MCS_CFG m ≠ R.RAMP_STATUS m ∧ R.MCS_CFG m ≠ R.RAMP_OFFSET m := by
      unfold R.MCS_CFG R.MCS_CNT_UNLOCK R.RAMP_STATUS R.RAMP_OFFSET; omega
    obtain ⟨hc, hr, ho⟩ := hcfg
    exact State.is_congr (s.unlocked_rd m hc hr ho)

theorem synthStopped_gives (hen : s.mcsEn m = true) : Gives (.synthStopped m) s (fun t => t.mcsState m = 0
    ∧ ∀ i, i < 12 → s.get (R.CKO_CFG_Source i) = m → (s.cko i).on = true → t.is (R.CKO_STATUS_Running i) = false) := by
  refine Gives.of_done ((exec_synthStopped hs hm).trans (congrArg State.done (if_pos hen))) ⟨?_, fun i hi hsrc hon => ?_⟩
  · rw [State.settle_mcsState _ hm, State.mcsState_congr (State.ckoDrive_rd _ _ _ (mcsStatus_offOutputs hm))]
    exact State.get_put_fit _ (w := 2) (Nat.le_of_ble_eq_true rfl) rfl (by decide)
  · exact s.ckoDrive_settle hi rfl _ false hsrc hon

theorem synthOutputRestart_gives (h2 : s.mcsState m = 2) (hheld : s.is (R.MCS_STATUS_Held m) = true) : Gives (.synthOutputRestart m) s (fun t =>
    t.is (R.MCS_STATUS_Held m) = false
    ∧ ∀ i, i < 12 → s.get (R.CKO_CFG_Source i) = m → (s.cko i).on = true → t.is (R.CKO_STATUS_Running i) = true) := by
  refine Gives.of_done ((exec_synthOutputRestart hs hm).trans (congrArg State.done (if_pos ⟨h2, hheld⟩))) ⟨?_, fun i hi hsrc hon => ?_⟩
  · rw [State.settle_is _ (mcsStatus_ne_pba hm), State.is_congr (State.ckoDrive_rd _ _ _ (mcsStatus_offOutputs hm))]
    exact State.is_put_zero _ (Nat.le_of_ble_eq_true rfl) rfl
  · exact s.ckoDrive_settle hi rfl _ true hsrc hon

end

theorem exec_synCtrlWrite {s : State} (hs : Ready s) (hb : s.is R.SYN_STATUS_Busy = false) {v : Nat} (hv : v < 2 ^ 32) :
    exec (.synCtrlWrite v) s = (s.synCtrlApply v).done :=
  (s.accept_live _ _ (decide_eq_true hv) hs).trans (congrArg State.done (State.slow_synth hb (off := R.SYN_CTRL) (by decide) _))

/-- Settles O21: each command by its guard, a relock by what it shows, and SYN_CTRL by what each synthesizer makes of its enable. -/
theorem synthesizerStates : Obligations.SynthesizerStates := by
  refine ⟨fun s m hs hm => ?_, fun s v hs hb hv => ?_⟩
  · refine ⟨fun h => ?_, synthLocked_gives hs hm, fun h => ?_, synthUnlock_gives hs hm, fun h => ?_, fun hen h0 => ?_, fun h => ?_,
      synthStopped_gives hs hm, fun h => ?_, synthOutputRestart_gives hs hm⟩
    · exact Ends.of_done ((exec_synthLocked hs hm).trans (congrArg State.done (if_neg h)))
    · exact Ends.of_done ((exec_synthUnlock hs hm).trans (congrArg State.done (if_neg h)))
    · exact Ends.of_done ((exec_synthNcdReturn hs hm).trans (congrArg State.done (if_neg (mt State.mcsStopped_iff.1 h))))
    · exact Gives.of_done ((exec_synthNcdReturn hs hm).trans (congrArg State.done (if_pos (State.mcsStopped_iff.2 ⟨hen, h0⟩)))) (s.relock_settle hm)
    · exact Ends.of_done ((exec_synthStopped hs hm).trans (congrArg State.done (if_neg (by rw [h]; decide))))
    · exact Ends.of_done ((exec_synthOutputRestart hs hm).trans (congrArg State.done (if_neg h)))
  · refine Gives.of_done (exec_synCtrlWrite hs hb hv) (fun m hm => ?_)
    rw [State.settle_mcsEn, State.settle_mcsState _ hm]
    exact s.synCtrlApply_shows v hm

end Sys2Proof.Machine
end

section
/-!
PROOF. The ramps: a profile that is started, refused or aborted, the end of a segment, and the end of a glide (R78, R79): the statement.
-/
namespace Sys2Proof.Machine

theorem ceilDiv_zero {b : Nat} (hb : 0 < b) : ceilDiv 0 b = 0 := by
  unfold ceilDiv
  rw [if_neg hb.ne']
  exact Nat.div_eq_of_lt (by omega)

theorem ceilDiv_pos {a b : Nat} (ha : 0 < a) (hb : 0 < b) : 0 < ceilDiv a b := by
  unfold ceilDiv
  rw [if_neg hb.ne']
  exact Nat.div_pos (by omega) hb

theorem rampWords_ne_pba {m : Nat} (hm : m < 2) : R.RAMP_STATUS m ≠ R.MSIX_PBA 0 ∧ R.RAMP_OFFSET m ≠ R.MSIX_PBA 0 := by
  unfold R.RAMP_STATUS R.RAMP_OFFSET R.MSIX_PBA; omega

theorem rampOffset_ne_rampStatus (m : Nat) : R.RAMP_OFFSET m ≠ R.RAMP_STATUS m := by unfold R.RAMP_OFFSET R.RAMP_STATUS; omega

theorem State.settle_ramp (s : State) (m : Nat) : s.settle.ramp m = s.ramp m := State.ramp_congr s.settle_synth m

theorem State.xrefTo_rd (s : State) (t a : Nat) : (s.xrefTo t).rd a = s.rd a := rfl

-- ## A profile started or refused

section
variable (s : State) (m : Nat) (segs : List (Int × Nat)) (e : Option Int)

/-- The ramp that runs a profile from now on; none where the profile has no segment. -/
def State.rampOf : Option RampSt := if segs = [] then none else some { segs := segs, endAt := e, start := s.xref }

/-- A profile has been accepted and runs (R78). -/
def State.rampBegun : State := ((s.put (R.RAMP_STATUS_Result m) 0).put (R.RAMP_STATUS_Segment m) 0).setRamp m (s.rampOf segs e)

/-- The segment that RAMP_CTRL.Zero runs back to offset 0. -/
def State.zeroSegs : List (Int × Nat) :=
  let off := s.getI (R.RAMP_OFFSET_Ppb m)
  let sl := max 1 (s.get (R.RAMP_CTRL_ZeroSlope m))
  if ceilDiv off.natAbs sl = 0 then [] else [((if off > 0 then -(sl : Int) else sl), ceilDiv off.natAbs sl)]

variable {s m segs e}

theorem State.rampBegin_refused (h : s.rampFree m = false ∨ profileOk (s.getI (R.RAMP_OFFSET_Ppb m)) (if e.isSome then [] else segs) = false) :
    s.rampBegin m segs e = (s.put (R.RAMP_STATUS_Result m) 1).report (turnedDown 0x10 (R.RAMP_CTRL m) 1 0) := by
  refine if_neg ?_
  rw [Bool.and_eq_true]
  rintro ⟨hfree, hok⟩
  obtain h | h := h
  · rw [hfree] at h; cases h
  · rw [hok] at h; cases h

theorem State.rampBegin_accepted (hfree : s.rampFree m = true)
    (hok : profileOk (s.getI (R.RAMP_OFFSET_Ppb m)) (if e.isSome then [] else segs) = true) : s.rampBegin m segs e = s.rampBegun m segs e :=
  if_pos (by rw [hfree, hok]; rfl)

variable (s m segs e)

theorem State.rampOf_isSome : (s.rampOf segs e).isSome = !segs.isEmpty := by
  unfold State.rampOf
  cases segs <;> rfl

/-- What a profile that has been accepted shows at the command's end. -/
theorem State.rampBegun_shows (hm : m < 2) : (s.rampBegun m segs e).settle.get (R.RAMP_STATUS_Result m) = 0
    ∧ (s.rampBegun m segs e).settle.ramp m = s.rampOf segs e
    ∧ (s.rampBegun m segs e).settle.is (R.RAMP_STATUS_Running m) = !segs.isEmpty
    ∧ (s.rampBegun m segs e).settle.getI (R.RAMP_OFFSET_Ppb m) = s.getI (R.RAMP_OFFSET_Ppb m) := by
  obtain ⟨hst, hoff⟩ := rampWords_ne_pba hm
  have hne := rampOffset_ne_rampStatus m
  unfold State.rampBegun
  refine ⟨?_, ?_, ?_, State.getI_congr ?_⟩
  · rw [State.settle_get _ hst, State.setRamp_get _ _ _ (.inr (Nat.le_of_ble_eq_true rfl)),
      State.get_put_ne _ (Nat.le_of_ble_eq_true rfl) (.inr (.inr (Nat.le_of_ble_eq_true rfl)))]
    exact State.get_put_fit _ (w := 2) (Nat.le_of_ble_eq_true rfl) rfl (by decide)
  · rw [State.settle_ramp, State.setRamp_ramp]
  · rw [State.settle_is _ hst, State.setRamp_running, State.rampOf_isSome]
  · exact (State.settle_rd _ hoff).trans ((State.setRamp_rd _ m _ hne).trans ((State.rd_put_ne _ hne _).trans (s.rd_put_ne hne _)))

end

theorem State.zeroSegs_home {s : State} {m : Nat} (h : s.getI (R.RAMP_OFFSET_Ppb m) = 0) : s.zeroSegs m = [] := by
  unfold State.zeroSegs
  rw [h]
  exact if_pos (ceilDiv_zero (by omega))

theorem State.zeroSegs_away {s : State} {m : Nat} (h : s.getI (R.RAMP_OFFSET_Ppb m) ≠ 0) : s.zeroSegs m =
    [(if 0 < s.getI (R.RAMP_OFFSET_Ppb m) then -((max 1 (s.get (R.RAMP_CTRL_ZeroSlope m)) : Nat) : Int) else (max 1 (s.get (R.RAMP_CTRL_ZeroSlope m)) : Nat),
      ceilDiv (s.getI (R.RAMP_OFFSET_Ppb m)).natAbs (max 1 (s.get (R.RAMP_CTRL_ZeroSlope m))))] :=
  if_neg (ceilDiv_pos (Int.natAbs_pos.2 h) (by omega)).ne'

-- ## An abort

section
variable {s : State} {m : Nat} (ms : Nat)

theorem State.rampAbort_none (h : s.ramp m = none) : s.rampAbort m ms = s := by
  unfold State.rampAbort
  rw [h]

theorem State.rampAbort_empty {r : RampSt} (h : s.ramp m = some r) (hr : r.segs = []) : s.rampAbort m ms = s.setRamp m none := by
  unfold State.rampAbort
  rw [h]
  dsimp only
  rw [hr]

theorem State.rampAbort_segment {r : RampSt} {sl : Int} {d : Nat} {rest : List (Int × Nat)} (h : s.ramp m = some r) (hr : r.segs = (sl, d) :: rest) :
    s.rampAbort m ms = (s.putSat (R.RAMP_OFFSET_Ppb m) (s.getI (R.RAMP_OFFSET_Ppb m) + sl * (min ms d : Nat))).setRamp m none := by
  unfold State.rampAbort
  rw [h]
  dsimp only
  rw [hr]

end

/-- A ramp that has ended: none runs. -/
theorem State.setRamp_none_settle (s : State) {m : Nat} (hm : m < 2) :
    (s.setRamp m none).settle.ramp m = none ∧ (s.setRamp m none).settle.is (R.RAMP_STATUS_Running m) = false := by
  rw [State.settle_ramp, State.setRamp_ramp, State.settle_is _ (rampWords_ne_pba hm).1, State.setRamp_running]
  exact ⟨rfl, rfl⟩

/-- The offset at a command's end is the one that was put before the ramp changed. -/
theorem State.putSat_setRamp_offset (s : State) {m : Nat} (hm : m < 2) (x : Int) (r : Option RampSt) :
    ((s.putSat (R.RAMP_OFFSET_Ppb m) x).setRamp m r).settle.getI (R.RAMP_OFFSET_Ppb m) = satSigned 32 x :=
  (State.getI_congr ((State.settle_rd _ (rampWords_ne_pba hm).2).trans (State.setRamp_rd _ m r (rampOffset_ne_rampStatus m)))).trans
    (s.getI_putSat (Nat.le_of_ble_eq_true rfl) rfl x)

-- ## The end of a segment

section
variable (s : State) (m : Nat) (r : RampSt)

/-- The time and the offset at the end of a segment of d milliseconds (R78). -/
def State.segmentEnded (d : Nat) (off : Int) : State := (s.xrefTo (r.start + d * cclkMs)).putSat (R.RAMP_OFFSET_Ppb m) off

/-- The next segment begins. -/
def State.segmentNext (d : Nat) (rest : List (Int × Nat)) : State :=
  (s.put (R.RAMP_STATUS_Segment m) (s.get (R.RAMP_STATUS_Segment m) + 1)).setRamp m (some { r with segs := rest, start := r.start + d * cclkMs })

theorem State.segmentEnded_xref (d : Nat) (off : Int) : (s.segmentEnded m r d off).xref = max s.xref (r.start + d * cclkMs) := rfl

theorem State.segmentEnded_segment (d : Nat) (off : Int) :
    (s.segmentEnded m r d off).get (R.RAMP_STATUS_Segment m) = s.get (R.RAMP_STATUS_Segment m) :=
  State.get_congr (State.rd_put_ne _ (rampOffset_ne_rampStatus m).symm _)

/-- What shows that the next segment has begun. -/
theorem State.segmentNext_shows (hm : m < 2) (d : Nat) (off : Int) (rest : List (Int × Nat)) :
    ((s.segmentEnded m r d off).segmentNext m r d rest).settle.ramp m = some { r with segs := rest, start := r.start + d * cclkMs }
    ∧ ((s.segmentEnded m r d off).segmentNext m r d rest).settle.xref = max s.xref (r.start + d * cclkMs)
    ∧ ((s.segmentEnded m r d off).segmentNext m r d rest).settle.get (R.RAMP_STATUS_Segment m) = (s.get (R.RAMP_STATUS_Segment m) + 1) % 8
    ∧ ((s.segmentEnded m r d off).segmentNext m r d rest).settle.getI (R.RAMP_OFFSET_Ppb m) = satSigned 32 off := by
  obtain ⟨hst, hoff⟩ := rampWords_ne_pba hm
  have hne := rampOffset_ne_rampStatus m
  unfold State.segmentNext
  refine ⟨?_, ?_, ?_, ?_⟩
  · rw [State.settle_ramp, State.setRamp_ramp]
  · rw [State.settle_xref, State.setRamp_xref, State.put_xref, State.segmentEnded_xref]
  · rw [State.settle_get _ hst, State.setRamp_get _ _ _ (.inl (Nat.le_of_ble_eq_true rfl)),
      State.get_put_wid _ (w := 3) _ (Nat.le_of_ble_eq_true rfl) rfl, State.segmentEnded_segment]
    rfl
  · exact (State.getI_congr ((State.settle_rd _ hoff).trans ((State.setRamp_rd _ m _ hne).trans (State.rd_put_ne _ hne _)))).trans
      (State.getI_putSat _ (Nat.le_of_ble_eq_true rfl) rfl off)

end

-- ## The end of a glide

/-- The time at which the glide's segment ends. -/
def State.glideTimed (s : State) : State := match s.ramp 0 with
  | some { segs := (_, d) :: _, start := t, .. } => s.xrefTo (t + d * cclkMs)
  | _ => s

/-- The offset is back at 0, and MCS0 is Locked on the plan of the rate (R79). -/
def State.glideLanded (s : State) : State :=
  ((((s.glideTimed.setRamp 0 none).put (R.RAMP_OFFSET_Ppb 0) 0).mcsPlan 0).put (R.MCS_STATUS_State 0) 2).retuneDone 0

theorem State.glideTimed_rd (s : State) (a : Nat) : s.glideTimed.rd a = s.rd a := by
  unfold State.glideTimed
  split
  · exact s.xrefTo_rd _ a
  · rfl

/-- What MCS0 shows once a glide has ended. -/
theorem State.glideLanded_shows (s : State) : s.glideLanded.mcsState 0 = 2 ∧ s.glideLanded.ramp 0 = none ∧ s.glideLanded.getI (R.RAMP_OFFSET_Ppb 0) = 0
    ∧ s.glideLanded.get (R.MCS_STATUS_Family 0) = rateFamily (s.get R.TIME_STATUS_RateNow) := by
  unfold State.glideLanded
  refine ⟨?_, ?_, ?_, ?_⟩
  · rw [State.mcsState_congr (State.retuneDone_rd _ 0 (by decide))]
    exact State.get_put_fit _ (w := 2) (by decide) rfl (by decide)
  · rw [State.ramp_congr (State.retuneDone_synth _ 0), State.ramp_congr (State.put_synth _ _ _), State.ramp_congr (State.mcsPlan_synth _ (by decide)),
      State.ramp_congr (State.put_synth _ _ _), State.setRamp_ramp]
  · rw [State.getI_congr (State.retuneDone_rd _ 0 (by decide)), State.getI_congr (State.rd_put_ne _ (by decide) _),
      State.getI_congr (State.mcsPlan_rd _ (by decide) (by decide) (by decide))]
    exact congrArg (toSigned 32) (State.get_put_fit _ (w := 32) (by decide) rfl (by decide))
  · rw [State.get_congr (State.retuneDone_rd _ 0 (by decide)), State.get_put_ne _ (by decide) (.inr (.inr (by decide))), State.mcsPlan_family,
      State.get_put_reg _ (by decide), State.get_congr (State.setRamp_rd _ 0 none (by decide)), State.get_congr (s.glideTimed_rd _)]

-- ## The commands

section
variable {s : State} (hs : Ready s)
include hs

section
variable {m : Nat} (hm : m < 2)
include hm

section
variable (hb : s.is R.SYN_STATUS_Busy = false)
include hb

theorem exec_rampStart : exec (.rampStart m) s = (s.rampBegin m (s.profile m 8) none).done := by
  refine (s.accept_live _ _ (decide_eq_true hm) hs).trans (congrArg State.done ((if_pos hm).trans (State.slow_synth hb ?_ _)))
  unfold R.RAMP_CTRL; omega

theorem exec_rampZero : exec (.rampZero m) s = (s.rampBegin m (s.zeroSegs m) (some 0)).done := by
  refine (s.accept_live _ _ (decide_eq_true hm) hs).trans (congrArg State.done ((if_pos hm).trans (State.slow_synth hb ?_ _)))
  unfold R.RAMP_CTRL; omega

theorem exec_rampAbort (ms : Nat) : exec (.rampAbort m ms) s = (s.rampAbort m ms).done := by
  refine (s.accept_live _ _ (decide_eq_true hm) hs).trans (congrArg State.done ((if_pos hm).trans (State.slow_synth hb ?_ _)))
  unfold R.RAMP_CTRL; omega

end

theorem exec_rampSegmentEnd_none (h : s.ramp m = none) : exec (.rampSegmentEnd m) s = s.done := by
  refine (s.accept_live _ _ (decide_eq_true hm) hs).trans ?_
  simp only [h]

theorem exec_rampSegmentEnd_glide {r : RampSt} (h : s.ramp m = some r) (hg : r.glide = true) : exec (.rampSegmentEnd m) s = s.done := by
  refine (s.accept_live _ _ (decide_eq_true hm) hs).trans ?_
  simp [h, hg]

section
variable {r : RampSt} (h : s.ramp m = some r) (hg : r.glide = false)
include h hg

theorem exec_rampSegmentEnd_empty (hr : r.segs = []) : exec (.rampSegmentEnd m) s = (s.setRamp m none).done := by
  refine (s.accept_live _ _ (decide_eq_true hm) hs).trans ?_
  simp [h, hg, hm, hr]

theorem exec_rampSegmentEnd_last {sl : Int} {d : Nat} (hr : r.segs = [(sl, d)]) : exec (.rampSegmentEnd m) s =
    ((s.segmentEnded m r d (r.endAt.getD (s.getI (R.RAMP_OFFSET_Ppb m) + sl * d))).setRamp m none).done := by
  refine (s.accept_live _ _ (decide_eq_true hm) hs).trans ?_
  cases he : r.endAt <;> simp [h, hg, hm, hr, he, State.segmentEnded]

theorem exec_rampSegmentEnd_next {sl : Int} {d : Nat} {x : Int × Nat} {rest : List (Int × Nat)} (hr : r.segs = (sl, d) :: x :: rest) :
    exec (.rampSegmentEnd m) s =
      ((s.segmentEnded m r d (s.getI (R.RAMP_OFFSET_Ppb m) + sl * d)).segmentNext m r d (x :: rest)).done := by
  refine (s.accept_live _ _ (decide_eq_true hm) hs).trans ?_
  simp [h, hg, hm, hr, State.segmentEnded, State.segmentNext]

end

end

theorem exec_glideEnd : exec .glideEnd s = (if s.mcsState 0 = 3 then s.glideLanded else s).done := by
  show execGlideEnd s = _
  unfold execGlideEnd
  rw [State.live_live _ _ hs]
  rfl

end

/-- Settles O22: a profile by `State.rampBegin`, an abort and a segment's end by what the ramp holds, a glide's end by what MCS0 shows. -/
theorem ramps : Obligations.Ramps := by
  refine ⟨fun s m hs hb hm => ?_, fun s hs => ⟨fun m hm h => ?_, fun m r hm h hg => ?_, fun m r hm h hg hr => ?_, fun m r sl d hm h hg => ?_,
    fun h => ?_, fun h => ?_⟩⟩
  · intro off slope
    have hstart := exec_rampStart hs hm hb
    have hzero := exec_rampZero hs hm hb
    refine ⟨fun h => ?_, fun hfree hok => ?_, fun h => ?_, fun hfree h => ?_, fun hfree h => ?_, fun ms h => ?_, fun ms r sl d rest h hr => ?_,
      fun ms r h hr => ?_⟩
    · exact Ends.of_done (hstart.trans (congrArg State.done (State.rampBegin_refused h)))
    · exact Gives.of_done (hstart.trans (congrArg State.done (State.rampBegin_accepted hfree hok))) (s.rampBegun_shows m _ _ hm)
    · exact Ends.of_done (hzero.trans (congrArg State.done (State.rampBegin_refused (.inl h))))
    · obtain ⟨-, hramp, hrun, -⟩ := s.rampBegun_shows m (s.zeroSegs m) (some 0) hm
      refine Gives.of_done (hzero.trans (congrArg State.done (State.rampBegin_accepted hfree rfl))) ⟨hrun.trans ?_, hramp.trans ?_⟩
      · rw [State.zeroSegs_away h]; rfl
      · rw [State.zeroSegs_away h]; rfl
    · obtain ⟨hres, hramp, -, -⟩ := s.rampBegun_shows m (s.zeroSegs m) (some 0) hm
      refine Gives.of_done (hzero.trans (congrArg State.done (State.rampBegin_accepted hfree rfl))) ⟨hres, hramp.trans ?_⟩
      exact if_pos (State.zeroSegs_home h)
    · exact Ends.of_done ((exec_rampAbort hs hm hb ms).trans (congrArg State.done (State.rampAbort_none ms h)))
    · obtain ⟨hramp, hrun⟩ := State.setRamp_none_settle (s.putSat (R.RAMP_OFFSET_Ppb m) (off + sl * (min ms d : Nat))) hm
      exact Gives.of_done ((exec_rampAbort hs hm hb ms).trans (congrArg State.done (State.rampAbort_segment ms h hr)))
        ⟨hramp, hrun, s.putSat_setRamp_offset hm _ none⟩
    · exact Gives.of_done ((exec_rampAbort hs hm hb ms).trans (congrArg State.done (State.rampAbort_empty ms h hr))) (s.setRamp_none_settle hm)
  · exact Ends.of_done (exec_rampSegmentEnd_none hs hm h)
  · exact Ends.of_done (exec_rampSegmentEnd_glide hs hm h hg)
  · exact Gives.of_done (exec_rampSegmentEnd_empty hs hm h hg hr) (s.setRamp_none_settle hm).1
  · refine ⟨fun hr => ?_, fun x rest hr => ?_⟩
    · obtain ⟨hramp, hrun⟩ := State.setRamp_none_settle (s.segmentEnded m r d (r.endAt.getD (s.getI (R.RAMP_OFFSET_Ppb m) + sl * d))) hm
      refine Gives.of_done (exec_rampSegmentEnd_last hs hm h hg hr) ⟨hramp, ?_, hrun, State.putSat_setRamp_offset _ hm _ none⟩
      rw [State.settle_xref, State.setRamp_xref, State.segmentEnded_xref]
    · exact Gives.of_done (exec_rampSegmentEnd_next hs hm h hg hr) (s.segmentNext_shows m r hm d _ _)
  · exact Ends.of_done ((exec_glideEnd hs).trans (congrArg State.done (if_neg h)))
  · obtain ⟨hstate, hramp, hoff, hfam⟩ := s.glideLanded_shows
    refine Gives.of_done ((exec_glideEnd hs).trans (congrArg State.done (if_pos h))) ⟨(State.settle_mcsState _ (by decide)).trans hstate,
      (State.settle_ramp _ 0).trans hramp, (State.getI_congr (State.settle_rd _ (by decide))).trans hoff, (State.settle_get _ (by decide)).trans hfam⟩

end Sys2Proof.Machine
end

section
/-!
PROOF. The clock outputs' configuration and phase (R80 to R84, R89): what a write of CKOi_CFG or CKOi_PHASE and a step of the walk show.
-/
namespace Sys2Proof.Machine

-- ## The registers written

/-- The row of CKOi_CFG (04_synthesis_clock_outputs.md, Registers). -/
def ckoCfgRow : RegRow :=
  ⟨0x64400, [(0x10, 12)], [⟨0, 1, .rw, [0]⟩, ⟨1, 1, .rw, [0]⟩, ⟨2, 1, .rw, [1]⟩, ⟨3, 1, .rw, [0]⟩, ⟨4, 1, .rw, [0]⟩]⟩

/-- The row of CKOi_PHASE. -/
def ckoPhaseRow : RegRow := ⟨0x64408, [(0x10, 12)], [⟨0, 16, .rw, [0]⟩, ⟨16, 8, .rw, [0]⟩]⟩

theorem findRow_ckoCfg : ∀ i, i < 12 → findRow (blockRows (R.CKO_CFG i)) (R.CKO_CFG i) = some (ckoCfgRow, i) := by decide

theorem findRow_ckoPhase : ∀ i, i < 12 → findRow (blockRows (R.CKO_PHASE i)) (R.CKO_PHASE i) = some (ckoPhaseRow, i) := by decide

section
variable (s : State) {i : Nat} (hi : i < 12) (v : Nat)

section
include hi

theorem State.wrRW_ckoCfg : (s.wrRW (R.CKO_CFG i) v).get (R.CKO_CFG_Enable i) = bitsOf v 0 1
    ∧ (s.wrRW (R.CKO_CFG i) v).get (R.CKO_CFG_Source i) = bitsOf v 1 1 ∧ (s.wrRW (R.CKO_CFG i) v).get (R.CKO_CFG_Align i) = bitsOf v 2 1 :=
  ⟨s.wrRW_get (findRow_ckoCfg i hi) (pre := []) rfl (by decide) (by decide) v,
    s.wrRW_get (findRow_ckoCfg i hi) (pre := [⟨0, 1, .rw, [0]⟩]) rfl (by decide) (by decide) v,
    s.wrRW_get (findRow_ckoCfg i hi) (pre := [⟨0, 1, .rw, [0]⟩, ⟨1, 1, .rw, [0]⟩]) rfl (by decide) (by decide) v⟩

theorem State.wrRW_ckoPhase : (s.wrRW (R.CKO_PHASE i) v).get (R.CKO_PHASE_Target i) = bitsOf v 0 16 :=
  s.wrRW_get (findRow_ckoPhase i hi) (pre := []) rfl (by decide) (by decide) v

end

theorem State.wrRW_preserves {γ : Type} {p : State → γ} (hp : ∀ (t : State) a w, p (t.wr a w) = p t) (a : Nat) : p (s.wrRW a v) = p s := by
  unfold State.wrRW
  split
  · rfl
  · exact hp s _ _

theorem State.wrRW_cko (a j : Nat) : (s.wrRW a v).cko j = s.cko j := State.cko_congr (s.wrRW_preserves v State.wr_synth a) j

theorem State.updCko_rd (j : Nat) (f : CkoSt → CkoSt) (a : Nat) : (s.updCko j f).rd a = s.rd a := rfl

theorem State.updCko_cko (j : Nat) (f : CkoSt → CkoSt) : (s.updCko j f).cko j = f (s.cko j) := by
  simp only [State.cko, State.updCko, tget_tupd_same]

theorem State.updCko_cko_ne {j k : Nat} (h : k ≠ j) (f : CkoSt → CkoSt) : (s.updCko j f).cko k = s.cko k := tget_tput_ne _ h _ _

end

theorem State.settle_cko (s : State) (i : Nat) : s.settle.cko i = s.cko i := State.cko_congr s.settle_synth i

theorem ckoWords_ne_pba {i : Nat} (hi : i < 12) : R.CKO_CFG i ≠ R.MSIX_PBA 0 ∧ R.CKO_PHASE i ≠ R.MSIX_PBA 0 := by
  unfold R.CKO_CFG R.CKO_PHASE R.MSIX_PBA; omega

theorem ckoPhase_ne_ckoStatus (i j : Nat) : R.CKO_PHASE i ≠ R.CKO_STATUS j := by unfold R.CKO_PHASE R.CKO_STATUS; omega

-- ## A write of CKOi_CFG

/-- The word taken from a write of CKOi_CFG: Lvds is ignored on CKO4 to CKO11 (R84). -/
def ckoCfgWord (i v : Nat) : Nat := if i ≥ 4 then setBits v 3 1 0 else v

theorem bitsOf_ckoCfgWord (i v : Nat) {l w : Nat} (h : l + w ≤ 3) : bitsOf (ckoCfgWord i v) l w = bitsOf v l w := by
  unfold ckoCfgWord
  split
  · exact bitsOf_setBits_ne _ _ _ _ _ _ (.inl h)
  · rfl

theorem bitOf_ckoCfgWord (i v : Nat) {l : Nat} (h : l < 3) : bitOf (ckoCfgWord i v) l = bitOf v l :=
  congrArg (fun x => decide (x = 1)) (bitsOf_ckoCfgWord i v (l := l) (w := 1) h)

theorem bitOf_ckoCfgWord_lvds (i v : Nat) : bitOf (ckoCfgWord i v) 3 = (decide (i < 4) && bitOf v 3) := by
  unfold ckoCfgWord
  by_cases h : i < 4
  · rw [if_neg (by omega), decide_eq_true h, Bool.true_and]
  · rw [if_pos (by omega), decide_eq_false h, Bool.false_and]
    exact congrArg (fun x => decide (x = 1)) (bitsOf_setBits_same v 3 1 0)

section
variable (s : State) (i v : Nat)

/-- The write would change the source or the alignment (R89). -/
abbrev State.ckoMoves : Prop := bitsOf v 1 1 ≠ s.get (R.CKO_CFG_Source i) ∨ bitOf v 2 ≠ s.is (R.CKO_CFG_Align i)

/-- The configuration that the write asks for keeps R80 and R81. -/
abbrev State.ckoFits : Bool := s.ckoOk (bitsOf v 1 1) (bitOf v 2) (decide (i < 4) && bitOf v 3) (s.get (R.CKO_DIV_Div i))

/-- The enable that waits for the boundary after a write of Enable (R82). -/
def CkoSt.asked (b : Bool) (c : CkoSt) : CkoSt := { c with pend := if b = c.on then none else some b }

/-- A write of CKOi_CFG that is taken. -/
def State.ckoCfgTaken : State := (s.wrRW (R.CKO_CFG i) (ckoCfgWord i v)).updCko i (CkoSt.asked (bitOf v 0))

theorem State.updCko_congr {f g : CkoSt → CkoSt} (h : f (s.cko i) = g (s.cko i)) : s.updCko i f = s.updCko i g := by
  unfold State.cko at h
  unfold State.updCko tupd
  rw [h]

theorem State.updCko_asked (b : Bool) :
    (if b ≠ (s.cko i).on then s.updCko i (fun c => { c with pend := some b }) else s.updCko i (fun c => { c with pend := none }))
      = s.updCko i (CkoSt.asked b) := by
  by_cases h : b = (s.cko i).on
  · rw [if_neg (not_not.2 h)]
    exact s.updCko_congr i (by unfold CkoSt.asked; rw [if_pos h])
  · rw [if_pos h]
    exact s.updCko_congr i (by unfold CkoSt.asked; rw [if_neg h])

theorem State.ckoCfgApply_eq : s.ckoCfgApply i v =
    if s.is (R.CKO_CFG_Enable i) = true ∧ s.ckoMoves i v then s.report (turnedDown 0x10 (R.CKO_CFG i) 0xFF 0)
    else if (!s.ckoFits i v) = true then s.report (turnedDown 0x10 (R.CKO_CFG i) 0xFF 0)
    else s.ckoCfgTaken i v := by
  unfold State.ckoFits State.ckoMoves State.ckoCfgTaken
  rw [← State.updCko_asked, ← bitOf_ckoCfgWord_lvds, ← bitsOf_ckoCfgWord i v (l := 1) (w := 1) (by decide),
    ← bitOf_ckoCfgWord i v (l := 2) (by decide), ← bitOf_ckoCfgWord i v (l := 0) (by decide)]
  rfl

/-- What a write that is taken shows (R82). -/
theorem State.ckoCfgTaken_shows (hi : i < 12) : (s.ckoCfgTaken i v).is (R.CKO_CFG_Enable i) = bitOf v 0
    ∧ (s.ckoCfgTaken i v).get (R.CKO_CFG_Source i) = bitsOf v 1 1 ∧ (s.ckoCfgTaken i v).is (R.CKO_CFG_Align i) = bitOf v 2
    ∧ (s.ckoCfgTaken i v).cko i = (s.cko i).asked (bitOf v 0) ∧ (s.ckoCfgTaken i v).errWait = s.errWait := by
  obtain ⟨hen, hsrc, hal⟩ := s.wrRW_ckoCfg hi (ckoCfgWord i v)
  have hrd : ∀ a, (s.ckoCfgTaken i v).rd a = (s.wrRW (R.CKO_CFG i) (ckoCfgWord i v)).rd a := fun a => State.updCko_rd _ i _ a
  refine ⟨?_, ?_, ?_, ?_, s.wrRW_preserves _ State.wr_errWait _⟩
  · rw [State.is_congr (hrd _), ← bitOf_ckoCfgWord i v (by decide)]
    exact congrArg (fun x => decide (x = 1)) hen
  · rw [State.get_congr (hrd _), hsrc, bitsOf_ckoCfgWord i v (by decide)]
  · rw [State.is_congr (hrd _), ← bitOf_ckoCfgWord i v (by decide)]
    exact congrArg (fun x => decide (x = 1)) hal
  · unfold State.ckoCfgTaken
    rw [State.updCko_cko, State.wrRW_cko]

end

-- ## The phase

section
variable (s : State) (i : Nat)

theorem State.ckoPhaseTake_on {s : State} {i : Nat} (h : (s.cko i).on = true) : s.ckoPhaseTake i =
    s.putB (R.CKO_STATUS_Walking i) (decide (s.get (R.CKO_STATUS_Phase i) ≠ s.get (R.CKO_PHASE_Target i))) := if_pos h

theorem State.ckoPhaseTake_off {s : State} {i : Nat} (h : (s.cko i).on = false) : s.ckoPhaseTake i =
    (s.put (R.CKO_STATUS_Phase i) (s.get (R.CKO_PHASE_Target i))).put (R.CKO_STATUS_Walking i) 0 := if_neg (by rw [h]; decide)

theorem State.ckoPhaseTake_rd {a : Nat} (ha : a ≠ R.CKO_STATUS i) : (s.ckoPhaseTake i).rd a = s.rd a := by
  unfold State.ckoPhaseTake
  split
  · exact s.rd_put_ne ha _
  · exact (State.rd_put_ne _ ha _).trans (s.rd_put_ne ha _)

theorem State.ckoPhaseTake_synth : (s.ckoPhaseTake i).synth = s.synth := by
  unfold State.ckoPhaseTake
  split
  · rw [State.putB_synth]
  · rw [State.put_synth, State.put_synth]

/-- The phase of an output that is off stands at its target; that of one that is on stays, and walks while it differs (R83). -/
theorem State.ckoPhaseTake_shows : (s.ckoPhaseTake i).get (R.CKO_STATUS_Phase i) =
      (if (s.cko i).on = true then s.get (R.CKO_STATUS_Phase i) else s.get (R.CKO_PHASE_Target i))
    ∧ (s.ckoPhaseTake i).is (R.CKO_STATUS_Walking i) =
      ((s.cko i).on && decide (s.get (R.CKO_STATUS_Phase i) ≠ s.get (R.CKO_PHASE_Target i)))
    ∧ (s.ckoPhaseTake i).is (R.CKO_STATUS_Running i) = s.is (R.CKO_STATUS_Running i) := by
  have hwalk : (R.CKO_STATUS_Walking i).lsb + (R.CKO_STATUS_Walking i).wid ≤ 32 := Nat.le_of_ble_eq_true rfl
  have hphase : (R.CKO_STATUS_Phase i).lsb + (R.CKO_STATUS_Phase i).wid ≤ (R.CKO_STATUS_Walking i).lsb := Nat.le_of_ble_eq_true rfl
  have hrun : (R.CKO_STATUS_Running i).lsb + (R.CKO_STATUS_Running i).wid ≤ (R.CKO_STATUS_Walking i).lsb := Nat.le_of_ble_eq_true rfl
  cases hon : (s.cko i).on with
  | true =>
    rw [State.ckoPhaseTake_on hon, if_pos rfl, Bool.true_and]
    exact ⟨s.get_putB_ne hwalk (.inr (.inl hphase)) _, s.is_putB_same hwalk rfl _, s.is_put_ne hwalk (.inr (.inl hrun)) _⟩
  | false =>
    have htarget : s.get (R.CKO_PHASE_Target i) < 2 ^ 16 := Nat.mod_lt _ (Nat.two_pow_pos 16)
    rw [State.ckoPhaseTake_off hon, if_neg Bool.false_ne_true, Bool.false_and]
    refine ⟨?_, State.is_put_zero _ hwalk rfl, ?_⟩
    · rw [State.get_put_ne _ hwalk (.inr (.inl hphase))]
      exact State.get_put_fit _ (w := 16) (Nat.le_of_ble_eq_true rfl) rfl htarget
    · rw [State.is_put_ne _ hwalk (.inr (.inl hrun)), State.is_put_ne _ (Nat.le_of_ble_eq_true rfl) (.inr (.inr (Nat.le_of_ble_eq_true rfl)))]

/-- A write of CKOi_PHASE (R83). -/
theorem State.ckoPhaseApply_shows (hi : i < 12) (v : Nat) : (s.ckoPhaseApply i v).get (R.CKO_PHASE_Target i) = bitsOf v 0 16
    ∧ (s.ckoPhaseApply i v).get (R.CKO_STATUS_Phase i) = (if (s.cko i).on = true then s.get (R.CKO_STATUS_Phase i) else bitsOf v 0 16)
    ∧ (s.ckoPhaseApply i v).is (R.CKO_STATUS_Walking i) = ((s.cko i).on && decide (s.get (R.CKO_STATUS_Phase i) ≠ bitsOf v 0 16)) := by
  obtain ⟨hphase, hwalk, -⟩ := (s.wrRW (R.CKO_PHASE i) v).ckoPhaseTake_shows i
  have hstatus : (s.wrRW (R.CKO_PHASE i) v).get (R.CKO_STATUS_Phase i) = s.get (R.CKO_STATUS_Phase i) :=
    State.get_congr (s.wrRW_rd_ne (ckoPhase_ne_ckoStatus i i).symm v)
  rw [s.wrRW_ckoPhase hi, s.wrRW_cko, hstatus] at hphase hwalk
  exact ⟨(State.get_congr (State.ckoPhaseTake_rd _ i (ckoPhase_ne_ckoStatus i i))).trans (s.wrRW_ckoPhase hi v), hphase, hwalk⟩

/-- The phase one fine code nearer to the target. -/
def State.ckoNearer : Nat :=
  if s.get (R.CKO_STATUS_Phase i) < s.get (R.CKO_PHASE_Target i) then s.get (R.CKO_STATUS_Phase i) + 1
  else if s.get (R.CKO_PHASE_Target i) < s.get (R.CKO_STATUS_Phase i) then s.get (R.CKO_STATUS_Phase i) - 1 else s.get (R.CKO_STATUS_Phase i)

theorem State.ckoNearer_lt : s.ckoNearer i < 2 ^ 16 := by
  have hphase : s.get (R.CKO_STATUS_Phase i) < 2 ^ 16 := Nat.mod_lt _ (Nat.two_pow_pos 16)
  have htarget : s.get (R.CKO_PHASE_Target i) < 2 ^ 16 := Nat.mod_lt _ (Nat.two_pow_pos 16)
  unfold State.ckoNearer
  split
  · omega
  · split <;> omega

/-- A step of the walk moves the phase and writes nothing but the output's status (R83). -/
theorem State.ckoWalk_shows {s : State} {i : Nat} (hi : i < 12) (hon : (s.cko i).on = true) :
    OnlyRegs [R.CKO_STATUS i] s ((s.put (R.CKO_STATUS_Phase i) (s.ckoNearer i)).ckoPhaseTake i).settle
    ∧ ((s.put (R.CKO_STATUS_Phase i) (s.ckoNearer i)).ckoPhaseTake i).settle.get (R.CKO_STATUS_Phase i) = s.ckoNearer i := by
  have hon' : ((s.put (R.CKO_STATUS_Phase i) (s.ckoNearer i)).cko i).on = true := by
    rw [State.cko_congr (State.put_synth _ _ _), hon]
  have hmem : R.CKO_STATUS i ∈ [R.CKO_STATUS i] := List.mem_singleton_self _
  refine ⟨OnlyRegs.settle' ?_, ?_⟩
  · rw [State.ckoPhaseTake_on hon']
    exact OnlyRegs.of_regs (((SameRegs.refl' _ s).put' hmem _).putB' hmem _) (((RegsOnly.refl' s).put' _ _).putB' _ _)
  · rw [State.settle_get _ (ckoStatus_ne_pba hi), (State.ckoPhaseTake_shows _ i).1, if_pos hon']
    exact State.get_put_fit _ (w := 16) (Nat.le_of_ble_eq_true rfl) rfl (s.ckoNearer_lt i)

end

end Sys2Proof.Machine
end

section
/-!
PROOF. The clock outputs: enables at a boundary, the re-alignment at a whole second, and the commands (R80 to R83): the statement.
-/
namespace Sys2Proof.Machine

-- ## Enables at a boundary

section
variable (s : State) (i : Nat)

/-- An output whose enable takes effect, before it is driven. -/
def State.ckoStarted : State :=
  let early := s.is (R.CKO_CFG_Align i) && (!s.is R.TIME_STATUS_TodValid || !s.is R.TIME_CTRL_Run)
  s.updCko i (fun _ => { on := true, pend := none, realign := early, base := s.time.tai })

/-- The synthesizer that an output takes drives the outputs (R74, R75). -/
def State.ckoDriven : Bool :=
  decide (s.mcsState (s.get (R.CKO_CFG_Source i)) ≠ 0) && !s.is (R.MCS_STATUS_Held (s.get (R.CKO_CFG_Source i)))

variable {s i}

theorem State.ckoEnable_idle (h : (s.cko i).pend = none) : s.ckoEnable i = s := by
  unfold State.ckoEnable
  rw [h]

theorem State.ckoEnable_starts (h : (s.cko i).pend = some true) :
    s.ckoEnable i = (s.ckoStarted i).putB (R.CKO_STATUS_Running i) (s.ckoDriven i) := by
  have hrd : ∀ a, (s.ckoStarted i).rd a = s.rd a := fun a => s.updCko_rd i _ a
  unfold State.ckoDriven
  rw [← State.mcsState_congr (hrd _), ← State.is_congr (hrd _)]
  unfold State.ckoEnable
  rw [h]
  rfl

theorem State.ckoEnable_stops (h : (s.cko i).pend = some false) :
    s.ckoEnable i = ((s.updCko i (fun _ => {})).put (R.CKO_STATUS_Running i) 0).ckoPhaseTake i := by
  unfold State.ckoEnable
  rw [h]

variable (s i)

theorem State.ckoEnable_rd {a : Nat} (ha : a ≠ R.CKO_STATUS i) : (s.ckoEnable i).rd a = s.rd a := by
  match h : (s.cko i).pend with
  | none => rw [State.ckoEnable_idle h]
  | some true => rw [State.ckoEnable_starts h, State.putB, State.rd_put_ne _ ha, State.ckoStarted, State.updCko_rd]
  | some false => rw [State.ckoEnable_stops h, State.ckoPhaseTake_rd _ _ ha, State.rd_put_ne _ ha, State.updCko_rd]

theorem State.ckoEnable_cko_ne {j : Nat} (hj : j ≠ i) : (s.ckoEnable i).cko j = s.cko j := by
  match h : (s.cko i).pend with
  | none => rw [State.ckoEnable_idle h]
  | some true => rw [State.ckoEnable_starts h, State.cko_congr (State.putB_synth _ _ _), State.ckoStarted, State.updCko_cko_ne _ hj]
  | some false =>
    rw [State.ckoEnable_stops h, State.cko_congr (State.ckoPhaseTake_synth _ _), State.cko_congr (State.put_synth _ _ _), State.updCko_cko_ne _ hj]

/-- What an output shows once its waiting enable or disable has taken effect in t, having stood as in s (R82, R83). -/
def State.EnableTaken (t : State) : Prop :=
  ((s.cko i).pend = none → t.cko i = s.cko i)
  ∧ ((s.cko i).pend = some true → (t.cko i).on = true ∧ (t.cko i).pend = none ∧ t.is (R.CKO_STATUS_Running i) = s.ckoDriven i)
  ∧ ((s.cko i).pend = some false → t.cko i = {} ∧ t.is (R.CKO_STATUS_Running i) = false ∧ t.get (R.CKO_STATUS_Phase i) = s.get (R.CKO_PHASE_Target i))

theorem State.ckoEnable_taken : s.EnableTaken i (s.ckoEnable i) := by
  refine ⟨fun h => by rw [State.ckoEnable_idle h], fun h => ?_, fun h => ?_⟩
  · have hcko : (s.ckoEnable i).cko i = (s.ckoStarted i).cko i := by
      rw [State.ckoEnable_starts h, State.cko_congr (State.putB_synth _ _ _)]
    rw [hcko, State.ckoStarted, State.updCko_cko, State.ckoEnable_starts h, State.is_putB_same _ (Nat.le_of_ble_eq_true rfl) rfl]
    exact ⟨rfl, rfl, rfl⟩
  · have hcko : ((s.updCko i (fun _ => {})).put (R.CKO_STATUS_Running i) 0).cko i = {} := by
      rw [State.cko_congr (State.put_synth _ _ _), State.updCko_cko]
    obtain ⟨hphase, -, hrun⟩ := ((s.updCko i (fun _ => {})).put (R.CKO_STATUS_Running i) 0).ckoPhaseTake_shows i
    rw [State.ckoEnable_stops h, State.cko_congr (State.ckoPhaseTake_synth _ _), hphase, hrun, hcko]
    refine ⟨rfl, State.is_put_zero _ (Nat.le_of_ble_eq_true rfl) rfl, ?_⟩
    rw [if_neg (by decide)]
    exact State.get_congr ((State.rd_put_ne _ (ckoPhase_ne_ckoStatus i i) 0).trans (s.updCko_rd i _ _))

/-- What decides how an output takes its enable: its words and those of synthesizer m, and what the block holds of it. -/
def State.ckoScene (m : Nat) : (Word × Word × CkoSt) × Word × Word := (s.ckoView i, s.rd (R.CKO_PHASE i), s.rd (R.MCS_STATUS m))

theorem State.ckoEnable_scene_ne {j m : Nat} (hm : m < 2) (hj : j ≠ i) : (s.ckoEnable i).ckoScene j m = s.ckoScene j m :=
  have hmcs : R.MCS_STATUS m ≠ R.CKO_STATUS i := by unfold R.MCS_STATUS R.CKO_STATUS; omega
  Prod.ext (Prod.ext (s.ckoEnable_rd i (ckoStatus_ne_ckoStatus hj))
      (Prod.ext (s.ckoEnable_rd i (ckoCfg_ne_ckoStatus j i)) (s.ckoEnable_cko_ne i hj)))
    (Prod.ext (s.ckoEnable_rd i (ckoPhase_ne_ckoStatus j i)) (s.ckoEnable_rd i hmcs))

variable {s i}

theorem State.EnableTaken.congr {t u w : State} (hu : u.ckoScene i (s.get (R.CKO_CFG_Source i)) = s.ckoScene i (s.get (R.CKO_CFG_Source i)))
    (hw : w.ckoView i = t.ckoView i) (h : u.EnableTaken i t) : s.EnableTaken i w := by
  have hcko : u.cko i = s.cko i := congrArg (fun x => x.1.2.2) hu
  have hsrc : u.get (R.CKO_CFG_Source i) = s.get (R.CKO_CFG_Source i) := State.get_congr (congrArg (fun x => x.1.2.1) hu)
  have hmcs : u.rd (R.MCS_STATUS (s.get (R.CKO_CFG_Source i))) = s.rd (R.MCS_STATUS (s.get (R.CKO_CFG_Source i))) := congrArg (fun x => x.2.2) hu
  have hdriven : u.ckoDriven i = s.ckoDriven i := by
    unfold State.ckoDriven
    rw [hsrc, State.mcsState_congr hmcs, State.is_congr (f := R.MCS_STATUS_Held _) hmcs]
  have htarget : u.get (R.CKO_PHASE_Target i) = s.get (R.CKO_PHASE_Target i) := State.get_congr (congrArg (fun x => x.2.1) hu)
  have hstatus : w.rd (R.CKO_STATUS i) = t.rd (R.CKO_STATUS i) := congrArg Prod.fst hw
  have hcko' : w.cko i = t.cko i := congrArg (fun x => x.2.2) hw
  unfold State.EnableTaken at h ⊢
  rw [hcko, hdriven, htarget] at h
  rw [hcko', State.is_congr (f := R.CKO_STATUS_Running i) hstatus, State.get_congr (f := R.CKO_STATUS_Phase i) hstatus]
  exact h

/-- Every output's waiting enable takes effect at the boundary. -/
theorem State.ckoEnables_taken (s : State) {i : Nat} (hi : i < 12) : s.EnableTaken i (s.forN 12 (fun j t => t.ckoEnable j)).settle := by
  have hsrc : s.get (R.CKO_CFG_Source i) < 2 := Nat.mod_lt _ (Nat.two_pow_pos 1)
  have hother : ∀ j, j ≠ i → ∀ t : State,
      (t.ckoEnable j).ckoScene i (s.get (R.CKO_CFG_Source i)) = t.ckoScene i (s.get (R.CKO_CFG_Source i)) :=
    fun j hj t => t.ckoEnable_scene_ne j hsrc hj.symm
  obtain ⟨u, hu, hend⟩ := State.forN_at (p := fun t => t.ckoScene i (s.get (R.CKO_CFG_Source i))) hi hother s
  generalize s.forN 12 (fun j t => t.ckoEnable j) = w at hend ⊢
  have hsettled : w.settle.ckoView i = w.ckoView i :=
    Prod.ext (w.settle_rd (ckoStatus_ne_pba hi)) (Prod.ext (w.settle_rd (ckoWords_ne_pba hi).1) (w.settle_cko i))
  exact (u.ckoEnable_taken i).congr hu (hsettled.trans (congrArg Prod.fst hend))

end

-- ## The re-alignment at a whole second

/-- Where only what the synthesizers hold changed, nothing else differs at a command's end. -/
theorem OnlyRegs.synth_settle {s t : State} (h : ({ t with synth := s.synth } : State) = s) :
    OnlyRegs [] s { t.settle with synth := s.synth } := by
  have hrd : ∀ a, ({ t with synth := s.synth } : State).rd a = s.rd a := fun a => by rw [h]
  refine ⟨fun a _ ha => (t.settle_rd ha).trans (hrd a), ?_⟩
  have rest := congrArg (fun u : State => { u with regs := s.regs, outbox := s.outbox, msixLevel := s.msixLevel, synth := s.synth }) t.settle_msix.2.2.2
  exact Eq.trans rest (congrArg (fun u : State => { u with regs := s.regs, outbox := s.outbox, msixLevel := s.msixLevel }) h)

/-- An output that waits for its re-alignment has it. -/
def State.ckoRealign (s : State) (i : Nat) : State :=
  if (s.cko i).realign then s.updCko i (fun c => { c with realign := false }) else s

theorem State.ckoRealign_cko (s : State) (i : Nat) : (s.ckoRealign i).cko i = { s.cko i with realign := false } := by
  unfold State.ckoRealign
  by_cases h : (s.cko i).realign = true
  · rw [if_pos h, State.updCko_cko]
  · rw [if_neg h, ← Bool.eq_false_of_not_eq_true h]

theorem State.ckoRealign_cko_ne (s : State) {i j : Nat} (h : j ≠ i) : (s.ckoRealign i).cko j = s.cko j := by
  unfold State.ckoRealign
  split
  · exact s.updCko_cko_ne h _
  · rfl

theorem State.ckoRealigns_shows (s : State) {i : Nat} (hi : i < 12) :
    (s.forN 12 (fun j t => t.ckoRealign j)).settle.cko i = { s.cko i with realign := false }
    ∧ OnlyRegs [] s { (s.forN 12 (fun j t => t.ckoRealign j)).settle with synth := s.synth } := by
  obtain ⟨u, hu, hend⟩ := State.forN_at (p := fun t => t.cko i) (f := fun j t => t.ckoRealign j) hi (fun j hj t => t.ckoRealign_cko_ne hj.symm) s
  refine ⟨?_, OnlyRegs.synth_settle (State.forN_keeps (fun t : State => { t with synth := s.synth }) 12 _ (fun j _ t => ?_) s)⟩
  · rw [State.settle_cko, hend, State.ckoRealign_cko, hu]
  · unfold State.ckoRealign
    split <;> rfl

-- ## The commands

section
variable {s : State} (hs : Ready s)
include hs

theorem exec_ckoEnableApply : exec .ckoEnableApply s = (s.forN 12 (fun i t => t.ckoEnable i)).done := by
  show execCkoEnableApply s = _
  unfold execCkoEnableApply
  rw [State.live_live _ _ hs]

theorem exec_ckoSecondRealign : exec .ckoSecondRealign s =
    (if s.is R.TIME_CTRL_Run = true ∧ s.is R.TIME_STATUS_TodValid = true then s.forN 12 (fun i t => t.ckoRealign i) else s).done := by
  show execCkoSecondRealign s = _
  unfold execCkoSecondRealign
  rw [State.live_live _ _ hs]
  rfl

variable {i : Nat} (hi : i < 12)
include hi

theorem exec_ckoWalkStep : exec (.ckoWalkStep i) s =
    (if (s.cko i).on = true then (s.put (R.CKO_STATUS_Phase i) (s.ckoNearer i)).ckoPhaseTake i else s).done := by
  refine (s.accept_live _ _ (decide_eq_true hi) hs).trans ?_
  simp only [hi, true_and]
  rfl

variable (hb : s.is R.SYN_STATUS_Busy = false) {v : Nat} (hv : v < 2 ^ 32)
include hb hv

theorem exec_ckoCfgWrite : exec (.ckoCfgWrite i v) s = (s.ckoCfgApply i v).done := by
  have hok : (below i 12 && below v (2 ^ 32)) = true := by rw [below, below, decide_eq_true hi, decide_eq_true hv]; rfl
  refine (s.accept_live _ _ hok hs).trans (congrArg State.done ((if_pos hi).trans (State.slow_synth hb ?_ _)))
  unfold R.CKO_CFG; omega

theorem exec_ckoPhaseWrite : exec (.ckoPhaseWrite i v) s = (s.ckoPhaseApply i v).done := by
  have hok : (below i 12 && below v (2 ^ 32)) = true := by rw [below, below, decide_eq_true hi, decide_eq_true hv]; rfl
  refine (s.accept_live _ _ hok hs).trans (congrArg State.done ((if_pos hi).trans (State.slow_synth hb ?_ _)))
  unfold R.CKO_PHASE; omega

end

/-- Settles O23: a write of CKOi_CFG by its checks, the boundary by what each output waits for, and the phase by the enable in force. -/
theorem clockOutputs : Obligations.ClockOutputs := by
  intro s i v hs hb hi hv
  have hcfg := (exec_ckoCfgWrite hs hi hb hv).trans (congrArg State.done (s.ckoCfgApply_eq i v))
  have hstatus := ckoStatus_ne_pba hi
  obtain ⟨hcfgPba, hphasePba⟩ := ckoWords_ne_pba hi
  refine ⟨fun hen hmoves => ?_, fun hfits => ?_, fun hsame hfits => ?_, ?_, ?_, fun hoff => ?_, fun hon => ?_, fun h => ?_, fun hrun htod => ?_⟩
  · exact Ends.of_done (hcfg.trans (congrArg State.done (if_pos ⟨hen, hmoves⟩)))
  · refine Ends.of_done (hcfg.trans (congrArg State.done ?_))
    rw [if_pos (show (!s.ckoFits i v) = true by rw [State.ckoFits, hfits]; rfl), ite_self]
  · have hstays : ¬ (s.is (R.CKO_CFG_Enable i) = true ∧ s.ckoMoves i v) := by
      rintro ⟨hen, hmoves⟩
      obtain hoff | ⟨hsrc, hal⟩ := hsame
      · rw [hoff] at hen; cases hen
      · exact hmoves.elim (fun h => h hsrc) (fun h => h hal)
    obtain ⟨hen, hsrc, hal, hcko, herr⟩ := s.ckoCfgTaken_shows i v hi
    refine Gives.of_done (hcfg.trans (congrArg State.done ((if_neg hstays).trans (if_neg (by rw [State.ckoFits, hfits]; decide))))) ⟨?_, ?_, ?_, ?_, ?_⟩
    · rw [State.settle_is _ hcfgPba, hen]
    · rw [State.settle_get _ hcfgPba, hsrc]
    · rw [State.settle_is _ hcfgPba, hal]
    · rw [State.settle_cko, hcko]; rfl
    · rw [State.settle_errWait, herr]
  · exact Gives.of_done (exec_ckoEnableApply hs) (s.ckoEnables_taken hi)
  · obtain ⟨htarget, hphase, hwalk⟩ := s.ckoPhaseApply_shows i hi v
    exact Gives.of_done (exec_ckoPhaseWrite hs hi hb hv) ⟨(State.settle_get _ hphasePba).trans htarget, (State.settle_get _ hstatus).trans hphase,
      (State.settle_is _ hstatus).trans hwalk⟩
  · exact Ends.of_done ((exec_ckoWalkStep hs hi).trans (congrArg State.done (if_neg (by rw [hoff]; decide))))
  · exact Gives.of_done ((exec_ckoWalkStep hs hi).trans (congrArg State.done (if_pos hon))) (State.ckoWalk_shows hi hon)
  · exact Ends.of_done ((exec_ckoSecondRealign hs).trans (congrArg State.done (if_neg h)))
  · exact Gives.of_done ((exec_ckoSecondRealign hs).trans (congrArg State.done (if_pos ⟨hrun, htod⟩))) (s.ckoRealigns_shows hi)

end Sys2Proof.Machine
end

section
/-!
PROOF. Windows of a table (R139, R143): words put in a row, result registers, and tables and logs that change along with listed words.
-/
namespace Sys2Proof.Machine

-- ## Words in a row

theorem RegsOnly.wrWords' {s : State} (ws : List (BitVec 32)) : ∀ {t : State} (b : Nat), RegsOnly s t → RegsOnly s (t.wrWords b ws) := by
  induction ws with
  | nil => exact fun _ h => h
  | cons w ws ih => exact fun b h => ih (b + 4) h

/-- Words put from an offset on leave every word below it as it is. -/
theorem State.wrWords_rd_below (ws : List (BitVec 32)) : ∀ (s : State) {a b : Nat}, a < b → (s.wrWords b ws).rd a = s.rd a := by
  induction ws with
  | nil => exact fun _ _ _ _ => rfl
  | cons w ws ih => exact fun s _ _ h => (ih _ (Nat.lt_add_right 4 h)).trans (s.rd_wr_ne h.ne w)

-- ## Result registers

section
variable (s : State) {code seq : Fld} (v : Nat)

theorem State.result_code (hc : code.lsb + code.wid ≤ 32) (hs : seq.lsb + seq.wid ≤ 32)
    (h : code.reg ≠ seq.reg ∨ code.lsb + code.wid ≤ seq.lsb ∨ seq.lsb + seq.wid ≤ code.lsb) :
    (s.result code seq v).get code = v % 2 ^ code.wid :=
  (State.get_bump_ne _ hs h).trans (s.get_put_same code v hc)

theorem State.result_seq (hc : code.lsb + code.wid ≤ 32) (hs : seq.lsb + seq.wid ≤ 32)
    (h : seq.reg ≠ code.reg ∨ seq.lsb + seq.wid ≤ code.lsb ∨ code.lsb + code.wid ≤ seq.lsb) :
    (s.result code seq v).get seq = (s.get seq + 1) % 2 ^ seq.wid := by
  unfold State.result
  rw [State.get_bump_same _ _ hs, s.get_put_ne hc h]

/-- The record of a refusal is no register word. -/
theorem State.resultErr_rd (off aux a : Nat) : (s.resultErr code seq off v aux).rd a = (s.result code seq v).rd a := by
  unfold State.resultErr
  split <;> rfl

/-- A result that is not Ok is recorded with its code (R389). -/
theorem State.resultErr_errWait {v : Nat} (h : v ≠ 0) (off aux : Nat) :
    (s.resultErr code seq off v aux).errWait = s.errWait ++ [turnedDown 0x10 off v aux] := by
  unfold State.resultErr
  rw [if_neg h]
  rfl

/-- What neither a field nor a record changes, a result leaves alone. -/
theorem State.resultErr_keeps {γ : Type} {p : State → γ} (hput : ∀ (t : State) f v, p (t.put f v) = p t)
    (hreport : ∀ (t : State) e, p (t.report e) = p t) (off aux : Nat) : p (s.resultErr code seq off v aux) = p s := by
  have hresult : p (s.result code seq v) = p s := (hput _ _ _).trans (hput _ _ _)
  unfold State.resultErr
  split
  · exact hresult
  · exact (hreport _ _).trans hresult

end

-- ## What changes along with listed words

/-- A count shows in its word only. -/
theorem State.bump_onlyRegs (s : State) (f : Fld) : OnlyRegs [f.reg] s (s.bump f) :=
  .of_regs ((SameRegs.refl' _ s).put' (List.mem_singleton_self _) _) ((RegsOnly.refl' s).put' _ _)

theorem RegsOnly.rx {s t : State} (h : RegsOnly s t) : t.rx = s.rx := by
  have e := congrArg State.rx h; exact e

theorem RegsOnly.queues {s t : State} (h : RegsOnly s t) : t.queues = s.queues := by
  have e := congrArg State.queues h; exact e

section
variable {offs : List Nat} {s t : State}

theorem OnlyRegs.rx_back {r : List (Nat × RxStream)} (h : OnlyRegs offs { s with rx := r } t) : OnlyRegs offs s { t with rx := s.rx } := by
  obtain ⟨hregs, hrest⟩ := h
  have e := congrArg (fun u : State => { u with rx := s.rx }) hrest
  exact ⟨hregs, e⟩

theorem OnlyRegs.rx_src_back {u : State} (hu : u = { s with src := u.src, rx := u.rx }) (h : OnlyRegs offs u t) :
    OnlyRegs offs s { t with rx := s.rx, src := s.src } := by
  rw [hu] at h
  obtain ⟨hregs, hrest⟩ := h
  have e := congrArg (fun u : State => { u with rx := s.rx, src := s.src }) hrest
  exact ⟨hregs, e⟩

theorem OnlyRegs.mmLog_back {l : List MmRec} (h : OnlyRegs offs { s with mmLog := l } t) : OnlyRegs offs s { t with mmLog := s.mmLog } := by
  obtain ⟨hregs, hrest⟩ := h
  have e := congrArg (fun u : State => { u with mmLog := s.mmLog }) hrest
  exact ⟨hregs, e⟩

end

-- ## Entries of the receive stream table

/-- An unlisted number reads as the default. -/
theorem tget_of_not_mem {β : Type} (d : β) {a : Nat} {t : List (Nat × β)} (h : a ∉ t.map Prod.fst) : tget d t a = d := by
  induction t with
  | nil => rfl
  | cons e r ih =>
    rw [List.map_cons, List.mem_cons, not_or] at h
    obtain ⟨hne, hr⟩ := h
    exact (if_neg (Ne.symm hne)).trans (ih hr)

@[simp] theorem State.rxs_settle (s : State) (i : Nat) : s.settle.rxs i = s.rxs i := by simp [State.rxs]

@[simp] theorem State.rxs_bump (s : State) (f : Fld) (i : Nat) : (s.bump f).rxs i = s.rxs i := rfl

@[simp] theorem State.rxs_updRx_same (s : State) (i : Nat) (f : RxStream → RxStream) : (s.updRx i f).rxs i = f (s.rxs i) :=
  tget_tupd_same _ _ _ _

theorem State.rxs_updRx_ne (s : State) {i j : Nat} (h : j ≠ i) (f : RxStream → RxStream) : (s.updRx i f).rxs j = s.rxs j :=
  tget_tput_ne _ h _ _

end Sys2Proof.Machine
end

section
/-!
PROOF. The receive stream window (R139, R143): what Read shows, what Write stores, and what a result leaves alone.
-/
namespace Sys2Proof.Machine

/-- The entry that SE_SEL selects. -/
abbrev State.seSel (s : State) : Nat := s.get R.SE_SEL_Stream

/-- The words of the configuration window. -/
abbrev State.seWindow (s : State) : List (BitVec 32) := s.rdWords R.SE_CTRL 16

-- ## Results

section
variable (s : State) (c : Nat)

theorem State.seResult_code : (s.seResult c).get R.SE_RESULT_Code = c % 2 ^ 8 :=
  (State.get_congr (f := R.SE_RESULT_Code) (s.resultErr_rd c _ _ _)).trans (s.result_code c (by decide) (by decide) (by decide))

theorem State.seResult_seq : (s.seResult c).get R.SE_RESULT_Seq = (s.get R.SE_RESULT_Seq + 1) % 2 ^ 16 :=
  (State.get_congr (f := R.SE_RESULT_Seq) (s.resultErr_rd c _ _ _)).trans (s.result_seq c (by decide) (by decide) (by decide))

theorem State.seResult_rd {a : Nat} (h : a ≠ R.SE_RESULT) : (s.seResult c).rd a = s.rd a :=
  (s.resultErr_rd c _ _ a).trans ((State.rd_bump_ne _ h).trans (s.rd_put_ne h c))

@[simp] theorem State.seResult_rx : (s.seResult c).rx = s.rx := s.resultErr_keeps c (p := State.rx) State.put_rx State.report_rx _ _

@[simp] theorem State.seResult_queues : (s.seResult c).queues = s.queues :=
  s.resultErr_keeps c (p := State.queues) State.put_queues State.report_queues _ _

@[simp] theorem State.seResult_rxs (i : Nat) : (s.seResult c).rxs i = s.rxs i := congrArg (fun r => tget ({} : RxStream) r i) (s.seResult_rx c)

/-- A result of Done shows in SE_RESULT only. -/
theorem State.seResult_done : OnlyRegs [R.SE_RESULT] s (s.seResult 0) :=
  .of_regs (((SameRegs.refl' _ s).put' (by decide) _).put' (by decide) _) (((RegsOnly.refl' s).put' _ _).put' _ _)

end

-- ## Read

/-- The windows of an entry as SE_CMD.Read loads them, but for its counters. -/
def State.seShown (s : State) (e : RxStream) : State :=
  ((((s.wrWords R.SE_CTRL e.cfg).put R.SE_STATE_State e.state).put R.SE_STATE_Phase e.phase).wrWords R.SE_ARR_MIN
    (e.stat.map (BitVec.ofNat 32))).put R.SE_LAST_SEQ_Seq e.lastSeq

theorem State.seLoad_eq (s : State) :
    s.seLoad = (s.seShown (s.rxs s.seSel)).forN 15 (fun k t => t.put (R.SE_CNT_Count k) (tget 0 (s.rxs s.seSel).cnt k)) := rfl

theorem State.seShown_rd_below (s : State) (e : RxStream) {a : Nat} (h : a < R.SE_CTRL) : (s.seShown e).rd a = s.rd a := by
  have hlt : R.SE_CTRL < R.SE_STATE ∧ R.SE_CTRL < R.SE_ARR_MIN ∧ R.SE_CTRL < R.SE_LAST_SEQ := by decide
  obtain ⟨hstate, hstat, hseq⟩ := hlt
  unfold State.seShown
  rw [State.rd_put_ne _ (h.trans hseq).ne, State.wrWords_rd_below _ _ (h.trans hstat), State.rd_put_ne _ (h.trans hstate).ne,
    State.rd_put_ne _ (h.trans hstate).ne, State.wrWords_rd_below _ _ h]

theorem State.seShown_state (s : State) (e : RxStream) : (s.seShown e).get R.SE_STATE_State = e.state % 4 := by
  unfold State.seShown
  rw [State.get_put_ne _ (by decide) (by decide),
    State.get_congr (f := R.SE_STATE_State) (State.wrWords_rd_below (b := R.SE_ARR_MIN) _ _ (by decide)),
    State.get_put_ne _ (by decide) (by decide)]
  exact State.get_put_same _ _ _ (by decide)

theorem State.seShown_regsOnly (s : State) (e : RxStream) : RegsOnly s (s.seShown e) := by
  have hcfg : RegsOnly s (((s.wrWords R.SE_CTRL e.cfg).put R.SE_STATE_State e.state).put R.SE_STATE_Phase e.phase) :=
    (((RegsOnly.refl' s).wrWords' _ _).put' _ _).put' _ _
  exact (hcfg.wrWords' _ _).put' _ _

theorem State.seLoad_regsOnly (s : State) : RegsOnly s s.seLoad :=
  State.forN_inv (RegsOnly s) 15 _ (fun _ _ _ ht => ht.put' _ _) (s.seShown_regsOnly _)

/-- A word below the counters is as the other windows leave it. -/
theorem State.seLoad_rd (s : State) {a : Nat} (h : a < R.SE_CNT 0) : s.seLoad.rd a = (s.seShown (s.rxs s.seSel)).rd a := by
  rw [State.seLoad_eq]
  refine State.forN_keeps (fun t => t.rd a) 15 _ (fun k _ t => t.rd_put_ne ?_ _) _
  exact (Nat.lt_of_lt_of_le h (Nat.le_add_right _ _)).ne

theorem State.seLoad_count (s : State) {k : Nat} (hk : k < 15) :
    s.seLoad.get (R.SE_CNT_Count k) = tget 0 (s.rxs s.seSel).cnt k % 2 ^ 32 := by
  have hother : ∀ i, i ≠ k → (R.SE_CNT_Count k).reg ≠ (R.SE_CNT_Count i).reg := fun i h => by
    show R.SE_CNT k ≠ R.SE_CNT i
    unfold R.SE_CNT
    omega
  rw [State.seLoad_eq]
  obtain ⟨u, -, hend⟩ := State.forN_at (p := fun t => t.get (R.SE_CNT_Count k)) hk (fun i hi t => t.get_put_reg (hother i hi) _)
    (s.seShown (s.rxs s.seSel))
  exact hend.trans (u.get_put_same _ _ (Nat.le_of_ble_eq_true rfl))

-- ## Write

/-- The codes of R139 fit the result register. -/
theorem State.seCheck_lt (s : State) (i : Nat) (ws : List (BitVec 32)) : s.seCheck i ws < 2 ^ 8 := by
  unfold State.seCheck
  extract_lets
  split_ifs <;> decide

theorem State.qFlush_rx (s : State) (q k : Nat) : (s.qFlush q k).rx = s.rx := rfl

theorem State.qFlush_rd (s : State) (q k : Nat) {a : Nat} (h : a ≠ R.BOB_STATUS) : (s.qFlush q k).rd a = s.rd a := State.rd_put_ne _ h _

theorem State.jitterFlush_rxs (s : State) (ws : List (BitVec 32)) (i : Nat) : (s.jitterFlush ws).rxs i = s.rxs i := by
  unfold State.jitterFlush State.rxs
  extract_lets
  split
  · rw [State.qFlush_rx]
  · rfl

theorem State.jitterFlush_rd (s : State) (ws : List (BitVec 32)) {a : Nat} (h : a ≠ R.BOB_STATUS) : (s.jitterFlush ws).rd a = s.rd a := by
  unfold State.jitterFlush
  extract_lets
  split
  · exact s.qFlush_rd _ _ h
  · rfl

theorem State.streamStatus_regsOnly (s : State) : RegsOnly s s.streamStatus := by
  unfold State.streamStatus
  extract_lets r t u
  have hu : RegsOnly s u := ((RegsOnly.refl' s).put' _ _).put' _ _
  exact (hu.put' _ _).put' _ _

theorem State.streamStatus_rd (s : State) {a : Nat} (hwarp : a ≠ R.WARP_STATUS) (hsh : a ≠ R.SH_STATUS) : s.streamStatus.rd a = s.rd a := by
  unfold State.streamStatus
  rw [State.rd_put_ne _ hsh, State.rd_put_ne _ hsh, State.rd_put_ne _ hwarp, State.rd_put_ne _ hwarp]

/-- An entry in which words have been stored (R136): made valid it waits, no longer valid it is off, and else it runs on. -/
def RxStream.stored (e : RxStream) (ws : List (BitVec 32)) : RxStream :=
  let n := { e with cfg := ws }
  if n.valid ∧ ¬ e.valid then { n.clear 1 with meas := none, skew := 0 }
  else if e.valid ∧ ¬ n.valid then { n.clear 0 with meas := none, skew := 0 }
  else n

theorem RxStream.stored_cfg (e : RxStream) (ws : List (BitVec 32)) : (e.stored ws).cfg = ws := by
  unfold RxStream.stored
  extract_lets
  split_ifs <;> rfl

theorem RxStream.stored_waits {e : RxStream} {ws : List (BitVec 32)} (he : e.valid = false) (hws : seF ws R.SE_CTRL_Valid = 1) :
    (e.stored ws).state = 1 := by
  unfold RxStream.stored
  extract_lets n
  rw [if_pos ⟨show n.valid = true from decide_eq_true hws, by rw [he]; decide⟩]
  rfl

/-- The state in which words are stored in entry i, its queue's readers and the status registers aside. -/
def State.seEntered (s : State) (i : Nat) (ws : List (BitVec 32)) : State :=
  let t := s.updRx i (fun e => { e with cfg := ws })
  if (t.rxs i).valid ∧ ¬ (s.rxs i).valid then t.updRx i (fun e => { e.clear 1 with meas := none, skew := 0 })
  else if (s.rxs i).valid ∧ ¬ (t.rxs i).valid then (t.jitterFlush (s.rxs i).cfg).updRx i (fun e => { e.clear 0 with meas := none, skew := 0 })
  else t

theorem State.seStore_eq (s : State) (i : Nat) (ws : List (BitVec 32)) : s.seStore i ws =
    (if ((s.seEntered i ws).queue (seF ws R.SE_SLOT_Queue)).cls = 0 then (s.seEntered i ws).qSetReaders (seF ws R.SE_SLOT_Queue) 1
      else s.seEntered i ws).streamStatus := rfl

section
variable (s : State) (i : Nat) (ws : List (BitVec 32))

theorem State.seEntered_rxs : (s.seEntered i ws).rxs i = (s.rxs i).stored ws := by
  unfold State.seEntered RxStream.stored
  extract_lets t n
  have ht : t.rxs i = n := s.rxs_updRx_same i _
  rw [ht]
  split_ifs
  · rw [State.rxs_updRx_same, ht]
  · rw [State.rxs_updRx_same, State.jitterFlush_rxs, ht]
  · exact ht

theorem State.seEntered_rd {a : Nat} (h : a ≠ R.BOB_STATUS) : (s.seEntered i ws).rd a = s.rd a := by
  unfold State.seEntered
  extract_lets t
  split_ifs
  · rfl
  · exact t.jitterFlush_rd _ h
  · rfl

theorem State.seStore_rxs : (s.seStore i ws).rxs i = (s.rxs i).stored ws := by
  rw [State.seStore_eq, State.rxs, (State.streamStatus_regsOnly _).rx, ← State.seEntered_rxs]
  split <;> rfl

theorem State.seStore_rd {a : Nat} (hbob : a ≠ R.BOB_STATUS) (hwarp : a ≠ R.WARP_STATUS) (hsh : a ≠ R.SH_STATUS) :
    (s.seStore i ws).rd a = s.rd a := by
  rw [State.seStore_eq, State.streamStatus_rd _ hwarp hsh, ← State.seEntered_rd s i ws hbob]
  split <;> rfl

end

theorem State.mark_rd (s : State) (k a : Nat) : (s.mark k).rd a = s.rd a := by
  unfold State.mark
  split <;> rfl

theorem State.mark_rxs (s : State) (k i : Nat) : (s.mark k).rxs i = s.rxs i := by
  unfold State.mark
  split <;> rfl

section
variable {s : State}

/-- Words that pass the check are stored in the selected entry and mark its window (R49). -/
theorem State.seStoreCmd_passes (h : s.seCheck s.seSel s.seWindow = 0) : ∃ k,
    s.seStoreCmd = ((s.seStore s.seSel s.seWindow).mark k).seResult 0 := by
  unfold State.seStoreCmd State.seWrite
  simp only [h, if_true]
  exact ⟨_, rfl⟩

theorem State.seStoreCmd_refused (h : s.seCheck s.seSel s.seWindow ≠ 0) :
    s.seStoreCmd = s.seResult (s.seCheck s.seSel s.seWindow) := by
  unfold State.seStoreCmd State.seWrite
  simp only [h, if_false]

end

-- ## The commands

section
variable {s : State} (hs : Ready s)
include hs

theorem exec_seRead : exec .seRead s = (s.seLoad.seResult 0).done := by
  show execSeRead s = _
  unfold execSeRead
  rw [State.live_live _ _ hs]

theorem exec_seWrite : exec .seWrite s = s.seStoreCmd.done := by
  show execSeWrite s = _
  unfold execSeWrite
  rw [State.live_live _ _ hs]

theorem exec_seClearCnt : exec .seClearCnt s = s.seClearCmd.done := by
  show execSeClearCnt s = _
  unfold execSeClearCnt
  rw [State.live_live _ _ hs]

/-- Read shows the selected entry's state and counters, whatever its other words are, and changes no table. -/
theorem seRead_gives : Gives .seRead s (fun t => t.rx = s.rx ∧ t.get R.SE_STATE_State = (s.rxs s.seSel).state % 4
    ∧ (∀ k, k < 15 → t.get (R.SE_CNT_Count k) = tget 0 (s.rxs s.seSel).cnt k % 2 ^ 32) ∧ t.get R.SE_RESULT_Code = 0
    ∧ t.get R.SE_RESULT_Seq = (s.get R.SE_RESULT_Seq + 1) % 2 ^ 16 ∧ t.queues = s.queues) := by
  have hload := s.seLoad_regsOnly
  refine Gives.of_done (exec_seRead hs) ⟨?_, ?_, fun k hk => ?_, ?_, ?_, ?_⟩
  · rw [State.settle_rx, State.seResult_rx, hload.rx]
  · rw [State.settle_get _ (by decide), State.get_congr (f := R.SE_STATE_State) (State.seResult_rd _ _ (by decide)),
      State.get_congr (f := R.SE_STATE_State) (s.seLoad_rd (by decide)), State.seShown_state]
  · have hcnt : R.SE_CNT k ≠ R.MSIX_PBA 0 ∧ R.SE_CNT k ≠ R.SE_RESULT := by
      unfold R.SE_CNT R.MSIX_PBA R.SE_RESULT
      omega
    rw [State.settle_get _ (f := R.SE_CNT_Count k) hcnt.1, State.get_congr (f := R.SE_CNT_Count k) (State.seResult_rd _ _ hcnt.2), s.seLoad_count hk]
  · rw [State.settle_get _ (by decide), State.seResult_code, Nat.zero_mod]
  · rw [State.settle_get _ (by decide), State.seResult_seq, State.get_congr (f := R.SE_RESULT_Seq) (s.seLoad_rd (by decide)),
      State.get_congr (f := R.SE_RESULT_Seq) (s.seShown_rd_below _ (by decide))]
  · rw [State.settle_queues, State.seResult_queues, hload.queues]

/-- Write answers the code of the check, and the result count goes on. -/
theorem seWrite_gives : Gives .seWrite s (fun t =>
    t.get R.SE_RESULT_Code = s.seCheck s.seSel s.seWindow
    ∧ t.get R.SE_RESULT_Seq = (s.get R.SE_RESULT_Seq + 1) % 2 ^ 16
    ∧ (s.seCheck s.seSel s.seWindow ≠ 0 → t.rx = s.rx ∧ t.queues = s.queues
        ∧ t.errWait = s.errWait ++ [turnedDown 0x10 R.SE_CMD (s.seCheck s.seSel s.seWindow) 0])
    ∧ (s.seCheck s.seSel s.seWindow = 0 → (t.rxs s.seSel).cfg = s.seWindow
        ∧ ((s.rxs s.seSel).valid = false → seF s.seWindow R.SE_CTRL_Valid = 1 →
            (t.rxs s.seSel).state = 1))) := by
  have hfits := s.seCheck_lt s.seSel s.seWindow
  by_cases h : s.seCheck s.seSel s.seWindow = 0
  · obtain ⟨k, hk⟩ := s.seStoreCmd_passes h
    have hrxs : s.seStoreCmd.settle.rxs s.seSel = (s.rxs s.seSel).stored s.seWindow := by
      rw [State.rxs_settle, hk, State.seResult_rxs, State.mark_rxs, State.seStore_rxs]
    refine Gives.of_done (exec_seWrite hs) ⟨?_, ?_, fun hne => absurd h hne, fun _ => ⟨?_, fun hoff hon => ?_⟩⟩
    · rw [State.settle_get _ (by decide), hk, State.seResult_code, Nat.zero_mod, h]
    · rw [State.settle_get _ (by decide), hk, State.seResult_seq, State.get_congr (f := R.SE_RESULT_Seq) (State.mark_rd _ _ _),
        State.get_congr (f := R.SE_RESULT_Seq) (s.seStore_rd _ _ (by decide) (by decide) (by decide))]
    · rw [hrxs, RxStream.stored_cfg]
    · rw [hrxs, RxStream.stored_waits hoff hon]
  · have hc := s.seStoreCmd_refused h
    refine Gives.of_done (exec_seWrite hs) ⟨?_, ?_, fun _ => ⟨?_, ?_, ?_⟩, fun h0 => absurd h0 h⟩
    · rw [State.settle_get _ (by decide), hc, State.seResult_code, Nat.mod_eq_of_lt hfits]
    · rw [State.settle_get _ (by decide), hc, State.seResult_seq]
    · rw [State.settle_rx, hc, State.seResult_rx]
    · rw [State.settle_queues, hc, State.seResult_queues]
    · rw [State.settle_errWait, hc]
      exact s.resultErr_errWait h _ _

/-- ClearCnt zeroes the selected entry's counters and changes nothing else (R143). -/
theorem seClearCnt_gives : Gives .seClearCnt s (fun t =>
    t.rxs s.seSel = { s.rxs s.seSel with cnt := [] }
    ∧ (∀ j, j ≠ s.seSel → t.rxs j = s.rxs j) ∧ t.get R.SE_RESULT_Code = 0 ∧ OnlyRegs [R.SE_RESULT] s { t with rx := s.rx }) := by
  refine Gives.of_done (exec_seClearCnt hs) ⟨?_, fun j hj => ?_, ?_, OnlyRegs.rx_back (State.seResult_done _).settle'⟩
  · rw [State.rxs_settle, State.seClearCmd, State.seResult_rxs, State.rxs_updRx_same]
  · rw [State.rxs_settle, State.seClearCmd, State.seResult_rxs, State.rxs_updRx_ne _ hj]
  · rw [State.settle_get _ (by decide), State.seClearCmd, State.seResult_code, Nat.zero_mod]

end

end Sys2Proof.Machine
end

section
/-!
PROOF. The mismatch log (R133): a read of MM_INFO pops its oldest record.
-/
namespace Sys2Proof.Machine

/-- The words a read of MM_INFO latches (R133). -/
def mismatchWords : List Nat := [R.MM_SEQ, R.MM_UNITS]

/-- The state in which a mismatch record's sequence number and units are latched. -/
def State.mmLatch (s : State) (r : MmRec) : State := ((s.put R.MM_SEQ_Seq r.seq).put R.MM_UNITS_First r.first).put R.MM_UNITS_Second r.second

theorem State.mmLatch_onlyRegs (s : State) (r : MmRec) : OnlyRegs mismatchWords s (s.mmLatch r) :=
  .of_regs ((((SameRegs.refl' _ s).put' (by decide) _).put' (by decide) _).put' (by decide) _)
    ((((RegsOnly.refl' s).put' _ _).put' _ _).put' _ _)

theorem State.mmLatch_shows (s : State) (r : MmRec) : (s.mmLatch r).get R.MM_SEQ_Seq = r.seq % 2 ^ 16
    ∧ (s.mmLatch r).get R.MM_UNITS_First = r.first % 2 ^ 16 ∧ (s.mmLatch r).get R.MM_UNITS_Second = r.second % 2 ^ 16 := by
  unfold State.mmLatch
  refine ⟨?_, ?_, State.get_put_same _ _ _ (by decide)⟩
  · rw [State.get_put_ne _ (by decide) (by decide), State.get_put_ne _ (by decide) (by decide)]
    exact State.get_put_same _ _ _ (by decide)
  · rw [State.get_put_ne _ (by decide) (by decide)]
    exact State.get_put_same _ _ _ (by decide)

theorem State.mmLatch_mmLog (s : State) (r : MmRec) : (s.mmLatch r).mmLog = s.mmLog := by
  unfold State.mmLatch
  rw [State.put_mmLog, State.put_mmLog, State.put_mmLog]

theorem State.mmLatch_outbox (s : State) (r : MmRec) : (s.mmLatch r).outbox = s.outbox := by
  unfold State.mmLatch
  rw [State.put_outbox, State.put_outbox, State.put_outbox]

section
variable {s : State} (hs : Ready s)
include hs

theorem exec_mmInfoPop_empty (h : s.mmLog = []) : exec .mmInfoPop s = (s.send (.readData R.MM_INFO 0)).done := by
  show execMmInfoPop s = _
  unfold execMmInfoPop State.mmPop
  rw [State.live_live _ _ hs, h]

theorem exec_mmInfoPop {r : MmRec} {rs : List MmRec} (h : s.mmLog = r :: rs) : exec .mmInfoPop s =
    ((({ s with mmLog := rs } : State).mmLatch r).send (.readData R.MM_INFO (r.stream + 1024 + (if r.timestamp then 2048 else 0)))).done := by
  show execMmInfoPop s = _
  unfold execMmInfoPop State.mmPop
  rw [State.live_live _ _ hs, h]
  rfl

/-- A read of MM_INFO removes the oldest record and latches its words. -/
theorem mmInfoPop_gives {r : MmRec} {rs : List MmRec} (h : s.mmLog = r :: rs) : Gives .mmInfoPop s (fun t => t.mmLog = rs
    ∧ t.get R.MM_SEQ_Seq = r.seq % 2 ^ 16 ∧ t.get R.MM_UNITS_First = r.first % 2 ^ 16 ∧ t.get R.MM_UNITS_Second = r.second % 2 ^ 16
    ∧ Sends [.readData R.MM_INFO (r.stream + 1024 + (if r.timestamp then 2048 else 0))] s t
    ∧ OnlyRegs mismatchWords s { t with mmLog := s.mmLog }) := by
  obtain ⟨hseq, hfirst, hsecond⟩ := State.mmLatch_shows { s with mmLog := rs } r
  refine Gives.of_done (exec_mmInfoPop hs h) ⟨?_, ?_, ?_, ?_, Sends.settle' ?_, ?_⟩
  · rw [State.settle_mmLog, State.send_mmLog, State.mmLatch_mmLog]
  · rw [State.settle_get _ (by decide), State.get_send, hseq]
  · rw [State.settle_get _ (by decide), State.get_send, hfirst]
  · rw [State.settle_get _ (by decide), State.get_send, hsecond]
  · rw [State.send_outbox, State.mmLatch_outbox]
  · exact OnlyRegs.mmLog_back ((State.mmLatch_onlyRegs { s with mmLog := rs } r).send' _).settle'

end

end Sys2Proof.Machine
end

section
/-!
PROOF. The loss of a stream (R136): its slots read 0, and its window is forgotten.
-/
namespace Sys2Proof.Machine

theorem State.srcPut_eq (vs : List (BitVec 32)) : ∀ (s : State) (a : Nat), s.srcPut a vs = { s with src := (s.srcPut a vs).src } := by
  induction vs with
  | nil => exact fun _ _ => rfl
  | cons v vs ih => exact fun s a => ih { s with src := tput 0#32 a v s.src } (a + 1)

/-- Values put from a slot on stand in the slots from there, and every other slot keeps its value. -/
theorem State.srcPut_slot (vs : List (BitVec 32)) (k : Nat) : ∀ (s : State) (a : Nat),
    tget 0#32 (s.srcPut a vs).src k = if a ≤ k ∧ k < a + vs.length then vs.getD (k - a) 0#32 else tget 0#32 s.src k := by
  induction vs with
  | nil =>
    intro s a
    rw [if_neg (by rw [List.length_nil]; omega)]
    rfl
  | cons v vs ih =>
    intro s a
    refine (ih { s with src := tput 0#32 a v s.src } (a + 1)).trans ?_
    rw [tget_tput, List.length_cons]
    obtain hlt | rfl | hgt := Nat.lt_trichotomy k a
    · rw [if_neg (by omega), if_neg (by omega), if_neg (by omega)]
    · rw [if_neg (by omega), if_pos rfl, if_pos (by omega), Nat.sub_self]
      rfl
    · obtain ⟨d, rfl⟩ : ∃ d, k = a + 1 + d := ⟨k - (a + 1), by omega⟩
      rw [if_neg (show a + 1 + d ≠ a by omega), show a + 1 + d - (a + 1) = d by omega, show a + 1 + d - a = d + 1 by omega]
      exact if_congr (by omega) rfl rfl

/-- Slots given n zeros from a first one on. -/
theorem State.srcPut_zeros (s : State) (a n k : Nat) :
    tget 0#32 (s.srcPut a (List.replicate n 0#32)).src k = if a ≤ k ∧ k < a + n then 0#32 else tget 0#32 s.src k := by
  rw [State.srcPut_slot, List.length_replicate]
  refine if_congr Iff.rfl ?_ rfl
  rw [List.getD_eq_getElem?_getD, List.getElem?_replicate]
  split <;> rfl

/-- Entry i is to be lost (R136): it runs, as many indices as LossPicks asks for have passed with no sample, and none has come for the index that is
being filled. -/
def State.loses (s : State) (i : Nat) : Prop :=
  (s.rxs i).state = 2 ∧ max 1 (s.get R.LOSS_PICKS_Picks) ≤ (s.rxs i).lossRun ∧ s.time.pick ∉ (s.rxs i).gotIdx

/-- The state in which entry i's slots read 0 and the entry is Lost. -/
def State.lostEntry (s : State) (i : Nat) : State :=
  (s.srcPut (seF (s.rxs i).eff R.SE_SLOT_FirstSlot) (List.replicate (seChans (s.rxs i).eff) 0#32)).updRx i
    (fun e => { e with state := 3, high := none, win := [] })

theorem State.lostEntry_rxs (s : State) (i : Nat) : (s.lostEntry i).rxs i = { s.rxs i with state := 3, high := none, win := [] } := by
  unfold State.lostEntry
  rw [State.rxs_updRx_same, State.srcPut_eq]
  rfl

theorem State.lostEntry_rxs_ne (s : State) {i j : Nat} (h : j ≠ i) : (s.lostEntry i).rxs j = s.rxs j := by
  unfold State.lostEntry
  rw [State.rxs_updRx_ne _ h, State.srcPut_eq]
  rfl

theorem State.lostEntry_src (s : State) (i k : Nat) : tget 0#32 (s.lostEntry i).src k =
    if seF (s.rxs i).eff R.SE_SLOT_FirstSlot ≤ k ∧ k < seF (s.rxs i).eff R.SE_SLOT_FirstSlot + seChans (s.rxs i).eff then 0#32
    else tget 0#32 s.src k := s.srcPut_zeros _ _ k

/-- The source buffer and the stream table are all that has changed. -/
theorem State.lostEntry_eq (s : State) (i : Nat) : s.lostEntry i = { s with src := (s.lostEntry i).src, rx := (s.lostEntry i).rx } :=
  congrArg (fun t : State => { t with rx := (s.lostEntry i).rx }) (State.srcPut_eq _ s _)

theorem State.lostEntry_rd (s : State) (i a : Nat) : (s.lostEntry i).rd a = s.rd a := by
  have e := congrArg (fun t : State => t.rd a) (s.lostEntry_eq i)
  exact e

/-- Beside the entry and its slots, a loss that is counted shows in the counter only. -/
theorem State.lostEntry_counted (s : State) (i : Nat) :
    OnlyRegs [R.WARP_CNT_LOST] s { ((s.lostEntry i).bump R.WARP_CNT_LOST_Count).settle with rx := s.rx, src := s.src } :=
  OnlyRegs.rx_src_back (s.lostEntry_eq i) ((s.lostEntry i).bump_onlyRegs R.WARP_CNT_LOST_Count).settle'

section
variable {s : State} (hs : Ready s) {i : Nat} (hi : i < 1024)
include hs hi

theorem exec_streamLost_not (h : ¬ s.loses i) : exec (.streamLost i) s = s.done := by
  refine (s.accept_live _ _ (decide_eq_true hi) hs).trans (congrArg State.done (if_neg ?_))
  simpa [State.loses] using h

theorem exec_streamLost (h : s.loses i) : exec (.streamLost i) s = ((s.lostEntry i).bump R.WARP_CNT_LOST_Count).done := by
  refine (s.accept_live _ _ (decide_eq_true hi) hs).trans (congrArg State.done (if_pos ?_))
  simpa [State.loses] using h

/-- A stream that is lost is counted and forgets its window, and its slots read 0. -/
theorem streamLost_gives (h : s.loses i) : Gives (.streamLost i) s (fun t =>
    t.rxs i = { s.rxs i with state := 3, high := none, win := [] } ∧ (∀ j, j ≠ i → t.rxs j = s.rxs j)
    ∧ (∀ k, tget 0#32 t.src k = (if seF (s.rxs i).eff R.SE_SLOT_FirstSlot ≤ k
        ∧ k < seF (s.rxs i).eff R.SE_SLOT_FirstSlot + seChans (s.rxs i).eff then 0#32 else tget 0#32 s.src k))
    ∧ t.get R.WARP_CNT_LOST_Count = (s.get R.WARP_CNT_LOST_Count + 1) % 2 ^ 32
    ∧ OnlyRegs [R.WARP_CNT_LOST] s { t with rx := s.rx, src := s.src }) := by
  refine Gives.of_done (exec_streamLost hs hi h) ⟨?_, fun j hj => ?_, fun k => ?_, ?_, s.lostEntry_counted i⟩
  · rw [State.rxs_settle, State.rxs_bump, State.lostEntry_rxs]
  · rw [State.rxs_settle, State.rxs_bump, s.lostEntry_rxs_ne hj]
  · rw [State.settle_src, State.bump_src, State.lostEntry_src]
  · rw [State.settle_get _ (by decide), State.get_bump_same _ _ (by decide), State.get_congr (f := R.WARP_CNT_LOST_Count) (s.lostEntry_rd i _)]
    rfl

end

end Sys2Proof.Machine
end

section
/-!
PROOF. The end of a measurement (R138), and the statement on receive streams.
-/
namespace Sys2Proof.Machine

/-- What the end of an interval does for one entry of the table (R138): what Temple keeps of it, and the entry measured anew. -/
def State.pdvEntry (x : Nat × RxStream) (s : State) : State :=
  State.updRx (match x.2.meas with
    | some m => (if x.2.state = 2 then s.planSeen x.1 m else s)
    | none => s) x.1 RxStream.endWindow

theorem State.planSeen_rx (s : State) (i : Nat) (m : RxMeas) : (s.planSeen i m).rx = s.rx := by
  unfold State.planSeen
  split <;> rfl

theorem State.pdvEntry_rx (x : Nat × RxStream) (s : State) : (s.pdvEntry x).rx = (s.updRx x.1 RxStream.endWindow).rx := by
  unfold State.pdvEntry
  refine congrArg (tupd {} x.1 RxStream.endWindow) ?_
  split
  · split
    · exact s.planSeen_rx _ _
    · rfl
  · rfl

theorem State.pdvEntry_rxs_same (x : Nat × RxStream) (s : State) : (s.pdvEntry x).rxs x.1 = (s.rxs x.1).endWindow := by
  unfold State.rxs
  rw [State.pdvEntry_rx]
  exact s.rxs_updRx_same _ _

theorem State.pdvEntry_rxs_ne (x : Nat × RxStream) (s : State) {i : Nat} (h : i ≠ x.1) : (s.pdvEntry x).rxs i = s.rxs i := by
  unfold State.rxs
  rw [State.pdvEntry_rx]
  exact s.rxs_updRx_ne h _

/-- Entries that are listed once each are each measured anew once, and no other. -/
theorem State.pdvEntries_rxs (i : Nat) : ∀ (xs : List (Nat × RxStream)) (s : State), (xs.map Prod.fst).Nodup →
    (s.forL xs State.pdvEntry).rxs i = if i ∈ xs.map Prod.fst then (s.rxs i).endWindow else s.rxs i := by
  intro xs
  induction xs with
  | nil => exact fun _ _ => rfl
  | cons x xs ih =>
    intro s hnodup
    rw [List.map_cons, List.nodup_cons] at hnodup
    obtain ⟨hx, hxs⟩ := hnodup
    refine (ih (s.pdvEntry x) hxs).trans ?_
    by_cases h : i = x.1
    · subst h
      rw [if_neg hx, if_pos (by simp), State.pdvEntry_rxs_same]
    · rw [State.pdvEntry_rxs_ne _ _ h]
      exact if_congr (by simp [h]) rfl rfl

/-- An entry that is not listed has measured nothing, and shows so. -/
theorem State.pdvWindow_rxs {s : State} (h : (s.rx.map Prod.fst).Nodup) (i : Nat) : (s.forL s.rx State.pdvEntry).rxs i = (s.rxs i).endWindow := by
  rw [State.pdvEntries_rxs i s.rx s h]
  split
  · rfl
  · rename_i hi
    have hdefault : s.rxs i = {} := tget_of_not_mem _ hi
    rw [hdefault]
    rfl

theorem RxStream.endWindow_none {e : RxStream} (h : e.meas = none) : e.endWindow = { e with stat := [0, 0, 0, 0, 0], skew := 0 } := by
  unfold RxStream.endWindow
  rw [h]

theorem RxStream.endWindow_some {e : RxStream} {m : RxMeas} (h : e.meas = some m) : e.endWindow.meas = none ∧ e.endWindow.skew = 0
    ∧ e.endWindow.stat = [ofSigned 32 m.arrMin, ofSigned 32 m.arrMax, ofSigned 32 (m.arrMax - m.arrMin), min e.skew (2 ^ 32 - 1), ofSigned 32 m.head] := by
  unfold RxStream.endWindow
  rw [h]
  exact ⟨rfl, rfl, rfl⟩

theorem exec_pdvWindowEnd {s : State} (hs : Ready s) : exec .pdvWindowEnd s = (s.forL s.rx State.pdvEntry).done := by
  show execPdvWindowEnd s = _
  unfold execPdvWindowEnd
  rw [State.live_live _ _ hs]
  rfl

/-- Settles O30: the window by what each of its commands answers, the log by its oldest record, a loss by its condition, and the end of a
measurement entry by entry. -/
theorem receiveStreams : Obligations.ReceiveStreams := by
  refine ⟨fun s hs => ⟨fun _ _ => seRead_gives hs, seWrite_gives hs, seClearCnt_gives hs, fun h => Ends.of_done (exec_mmInfoPop_empty hs h),
    fun _ _ h => mmInfoPop_gives hs h⟩, fun s hs => ⟨fun i hi => ⟨fun h => Ends.of_done (exec_streamLost_not hs hi h), streamLost_gives hs hi⟩,
    fun hnodup => Gives.of_done (exec_pdvWindowEnd hs) (fun i => ?_)⟩⟩
  rw [State.rxs_settle, State.pdvWindow_rxs hnodup]
  exact ⟨RxStream.endWindow_none, fun _ => RxStream.endWindow_some⟩

end Sys2Proof.Machine
end

section
/-!
PROOF. Results in one register, fields of a state that are put back, and the entries of the transmit stream table (R156, R165).
-/
namespace Sys2Proof.Machine

-- ## What changes along with listed words

/-- Where only listed words differ between two states, only those differ once fields beside the registers are set alike in both. -/
theorem OnlyRegs.restore {offs : List Nat} {u t : State} (g : State → State)
    (hg : ∀ v r o m, g { v with regs := r, outbox := o, msixLevel := m } = { g v with regs := r, outbox := o, msixLevel := m })
    (h : OnlyRegs offs u t) : OnlyRegs offs (g u) (g t) := by
  have hkeeps : ∀ v, g v = { g v with regs := v.regs, outbox := v.outbox, msixLevel := v.msixLevel } := fun v => hg v v.regs v.outbox v.msixLevel
  have hregs : ∀ v, (g v).regs = v.regs := fun v => by rw [hkeeps]
  have hout : (g u).outbox = u.outbox := by rw [hkeeps]
  have hlevel : (g u).msixLevel = u.msixLevel := by rw [hkeeps]
  have hrd : ∀ v a, (g v).rd a = v.rd a := fun v a => by unfold State.rd; rw [hregs]
  obtain ⟨hsame, hrest⟩ := h
  refine ⟨fun a ha hp => by rw [hrd, hrd, hsame a ha hp], ?_⟩
  rw [hregs, hout, hlevel, ← hg, hrest]

theorem RegsOnly.tx {s t : State} (h : RegsOnly s t) : t.tx = s.tx := by
  have e := congrArg State.tx h; exact e

-- ## A result whose code and count lie in one register

section
variable (s : State) {code seq : Fld} (hreg : seq.reg = code.reg) (off c aux : Nat)
include hreg

theorem State.resultErr_rd_ne {a : Nat} (h : a ≠ code.reg) : (s.resultErr code seq off c aux).rd a = s.rd a :=
  (s.resultErr_rd c off aux a).trans ((State.rd_bump_ne _ (hreg ▸ h)).trans (s.rd_put_ne h c))

/-- A result of 0 shows in its register only. -/
theorem State.resultErr_ok_onlyRegs : OnlyRegs [code.reg] s (s.resultErr code seq off 0 aux) :=
  .of_regs (((SameRegs.refl' _ s).put' (List.mem_singleton_self _) _).put' (by rw [hreg]; exact List.mem_singleton_self _) _)
    (((RegsOnly.refl' s).put' _ _).put' _ _)

end

-- ## Entries of the transmit stream table

@[simp] theorem State.txs_settle (s : State) (i : Nat) : s.settle.txs i = s.txs i := by simp [State.txs]

@[simp] theorem State.txs_updTx_same (s : State) (i : Nat) (f : TxStream → TxStream) : (s.updTx i f).txs i = f (s.txs i) :=
  tget_tupd_same _ _ _ _

theorem State.txs_updTx_ne (s : State) {i j : Nat} (h : j ≠ i) (f : TxStream → TxStream) : (s.updTx i f).txs j = s.txs j :=
  tget_tput_ne _ h _ _

theorem State.mark_txs (s : State) (k i : Nat) : (s.mark k).txs i = s.txs i := by
  unfold State.mark
  split <;> rfl

end Sys2Proof.Machine
end

section
/-!
PROOF. Announcements (R163): a stream's message joins the frames of the ports that carry it, and nothing else changes.
-/
namespace Sys2Proof.Machine

/-- The frames that stream i's message of these words adds on a port: one where the port is in the mask and up. -/
def State.sapFrames (s : State) (i : Nat) (ws : List (BitVec 32)) (bye : Bool) (n : Nat) : List FwFrame :=
  if bitOf (txF ws R.TX_CTRL_PortMask) n ∧ 2 ≤ s.portState n ∧ s.portState n < 5 then [s.wholeFrame n (s.sapFrame i ws n bye)] else []

/-- The state in which port n has been given stream i's message of these words, where it carries it. -/
def State.sapPort (s : State) (i : Nat) (ws : List (BitVec 32)) (bye : Bool) (n : Nat) : State :=
  if bitOf (txF ws R.TX_CTRL_PortMask) n ∧ 2 ≤ s.portState n ∧ s.portState n < 5 then s.fwBytes n (s.sapFrame i ws n bye) else s

section
variable (s : State) (i : Nat) (ws : List (BitVec 32)) (bye : Bool)

theorem State.sapFrames_fwq (q : List (Nat × List FwFrame)) (n : Nat) :
    ({ s with fwq := q } : State).sapFrames i ws bye n = s.sapFrames i ws bye n := rfl

theorem State.sapPort_only (q : List (Nat × List FwFrame)) (n : Nat) :
    ({ s.sapPort i ws bye n with fwq := q } : State) = { s with fwq := q } := by
  unfold State.sapPort
  split <;> rfl

theorem State.sapPort_fwFrames (n : Nat) : (s.sapPort i ws bye n).fwFrames n = s.fwFrames n ++ s.sapFrames i ws bye n := by
  unfold State.sapPort State.sapFrames
  split
  · exact s.fwFrames_fwSend_same n _
  · exact (List.append_nil _).symm

theorem State.sapPort_fwFrames_ne {m n : Nat} (h : m ≠ n) : (s.sapPort i ws bye n).fwFrames m = s.fwFrames m := by
  unfold State.sapPort
  split
  · exact (s.fwFrames_fwSend n _ m).trans (if_neg h)
  · rfl

/-- Of a stream that is announced, by a unit that may announce, each port of four is given the message. -/
theorem State.sapSend_told (ht : sapTold ws = true) (hp : s.paired = false ∨ s.is R.LEASE_STATUS_Holding = true) :
    s.sapSend i ws bye = s.forN 4 (fun n u => u.sapPort i ws bye n) := by
  refine if_neg ?_
  rintro (h | ⟨hpair, hhold⟩)
  · rw [ht] at h; cases h
  · exact hp.elim (fun h => by rw [h] at hpair; cases hpair) hhold

/-- Of a stream that is not announced, or by a unit of a pair without the lease, nothing is sent. -/
theorem State.sapSend_untold (h : sapTold ws = false ∨ (s.paired = true ∧ s.is R.LEASE_STATUS_Holding = false)) : s.sapSend i ws bye = s := by
  refine if_pos (h.imp (fun ht => ?_) (fun hp => ?_))
  · rw [ht]; rfl
  · obtain ⟨hpair, hhold⟩ := hp
    exact ⟨hpair, by rw [hhold]; decide⟩

/-- The firmware's frames are all that an announcement changes. -/
theorem State.sapSend_only : ({ s.sapSend i ws bye with fwq := s.fwq } : State) = s := by
  unfold State.sapSend
  split
  · rfl
  · exact State.forN_keeps (fun t : State => { t with fwq := s.fwq }) 4 _ (fun n _ t => t.sapPort_only i ws bye s.fwq n) s

theorem State.sapSend_tx : (s.sapSend i ws bye).tx = s.tx := by
  have e := congrArg State.tx (s.sapSend_only i ws bye); exact e

theorem State.sapSend_outbox : (s.sapSend i ws bye).outbox = s.outbox := by
  have e := congrArg State.outbox (s.sapSend_only i ws bye); exact e

theorem State.sapSend_rd (a : Nat) : (s.sapSend i ws bye).rd a = s.rd a := by
  have e := congrArg (fun t : State => t.rd a) (s.sapSend_only i ws bye); exact e

/-- The message stands last among the frames of each port that carries it. -/
theorem State.sapSend_fwFrames (ht : sapTold ws = true) (hp : s.paired = false ∨ s.is R.LEASE_STATUS_Holding = true) {n : Nat} (hn : n < 4) :
    (s.sapSend i ws bye).fwFrames n = s.fwFrames n ++ s.sapFrames i ws bye n := by
  rw [s.sapSend_told i ws bye ht hp]
  obtain ⟨u, hu, hend⟩ := State.forN_at (p := fun t : State => (({ t with fwq := [] } : State), t.fwFrames n)) (f := fun m t => t.sapPort i ws bye m) hn
    (fun m hm t => Prod.ext (t.sapPort_only i ws bye [] m) (t.sapPort_fwFrames_ne i ws bye hm.symm)) s
  obtain ⟨hrest, hframes⟩ := Prod.ext_iff.mp hu
  have hadd : u.sapFrames i ws bye n = s.sapFrames i ws bye n := by
    rw [← u.sapFrames_fwq i ws bye [] n, ← s.sapFrames_fwq i ws bye [] n]
    exact congrArg (fun t : State => t.sapFrames i ws bye n) hrest
  calc (s.forN 4 (fun m t => t.sapPort i ws bye m)).fwFrames n = (u.sapPort i ws bye n).fwFrames n := congrArg Prod.snd hend
    _ = u.fwFrames n ++ u.sapFrames i ws bye n := u.sapPort_fwFrames i ws bye n
    _ = s.fwFrames n ++ s.sapFrames i ws bye n := congrArg₂ (· ++ ·) hframes hadd

end

-- ## The command

/-- The stream is valid, announced and of an RTP format. -/
theorem sapTold_iff (e : TxStream) :
    sapTold e.cfg = true ↔ e.valid = true ∧ txF e.cfg R.TX_CTRL_Announce = 1 ∧ fmtRtp (txF e.cfg R.TX_CTRL_Format) = true := by
  simp only [sapTold, TxStream.valid, Bool.and_eq_true, decide_eq_true_eq, and_assoc]

section
variable {s : State} (hs : Ready s) {i : Nat} (hi : i < 1024)
include hs hi

theorem exec_sapAnnounce : exec (.sapAnnounce i) s = (s.sapSend i (s.txs i).cfg false).done := by
  refine (s.accept_live _ _ (decide_eq_true hi) hs).trans ?_
  rw [State.sapAnnounce]

/-- A stream that is not announced, or whose unit is of a pair and without the lease, has no message. -/
theorem sapAnnounce_untold (h : (s.paired = true ∧ s.is R.LEASE_STATUS_Holding = false) ∨ ¬ sapTold (s.txs i).cfg = true) :
    Ends (.sapAnnounce i) s s :=
  Ends.of_done ((exec_sapAnnounce hs hi).trans
    (congrArg State.done (s.sapSend_untold _ _ _ (h.symm.imp_left Bool.eq_false_of_not_eq_true))))

/-- An announced stream's message joins the firmware's frames on each port that carries it. -/
theorem sapAnnounce_gives (ht : sapTold (s.txs i).cfg = true) (hp : s.paired = false ∨ s.is R.LEASE_STATUS_Holding = true) :
    Gives (.sapAnnounce i) s (fun t => t.tx = s.tx ∧ Sends [] s t ∧ ∀ n, n < 4 →
      t.fwFrames n = (if bitOf (txF (s.txs i).cfg R.TX_CTRL_PortMask) n ∧ 2 ≤ s.portState n ∧ s.portState n < 5 then
        s.fwFrames n ++ [s.wholeFrame n (s.sapFrame i (s.txs i).cfg n false)] else s.fwFrames n)) := by
  refine Gives.of_done (exec_sapAnnounce hs hi) ⟨?_, Sends.settle' ?_, fun n hn => ?_⟩
  · rw [State.settle_tx, State.sapSend_tx]
  · rw [State.sapSend_outbox, List.append_nil]
  · rw [State.fwFrames, State.settle_fwq, ← State.fwFrames, State.sapSend_fwFrames _ _ _ _ ht hp hn, State.sapFrames]
    split
    · rfl
    · rw [List.append_nil]

end

end Sys2Proof.Machine
end

section
/-!
PROOF. The transmit stream window (R156, R165): what Read shows, what Write stores, and what ClearCnt leaves alone.
-/
namespace Sys2Proof.Machine

/-- The entry that ST_SEL selects. -/
abbrev State.stSel (s : State) : Nat := s.get R.ST_SEL_Stream

/-- The words of the configuration window. -/
abbrev State.stWindow (s : State) : List (BitVec 32) := s.rdWords R.TX_CTRL 16

-- ## Results

section
variable (s : State) (c : Nat)

theorem State.stResult_code : (s.stResult c).get R.ST_RESULT_Code = c % 2 ^ 8 :=
  (State.get_congr (f := R.ST_RESULT_Code) (s.resultErr_rd c _ _ _)).trans (s.result_code c (by decide) (by decide) (by decide))

theorem State.stResult_seq : (s.stResult c).get R.ST_RESULT_Seq = (s.get R.ST_RESULT_Seq + 1) % 2 ^ 16 :=
  (State.get_congr (f := R.ST_RESULT_Seq) (s.resultErr_rd c _ _ _)).trans (s.result_seq c (by decide) (by decide) (by decide))

theorem State.stResult_rd {a : Nat} (h : a ≠ R.ST_RESULT) : (s.stResult c).rd a = s.rd a :=
  s.resultErr_rd_ne (code := R.ST_RESULT_Code) (seq := R.ST_RESULT_Seq) rfl R.ST_CMD c 0 h

@[simp] theorem State.stResult_tx : (s.stResult c).tx = s.tx := s.resultErr_keeps c (p := State.tx) State.put_tx State.report_tx _ _

@[simp] theorem State.stResult_queues : (s.stResult c).queues = s.queues :=
  s.resultErr_keeps c (p := State.queues) State.put_queues State.report_queues _ _

@[simp] theorem State.stResult_txs (i : Nat) : (s.stResult c).txs i = s.txs i := congrArg (fun t => tget ({} : TxStream) t i) (s.stResult_tx c)

/-- A result of Done shows in ST_RESULT only. -/
theorem State.stResult_done : OnlyRegs [R.ST_RESULT] s (s.stResult 0) :=
  s.resultErr_ok_onlyRegs (code := R.ST_RESULT_Code) (seq := R.ST_RESULT_Seq) rfl R.ST_CMD 0

end

-- ## Read

/-- The state that ST_STATE shows of an entry. -/
def TxStream.shownState (e : TxStream) : Nat := if e.valid then (if e.running then 2 else 1) else 0

theorem TxStream.shownState_lt (e : TxStream) : e.shownState < 2 ^ 2 := by
  unfold TxStream.shownState
  split_ifs <;> decide

/-- The windows of an entry as ST_CMD.Read loads them, but for its counters. -/
def State.stShown (s : State) (e : TxStream) : State :=
  (((s.wrWords R.TX_CTRL e.cfg).put R.ST_STATE_State e.shownState).put R.ST_LAST_SEQ_Seq e.lastSeq).put R.ST_LAST_DIGEST_Digest e.lastDigest

theorem State.stLoad_eq (s : State) :
    s.stLoad = (s.stShown (s.txs s.stSel)).forN 6 (fun k t => t.put (R.ST_CNT_Count k) (tget 0 (s.txs s.stSel).cnt k)) := rfl

theorem State.stShown_rd_below (s : State) (e : TxStream) {a : Nat} (h : a < R.TX_CTRL) : (s.stShown e).rd a = s.rd a := by
  have hlt : R.TX_CTRL < R.ST_STATE ∧ R.TX_CTRL < R.ST_LAST_SEQ ∧ R.TX_CTRL < R.ST_LAST_DIGEST := by decide
  obtain ⟨hstate, hseq, hdigest⟩ := hlt
  unfold State.stShown
  rw [State.rd_put_ne _ (h.trans hdigest).ne, State.rd_put_ne _ (h.trans hseq).ne, State.rd_put_ne _ (h.trans hstate).ne,
    State.wrWords_rd_below _ _ h]

theorem State.stShown_state (s : State) (e : TxStream) : (s.stShown e).get R.ST_STATE_State = e.shownState := by
  unfold State.stShown
  rw [State.get_put_ne _ (by decide) (by decide), State.get_put_ne _ (by decide) (by decide)]
  exact State.get_put_fit _ (by decide) rfl e.shownState_lt

theorem State.stLoad_regsOnly (s : State) : RegsOnly s s.stLoad :=
  State.forN_inv (RegsOnly s) 6 _ (fun _ _ _ ht => ht.put' _ _) (((((RegsOnly.refl' s).wrWords' _ _).put' _ _).put' _ _).put' _ _)

/-- A word below the counters is as the other windows leave it. -/
theorem State.stLoad_rd (s : State) {a : Nat} (h : a < R.ST_CNT 0) : s.stLoad.rd a = (s.stShown (s.txs s.stSel)).rd a := by
  rw [State.stLoad_eq]
  exact State.forN_keeps (fun t => t.rd a) 6 _ (fun k _ t => t.rd_put_ne (Nat.lt_of_lt_of_le h (Nat.le_add_right _ _)).ne _) _

theorem State.stLoad_count (s : State) {k : Nat} (hk : k < 6) :
    s.stLoad.get (R.ST_CNT_Count k) = tget 0 (s.txs s.stSel).cnt k % 2 ^ 32 := by
  have hother : ∀ i, i ≠ k → (R.ST_CNT_Count k).reg ≠ (R.ST_CNT_Count i).reg := fun i h => by
    show R.ST_CNT k ≠ R.ST_CNT i
    unfold R.ST_CNT
    omega
  rw [State.stLoad_eq]
  obtain ⟨u, -, hend⟩ := State.forN_at (p := fun t => t.get (R.ST_CNT_Count k)) hk (fun i hi t => t.get_put_reg (hother i hi) _)
    (s.stShown (s.txs s.stSel))
  exact hend.trans (u.get_put_same _ _ (Nat.le_of_ble_eq_true rfl))

-- ## Write

/-- The codes of R156 fit the result register. -/
theorem State.txCheck_lt (s : State) (i : Nat) (ws : List (BitVec 32)) : s.txCheck i ws < 2 ^ 8 := by
  unfold State.txCheck
  extract_lets
  split_ifs <;> decide

/-- The state in which words are stored in entry i and the end of an announcement is sent, the readers and the status registers aside. -/
def State.txEntered (s : State) (i : Nat) (ws : List (BitVec 32)) : State :=
  (if sapTold ws then s else s.sapSend i (s.txs i).cfg true).updTx i
    (fun e => { e with cfg := ws, sdpVersion := if e.cfg = ws then e.sdpVersion else e.sdpVersion + 1 })

section
variable (s : State) (i : Nat) (ws : List (BitVec 32))

theorem State.txStore_eq : s.txStore i ws = ((s.txEntered i ws).txReaders ws).streamStatus := rfl

theorem State.txEntered_cfg : ((s.txEntered i ws).txs i).cfg = ws := by
  unfold State.txEntered
  rw [State.txs_updTx_same]

theorem State.txEntered_rd (a : Nat) : (s.txEntered i ws).rd a = s.rd a := by
  unfold State.txEntered
  split
  · rfl
  · exact s.sapSend_rd _ _ _ a

theorem State.txReaders_txs : (s.txReaders ws).txs i = s.txs i := by
  unfold State.txReaders
  extract_lets
  split <;> rfl

theorem State.txReaders_rd (a : Nat) : (s.txReaders ws).rd a = s.rd a := by
  unfold State.txReaders
  extract_lets
  split <;> rfl

theorem State.txStore_cfg : ((s.txStore i ws).txs i).cfg = ws := by
  rw [State.txStore_eq, State.txs, (State.streamStatus_regsOnly _).tx, ← State.txs, State.txReaders_txs, State.txEntered_cfg]

theorem State.txStore_rd {a : Nat} (hwarp : a ≠ R.WARP_STATUS) (hsh : a ≠ R.SH_STATUS) : (s.txStore i ws).rd a = s.rd a := by
  rw [State.txStore_eq, State.streamStatus_rd _ hwarp hsh, State.txReaders_rd, State.txEntered_rd]

end

section
variable {s : State}

/-- Words that pass the check are stored in the selected entry and mark its window (R49). -/
theorem State.stStoreCmd_passes (h : s.txCheck s.stSel s.stWindow = 0) :
    s.stStoreCmd = ((s.txStore s.stSel s.stWindow).mark (tableKey 1 ((s.txStore s.stSel s.stWindow).get R.ST_SEL_Stream))).stResult 0 := by
  unfold State.stStoreCmd State.txWrite
  simp only [h, if_true]

theorem State.stStoreCmd_refused (h : s.txCheck s.stSel s.stWindow ≠ 0) : s.stStoreCmd = s.stResult (s.txCheck s.stSel s.stWindow) := by
  unfold State.stStoreCmd State.txWrite
  simp only [h, if_false]

end

-- ## The commands

section
variable {s : State} (hs : Ready s)
include hs

theorem exec_stRead : exec .stRead s = (s.stLoad.stResult 0).done := by
  show execStRead s = _
  unfold execStRead
  rw [State.live_live _ _ hs]

theorem exec_stWrite : exec .stWrite s = s.stStoreCmd.done := by
  show execStWrite s = _
  unfold execStWrite
  rw [State.live_live _ _ hs]

theorem exec_stClearCnt : exec .stClearCnt s = s.stClearCmd.done := by
  show execStClearCnt s = _
  unfold execStClearCnt
  rw [State.live_live _ _ hs]

/-- Read shows the selected entry's state and counters and changes no table. -/
theorem stRead_gives : Gives .stRead s (fun t => t.tx = s.tx ∧ t.get R.ST_STATE_State = (s.txs s.stSel).shownState
    ∧ (∀ k, k < 6 → t.get (R.ST_CNT_Count k) = tget 0 (s.txs s.stSel).cnt k % 2 ^ 32) ∧ t.get R.ST_RESULT_Code = 0
    ∧ t.get R.ST_RESULT_Seq = (s.get R.ST_RESULT_Seq + 1) % 2 ^ 16 ∧ t.queues = s.queues) := by
  have hload := s.stLoad_regsOnly
  refine Gives.of_done (exec_stRead hs) ⟨?_, ?_, fun k hk => ?_, ?_, ?_, ?_⟩
  · rw [State.settle_tx, State.stResult_tx, hload.tx]
  · rw [State.settle_get _ (by decide), State.get_congr (f := R.ST_STATE_State) (State.stResult_rd _ _ (by decide)),
      State.get_congr (f := R.ST_STATE_State) (s.stLoad_rd (by decide)), State.stShown_state]
  · have hcnt : R.ST_CNT k ≠ R.MSIX_PBA 0 ∧ R.ST_CNT k ≠ R.ST_RESULT := by
      unfold R.ST_CNT R.MSIX_PBA R.ST_RESULT
      omega
    rw [State.settle_get _ (f := R.ST_CNT_Count k) hcnt.1, State.get_congr (f := R.ST_CNT_Count k) (State.stResult_rd _ _ hcnt.2), s.stLoad_count hk]
  · rw [State.settle_get _ (by decide), State.stResult_code, Nat.zero_mod]
  · rw [State.settle_get _ (by decide), State.stResult_seq, State.get_congr (f := R.ST_RESULT_Seq) (s.stLoad_rd (by decide)),
      State.get_congr (f := R.ST_RESULT_Seq) (s.stShown_rd_below _ (by decide))]
  · rw [State.settle_queues, State.stResult_queues, hload.queues]

/-- Write answers the code of the check, stores words that pass it, and refuses others with a record. -/
theorem stWrite_gives : Gives .stWrite s (fun t =>
    t.get R.ST_RESULT_Code = s.txCheck s.stSel s.stWindow ∧ t.get R.ST_RESULT_Seq = (s.get R.ST_RESULT_Seq + 1) % 2 ^ 16
    ∧ (s.txCheck s.stSel s.stWindow ≠ 0 → t.tx = s.tx ∧ t.queues = s.queues
        ∧ t.errWait = s.errWait ++ [turnedDown 0x10 R.ST_CMD (s.txCheck s.stSel s.stWindow) 0])
    ∧ (s.txCheck s.stSel s.stWindow = 0 → (t.txs s.stSel).cfg = s.stWindow)) := by
  by_cases h : s.txCheck s.stSel s.stWindow = 0
  · have hc := State.stStoreCmd_passes h
    refine Gives.of_done (exec_stWrite hs) ⟨?_, ?_, fun hne => absurd h hne, fun _ => ?_⟩
    · rw [State.settle_get _ (by decide), hc, State.stResult_code, Nat.zero_mod, h]
    · rw [State.settle_get _ (by decide), hc, State.stResult_seq, State.get_congr (f := R.ST_RESULT_Seq) (State.mark_rd _ _ _),
        State.get_congr (f := R.ST_RESULT_Seq) (s.txStore_rd _ _ (by decide) (by decide))]
    · rw [State.txs_settle, hc, State.stResult_txs, State.mark_txs, State.txStore_cfg]
  · have hc := State.stStoreCmd_refused h
    refine Gives.of_done (exec_stWrite hs) ⟨?_, ?_, fun _ => ⟨?_, ?_, ?_⟩, fun h0 => absurd h0 h⟩
    · rw [State.settle_get _ (by decide), hc, State.stResult_code, Nat.mod_eq_of_lt (s.txCheck_lt _ _)]
    · rw [State.settle_get _ (by decide), hc, State.stResult_seq]
    · rw [State.settle_tx, hc, State.stResult_tx]
    · rw [State.settle_queues, hc, State.stResult_queues]
    · rw [State.settle_errWait, hc]
      exact s.resultErr_errWait h _ _

/-- ClearCnt zeroes the selected entry's counters and changes nothing else (R165). -/
theorem stClearCnt_gives : Gives .stClearCnt s (fun t => t.txs s.stSel = { s.txs s.stSel with cnt := [] }
    ∧ (∀ j, j ≠ s.stSel → t.txs j = s.txs j) ∧ t.get R.ST_RESULT_Code = 0 ∧ OnlyRegs [R.ST_RESULT] s { t with tx := s.tx }) := by
  refine Gives.of_done (exec_stClearCnt hs) ⟨?_, fun j hj => ?_, ?_, ?_⟩
  · rw [State.txs_settle, State.stClearCmd, State.stResult_txs, State.txs_updTx_same]
  · rw [State.txs_settle, State.stClearCmd, State.stResult_txs, State.txs_updTx_ne _ hj]
  · rw [State.settle_get _ (by decide), State.stClearCmd, State.stResult_code, Nat.zero_mod]
  · have e := (State.stResult_done (s.updTx s.stSel (fun e => { e with cnt := [] }))).settle'.restore (fun v => { v with tx := s.tx })
      (fun _ _ _ _ => rfl)
    exact e

end

end Sys2Proof.Machine
end

section
/-!
PROOF. The pair mismatch log (R161): a read of PM_INFO pops its oldest record.
-/
namespace Sys2Proof.Machine

/-- The words a read of PM_INFO latches (R161). -/
def pairMismatchWords : List Nat := [R.PM_PICK_LO, R.PM_PICK_HI, R.PM_STREAMS]

/-- The state in which a pair mismatch record's pick and streams are latched. -/
def State.pmLatch (s : State) (r : PmRec) : State :=
  ((s.put64 R.PM_PICK_LO_Pick R.PM_PICK_HI_Pick r.pick).put R.PM_STREAMS_FirstStream r.first).put R.PM_STREAMS_Count r.count

theorem State.pmLatch_onlyRegs (s : State) (r : PmRec) : OnlyRegs pairMismatchWords s (s.pmLatch r) :=
  .of_regs ((((SameRegs.refl' _ s).put64' (by decide) (by decide) _).put' (by decide) _).put' (by decide) _)
    ((((RegsOnly.refl' s).put64' _ _ _).put' _ _).put' _ _)

theorem State.pmLatch_shows (s : State) (r : PmRec) : (s.pmLatch r).get R.PM_PICK_LO_Pick = r.pick % 2 ^ 32
    ∧ (s.pmLatch r).get R.PM_STREAMS_FirstStream = r.first % 2 ^ 16 ∧ (s.pmLatch r).get R.PM_STREAMS_Count = r.count % 2 ^ 16 := by
  unfold State.pmLatch
  refine ⟨?_, ?_, State.get_put_same _ _ _ (by decide)⟩
  · rw [State.get_put_ne _ (by decide) (by decide), State.get_put_ne _ (by decide) (by decide)]
    exact s.get_put64_lo _ (by decide) rfl (by decide)
  · rw [State.get_put_ne _ (by decide) (by decide)]
    exact State.get_put_same _ _ _ (by decide)

theorem State.pmLatch_pmLog (s : State) (r : PmRec) : (s.pmLatch r).pmLog = s.pmLog := by
  unfold State.pmLatch
  rw [State.put_pmLog, State.put_pmLog, State.put64_pmLog]

theorem State.pmLatch_outbox (s : State) (r : PmRec) : (s.pmLatch r).outbox = s.outbox := by
  unfold State.pmLatch
  rw [State.put_outbox, State.put_outbox, State.put64_outbox]

section
variable {s : State} (hs : Ready s)
include hs

theorem exec_pmInfoPop_empty (h : s.pmLog = []) : exec .pmInfoPop s = (s.send (.readData R.PM_INFO 0)).done := by
  show execPmInfoPop s = _
  unfold execPmInfoPop State.pmPop
  rw [State.live_live _ _ hs, h]

theorem exec_pmInfoPop {r : PmRec} {rs : List PmRec} (h : s.pmLog = r :: rs) : exec .pmInfoPop s =
    ((({ s with pmLog := rs } : State).pmLatch r).send (.readData R.PM_INFO (1 + (if r.input then 2 else 0) + r.block * 4))).done := by
  show execPmInfoPop s = _
  unfold execPmInfoPop State.pmPop
  rw [State.live_live _ _ hs, h]
  rfl

/-- A read of PM_INFO removes the oldest record and latches its words. -/
theorem pmInfoPop_gives {r : PmRec} {rs : List PmRec} (h : s.pmLog = r :: rs) : Gives .pmInfoPop s (fun t => t.pmLog = rs
    ∧ t.get R.PM_PICK_LO_Pick = r.pick % 2 ^ 32 ∧ t.get R.PM_STREAMS_FirstStream = r.first % 2 ^ 16
    ∧ t.get R.PM_STREAMS_Count = r.count % 2 ^ 16 ∧ Sends [.readData R.PM_INFO (1 + (if r.input then 2 else 0) + r.block * 4)] s t
    ∧ OnlyRegs pairMismatchWords s { t with pmLog := s.pmLog }) := by
  obtain ⟨hpick, hfirst, hcount⟩ := State.pmLatch_shows { s with pmLog := rs } r
  refine Gives.of_done (exec_pmInfoPop hs h) ⟨?_, ?_, ?_, ?_, Sends.settle' ?_, ?_⟩
  · rw [State.settle_pmLog, State.send_pmLog, State.pmLatch_pmLog]
  · rw [State.settle_get _ (by decide), State.get_send, hpick]
  · rw [State.settle_get _ (by decide), State.get_send, hfirst]
  · rw [State.settle_get _ (by decide), State.get_send, hcount]
  · rw [State.send_outbox, State.pmLatch_outbox]
  · have e := ((State.pmLatch_onlyRegs { s with pmLog := rs } r).send'
      (.readData R.PM_INFO (1 + (if r.input then 2 else 0) + r.block * 4))).settle'.restore (fun v => { v with pmLog := s.pmLog }) (fun _ _ _ _ => rfl)
    exact e

end

end Sys2Proof.Machine
end

section
/-!
PROOF. Digests whose other side is absent (R160), and the statement on transmit streams.
-/
namespace Sys2Proof.Machine

/-- The digests without those of pick or index p. -/
def PairDig.without (d : PairDig) (p : Nat) : PairDig :=
  { d with ownOut := d.ownOut.filter (fun e => decide (e.1 ≠ p)), parOut := d.parOut.filter (fun e => decide (e.1 ≠ p)),
           ownIn := d.ownIn.filter (fun e => decide (e.1 ≠ p)), parIn := d.parIn.filter (fun e => decide (e.1 ≠ p)) }

/-- How many digests wait for their other side. -/
def PairDig.waiting (d : PairDig) : Nat := d.ownOut.length + d.parOut.length + d.ownIn.length + d.parIn.length

/-- A digest of pick or index p waits, of the unit's own or of its partner's, of outputs or of inputs. -/
def PairDig.holds (d : PairDig) (p : Nat) : Prop :=
  (∃ e ∈ d.ownOut, e.1 = p) ∨ (∃ e ∈ d.parOut, e.1 = p) ∨ (∃ e ∈ d.ownIn, e.1 = p) ∨ (∃ e ∈ d.parIn, e.1 = p)

theorem filter_ne_shorter_iff {α : Type} (l : List (Nat × α)) (p : Nat) :
    (l.filter (fun e => decide (e.1 ≠ p))).length < l.length ↔ ∃ e ∈ l, e.1 = p := by
  rw [List.length_filter_lt_length_iff_exists]
  simp

/-- Fewer digests wait without those of p just where one of p waits. -/
theorem PairDig.waiting_without_lt_iff (d : PairDig) (p : Nat) : (d.without p).waiting < d.waiting ↔ d.holds p := by
  have hoo := d.ownOut.length_filter_le (fun e => decide (e.1 ≠ p))
  have hpo := d.parOut.length_filter_le (fun e => decide (e.1 ≠ p))
  have hoi := d.ownIn.length_filter_le (fun e => decide (e.1 ≠ p))
  have hpi := d.parIn.length_filter_le (fun e => decide (e.1 ≠ p))
  unfold PairDig.holds PairDig.waiting PairDig.without
  rw [← filter_ne_shorter_iff d.ownOut, ← filter_ne_shorter_iff d.parOut, ← filter_ne_shorter_iff d.ownIn, ← filter_ne_shorter_iff d.parIn]
  dsimp only
  omega

section
variable {s : State} (hs : Ready s) {p : Nat}
include hs

theorem exec_digestMissing : exec (.digestMissing p) s =
    (if (s.dig.without p).waiting < s.dig.waiting ∧ p + 64 ≤ s.time.pick then
      ({ s with dig := s.dig.without p } : State).bump R.CNT_DIG_MISSING_Count else s).done := by
  show execDigestMissing p s = _
  unfold execDigestMissing
  rw [State.live_live _ _ hs]
  rfl

/-- A pick that holds no digest, or is younger than 64 picks, changes nothing. -/
theorem digestMissing_stays (h : ¬ (s.dig.holds p ∧ p + 64 ≤ s.time.pick)) : Ends (.digestMissing p) s s := by
  rw [← PairDig.waiting_without_lt_iff] at h
  exact Ends.of_done ((exec_digestMissing hs).trans (congrArg State.done (if_neg h)))

/-- The digests of a pick that is 64 picks old are dropped and counted once. -/
theorem digestMissing_gives (hold : p + 64 ≤ s.time.pick) (h : s.dig.holds p) : Gives (.digestMissing p) s (fun t =>
    t.dig = s.dig.without p ∧ t.get R.CNT_DIG_MISSING_Count = (s.get R.CNT_DIG_MISSING_Count + 1) % 2 ^ 32
    ∧ OnlyRegs [R.CNT_DIG_MISSING] s { t with dig := s.dig }) := by
  rw [← PairDig.waiting_without_lt_iff] at h
  refine Gives.of_done ((exec_digestMissing hs).trans (congrArg State.done (if_pos ⟨h, hold⟩))) ⟨?_, ?_, ?_⟩
  · rw [State.settle_dig, State.bump_dig]
  · rw [State.settle_get _ (by decide)]
    exact State.get_bump_same _ _ (by decide)
  · have e := (State.bump_onlyRegs { s with dig := s.dig.without p } R.CNT_DIG_MISSING_Count).settle'.restore (fun v => { v with dig := s.dig })
      (fun _ _ _ _ => rfl)
    exact e

end

theorem PairDig.not_holds {d : PairDig} {p : Nat} (hoo : ∀ e ∈ d.ownOut, e.1 ≠ p) (hpo : ∀ e ∈ d.parOut, e.1 ≠ p)
    (hoi : ∀ e ∈ d.ownIn, e.1 ≠ p) (hpi : ∀ e ∈ d.parIn, e.1 ≠ p) : ¬ d.holds p := by
  rintro (⟨e, he, hp⟩ | ⟨e, he, hp⟩ | ⟨e, he, hp⟩ | ⟨e, he, hp⟩)
  · exact hoo e he hp
  · exact hpo e he hp
  · exact hoi e he hp
  · exact hpi e he hp

/-- Settles O31: the window by what each of its commands answers, the log by its oldest record, a digest by whether it is held and old, and an
announcement port by port. -/
theorem transmitStreams : Obligations.TransmitStreams := by
  refine ⟨fun s hs => ⟨fun _ => stRead_gives hs, stWrite_gives hs, stClearCnt_gives hs, fun h => Ends.of_done (exec_pmInfoPop_empty hs h),
    fun _ _ h => pmInfoPop_gives hs h⟩, fun s hs => ⟨fun p hyoung => ?_, fun p hoo hpo hoi hpi => ?_, fun p hold h => ?_,
    fun i hi => ⟨fun h => ?_, fun hon => ?_⟩⟩⟩
  · exact digestMissing_stays hs fun ⟨_, hold⟩ => Nat.not_le.mpr hyoung hold
  · exact digestMissing_stays hs fun ⟨h, _⟩ => PairDig.not_holds hoo hpo hoi hpi h
  · refine (digestMissing_gives hs hold h).mono fun t ⟨hdig, hcount, honly⟩ => ?_
    rw [hdig]
    exact ⟨rfl, rfl, rfl, rfl, rfl, hcount, honly⟩
  · exact sapAnnounce_untold hs hi (h.imp_right (mt (sapTold_iff _).mp))
  · exact sapAnnounce_gives hs hi ((sapTold_iff _).mpr hon)

end Sys2Proof.Machine
end

section
/-!
PROOF. What the ports' operations can touch (R100, R113, R178, R187): words of the MAC blocks, the ports' own state and, where a frame is cut, what
has been sent. What none of these disturbs, the PFC watch and the cut of a queue keep.
-/
namespace Sys2Proof.Machine

/-- A register of the four MAC blocks. -/
abbrev MacReg (a : Nat) : Prop := 0x10000 ≤ a ∧ a < 0x14000

/-- What no write of a MAC register and no change of a port's state disturbs. -/
structure PortClosed (P : State → Prop) : Prop where
  put : ∀ (t : State) (f : Fld) (v : Nat), MacReg f.reg → P t → P (t.put f v)
  updPort : ∀ (t : State) (n : Nat) (f : PortSt → PortSt), P t → P (t.updPort n f)

theorem PortClosed.rd {a : Nat} (ha : 0x14000 ≤ a) (w : BitVec 32) : PortClosed (fun t => t.rd a = w) where
  put _ _ v hf h := (State.rd_put_ne _ (show a ≠ _ by omega) v).trans h
  updPort _ _ _ h := h

theorem PortClosed.keeps {γ : Type} {p : State → γ} (hput : ∀ (t : State) f v, p (t.put f v) = p t)
    (hport : ∀ (t : State) n f, p (t.updPort n f) = p t) (c : γ) : PortClosed (fun t => p t = c) where
  put _ _ _ _ h := (hput _ _ _).trans h
  updPort _ _ _ h := (hport _ _ _).trans h

-- ## The PFC watch

section
variable {P : State → Prop} (hP : PortClosed P) {n : Nat} (hn : n < 4)
include hP hn

theorem PortClosed.putStatus {t : State} (h : P t) (l w v : Nat) : P (t.put ⟨R.MAC_STATUS n, l, w⟩ v) :=
  hP.put t ⟨R.MAC_STATUS n, l, w⟩ v (by show MacReg (R.MAC_STATUS n); unfold MacReg R.MAC_STATUS; omega) h

theorem PortClosed.pfcPri {t : State} (h : P t) (p : Nat) : P (t.pfcPri n p) := by
  have hset := fun (v : Nat) (f : PortSt → PortSt) => hP.updPort _ n f (hP.putStatus hn h (20 + p) 1 v)
  unfold State.pfcPri
  extract_lets occ watched waiting
  split
  · exact hset _ _
  split
  · split
    · exact hset _ _
    · exact h
  split
  · exact hset _ _
  · exact h

end

theorem PortClosed.pfcAll {P : State → Prop} (hP : PortClosed P) {s : State} (hs : P s) : P s.pfcAll := by
  refine State.forN_inv P 4 _ (fun n hn t h => ?_) hs
  unfold State.pfcPort
  split
  · exact State.forN_inv P 8 _ (fun p _ u hu => hP.pfcPri hn hu p) h
  · exact h

section
variable (s : State)

theorem State.pfcAll_rd {a : Nat} (ha : 0x14000 ≤ a) : s.pfcAll.rd a = s.rd a := (PortClosed.rd ha (s.rd a)).pfcAll rfl

theorem State.pfcAll_get {f : Fld} (ha : 0x14000 ≤ f.reg) : s.pfcAll.get f = s.get f := State.get_congr (s.pfcAll_rd ha)

@[simp] theorem State.pfcAll_queues : s.pfcAll.queues = s.queues :=
  (PortClosed.keeps (p := State.queues) State.put_queues (fun _ _ _ => rfl) _).pfcAll rfl

@[simp] theorem State.pfcAll_pool : s.pfcAll.pool = s.pool :=
  (PortClosed.keeps (p := State.pool) State.put_pool (fun _ _ _ => rfl) _).pfcAll rfl

@[simp] theorem State.pfcAll_portOpen : s.pfcAll.portOpen = s.portOpen :=
  (PortClosed.keeps (p := State.portOpen) State.put_portOpen (fun _ _ _ => rfl) _).pfcAll rfl

@[simp] theorem State.pfcAll_outbox : s.pfcAll.outbox = s.outbox :=
  (PortClosed.keeps (p := State.outbox) State.put_outbox (fun _ _ _ => rfl) _).pfcAll rfl

end

-- ## A frame that is cut

/-- What no message sent disturbs either. -/
structure FrameClosed (P : State → Prop) : Prop extends PortClosed P where
  send : ∀ (t : State) (m : Sent), P t → P (t.send m)

theorem FrameClosed.rd {a : Nat} (ha : 0x14000 ≤ a) (w : BitVec 32) : FrameClosed (fun t => t.rd a = w) where
  toPortClosed := .rd ha w
  send _ _ h := h

theorem FrameClosed.queues (c : List (Nat × Queue)) : FrameClosed (fun t => t.queues = c) where
  toPortClosed := .keeps (p := State.queues) State.put_queues (fun _ _ _ => rfl) c
  send _ _ h := h

/-- What has been sent stays sent. -/
theorem FrameClosed.outbox (l : List Sent) : FrameClosed (fun t => l <+: t.outbox) where
  put _ _ _ _ h := h
  updPort _ _ _ h := h
  send _ _ h := h.trans ⟨_, rfl⟩

section
variable {P : State → Prop} (hP : FrameClosed P) {n : Nat} (hn : n < 4)
include hP hn

theorem FrameClosed.cntLevels {t : State} (h : P t) : P (t.cntLevels n) := by
  have hregs : MacReg (R.CNT_HIGH0 n) ∧ MacReg (R.CNT_HIGH1 n) := by
    unfold MacReg R.CNT_HIGH0 R.CNT_HIGH1
    omega
  unfold State.cntLevels
  exact hP.putStatus hn (hP.put _ _ _ hregs.2 (hP.put _ _ _ hregs.1 h)) 3 1 _

theorem FrameClosed.cntAdd {t : State} (h : P t) {i : Nat} (hi : i < 64) (k : Nat) : P (t.cntAdd n i k) := by
  have hcnt : MacReg (R.PORT_CNT n i) ∧ MacReg (R.CNT_HALF n) := by
    unfold MacReg R.PORT_CNT R.CNT_HALF
    omega
  unfold State.cntAdd State.setCnt
  extract_lets old t1 t2
  have h1 : P t1 := hP.put _ _ _ hcnt.1 h
  have h2 : P t2 := by
    dsimp only [t2]
    split
    · exact hP.put _ _ _ hcnt.2 h1
    · exact h1
  split
  · exact h2
  · exact hP.cntLevels hn h2

theorem FrameClosed.frameOut {t : State} (h : P t) (bytes : List Byte) (bad : Bool) : P (t.frameOut n bytes bad) := by
  have hcast := castBin_le (ethInfo bytes).da
  have hsize := sizeBin_le (bytes.length + 4)
  have hfirst : P (if bad then t.cnt n 40 else (t.cnt n 28).cntAdd n 29 (bytes.length + 4)) := by
    split
    · exact hP.cntAdd hn h (by decide) 1
    · exact hP.cntAdd hn (hP.cntAdd hn h (by decide) 1) (by decide) _
  have hbins := hP.cntAdd hn (hP.cntAdd hn hfirst (i := 30 + castBin (ethInfo bytes).da) (by omega) 1)
    (i := 33 + sizeBin (bytes.length + 4)) (by omega) 1
  unfold State.frameOut State.txCount
  refine hP.send _ _ ?_
  dsimp only
  split
  · exact hP.cntAdd hn hbins (by decide) 1
  · exact hbins

theorem FrameClosed.ctOut {t : State} (h : P t) (bytes : List Byte) (bad : Bool) : P (t.ctOut n bytes bad) := by
  have hcount := hP.cntAdd hn (hP.frameOut hn h bytes bad) (i := 46) (by decide) 1
  unfold State.ctOut
  refine hP.updPort _ _ _ ?_
  split
  · exact hP.cntAdd hn hcount (by decide) 1
  · exact hcount

theorem FrameClosed.ctCut {t : State} (h : P t) (q : Nat) (bytes : Option (List Byte)) : P (t.ctCut n q bytes) := by
  unfold State.ctCut
  split
  · exact h
  · split
    · exact hP.ctOut hn h _ _
    · exact hP.updPort _ _ _ h

end

theorem FrameClosed.cutQueue {P : State → Prop} (hP : FrameClosed P) {s : State} (hs : P s) (q : Nat) : P (s.cutQueue q) := by
  refine State.forN_inv P 4 _ (fun n hn t h => ?_) hs
  refine hP.updPort _ _ _ (hP.ctCut hn ?_ _ _)
  split
  · split
    · exact hP.updPort _ _ _ (hP.frameOut hn h _ _)
    · exact h
  · exact h

end Sys2Proof.Machine
end

section
/-!
PROOF. Bobbin's queues (R174 to R188): what an operation on a queue leaves alone, and what its flush and its reset make of it.
-/
namespace Sys2Proof.Machine

/-- Nothing differs but the queues, the pool's memory, the items that queue ports hold open, and the free values used. -/
def QueuesOnly (s t : State) : Prop :=
  ({ t with queues := s.queues, pool := s.pool, portOpen := s.portOpen, freeCtr := s.freeCtr } : State) = s

theorem QueuesOnly.refl' (s : State) : QueuesOnly s s := rfl

section
variable {s t : State} (h : QueuesOnly s t)
include h

theorem QueuesOnly.setQueue' (q : Nat) (v : Queue) : QueuesOnly s (t.setQueue q v) := h

theorem QueuesOnly.setHeld' (k : Nat) (q : Option Nat) : QueuesOnly s (t.setHeld k q) := h

theorem QueuesOnly.qTrim' (q : Nat) : QueuesOnly s (t.qTrim q) := by
  unfold State.qTrim State.free
  dsimp only
  split <;> exact h

theorem QueuesOnly.rd (a : Nat) : t.rd a = s.rd a := by
  have e := congrArg (fun u : State => u.rd a) h; exact e

theorem QueuesOnly.get (f : Fld) : t.get f = s.get f := State.get_congr (h.rd _)

theorem QueuesOnly.outbox : t.outbox = s.outbox := by
  have e := congrArg State.outbox h; exact e

end

-- ## A queue among the queues

theorem State.queue_congr {s t : State} (h : t.queues = s.queues) (q : Nat) : t.queue q = s.queue q := congrArg (fun l => tget ({} : Queue) l q) h

@[simp] theorem State.queue_settle (s : State) (q : Nat) : s.settle.queue q = s.queue q := State.queue_congr s.settle_queues q

@[simp] theorem State.queue_pfcAll (s : State) (q : Nat) : s.pfcAll.queue q = s.queue q := State.queue_congr s.pfcAll_queues q

@[simp] theorem State.queue_bump (s : State) (f : Fld) (q : Nat) : (s.bump f).queue q = s.queue q := rfl

@[simp] theorem State.queue_setQueue_same (s : State) (q : Nat) (v : Queue) : (s.setQueue q v).queue q = v := tget_tput_same _ _ _ _

@[simp] theorem State.queue_setHeld (s : State) (k : Nat) (h : Option Nat) (q : Nat) : (s.setHeld k h).queue q = s.queue q := rfl

@[simp] theorem State.qpHeld_setHeld_same (s : State) (k : Nat) (h : Option Nat) : (s.setHeld k h).qpHeld k = h := tget_tput_same _ _ _ _

theorem Queue.bump_cnt_same (v : Queue) (k : Nat) : tget 0 (v.bump k).cnt k = (tget 0 v.cnt k + 1) % 2 ^ 32 :=
  tget_tupd_same 0 k (fun n => (n + 1) % 2 ^ 32) v.cnt

theorem Queue.bump_cnt_ne (v : Queue) {j k : Nat} (h : j ≠ k) : tget 0 (v.bump k).cnt j = tget 0 v.cnt j := tget_tput_ne _ h _ _

/-- Cells that are freed are counted nowhere. -/
theorem State.qTrim_cnt (s : State) (q : Nat) : ((s.qTrim q).queue q).cnt = (s.queue q).cnt := by
  unfold State.qTrim State.free
  dsimp only
  split
  · rfl
  · rw [State.queue_setQueue_same]

-- ## Flush and reset

/-- A queue that has been emptied and awaits its cells (R187). -/
def Queue.flushed (v : Queue) : Queue :=
  { v with state := 2, chain := [], base := 0, data := [], items := [], pos := [], links := [], reclaim := v.reclaim ++ v.chain }

section
variable (s : State) (q : Nat)

theorem State.qFlush_queue (k : Nat) : (s.qFlush q k).queue q = (s.queue q).flushed.bump k := State.queue_setQueue_same _ _ _

theorem State.qFlush_outbox (k : Nat) : (s.qFlush q k).outbox = s.outbox := rfl

theorem State.qFlush_reclaiming (k : Nat) : (s.qFlush q k).is R.BOB_STATUS_Reclaiming = true := State.is_put_one _ (by decide) rfl

theorem State.cutQueue_queue : (s.cutQueue q).queue q = s.queue q := State.queue_congr ((FrameClosed.queues _).cutQueue rfl q) q

theorem State.cutQueue_rd {a : Nat} (ha : 0x14000 ≤ a) : (s.cutQueue q).rd a = s.rd a := (FrameClosed.rd ha _).cutQueue rfl q

theorem State.cutQueue_outbox : s.outbox <+: (s.cutQueue q).outbox := (FrameClosed.outbox _).cutQueue ⟨[], List.append_nil _⟩ q

theorem State.qFlushAll_queue (k : Nat) : (s.qFlushAll q k).queue q = (s.queue q).flushed.bump k := by
  rw [State.qFlushAll, State.qFlush_queue, State.cutQueue_queue]

theorem State.qFlushAll_rd (k : Nat) {a : Nat} (ha : 0x14000 ≤ a) (hbob : a ≠ R.BOB_STATUS) : (s.qFlushAll q k).rd a = s.rd a :=
  (State.qFlush_rd _ _ _ hbob).trans (s.cutQueue_rd q ha)

/-- The packets that a reset loses are counted in the stream table only. -/
theorem State.txLost_keeps {γ : Type} {p : State → γ} (h : ∀ (t : State) i f, p (t.updTx i f) = p t) : p (s.txLost q) = p s := by
  unfold State.txLost
  extract_lets t
  have ht : p t = p s := State.forL_keeps p _ (fun _ u => h u _ _) _ s
  split
  · rfl
  · refine (State.forL_keeps p _ (fun e u => ?_) _ t).trans ht
    split
    · exact h u _ _
    · rfl

variable {words : List Nat} (hw : words ≠ [])
include hw

/-- What no count and no record touches is as the flush leaves it. -/
theorem State.qReset_keeps {γ : Type} {p : State → γ} (hput : ∀ (t : State) f v, p (t.put f v) = p t)
    (hreport : ∀ (t : State) e, p (t.report e) = p t) : p (s.qReset q words) = p (((s.txLost q).cutQueue q).qFlush q 6) := by
  unfold State.qReset State.qEccReset
  rw [if_neg hw, if_neg hw]
  exact State.forL_keeps p _ (fun _ _ => (hreport _ _).trans (hput _ _ _)) _ _

/-- An uncorrectable structural word empties the queue and is counted once, however many were read (R188). -/
theorem State.qReset_queue : (s.qReset q words).queue q = (s.queue q).flushed.bump 6 := by
  rw [State.qReset_keeps s q hw (p := fun t => t.queue q) (fun _ _ _ => rfl) (fun _ _ => rfl), State.qFlush_queue, State.cutQueue_queue,
    State.txLost_keeps s q (p := fun t => t.queue q) (fun _ _ _ => rfl)]

theorem State.qReset_outbox : s.outbox <+: (s.qReset q words).outbox := by
  rw [State.qReset_keeps s q hw (p := State.outbox) State.put_outbox State.report_outbox, State.qFlush_outbox,
    ← State.txLost_keeps s q (p := State.outbox) (fun _ _ _ => rfl)]
  exact State.cutQueue_outbox _ _

end

end Sys2Proof.Machine
end

section
/-!
PROOF. The queue window (R170, R185, R187, R195): what Read shows, what Write stores, what Flush and ClearCnt leave, and the statement.
-/
namespace Sys2Proof.Machine

/-- The queue that Q_SEL selects. -/
abbrev State.qSel (s : State) : Nat := s.get R.Q_SEL_Queue

/-- The descriptor that the configuration window states for the selected queue. -/
abbrev State.qWindow (s : State) : Queue := (s.queue s.qSel).ofWords (s.rdWords R.Q_CFG 4)

-- ## Results

section
variable (s : State) (c : Nat)

theorem State.qResult_code : (s.qResult c).get R.Q_RESULT_Code = c % 2 ^ 8 :=
  (State.get_congr (f := R.Q_RESULT_Code) (s.resultErr_rd c _ _ _)).trans (s.result_code c (by decide) (by decide) (by decide))

theorem State.qResult_seq : (s.qResult c).get R.Q_RESULT_Seq = (s.get R.Q_RESULT_Seq + 1) % 2 ^ 16 :=
  (State.get_congr (f := R.Q_RESULT_Seq) (s.resultErr_rd c _ _ _)).trans (s.result_seq c (by decide) (by decide) (by decide))

theorem State.qResult_rd {a : Nat} (h : a ≠ R.Q_RESULT) : (s.qResult c).rd a = s.rd a :=
  s.resultErr_rd_ne (code := R.Q_RESULT_Code) (seq := R.Q_RESULT_Seq) rfl R.Q_CMD c _ h

@[simp] theorem State.qResult_queues : (s.qResult c).queues = s.queues :=
  s.resultErr_keeps c (p := State.queues) State.put_queues State.report_queues _ _

@[simp] theorem State.qResult_pool : (s.qResult c).pool = s.pool :=
  s.resultErr_keeps c (p := State.pool) State.put_pool State.report_pool _ _

@[simp] theorem State.queue_qResult (q : Nat) : (s.qResult c).queue q = s.queue q := State.queue_congr (s.qResult_queues c) q

end

-- ## Read

/-- The windows of a queue as Q_CMD.Read loads them, but for its counters. -/
def State.qShown (s : State) (v : Queue) (reader ownMin : Nat) : State :=
  ((((((s.wrWords R.Q_CFG v.words).put R.Q_STATE_State v.state).putB R.Q_STATE_Open v.isOpen).put R.Q_DEPTH_Words (v.depth reader)).put
    R.Q_CELLS_Cells v.cells).put R.Q_ITEMS_Items (v.items.filter QItem.done).length).put R.Q_OWNMIN_Cells ownMin

section
variable (s : State) (v : Queue) (reader ownMin : Nat)

/-- Beside the configuration words, only the status words change. -/
theorem State.qShown_rd {a : Nat} (h : a < R.Q_STATE) : (s.qShown v reader ownMin).rd a = (s.wrWords R.Q_CFG v.words).rd a := by
  have hstate : a ≠ R.Q_STATE ∧ a ≠ R.Q_DEPTH ∧ a ≠ R.Q_CELLS ∧ a ≠ R.Q_ITEMS ∧ a ≠ R.Q_OWNMIN := by
    unfold R.Q_STATE at h
    unfold R.Q_STATE R.Q_DEPTH R.Q_CELLS R.Q_ITEMS R.Q_OWNMIN
    omega
  obtain ⟨hstate, hdepth, hcells, hitems, hmin⟩ := hstate
  unfold State.qShown
  rw [State.rd_put_ne _ hmin, State.rd_put_ne _ hitems, State.rd_put_ne _ hcells, State.rd_put_ne _ hdepth, State.putB,
    State.rd_put_ne _ hstate, State.rd_put_ne _ hstate]

theorem State.qShown_quota : (s.qShown v reader ownMin).get R.Q_QUOTA_Quota = v.quota % 2 ^ 19 := by
  have hword : (s.qShown v reader ownMin).rd R.Q_QUOTA = BitVec.ofNat 32 v.quota := by
    rw [State.qShown_rd _ _ _ _ (by decide)]
    simp only [Queue.words, State.wrWords, State.rd_wr, R.Q_CFG, R.Q_QUOTA]
    rfl
  have hlow : bitsOf (v.quota % 2 ^ 32) 0 19 = v.quota % 2 ^ 19 := by
    unfold bitsOf
    omega
  show bitsOf ((s.qShown v reader ownMin).rd R.Q_QUOTA).toNat 0 19 = _
  rw [hword, BitVec.toNat_ofNat, hlow]

theorem State.qShown_state : (s.qShown v reader ownMin).get R.Q_STATE_State = v.state % 4
    ∧ (s.qShown v reader ownMin).is R.Q_STATE_Open = v.isOpen := by
  unfold State.qShown
  constructor
  · rw [State.get_put_ne _ (by decide) (by decide), State.get_put_ne _ (by decide) (by decide), State.get_put_ne _ (by decide) (by decide),
      State.get_put_ne _ (by decide) (by decide), State.get_putB_ne _ (by decide) (by decide)]
    exact State.get_put_same _ _ _ (by decide)
  · rw [State.is_put_ne _ (by decide) (by decide), State.is_put_ne _ (by decide) (by decide), State.is_put_ne _ (by decide) (by decide),
      State.is_put_ne _ (by decide) (by decide)]
    exact State.is_putB_same _ (by decide) rfl _

end

/-- Read loads the windows of the queue, with the depth and the requirement that it finds there, and then the counters. -/
theorem State.qLoad_eq (s : State) (q : Nat) : ∃ reader ownMin, s.qLoad q =
    (s.qShown (s.queue q) reader ownMin).forN 9 (fun k t => t.put (R.Q_CNT_Count k) (tget 0 (s.queue q).cnt k)) := ⟨_, _, rfl⟩

/-- A word below the counters is as the other windows leave it. -/
theorem State.qLoad_rd (s : State) (q : Nat) : ∃ reader ownMin, ∀ a, a < R.Q_CNT 0 →
    (s.qLoad q).rd a = (s.qShown (s.queue q) reader ownMin).rd a := by
  obtain ⟨reader, ownMin, hload⟩ := s.qLoad_eq q
  refine ⟨reader, ownMin, fun a ha => ?_⟩
  rw [hload]
  exact State.forN_keeps (fun t => t.rd a) 9 _ (fun k _ t => t.rd_put_ne (Nat.lt_of_lt_of_le ha (Nat.le_add_right _ _)).ne _) _

theorem State.qLoad_regsOnly (s : State) (q : Nat) : RegsOnly s (s.qLoad q) := by
  obtain ⟨reader, ownMin, hload⟩ := s.qLoad_eq q
  rw [hload]
  refine State.forN_inv (RegsOnly s) 9 _ (fun _ _ _ ht => ht.put' _ _) ?_
  exact (((((((RegsOnly.refl' s).wrWords' _ _).put' _ _).putB' _ _).put' _ _).put' _ _).put' _ _).put' _ _

-- ## Write

/-- The codes of R185 fit the result register. -/
theorem State.qCheck_lt (s : State) (q : Nat) (n : Queue) : s.qCheck q n < 2 ^ 8 := by
  unfold State.qCheck
  extract_lets
  split_ifs <;> decide

theorem State.qCheck_notReady {s : State} (h : s.bobReady = false) (q : Nat) (n : Queue) : s.qCheck q n = 7 := by
  unfold State.qCheck
  exact if_pos (by rw [h]; rfl)

section
variable (s : State) (q : Nat) (ws : List (BitVec 32))

theorem State.qWrite_code : (s.qWrite q ws).1 = s.qCheck q ((s.queue q).ofWords ws) := by
  unfold State.qWrite
  extract_lets v n c
  by_cases h : c = 0
  · rw [if_neg (not_not.mpr h)]
    split_ifs <;> exact h.symm
  · rw [if_pos h]

theorem State.qWrite_rd {a : Nat} (ha : 0x14000 ≤ a) (hbob : a ≠ R.BOB_STATUS) : (s.qWrite q ws).2.rd a = s.rd a := by
  unfold State.qWrite
  extract_lets v n c
  by_cases h : c = 0
  · rw [if_neg (not_not.mpr h)]
    by_cases hon : n.enable = true
    · rw [if_pos hon]
      rfl
    · rw [if_neg hon]
      split
      · rfl
      · exact State.qFlushAll_rd _ _ _ ha hbob
  · rw [if_pos h]

variable {s q ws}

theorem State.qWrite_refused (h : s.qCheck q ((s.queue q).ofWords ws) ≠ 0) : (s.qWrite q ws).2 = s := by
  unfold State.qWrite
  extract_lets v n c
  rw [if_pos h]

section
variable (h : s.qCheck q ((s.queue q).ofWords ws) = 0)
include h

theorem State.qWrite_enables (hon : ((s.queue q).ofWords ws).enable = true) : (s.qWrite q ws).2.queue q =
    { (s.queue q).ofWords ws with state := if (s.queue q).state = 0 then 1 else (s.queue q).state } := by
  unfold State.qWrite
  extract_lets v n c
  rw [if_neg (not_not.mpr h), if_pos hon, State.queue_setQueue_same]

theorem State.qWrite_off (hoff : ((s.queue q).ofWords ws).enable = false) (hstate : (s.queue q).state = 0) :
    (s.qWrite q ws).2.queue q = (s.queue q).ofWords ws := by
  unfold State.qWrite
  extract_lets v n c
  rw [if_neg (not_not.mpr h), if_neg (Bool.eq_false_iff.mp hoff), if_pos hstate, State.queue_setQueue_same]

/-- A queue that is disabled is emptied (R174). -/
theorem State.qWrite_disables (hoff : ((s.queue q).ofWords ws).enable = false) (hstate : (s.queue q).state ≠ 0) :
    (s.qWrite q ws).2.queue q = ((s.queue q).ofWords ws).flushed.bump 5 := by
  unfold State.qWrite
  extract_lets v n c
  rw [if_neg (not_not.mpr h), if_neg (Bool.eq_false_iff.mp hoff), if_neg hstate, State.qFlushAll_queue, State.queue_setQueue_same]

end

end

-- ## Flush

theorem State.qFlushCommand_notReady {s : State} (h : s.bobReady = false) : s.qFlushCommand = s.qResult 7 := by
  unfold State.qFlushCommand State.qFlushCmd
  rw [h]
  rfl

section
variable {s : State} (h : s.bobReady = true)
include h

theorem State.qFlushCommand_off (hstate : (s.queue s.qSel).state = 0) :
    s.qFlushCommand = (s.setQueue s.qSel ((s.queue s.qSel).bump 5)).qResult 0 := by
  unfold State.qFlushCommand State.qFlushCmd
  rw [h, if_neg (by decide), if_pos hstate]

theorem State.qFlushCommand_on (hstate : (s.queue s.qSel).state ≠ 0) : s.qFlushCommand = (s.qFlushAll s.qSel 5).qResult 0 := by
  unfold State.qFlushCommand State.qFlushCmd
  rw [h, if_neg (by decide), if_neg hstate]

end

-- ## The commands

section
variable {s : State} (hs : Ready s)
include hs

theorem exec_poolInitDone : exec .poolInitDone s =
    (if s.is R.BOB_STATUS_InitDone then s else { s.put R.BOB_STATUS_InitDone 1 with pool := [] } : State).done := by
  show execPoolInitDone s = _
  unfold execPoolInitDone
  rw [State.live_live _ _ hs]

theorem exec_qRead : exec .qRead s =
    (if !s.is R.BOB_STATUS_InitDone then s.qResult 7 else (s.qLoad s.qSel).qResult 0).done := by
  show execQRead s = _
  unfold execQRead
  rw [State.live_live _ _ hs]
  rfl

theorem exec_qWrite : exec .qWrite s = ((s.qWrite s.qSel (s.rdWords R.Q_CFG 4)).2.pfcAll.qResult (s.qCheck s.qSel s.qWindow)).done := by
  show execQWrite s = _
  unfold execQWrite
  rw [State.live_live _ _ hs, ← State.qWrite_code]
  rfl

theorem exec_qFlush : exec .qFlush s = s.qFlushCommand.done := by
  show execQFlush s = _
  unfold execQFlush
  rw [State.live_live _ _ hs]

theorem exec_qClearCnt : exec .qClearCnt s =
    (if !s.is R.BOB_STATUS_InitDone then s.qResult 7 else (s.setQueue s.qSel { s.queue s.qSel with cnt := [] }).qResult 0).done := by
  show execQClearCnt s = _
  unfold execQClearCnt
  rw [State.live_live _ _ hs]
  rfl

theorem qWindow_notInit (hinit : s.is R.BOB_STATUS_InitDone = false) {c : Instr} (hc : c = .qRead ∨ c = .qClearCnt) :
    Ends c s (s.qResult 7) := by
  obtain rfl | rfl := hc
  · exact Ends.of_done ((exec_qRead hs).trans (congrArg State.done (if_pos (by rw [hinit]; rfl))))
  · exact Ends.of_done ((exec_qClearCnt hs).trans (congrArg State.done (if_pos (by rw [hinit]; rfl))))

/-- Write and Flush act only while Bobbin is ready (R170, R185). -/
theorem qWindow_notReady (hready : s.bobReady = false) {c : Instr} (hc : c = .qWrite ∨ c = .qFlush) :
    Gives c s (fun t => t.get R.Q_RESULT_Code = 7 ∧ t.queues = s.queues ∧ t.pool = s.pool) := by
  obtain rfl | rfl := hc
  · have hcode : s.qCheck s.qSel s.qWindow = 7 := State.qCheck_notReady hready _ _
    have hsame := State.qWrite_refused (s := s) (q := s.qSel) (ws := s.rdWords R.Q_CFG 4) (by rw [hcode]; decide)
    refine Gives.of_done (exec_qWrite hs) ⟨?_, ?_, ?_⟩
    · rw [State.settle_get _ (by decide), State.qResult_code, hcode]
      rfl
    · rw [State.settle_queues, State.qResult_queues, State.pfcAll_queues, hsame]
    · rw [State.settle_pool, State.qResult_pool, State.pfcAll_pool, hsame]
  · refine Gives.of_done (exec_qFlush hs) ?_
    rw [State.qFlushCommand_notReady hready, State.settle_get _ (by decide), State.qResult_code, State.settle_queues, State.qResult_queues,
      State.settle_pool, State.qResult_pool]
    exact ⟨rfl, rfl, rfl⟩

theorem qRead_gives (hinit : s.is R.BOB_STATUS_InitDone = true) : Gives .qRead s (fun t => t.queues = s.queues
    ∧ t.get R.Q_STATE_State = (s.queue s.qSel).state % 4 ∧ t.is R.Q_STATE_Open = (s.queue s.qSel).isOpen
    ∧ t.get R.Q_QUOTA_Quota = (s.queue s.qSel).quota % 2 ^ 19 ∧ t.get R.Q_RESULT_Code = 0) := by
  obtain ⟨reader, ownMin, hload⟩ := s.qLoad_rd s.qSel
  obtain ⟨hstate, hopen⟩ := s.qShown_state (s.queue s.qSel) reader ownMin
  refine Gives.of_done ((exec_qRead hs).trans (congrArg State.done (if_neg (by rw [hinit]; decide)))) ⟨?_, ?_, ?_, ?_, ?_⟩
  · rw [State.settle_queues, State.qResult_queues, (s.qLoad_regsOnly _).queues]
  · rw [State.settle_get _ (by decide), State.get_congr (f := R.Q_STATE_State) (State.qResult_rd _ _ (by decide)),
      State.get_congr (f := R.Q_STATE_State) (hload _ (by decide)), hstate]
  · rw [State.settle_is _ (by decide), State.is_congr (f := R.Q_STATE_Open) (State.qResult_rd _ _ (by decide)),
      State.is_congr (f := R.Q_STATE_Open) (hload _ (by decide)), hopen]
  · rw [State.settle_get _ (by decide), State.get_congr (f := R.Q_QUOTA_Quota) (State.qResult_rd _ _ (by decide)),
      State.get_congr (f := R.Q_QUOTA_Quota) (hload _ (by decide)), State.qShown_quota]
  · rw [State.settle_get _ (by decide), State.qResult_code, Nat.zero_mod]

/-- Write answers the code of the check and stores the descriptor where it passes. -/
theorem qWrite_gives : Gives .qWrite s (fun t => t.get R.Q_RESULT_Code = s.qCheck s.qSel s.qWindow
    ∧ t.get R.Q_RESULT_Seq = (s.get R.Q_RESULT_Seq + 1) % 2 ^ 16
    ∧ (s.qCheck s.qSel s.qWindow ≠ 0 → t.queues = s.queues)
    ∧ (s.qCheck s.qSel s.qWindow = 0 → s.qWindow.enable = true →
        t.queue s.qSel = { s.qWindow with state := if (s.queue s.qSel).state = 0 then 1 else (s.queue s.qSel).state })
    ∧ (s.qCheck s.qSel s.qWindow = 0 → s.qWindow.enable = false → (s.queue s.qSel).state = 0 → t.queue s.qSel = s.qWindow)
    ∧ (s.qCheck s.qSel s.qWindow = 0 → s.qWindow.enable = false → (s.queue s.qSel).state ≠ 0 → t.queue s.qSel = s.qWindow.flushed.bump 5)) := by
  have hqueue : ∀ (u : State) c, (u.pfcAll.qResult c).settle.queue s.qSel = u.queue s.qSel := fun u c => by
    rw [State.queue_settle, State.queue_qResult, State.queue_pfcAll]
  refine Gives.of_done (exec_qWrite hs) ⟨?_, ?_, fun h => ?_, fun h hon => ?_, fun h hoff hstate => ?_, fun h hoff hstate => ?_⟩
  · rw [State.settle_get _ (by decide), State.qResult_code, Nat.mod_eq_of_lt (s.qCheck_lt _ _)]
  · rw [State.settle_get _ (by decide), State.qResult_seq, State.pfcAll_get _ (by decide),
      State.get_congr (f := R.Q_RESULT_Seq) (s.qWrite_rd _ _ (by decide) (by decide))]
  · rw [State.settle_queues, State.qResult_queues, State.pfcAll_queues, State.qWrite_refused h]
  · rw [hqueue, State.qWrite_enables h hon]
  · rw [hqueue, State.qWrite_off h hoff hstate]
  · rw [hqueue, State.qWrite_disables h hoff hstate]

theorem qFlush_off (hready : s.bobReady = true) (hstate : (s.queue s.qSel).state = 0) :
    Gives .qFlush s (fun t => t.queue s.qSel = (s.queue s.qSel).bump 5 ∧ t.get R.Q_RESULT_Code = 0) := by
  refine Gives.of_done (exec_qFlush hs) ?_
  rw [State.qFlushCommand_off hready hstate, State.queue_settle, State.queue_qResult, State.queue_setQueue_same,
    State.settle_get _ (by decide), State.qResult_code]
  exact ⟨rfl, rfl⟩

theorem qFlush_on (hready : s.bobReady = true) (hstate : (s.queue s.qSel).state ≠ 0) :
    Gives .qFlush s (fun t => t.queue s.qSel = (s.queue s.qSel).flushed.bump 5 ∧ t.is R.BOB_STATUS_Reclaiming = true
      ∧ t.get R.Q_RESULT_Code = 0) := by
  refine Gives.of_done (exec_qFlush hs) ?_
  rw [State.qFlushCommand_on hready hstate, State.queue_settle, State.queue_qResult, State.qFlushAll_queue, State.settle_is _ (by decide),
    State.is_congr (f := R.BOB_STATUS_Reclaiming) (State.qResult_rd _ _ (by decide)), State.qFlushAll, State.qFlush_reclaiming,
    State.settle_get _ (by decide), State.qResult_code]
  exact ⟨rfl, rfl, rfl⟩

theorem qClearCnt_gives (hinit : s.is R.BOB_STATUS_InitDone = true) :
    Gives .qClearCnt s (fun t => t.queue s.qSel = { s.queue s.qSel with cnt := [] } ∧ t.get R.Q_RESULT_Code = 0) := by
  refine Gives.of_done ((exec_qClearCnt hs).trans (congrArg State.done (if_neg (by rw [hinit]; decide)))) ?_
  rw [State.queue_settle, State.queue_qResult, State.queue_setQueue_same, State.settle_get _ (by decide), State.qResult_code]
  exact ⟨rfl, rfl⟩

end

end Sys2Proof.Machine
end

section
/-!
PROOF. The owner scan of a queue (R174, R188), and the statement on the queue window.
-/
namespace Sys2Proof.Machine

/-- The scan reads an uncorrectable link word of the queue. -/
def State.scanBad (s : State) (q : Nat) (errs : List (Nat × Bool)) : Prop := ∃ e ∈ errs, e.2 = true ∧ e.1 ∈ (s.queue q).reclaim

theorem State.qReclaimed_queue {s : State} {q : Nat} (h : (s.queue q).state = 2) : (s.qReclaimed q).queue q =
    { s.queue q with reclaim := [], state := if (s.queue q).enable then 1 else 0 } := by
  unfold State.qReclaimed
  rw [if_neg (not_not.mpr h)]
  exact State.queue_setQueue_same _ _ _

section
variable {s : State} {q : Nat} {errs : List (Nat × Bool)}

/-- The link words of the queue that the scan read with an uncorrectable error. -/
def State.scanLost (s : State) (q : Nat) (errs : List (Nat × Bool)) : List (Nat × Bool) :=
  (errs.filter (fun e => (s.queue q).reclaim.contains e.1)).filter (fun e => e.2)

theorem State.scanLost_eq_nil_iff : s.scanLost q errs = [] ↔ ¬ s.scanBad q errs := by
  simp only [State.scanLost, State.scanBad, List.filter_eq_nil_iff, List.mem_filter, List.contains_iff_mem, not_exists, not_and]
  exact ⟨fun h e he hbad hmem => h e ⟨he, hmem⟩ hbad, fun h e ⟨he, hmem⟩ hbad => h e he hbad hmem⟩

/-- The state in which the corrected link words of the scan have been counted. -/
def State.scanCounted (s : State) (q : Nat) (errs : List (Nat × Bool)) : State :=
  s.forL ((errs.filter (fun e => (s.queue q).reclaim.contains e.1)).filter (fun e => !e.2)) (fun e t => t.eccCorr e.1)

theorem State.scanCounted_queue : (s.scanCounted q errs).queue q = s.queue q := by
  unfold State.scanCounted
  exact State.forL_keeps (fun t : State => t.queue q) _ (fun _ t => t.queue_bump _ q) _ s

theorem State.qScanned_idle (h : (s.queue q).state ≠ 2) : s.qScanned q errs = s := if_pos h

theorem State.qScanned_eq (h : (s.queue q).state = 2) : s.qScanned q errs =
    if s.scanLost q errs = [] then (s.scanCounted q errs).qReclaimed q
    else (s.scanCounted q errs).qReset q ((s.scanLost q errs).map (fun _ => 31)) := if_neg (not_not.mpr h)

theorem State.qScanned_good (h : (s.queue q).state = 2) (hgood : ¬ s.scanBad q errs) : (s.qScanned q errs).queue q =
    { s.queue q with reclaim := [], state := if (s.queue q).enable then 1 else 0 } := by
  rw [State.qScanned_eq h, if_pos (State.scanLost_eq_nil_iff.mpr hgood), State.qReclaimed_queue (by rw [State.scanCounted_queue, h]),
    State.scanCounted_queue]

theorem State.qScanned_bad (h : (s.queue q).state = 2) (hbad : s.scanBad q errs) : (s.qScanned q errs).queue q = (s.queue q).flushed.bump 6 := by
  have hlost : s.scanLost q errs ≠ [] := fun e => State.scanLost_eq_nil_iff.mp e hbad
  rw [State.qScanned_eq h, if_neg hlost, State.qReset_queue _ _ (mt List.map_eq_nil_iff.mp hlost), State.scanCounted_queue]

end

section
variable {s : State} (hs : Ready s) {k : Nat} (hk : k < 4096) (errs : List (Nat × Bool))
include hs hk

theorem exec_reclaimDone : exec (.reclaimDone ⟨k, errs⟩) s = (s.qScanned k errs).pfcAll.done := s.accept_live _ _ (decide_eq_true hk) hs

theorem reclaimDone_gives : Gives (.reclaimDone ⟨k, errs⟩) s (fun t =>
    ((s.queue k).state ≠ 2 → t.queue k = s.queue k)
    ∧ ((s.queue k).state = 2 → ¬ s.scanBad k errs →
        t.queue k = { s.queue k with reclaim := [], state := if (s.queue k).enable then 1 else 0 })
    ∧ ((s.queue k).state = 2 → s.scanBad k errs →
        (t.queue k).state = 2 ∧ tget 0 (t.queue k).cnt 6 = (tget 0 (s.queue k).cnt 6 + 1) % 2 ^ 32)) := by
  refine Gives.of_done (exec_reclaimDone hs hk errs) ?_
  rw [State.queue_settle, State.queue_pfcAll]
  refine ⟨fun h => by rw [State.qScanned_idle h], State.qScanned_good, fun h hbad => ?_⟩
  rw [State.qScanned_bad h hbad]
  exact ⟨rfl, Queue.bump_cnt_same _ _⟩

end

/-- Settles O28: what each command of the window answers while the pool is not ready, and while it is; then the scan by what it has read. -/
theorem queueWindow : Obligations.QueueWindow := by
  refine ⟨fun s hs => ⟨fun hinit => ?_, fun hinit => ⟨?_, fun c => qWindow_notInit hs hinit⟩, fun hoff c => qWindow_notReady hs ?_⟩,
    fun s hs hinit hon => ?_⟩
  · exact Ends.of_done ((exec_poolInitDone hs).trans (congrArg State.done (if_pos hinit)))
  · exact Ends.of_done ((exec_poolInitDone hs).trans (congrArg State.done (if_neg (by rw [hinit]; decide))))
  · exact Bool.and_eq_false_iff.mpr hoff
  · have hready : s.bobReady = true := Bool.and_eq_true_iff.mpr ⟨hinit, hon⟩
    refine ⟨qRead_gives hs hinit, (qWrite_gives hs).mono fun t ⟨hcode, hseq, hrefused, honto, hoff, hdisable⟩ => ?_, qFlush_off hs hready,
      fun hstate => (qFlush_on hs hready hstate).mono fun t ⟨hqueue, hrest⟩ => ?_, qClearCnt_gives hs hinit,
      fun k errs hk => reclaimDone_gives hs hk errs⟩
    · refine ⟨hcode, hseq, hrefused, honto, hoff, fun h hen hstate => ?_⟩
      rw [hdisable h hen hstate]
      exact ⟨hen, rfl, rfl, rfl, rfl⟩
    · rw [hqueue]
      exact ⟨rfl, rfl, rfl, rfl, rfl, hrest⟩

end Sys2Proof.Machine
end

section
/-!
PROOF. Items that a producer builds (R175, R179, R183, R184): a word put in, an item opened, grown, committed and dropped.
-/
namespace Sys2Proof.Machine

/-- A word more finds a place in the tail cell, or in a cell that the quota allows (R183). -/
def Queue.hasRoom (v : Queue) : Prop := v.data.length < 31 * v.chain.length ∨ v.cells < v.quota

/-- A producer's item is the one marked. -/
def QItem.opens (i : QItem) (b : Nat) : Bool := !i.done && decide (i.by_ = b)

/-- An item as a word put in at a place leaves it. -/
def QItem.behind (k : Nat) (i : QItem) : QItem := if k ≤ i.start then { i with start := i.start + 1 } else i

theorem Queue.openOf_eq (v : Queue) (b : Nat) : v.openOf b = v.items.find? (fun i => i.opens b) := rfl

theorem QItem.behind_opens (k b : Nat) (i : QItem) : (i.behind k).opens b = i.opens b := by
  unfold QItem.behind
  split <;> rfl

theorem QItem.behind_words (k : Nat) (i : QItem) : (i.behind k).words = i.words := by
  unfold QItem.behind
  split <;> rfl

/-- A word put in leaves every producer its item, as long as it was. -/
theorem Queue.openOf_putAt_words (v : Queue) (k b : Nat) (w : BitVec 32) :
    ((v.putAt k w).openOf b).map QItem.words = (v.openOf b).map QItem.words := by
  have hsame : (fun i : QItem => i.opens b) ∘ QItem.behind k = fun i => i.opens b := funext (QItem.behind_opens k b)
  have hwords : QItem.words ∘ QItem.behind k = QItem.words := funext (QItem.behind_words k)
  have hitems : (v.putAt k w).items = v.items.map (QItem.behind k) := rfl
  rw [Queue.openOf_eq, hitems, List.find?_map, hsame, Option.map_map, hwords, ← Queue.openOf_eq]

/-- An item of a producer that has pushed a word. -/
def QItem.grown (b : Nat) (i : QItem) : QItem := if i.opens b then { i with words := i.words + 1 } else i

theorem QItem.grown_opens (b : Nat) (i : QItem) : (i.grown b).opens b = i.opens b := by
  unfold QItem.grown
  split <;> rfl

/-- A producer's item grown by a word is one word longer. -/
theorem Queue.openOf_updOpen_words (v : Queue) (b : Nat) :
    ((v.updOpen b (fun i => { i with words := i.words + 1 })).openOf b).map QItem.words = (v.openOf b).map (fun i => i.words + 1) := by
  have hsame : (fun i : QItem => i.opens b) ∘ QItem.grown b = fun i => i.opens b := funext (QItem.grown_opens b)
  have hitems : (v.updOpen b (fun i => { i with words := i.words + 1 })).items = v.items.map (QItem.grown b) := rfl
  rw [Queue.openOf_eq, hitems, List.find?_map, hsame, Option.map_map, ← Queue.openOf_eq]
  cases h : v.openOf b with
  | none => rfl
  | some i =>
    have hi : i.opens b = true := List.find?_some (p := fun i : QItem => i.opens b) h
    exact congrArg (fun j => some (QItem.words j)) (if_pos hi)

/-- The element set is the element read. -/
theorem getD_setAt_same {α : Type} (x d : α) : ∀ (l : List α) (i : Nat), i < l.length → (setAt l i x).getD i d = x := by
  intro l
  induction l with
  | nil => exact fun _ h => absurd h (Nat.not_lt_zero _)
  | cons y l ih =>
    intro i h
    cases i with
    | zero => rfl
    | succ i =>
      show (y :: setAt l i x).getD (i + 1) d = x
      rw [List.getD_cons_succ]
      exact ih i (Nat.lt_of_succ_lt_succ h)

theorem Queue.setWord_items (v : Queue) (k : Nat) (w : BitVec 32) : (v.setWord k w).items = v.items := by
  unfold Queue.setWord
  split <;> rfl

theorem Queue.setWord_cnt (v : Queue) (k : Nat) (w : BitVec 32) : (v.setWord k w).cnt = v.cnt := by
  unfold Queue.setWord
  split <;> rfl

/-- A word of the queue reads as it was set. -/
theorem Queue.word_setWord (v : Queue) {k : Nat} (w : BitVec 32) (hbase : v.base ≤ k) (htail : k < v.tail) : (v.setWord k w).word k = w := by
  unfold Queue.tail at htail
  unfold Queue.setWord Queue.word
  rw [if_neg (Nat.not_lt.mpr hbase)]
  exact (if_neg (Nat.not_lt.mpr hbase)).trans (getD_setAt_same w _ _ _ (by omega))

theorem Queue.dropOpen_cnt (v : Queue) (b : Nat) : (v.dropOpen b).cnt = v.cnt := by
  unfold Queue.dropOpen
  split
  · exact v.setWord_cnt _ _
  · rfl

-- ## A word put in

section
variable {s : State} {q : Nat}

theorem State.qInsert_full (h : ¬ (s.queue q).hasRoom) (k : Nat) (w : BitVec 32) : s.qInsert q k w = none := by
  obtain ⟨hcell, hquota⟩ := not_or.mp h
  unfold State.qInsert
  dsimp only
  rw [if_neg hcell, if_pos (Nat.not_lt.mp hquota)]

/-- A word for which there is room joins the queue, whose chain may grow by a cell. -/
theorem State.qInsert_room (h : (s.queue q).hasRoom) (k : Nat) (w : BitVec 32) : ∃ u chain, QueuesOnly s u ∧
    s.qInsert q k w = some (u.setQueue q ({ s.queue q with chain := chain }.putAt k w)) := by
  unfold State.qInsert
  dsimp only
  by_cases hcell : (s.queue q).data.length < 31 * (s.queue q).chain.length
  · exact ⟨s, (s.queue q).chain, .refl' s, if_pos hcell⟩
  · refine ⟨s.pickCell.2, (s.queue q).chain ++ [s.pickCell.1], .refl' s, ?_⟩
    rw [if_neg hcell, if_neg (Nat.not_le.mpr (h.resolve_left hcell))]

theorem State.qInsert_only {t : State} {k : Nat} {w : BitVec 32} (h : s.qInsert q k w = some t) : QueuesOnly s t := by
  by_cases hroom : (s.queue q).hasRoom
  · obtain ⟨u, chain, hu, hput⟩ := State.qInsert_room hroom k w
    rw [hput] at h
    exact Option.some.inj h ▸ hu.setQueue' q _
  · rw [State.qInsert_full hroom] at h
    cases h

-- ## Items

theorem State.qStart_only {t : State} {b : Nat} (h : s.qStart q b = some t) : QueuesOnly s t := by
  obtain ⟨u, hu, rfl⟩ := Option.map_eq_some_iff.mp h
  exact (State.qInsert_only hu).setQueue' q _

theorem State.qStart_full (h : ¬ (s.queue q).hasRoom) (b : Nat) : s.qStart q b = none := by
  unfold State.qStart
  dsimp only
  rw [State.qInsert_full h, Option.map_none]

/-- An item that is opened stands last, at the tail. -/
theorem State.qStart_room (h : (s.queue q).hasRoom) (b : Nat) : ∃ t, s.qStart q b = some t
    ∧ (t.queue q).items = (s.queue q).items.map (QItem.behind (s.queue q).tail) ++ [{ start := (s.queue q).tail, by_ := b }] := by
  obtain ⟨u, chain, -, hput⟩ := State.qInsert_room h (s.queue q).tail (slotWord 0 0)
  refine ⟨_, congrArg (Option.map _) hput, ?_⟩
  dsimp only
  rw [State.queue_setQueue_same, State.queue_setQueue_same]
  rfl

theorem State.qPush_only {t : State} {b : Nat} {w : BitVec 32} (h : s.qPush q b w = some t) : QueuesOnly s t := by
  unfold State.qPush at h
  split at h
  · cases h
  · obtain ⟨u, hu, rfl⟩ := Option.map_eq_some_iff.mp h
    exact (State.qInsert_only hu).setQueue' q _

theorem State.qPush_full (h : ¬ (s.queue q).hasRoom) (b : Nat) (w : BitVec 32) : s.qPush q b w = none := by
  unfold State.qPush
  split
  · rfl
  · rw [State.qInsert_full h, Option.map_none]

/-- A word pushed joins its producer's item at the item's end. -/
theorem State.qPush_room (h : (s.queue q).hasRoom) {b : Nat} {i : QItem} (hi : (s.queue q).openOf b = some i) (w : BitVec 32) :
    ∃ t, s.qPush q b w = some t
      ∧ (t.queue q).data = (s.queue q).data.take (i.start + i.words - (s.queue q).base) ++ [w]
          ++ (s.queue q).data.drop (i.start + i.words - (s.queue q).base)
      ∧ ((t.queue q).openOf b).map QItem.words = some (i.words + 1) := by
  obtain ⟨u, chain, -, hput⟩ := State.qInsert_room h (i.start + i.words) w
  unfold State.qPush
  rw [hi]
  refine ⟨_, congrArg (Option.map _) hput, ?_⟩
  dsimp only
  rw [State.queue_setQueue_same, State.queue_setQueue_same]
  refine ⟨rfl, ?_⟩
  have hopen : Option.map QItem.words (({ s.queue q with chain := chain }.putAt (i.start + i.words) w).openOf b) = some i.words := by
    rw [Queue.openOf_putAt_words]
    exact congrArg (Option.map QItem.words) hi
  rw [Queue.openOf_updOpen_words]
  obtain ⟨j, hj, hwords⟩ := Option.map_eq_some_iff.mp hopen
  rw [hj, Option.map_some, hwords]

/-- A dropped item is counted (R179, R184). -/
theorem State.qDrop_cnt (s : State) (q b k : Nat) :
    tget 0 ((s.qDrop q b k).queue q).cnt k = (tget 0 (s.queue q).cnt k + 1) % 2 ^ 32 := by
  unfold State.qDrop
  rw [State.qTrim_cnt, State.queue_setQueue_same, Queue.bump_cnt_same, Queue.dropOpen_cnt]

theorem State.qDrop_only (s : State) (q b k : Nat) : QueuesOnly s (s.qDrop q b k) := ((QueuesOnly.refl' s).setQueue' q _).qTrim' q

theorem State.qCommit_only (s : State) (q b len : Nat) : QueuesOnly s (s.qCommit q b len) := by
  unfold State.qCommit State.qCommitFor
  dsimp only
  split
  · exact (QueuesOnly.refl' s).setQueue' q _
  · exact .refl' s

/-- A committed item stands where it stood, with its length in its slot (R175). -/
theorem State.qCommit_queue {b : Nat} {i : QItem} (hi : (s.queue q).openOf b = some i) (len : Nat) :
    ((s.qCommit q b len).queue q).items = (s.queue q).items.map (fun j => if QItem.done j = false ∧ j.by_ = b then
        { j with done := true, by_ := 0, need := readerMask (s.queue q).readers } else j)
    ∧ ((s.queue q).base ≤ i.start → i.start < (s.queue q).tail → ((s.qCommit q b len).queue q).word i.start = slotWord 1 len) := by
  unfold State.qCommit State.qCommitFor
  dsimp only
  rw [hi]
  dsimp only
  rw [State.queue_setQueue_same]
  refine ⟨?_, fun hbase htail => Queue.word_setWord _ _ hbase htail⟩
  show List.map _ ((s.queue q).setWord i.start (slotWord 1 len)).items = _
  rw [Queue.setWord_items]
  exact List.map_congr_left (fun j _ => if_congr (by simp) rfl rfl)

end

end Sys2Proof.Machine
end

section
/-!
PROOF. The queue ports' push commands (R183, R184, R190, R456): what each answers, and what it makes of the queue.
-/
namespace Sys2Proof.Machine

/-- The queue that a push command of port k reaches. -/
abbrev State.qpBound (s : State) (k : Nat) : Queue := s.queue (s.qpQueue k)

/-- State t answers port k's command with a code, and has the queues and the held items of u. -/
structure QpAnswers (s : State) (k c : Nat) (u t : State) : Prop where
  code : t.get (R.QP_RESULT_Code k) = c
  seq : t.get (R.QP_RESULT_Seq k) = (s.get (R.QP_RESULT_Seq k) + 1) % 2 ^ 16
  queues : t.queues = u.queues
  portOpen : t.portOpen = u.portOpen

-- ## Answers

section
variable {s u t : State} {k c : Nat}

theorem QpAnswers.queue (h : QpAnswers s k c u t) (q : Nat) : t.queue q = u.queue q := State.queue_congr h.queues q

theorem QpAnswers.held (h : QpAnswers s k c u t) : t.qpHeld k = u.qpHeld k := congrArg (fun l => tget none l k) h.portOpen

theorem QpAnswers.of_result (h : QueuesOnly s u) (hc : c < 2 ^ 8) : QpAnswers s k c u (u.qpResult k c) := by
  have hcode : (R.QP_RESULT_Code k).wid = 8 := rfl
  have hseq : (R.QP_RESULT_Seq k).wid = 16 := rfl
  have hfits : (R.QP_RESULT_Code k).lsb + (R.QP_RESULT_Code k).wid ≤ 32 ∧ (R.QP_RESULT_Seq k).lsb + (R.QP_RESULT_Seq k).wid ≤ 32
      ∧ (R.QP_RESULT_Code k).lsb + (R.QP_RESULT_Code k).wid ≤ (R.QP_RESULT_Seq k).lsb := by
    unfold R.QP_RESULT_Code R.QP_RESULT_Seq
    dsimp only
    decide
  obtain ⟨hc32, hs32, hapart⟩ := hfits
  refine ⟨?_, ?_, ?_, ?_⟩
  · rw [State.qpResult, State.result_code u c hc32 hs32 (.inr (.inl hapart)), hcode, Nat.mod_eq_of_lt hc]
  · rw [State.qpResult, State.result_seq u c hc32 hs32 (.inr (.inr hapart)), hseq, h.get]
  · rw [State.qpResult, State.result, State.bump_queues, State.put_queues]
  · rw [State.qpResult, State.result, State.bump_portOpen, State.put_portOpen]

section
variable (h : QpAnswers s k c u t)
include h

/-- What leaves the result register, the queues and the held items alone leaves the answer. -/
theorem QpAnswers.keeps {v : State} (hrd : v.rd (R.QP_RESULT k) = t.rd (R.QP_RESULT k)) (hqueues : v.queues = t.queues)
    (hopen : v.portOpen = t.portOpen) : QpAnswers s k c u v := by
  obtain ⟨hcode, hseq, hq, ho⟩ := h
  exact ⟨(State.get_congr (f := R.QP_RESULT_Code k) hrd).trans hcode, (State.get_congr (f := R.QP_RESULT_Seq k) hrd).trans hseq,
    hqueues.trans hq, hopen.trans ho⟩

theorem QpAnswers.pfcAll' : QpAnswers s k c u t.pfcAll :=
  h.keeps (t.pfcAll_rd (by unfold R.QP_RESULT; omega)) t.pfcAll_queues t.pfcAll_portOpen

theorem QpAnswers.settle' (hk : k < 4) : QpAnswers s k c u t.settle :=
  h.keeps (t.settle_rd (by unfold R.QP_RESULT R.MSIX_PBA; omega)) t.settle_queues t.settle_portOpen

end

end

-- ## What each operation does

section
variable {s : State} {k : Nat}

/-- An operation has answered with some code, and changed nothing but the queues, the pool and the held items. -/
def QpDone (s : State) (k : Nat) (w : State) : Prop := ∃ u c, QueuesOnly s u ∧ c < 2 ^ 8 ∧ w = u.qpResult k c

theorem QpDone.of_result {u : State} {c : Nat} (hu : QueuesOnly s u) (hc : c < 2 ^ 8) : QpDone s k (u.qpResult k c) := ⟨u, c, hu, hc, rfl⟩

theorem State.qpStart_done : QpDone s k (s.qpStart k) := by
  have hs := QueuesOnly.refl' s
  unfold State.qpStart
  extract_lets q v
  split
  · exact .of_result hs (by decide)
  split
  · exact .of_result hs (by decide)
  split
  · exact .of_result hs (by decide)
  split
  · rename_i t ht
    exact .of_result ((State.qStart_only ht).setHeld' k _) (by decide)
  · exact .of_result (hs.setQueue' _ _) (by decide)

theorem State.qpData_done (w : Nat) : QpDone s k (s.qpData k w) := by
  have hs := QueuesOnly.refl' s
  unfold State.qpData
  extract_lets q v
  split
  · exact .of_result hs (by decide)
  split
  · exact .of_result hs (by decide)
  split
  · exact .of_result (hs.setHeld' k _) (by decide)
  split
  · exact .of_result ((s.qDrop_only _ _ _).setHeld' k _) (by decide)
  split
  · rename_i t ht
    exact .of_result (State.qPush_only ht) (by decide)
  · exact .of_result (hs.setQueue' _ _) (by decide)

theorem State.qpEnd_done (last : Nat) : QpDone s k (s.qpEnd k last) := by
  have hs := QueuesOnly.refl' s
  unfold State.qpEnd
  extract_lets q v
  split
  · exact .of_result hs (by decide)
  split
  · extract_lets len
    split
    · exact .of_result ((s.qDrop_only _ _ _).setHeld' k _) (by decide)
    · exact .of_result ((s.qCommit_only _ _ _).setHeld' k _) (by decide)
  · exact .of_result hs (by decide)

theorem State.qpAbort_done : QpDone s k (s.qpAbort k) := by
  have hs := QueuesOnly.refl' s
  unfold State.qpAbort
  extract_lets q
  split
  · exact .of_result hs (by decide)
  split
  · exact .of_result hs (by decide)
  · exact .of_result ((s.qDrop_only _ _ _).setHeld' k _) (by decide)

end

-- ## Queues of another class, and ports without an open item

section
variable {s : State} {k : Nat}

section
variable (h : (s.qpBound k).cls < 2)
include h

theorem State.qpStart_class : s.qpStart k = s.qpResult k 4 := if_pos h

theorem State.qpData_class (w : Nat) : s.qpData k w = s.qpResult k 4 := if_pos h

theorem State.qpEnd_class (last : Nat) : s.qpEnd k last = s.qpResult k 4 := if_pos h

theorem State.qpAbort_class : s.qpAbort k = s.qpResult k 4 := if_pos h

end

section
variable (h : 2 ≤ (s.qpBound k).cls)
include h

section
variable (hidle : s.qpHeld k = none)
include hidle

theorem State.qpData_idle (w : Nat) : s.qpData k w = s.qpResult k 3 :=
  (if_neg (Nat.not_lt.mpr h)).trans (if_pos (by rw [hidle]; rfl))

theorem State.qpEnd_idle (last : Nat) : s.qpEnd k last = s.qpResult k 3 := by
  refine (if_neg (Nat.not_lt.mpr h)).trans ?_
  rw [hidle]

theorem State.qpAbort_idle : s.qpAbort k = s.qpResult k 3 :=
  (if_neg (Nat.not_lt.mpr h)).trans (if_pos (by rw [hidle]; rfl))

end

-- ## Start

theorem State.qpStart_off (hoff : (s.qpBound k).state = 0) : s.qpStart k = s.qpResult k 5 :=
  (if_neg (Nat.not_lt.mpr h)).trans (if_pos hoff)

section
variable (hon : (s.qpBound k).state ≠ 0)
include hon

theorem State.qpStart_taken (hopen : ∃ i ∈ (s.qpBound k).items, QItem.done i = false ∧ 8 ≤ i.by_) : s.qpStart k = s.qpResult k 3 := by
  obtain ⟨i, hi, hdone, hport⟩ := hopen
  refine (if_neg (Nat.not_lt.mpr h)).trans ((if_neg hon).trans (if_pos (.inr (List.any_eq_true.mpr ⟨i, hi, ?_⟩))))
  rw [hdone, decide_eq_true hport]
  rfl

section
variable (hfree : ∀ i ∈ (s.qpBound k).items, QItem.done i = true ∨ i.by_ < 8) (hidle : s.qpHeld k = none)
include hfree hidle

/-- Where no port holds an item open in the queue, Start opens one or meets the quota. -/
theorem State.qpStart_free : s.qpStart k =
    (s.qStart (s.qpQueue k) (qpBy k)).elim ((s.setQueue (s.qpQueue k) ((s.qpBound k).bump 2)).qpResult k 1)
      (fun t => (t.setHeld k (some (s.qpQueue k))).qpResult k 0) := by
  have hnone : ¬ ((s.qpHeld k).isSome = true ∨ (s.qpBound k).items.any (fun i => !QItem.done i && decide (8 ≤ i.by_)) = true) := by
    rintro (hheld | hany)
    · rw [hidle] at hheld
      cases hheld
    · obtain ⟨i, hi, hopen⟩ := List.any_eq_true.mp hany
      obtain ⟨hdone, hport⟩ := Bool.and_eq_true_iff.mp hopen
      obtain h | h := hfree i hi
      · rw [h] at hdone
        cases hdone
      · exact absurd (of_decide_eq_true hport) (Nat.not_le.mpr h)
  refine (if_neg (Nat.not_lt.mpr h)).trans ((if_neg hon).trans ((if_neg hnone).trans ?_))
  cases s.qStart (s.qpQueue k) (qpBy k) <;> rfl

theorem State.qpStart_full (hfull : ¬ (s.qpBound k).hasRoom) :
    s.qpStart k = (s.setQueue (s.qpQueue k) ((s.qpBound k).bump 2)).qpResult k 1 := by
  rw [State.qpStart_free h hon hfree hidle, State.qStart_full hfull, Option.elim_none]

theorem State.qpStart_opens (hroom : (s.qpBound k).hasRoom) : ∃ t, QueuesOnly s t
    ∧ s.qpStart k = (t.setHeld k (some (s.qpQueue k))).qpResult k 0
    ∧ (t.queue (s.qpQueue k)).items = (s.qpBound k).items.map (QItem.behind (s.qpBound k).tail)
        ++ [{ start := (s.qpBound k).tail, by_ := 8 + k }] := by
  obtain ⟨t, ht, hitems⟩ := State.qStart_room hroom (qpBy k)
  refine ⟨t, State.qStart_only ht, ?_, hitems⟩
  rw [State.qpStart_free h hon hfree hidle, ht, Option.elim_some]

end

end

-- ## An open item

section
variable (hheld : s.qpHeld k = some (s.qpQueue k))
include hheld

theorem State.qpAbort_drops : s.qpAbort k = ((s.qDrop (s.qpQueue k) (qpBy k) 4).setHeld k none).qpResult k 0 :=
  (if_neg (Nat.not_lt.mpr h)).trans (if_neg (by rw [hheld]; exact Bool.false_ne_true))

variable {i : QItem} (hi : (s.qpBound k).openOf (8 + k) = some i)
include hi

/-- A word for an open item is one too many, or joins the item, or meets the quota. -/
theorem State.qpData_open (w : Nat) : s.qpData k w =
    if i.words + 1 > ceilDiv (s.qpBound k).maxItem 4 then ((s.qDrop (s.qpQueue k) (qpBy k) 3).setHeld k none).qpResult k 2
    else (s.qPush (s.qpQueue k) (qpBy k) (BitVec.ofNat 32 w)).elim ((s.setQueue (s.qpQueue k) ((s.qpBound k).bump 2)).qpResult k 1)
      (fun t => t.qpResult k 0) := by
  have hi : (s.qpBound k).openOf (qpBy k) = some i := hi
  refine (if_neg (Nat.not_lt.mpr h)).trans ((if_neg (by rw [hheld]; exact Bool.false_ne_true)).trans ?_)
  rw [hi]
  refine ite_congr rfl (fun _ => rfl) (fun _ => ?_)
  cases s.qPush (s.qpQueue k) (qpBy k) (BitVec.ofNat 32 w) <;> rfl

theorem State.qpData_oversize (hlong : ceilDiv (s.qpBound k).maxItem 4 ≤ i.words) (w : Nat) :
    s.qpData k w = ((s.qDrop (s.qpQueue k) (qpBy k) 3).setHeld k none).qpResult k 2 := by
  rw [State.qpData_open h hheld hi, if_pos (Nat.lt_succ_of_le hlong)]

section
variable (hfits : i.words + 1 ≤ ceilDiv (s.qpBound k).maxItem 4)
include hfits

theorem State.qpData_full (hfull : ¬ (s.qpBound k).hasRoom) (w : Nat) :
    s.qpData k w = (s.setQueue (s.qpQueue k) ((s.qpBound k).bump 2)).qpResult k 1 := by
  rw [State.qpData_open h hheld hi, if_neg (Nat.not_lt.mpr hfits), State.qPush_full hfull, Option.elim_none]

theorem State.qpData_joins (hroom : (s.qpBound k).hasRoom) (w : Nat) : ∃ t, QueuesOnly s t ∧ s.qpData k w = t.qpResult k 0
    ∧ (t.queue (s.qpQueue k)).data = (s.qpBound k).data.take (i.start + i.words - (s.qpBound k).base) ++ [BitVec.ofNat 32 w]
        ++ (s.qpBound k).data.drop (i.start + i.words - (s.qpBound k).base)
    ∧ ((t.queue (s.qpQueue k)).openOf (8 + k)).map QItem.words = some (i.words + 1) := by
  obtain ⟨t, ht, hdata, hwords⟩ := State.qPush_room (b := qpBy k) hroom hi (BitVec.ofNat 32 w)
  refine ⟨t, State.qPush_only ht, ?_, hdata, hwords⟩
  rw [State.qpData_open h hheld hi, if_neg (Nat.not_lt.mpr hfits), ht, Option.elim_some]

end

/-- End commits the item with its length, or drops it where that passes MaxItem. -/
theorem State.qpEnd_open (last : Nat) : s.qpEnd k last =
    if (if last = 0 then 4 * i.words else 4 * i.words - (4 - last)) > (s.qpBound k).maxItem then
      ((s.qDrop (s.qpQueue k) (qpBy k) 3).setHeld k none).qpResult k 2
    else ((s.qCommit (s.qpQueue k) (qpBy k) (if last = 0 then 4 * i.words else 4 * i.words - (4 - last))).setHeld k none).qpResult k 0 := by
  refine (if_neg (Nat.not_lt.mpr h)).trans ?_
  unfold qpBy
  rw [hheld, hi]

end

end

end

end Sys2Proof.Machine
end

section
/-!
PROOF. The queue ports' push commands as they end (R190, R456).
-/
namespace Sys2Proof.Machine

theorem QpAnswers.of_op {s u w : State} {k c : Nat} (hk : k < 4) (hw : w = u.qpResult k c) (hu : QueuesOnly s u) (hc : c < 2 ^ 8) :
    QpAnswers s k c u w.pfcAll.settle := by
  rw [hw]
  exact (QpAnswers.of_result hu hc).pfcAll'.settle' hk

theorem QpAnswers.of_end {s u w : State} {k c : Nat} (hk : k < 4) (hw : w = u.qpResult k c) (hu : QueuesOnly s u) (hc : c < 2 ^ 8) :
    QpAnswers s k c u w.settle := by
  rw [hw]
  exact (QpAnswers.of_result hu hc).settle' hk

/-- An item that is dropped is held open no longer, and is counted. -/
theorem QpAnswers.dropped {s t : State} {k c q b n : Nat} (h : QpAnswers s k c ((s.qDrop q b n).setHeld k none) t) :
    t.get (R.QP_RESULT_Code k) = c ∧ t.qpHeld k = none ∧ tget 0 (t.queue q).cnt n = (tget 0 (s.queue q).cnt n + 1) % 2 ^ 32 :=
  ⟨h.code, h.held.trans (State.qpHeld_setHeld_same _ _ _), by rw [h.queue, State.queue_setHeld, State.qDrop_cnt]⟩

theorem QpDone.answers {s w : State} {k : Nat} (h : QpDone s k w) : ∃ u c, QpAnswers s k c u w := by
  obtain ⟨u, c, hu, hc, rfl⟩ := h
  exact ⟨u, c, .of_result hu hc⟩

/-- What a command answers whatever its operands: the result count goes on; a queue of another class gives 4, and a port without an open item 3 to
all but Start. -/
def QpAnswersAll (c : Instr) (s : State) (k : Nat) (t : State) : Prop :=
  t.get (R.QP_RESULT_Seq k) = (s.get (R.QP_RESULT_Seq k) + 1) % 2 ^ 16
    ∧ ((s.qpBound k).cls < 2 → t.get (R.QP_RESULT_Code k) = 4 ∧ t.queues = s.queues)
    ∧ (2 ≤ (s.qpBound k).cls → s.qpHeld k = none → c ≠ .qpPushStart k → t.get (R.QP_RESULT_Code k) = 3 ∧ t.queues = s.queues)

/-- A command's end, or what the PFC watch leaves of it, gives what the operation has answered. -/
theorem qpCommand_gives {c : Instr} {s w r : State} {k : Nat} (hk : k < 4) (hexec : exec c s = w.done) (hw : w = r ∨ w = r.pfcAll) (hdone : QpDone s k r)
    (hclass : (s.qpBound k).cls < 2 → r = s.qpResult k 4)
    (hidle : 2 ≤ (s.qpBound k).cls → s.qpHeld k = none → c ≠ .qpPushStart k → r = s.qpResult k 3) : Gives c s (QpAnswersAll c s k) := by
  have hend : ∀ {u e}, QpAnswers s k e u r → QpAnswers s k e u w.settle := fun h => by
    obtain rfl | rfl := hw
    · exact h.settle' hk
    · exact h.pfcAll'.settle' hk
  obtain ⟨u, e, hany⟩ := hdone.answers
  refine Gives.of_done hexec ⟨(hend hany).seq, fun hcls => ?_, fun hcls hnone hne => ?_⟩
  · have h := hend (hclass hcls ▸ QpAnswers.of_result (.refl' s) (by decide))
    exact ⟨h.code, h.queues⟩
  · have h := hend (hidle hcls hnone hne ▸ QpAnswers.of_result (.refl' s) (by decide))
    exact ⟨h.code, h.queues⟩

section
variable {s : State} (hs : Ready s) {k : Nat} (hk : k < 4)
include hs hk

theorem exec_qpSelWrite {v : Nat} (hv : v < 2 ^ 32) : exec (.qpSelWrite k v) s = (s.qpSel k v).done :=
  s.accept_live _ _ (Bool.and_eq_true_iff.mpr ⟨decide_eq_true hk, decide_eq_true hv⟩) hs

theorem exec_qpPushStart : exec (.qpPushStart k) s = (s.qpStart k).pfcAll.done := s.accept_live _ _ (decide_eq_true hk) hs

theorem exec_qpPushData {v : Nat} (hv : v < 2 ^ 32) : exec (.qpPushData k v) s = (s.qpData k v).pfcAll.done :=
  s.accept_live _ _ (Bool.and_eq_true_iff.mpr ⟨decide_eq_true hk, decide_eq_true hv⟩) hs

theorem exec_qpPushEnd {last : Nat} (hlast : last < 4) : exec (.qpPushEnd k last) s = (s.qpEnd k last).done :=
  s.accept_live _ _ (Bool.and_eq_true_iff.mpr ⟨decide_eq_true hk, decide_eq_true hlast⟩) hs

theorem exec_qpPushAbort : exec (.qpPushAbort k) s = (s.qpAbort k).pfcAll.done := s.accept_live _ _ (decide_eq_true hk) hs

-- ## The binding

theorem qpSelWrite_held {v : Nat} (hv : v < 2 ^ 32) (h : (s.qpHeld k).isSome = true) :
    Ends (.qpSelWrite k v) s (s.report (turnedDown 0x11 (R.QP_SEL k) 0 0)) :=
  Ends.of_done ((exec_qpSelWrite hs hk hv).trans (congrArg State.done (if_pos h)))

theorem qpSelWrite_free {v : Nat} (hv : v < 2 ^ 32) (h : s.qpHeld k = none) : Ends (.qpSelWrite k v) s (s.put (R.QP_SEL_Queue k) v) :=
  Ends.of_done ((exec_qpSelWrite hs hk hv).trans (congrArg State.done (if_neg (by rw [h]; decide))))

-- ## What every push command answers

theorem qpPush_gives {v last : Nat} (hv : v < 2 ^ 32) (hlast : last < 4) {c : Instr}
    (hc : c = .qpPushStart k ∨ c = .qpPushData k v ∨ c = .qpPushEnd k last ∨ c = .qpPushAbort k) : Gives c s (QpAnswersAll c s k) := by
  obtain rfl | rfl | rfl | rfl := hc
  · exact qpCommand_gives hk (exec_qpPushStart hs hk) (.inr rfl) State.qpStart_done State.qpStart_class (fun _ _ hne => absurd rfl hne)
  · exact qpCommand_gives hk (exec_qpPushData hs hk hv) (.inr rfl) (State.qpData_done v) (fun h => State.qpData_class h v)
      (fun h hnone _ => State.qpData_idle h hnone v)
  · exact qpCommand_gives hk (exec_qpPushEnd hs hk hlast) (.inl rfl) (State.qpEnd_done last) (fun h => State.qpEnd_class h last)
      (fun h hnone _ => State.qpEnd_idle h hnone last)
  · exact qpCommand_gives hk (exec_qpPushAbort hs hk) (.inr rfl) State.qpAbort_done State.qpAbort_class
      (fun h hnone _ => State.qpAbort_idle h hnone)

variable (hcls : 2 ≤ (s.qpBound k).cls)
include hcls

-- ## Start

theorem qpPushStart_gives : Gives (.qpPushStart k) s (fun t =>
    ((s.qpBound k).state = 0 → t.get (R.QP_RESULT_Code k) = 5)
    ∧ ((s.qpBound k).state ≠ 0 → (∃ i ∈ (s.qpBound k).items, QItem.done i = false ∧ 8 ≤ i.by_) → t.get (R.QP_RESULT_Code k) = 3)
    ∧ ((s.qpBound k).state ≠ 0 → (∀ i ∈ (s.qpBound k).items, QItem.done i = true ∨ i.by_ < 8) → s.qpHeld k = none → ¬ (s.qpBound k).hasRoom →
        t.get (R.QP_RESULT_Code k) = 1 ∧ t.queue (s.qpQueue k) = (s.qpBound k).bump 2)
    ∧ ((s.qpBound k).state ≠ 0 → (∀ i ∈ (s.qpBound k).items, QItem.done i = true ∨ i.by_ < 8) → s.qpHeld k = none → (s.qpBound k).hasRoom →
        t.get (R.QP_RESULT_Code k) = 0 ∧ t.qpHeld k = some (s.qpQueue k) ∧ (t.queue (s.qpQueue k)).items.length = (s.qpBound k).items.length + 1
        ∧ (t.queue (s.qpQueue k)).items.getLast? = some { start := (s.qpBound k).tail, by_ := 8 + k })) := by
  have hself := QueuesOnly.refl' s
  refine Gives.of_done (exec_qpPushStart hs hk) ⟨fun hoff => ?_, fun hon htaken => ?_, fun hon hfree hidle hfull => ?_,
    fun hon hfree hidle hroom => ?_⟩
  · exact (QpAnswers.of_op hk (State.qpStart_off hcls hoff) hself (by decide)).code
  · exact (QpAnswers.of_op hk (State.qpStart_taken hcls hon htaken) hself (by decide)).code
  · have h := QpAnswers.of_op hk (State.qpStart_full hcls hon hfree hidle hfull) (hself.setQueue' _ _) (by decide)
    exact ⟨h.code, (h.queue _).trans (State.queue_setQueue_same _ _ _)⟩
  · obtain ⟨u, hu, hstart, hitems⟩ := State.qpStart_opens hcls hon hfree hidle hroom
    have h := QpAnswers.of_op hk hstart (hu.setHeld' k _) (by decide)
    rw [h.queue, State.queue_setHeld, hitems, List.length_append, List.length_map, List.getLast?_concat]
    exact ⟨h.code, h.held.trans (State.qpHeld_setHeld_same _ _ _), rfl, rfl⟩

-- ## An open item

section
variable (hheld : s.qpHeld k = some (s.qpQueue k))
include hheld

theorem qpPushAbort_gives : Gives (.qpPushAbort k) s (fun t => t.get (R.QP_RESULT_Code k) = 0 ∧ t.qpHeld k = none
    ∧ tget 0 (t.queue (s.qpQueue k)).cnt 4 = (tget 0 (s.qpBound k).cnt 4 + 1) % 2 ^ 32) :=
  Gives.of_done (exec_qpPushAbort hs hk)
    (QpAnswers.of_op hk (State.qpAbort_drops hcls hheld) ((s.qDrop_only _ _ _).setHeld' k _) (by decide)).dropped

variable {i : QItem} (hi : (s.qpBound k).openOf (8 + k) = some i)
include hi

section
variable {v : Nat} (hv : v < 2 ^ 32)
include hv

theorem qpPushData_oversize (hlong : ceilDiv (s.qpBound k).maxItem 4 ≤ i.words) : Gives (.qpPushData k v) s (fun t =>
    t.get (R.QP_RESULT_Code k) = 2 ∧ t.qpHeld k = none
    ∧ tget 0 (t.queue (s.qpQueue k)).cnt 3 = (tget 0 (s.qpBound k).cnt 3 + 1) % 2 ^ 32) :=
  Gives.of_done (exec_qpPushData hs hk hv)
    (QpAnswers.of_op hk (State.qpData_oversize hcls hheld hi hlong v) ((s.qDrop_only _ _ _).setHeld' k _) (by decide)).dropped

variable (hfits : i.words + 1 ≤ ceilDiv (s.qpBound k).maxItem 4)
include hfits

theorem qpPushData_full (hfull : ¬ (s.qpBound k).hasRoom) : Gives (.qpPushData k v) s (fun t =>
    t.get (R.QP_RESULT_Code k) = 1 ∧ t.queue (s.qpQueue k) = (s.qpBound k).bump 2) := by
  have h := QpAnswers.of_op hk (State.qpData_full hcls hheld hi hfits hfull v) ((QueuesOnly.refl' s).setQueue' _ _) (by decide)
  exact Gives.of_done (exec_qpPushData hs hk hv) ⟨h.code, (h.queue _).trans (State.queue_setQueue_same _ _ _)⟩

theorem qpPushData_joins (hroom : (s.qpBound k).hasRoom) : Gives (.qpPushData k v) s (fun t => t.get (R.QP_RESULT_Code k) = 0
    ∧ (t.queue (s.qpQueue k)).data = (s.qpBound k).data.take (i.start + i.words - (s.qpBound k).base) ++ [BitVec.ofNat 32 v]
        ++ (s.qpBound k).data.drop (i.start + i.words - (s.qpBound k).base)
    ∧ ((t.queue (s.qpQueue k)).openOf (8 + k)).map QItem.words = some (i.words + 1)) := by
  obtain ⟨u, hu, hdata, hjoined⟩ := State.qpData_joins hcls hheld hi hfits hroom v
  have h := QpAnswers.of_op hk hdata hu (by decide)
  refine Gives.of_done (exec_qpPushData hs hk hv) ⟨h.code, ?_⟩
  rw [h.queue]
  exact hjoined

end

section
variable {last : Nat} (hlast : last < 4)
include hlast

/-- An item that ends within MaxItem is committed and held open no longer. -/
theorem qpPushEnd_commits (hfits : (if last = 0 then 4 * i.words else 4 * i.words - (4 - last)) ≤ (s.qpBound k).maxItem) :
    Gives (.qpPushEnd k last) s (fun t => t.get (R.QP_RESULT_Code k) = 0 ∧ t.qpHeld k = none
      ∧ (t.queue (s.qpQueue k)).items = (s.qpBound k).items.map (fun j => if QItem.done j = false ∧ j.by_ = 8 + k then
          { j with done := true, by_ := 0, need := readerMask (s.qpBound k).readers } else j)
      ∧ ((s.qpBound k).base ≤ i.start → i.start < (s.qpBound k).tail → (t.queue (s.qpQueue k)).word i.start
          = slotWord 1 (if last = 0 then 4 * i.words else 4 * i.words - (4 - last)))) := by
  have h := QpAnswers.of_end hk ((State.qpEnd_open hcls hheld hi last).trans (if_neg (Nat.not_lt.mpr hfits)))
    ((s.qCommit_only _ _ _).setHeld' k _) (by decide)
  refine Gives.of_done (exec_qpPushEnd hs hk hlast) ⟨h.code, h.held.trans (State.qpHeld_setHeld_same _ _ _), ?_⟩
  rw [h.queue, State.queue_setHeld]
  exact State.qCommit_queue hi _

theorem qpPushEnd_oversize (hlong : (s.qpBound k).maxItem < (if last = 0 then 4 * i.words else 4 * i.words - (4 - last))) :
    Gives (.qpPushEnd k last) s (fun t => t.get (R.QP_RESULT_Code k) = 2 ∧ t.qpHeld k = none
      ∧ tget 0 (t.queue (s.qpQueue k)).cnt 3 = (tget 0 (s.qpBound k).cnt 3 + 1) % 2 ^ 32) :=
  Gives.of_done (exec_qpPushEnd hs hk hlast) (QpAnswers.of_end hk ((State.qpEnd_open hcls hheld hi last).trans (if_pos hlong))
    ((s.qDrop_only _ _ _).setHeld' k _) (by decide)).dropped

end

end

end

end Sys2Proof.Machine
end

section
/-!
PROOF. Pops at a queue port (R181, R188, R189, R191), and the statement on queue ports.
-/
namespace Sys2Proof.Machine

/-- The queue to which port k is bound. -/
abbrev State.qpSource (s : State) (k : Nat) : Nat := s.get (R.QP_SEL_Queue k)

/-- The queue from which port k pops. -/
abbrev State.qpRead (s : State) (k : Nat) : Queue := s.queue (s.qpSource k)

/-- The number of the word that reader 0 comes to in an item. -/
abbrev Queue.headWord (v : Queue) (i : QItem) : Nat := i.start + tget 0 v.pos 0

/-- A word popped at port k, and the state u of the pop with the tag latched. -/
def popped (k w tag : Nat) (u : State) : Nat × State := (w, (u.put (R.QP_POP_HI_Tag k) tag).pfcAll)

-- ## A word taken

/-- The tag of the word that reader 0 comes to in an item: whether it is the item's first, and whether its last. -/
def Queue.headTag (v : Queue) (i : QItem) : Nat :=
  (if tget 0 v.pos 0 = 0 then 0x40 else 0) + (if i.words ≤ tget 0 v.pos 0 + 1 then 0x20 else 0)

theorem Queue.headTag_le (v : Queue) (i : QItem) : v.headTag i ≤ 0x60 := by
  unfold Queue.headTag
  split_ifs <;> decide

/-- An item that is passed counts nowhere but among the items passed. -/
theorem Queue.pass_cnt (v : Queue) (r start : Nat) {k : Nat} (hk : k ≠ 1) : tget 0 (v.pass r start).cnt k = tget 0 v.cnt k := by
  unfold Queue.pass
  extract_lets items gone
  split
  · exact Queue.bump_cnt_ne _ hk
  · rfl

/-- A reader with a committed item takes its next word, and nothing but the queue and the pool changes. -/
theorem State.qPop_takes {s : State} {q : Nat} {i : QItem} (hi : (s.queue q).current 0 = some i) : ∃ t,
    s.qPop q 0 = some ((s.queue q).word ((s.queue q).headWord i), (s.queue q).headTag i, (s.queue q).headWord i, t)
    ∧ QueuesOnly s t ∧ tget 0 (t.queue q).cnt 7 = tget 0 (s.queue q).cnt 7 := by
  unfold State.qPop
  dsimp only
  rw [hi]
  refine ⟨_, congrArg some (Prod.ext rfl (Prod.ext ?_ (Prod.ext rfl rfl))), ((QueuesOnly.refl' s).setQueue' q _).qTrim' q, ?_⟩
  · unfold Queue.headTag
    simp only [ge_iff_le, decide_eq_true_eq]
  · rw [State.qTrim_cnt, State.queue_setQueue_same]
    split
    · exact Queue.pass_cnt _ _ _ (by decide)
    · rfl

theorem Queue.atHead_slot {v : Queue} {i : QItem} (hi : v.current 0 = some i) : (v.atHead 0).2 = decide (tget 0 v.pos 0 = 0) := by
  unfold Queue.atHead
  rw [hi]

-- ## What a pop answers

/-- State t has returned a word with its tag, and has the queues of u and, beside the tag's, its words outside the MAC blocks. -/
structure PopShows (s u : State) (k w tag : Nat) (t : State) : Prop where
  sent : Sends [.readData (R.QP_POP_LO k) w] s t
  shown : t.get (R.QP_POP_HI_Tag k) = tag
  queues : t.queues = u.queues
  rd : ∀ a, 0x14000 ≤ a → a ≠ R.QP_POP_HI k → a ≠ R.MSIX_PBA 0 → t.rd a = u.rd a

theorem PopShows.get {s u t : State} {k w tag : Nat} (h : PopShows s u k w tag t) {f : Fld} (hmac : 0x14000 ≤ f.reg)
    (htag : f.reg ≠ R.QP_POP_HI k) (hpba : f.reg ≠ R.MSIX_PBA 0) : t.get f = u.get f := State.get_congr (h.rd _ hmac htag hpba)

theorem get_put_tag (u : State) {k tag : Nat} (htag : tag < 2 ^ 8) : (u.put (R.QP_POP_HI_Tag k) tag).get (R.QP_POP_HI_Tag k) = tag :=
  State.get_put_fit u (Nat.le_of_ble_eq_true rfl) rfl htag

section
variable {s : State} (hs : Ready s) {k : Nat} (hk : k < 4) {ecc : Ecc}
include hk

theorem popHi_apart : 0x14000 ≤ R.QP_POP_HI k ∧ R.QP_POP_HI k ≠ R.MSIX_PBA 0 := by
  unfold R.QP_POP_HI R.MSIX_PBA
  omega

theorem PopShows.of_put {u : State} {w tag : Nat} (hout : u.outbox = s.outbox) (htag : tag < 2 ^ 8) :
    PopShows s u k w tag ((u.put (R.QP_POP_HI_Tag k) tag).pfcAll.send (.readData (R.QP_POP_LO k) w)).settle := by
  obtain ⟨hmac, hpba⟩ := popHi_apart hk
  refine ⟨Sends.settle' ?_, ?_, ?_, fun a ha htag hpba => ?_⟩
  · rw [State.send_outbox, State.pfcAll_outbox, State.put_outbox, hout]
  · rw [State.settle_get _ (f := R.QP_POP_HI_Tag k) hpba, State.get_send, State.pfcAll_get _ (f := R.QP_POP_HI_Tag k) hmac, get_put_tag u htag]
  · rw [State.settle_queues, State.send_queues, State.pfcAll_queues, State.put_queues]
  · rw [State.settle_rd _ hpba, State.rd_send, State.pfcAll_rd _ ha]
    exact State.rd_put_ne (f := R.QP_POP_HI_Tag k) u htag tag

include hs

theorem exec_qpPop : exec (.qpPop k ecc) s = ((s.qpPop k ecc).2.send (.readData (R.QP_POP_LO k) (s.qpPop k ecc).1)).done :=
  s.accept_live _ _ (decide_eq_true hk) hs

theorem qpPop_shows {u : State} {w tag : Nat} (hpop : s.qpPop k ecc = popped k w tag u) (hout : u.outbox = s.outbox)
    (htag : tag < 2 ^ 8) : Gives (.qpPop k ecc) s (PopShows s u k w tag) :=
  Gives.of_done (by rw [exec_qpPop hs hk, hpop, popped]) (.of_put hk hout htag)

end

/-- The word that a pop of an item returns, and its tag. -/
abbrev State.PopReads (s : State) (k : Nat) (i : QItem) (more : Nat) (t : State) : Prop :=
  Sends [.readData (R.QP_POP_LO k) ((s.qpRead k).word ((s.qpRead k).headWord i)).toNat] s t
    ∧ t.get (R.QP_POP_HI_Tag k) = (s.qpRead k).headTag i + more

-- ## The commands

section
variable {s : State} {k : Nat} {ecc : Ecc}

theorem State.refusedAt_eq (s : State) (off detail aux : Nat) :
    s.refusedAt off detail aux = s.report (turnedDown 0x10 off detail aux) := rfl

theorem State.qpPop_class (h : (s.qpRead k).cls < 2) :
    s.qpPop k ecc = (0, (s.refusedAt (R.QP_POP_LO k) 4).put (R.QP_POP_HI_Tag k) 0x80) := if_pos h

section
variable (h : 2 ≤ (s.qpRead k).cls)
include h

theorem State.qpPop_empty (hempty : (s.qpRead k).current 0 = none) :
    s.qpPop k ecc = (0, s.put (R.QP_POP_HI_Tag k) 0x80) := by
  refine (if_neg (Nat.not_lt.mpr h)).trans ?_
  unfold State.qPop
  dsimp only
  rw [hempty]

theorem State.qpPop_reset {i : QItem} (hi : (s.qpRead k).current 0 = some i)
    (hecc : ecc = .link ∨ (ecc = .bad ∧ tget 0 (s.qpRead k).pos 0 = 0)) : ∃ at_,
    s.qpPop k ecc = (0, (s.qReset (s.qpSource k) [at_]).pfcAll.put (R.QP_POP_HI_Tag k) 0x80) := by
  obtain ⟨t, ht, -, -⟩ := State.qPop_takes hi
  unfold State.qpPop
  dsimp only
  rw [if_neg (Nat.not_lt.mpr h), ht]
  obtain rfl | ⟨rfl, hslot⟩ := hecc
  · exact ⟨_, rfl⟩
  · exact ⟨_, if_pos ((Queue.atHead_slot hi).trans (decide_eq_true hslot))⟩

/-- A pop of a committed item, by what reading its word has met: the word with its tag, and what is counted. -/
theorem State.qpPop_word {i : QItem} (hi : (s.qpRead k).current 0 = some i) : ∃ t, QueuesOnly s t
    ∧ tget 0 (t.queue (s.qpSource k)).cnt 7 = tget 0 (s.qpRead k).cnt 7
    ∧ s.qpPop k .clean = popped k ((s.qpRead k).word ((s.qpRead k).headWord i)).toNat ((s.qpRead k).headTag i) t
    ∧ s.qpPop k .corrected = popped k ((s.qpRead k).word ((s.qpRead k).headWord i)).toNat ((s.qpRead k).headTag i)
        (t.eccCorr ((s.qpRead k).cellAt ((s.qpRead k).headWord i)).1)
    ∧ (tget 0 (s.qpRead k).pos 0 ≠ 0 → s.qpPop k .bad =
        popped k ((s.qpRead k).word ((s.qpRead k).headWord i)).toNat ((s.qpRead k).headTag i + 0x10) (t.qPoison (s.qpSource k))) := by
  obtain ⟨t, ht, honly, hcnt⟩ := State.qPop_takes hi
  refine ⟨t, honly, hcnt, ?_⟩
  unfold State.qpPop popped
  dsimp only
  rw [ht]
  refine ⟨if_neg (Nat.not_lt.mpr h), if_neg (Nat.not_lt.mpr h), fun hdata => (if_neg (Nat.not_lt.mpr h)).trans (if_neg ?_)⟩
  rw [Queue.atHead_slot hi, decide_eq_true_eq]
  exact hdata

end

section
variable (hs : Ready s) (hk : k < 4)
include hs hk

theorem qpPop_class (h : (s.qpRead k).cls < 2) : Ends (.qpPop k ecc) s
    (((s.report (turnedDown 0x10 (R.QP_POP_LO k) 4 0)).put (R.QP_POP_HI_Tag k) 0x80).send (.readData (R.QP_POP_LO k) 0)) :=
  Ends.of_done (by rw [exec_qpPop hs hk, State.qpPop_class h, State.refusedAt_eq])

variable (h : 2 ≤ (s.qpRead k).cls)
include h

theorem qpPop_empty (hempty : (s.qpRead k).current 0 = none) : Ends (.qpPop k ecc) s
    ((s.put (R.QP_POP_HI_Tag k) 0x80).send (.readData (R.QP_POP_LO k) 0)) :=
  Ends.of_done (by rw [exec_qpPop hs hk, State.qpPop_empty h hempty])

variable {i : QItem} (hi : (s.qpRead k).current 0 = some i)
include hi

theorem qpPop_clean : Gives (.qpPop k .clean) s (s.PopReads k i 0) := by
  obtain ⟨u, hu, -, hpop, -⟩ := State.qpPop_word h hi
  have htag := (s.qpRead k).headTag_le i
  exact (qpPop_shows hs hk hpop hu.outbox (by omega)).mono fun t ht => ⟨ht.sent, ht.shown⟩

/-- A corrected word counts for the bank of its cell (R167, R188). -/
theorem qpPop_corrected : Gives (.qpPop k .corrected) s (fun t => s.PopReads k i 0 t
    ∧ t.get (R.ECC_CORR_Count (((s.qpRead k).cellAt ((s.qpRead k).headWord i)).1 % 16))
      = (s.get (R.ECC_CORR_Count (((s.qpRead k).cellAt ((s.qpRead k).headWord i)).1 % 16)) + 1) % 2 ^ 32) := by
  obtain ⟨u, hu, -, -, hpop, -⟩ := State.qpPop_word h hi
  have htag := (s.qpRead k).headTag_le i
  have hout : ∀ cell, (u.eccCorr cell).outbox = s.outbox := fun cell => by
    rw [State.eccCorr, State.bump_outbox]
    exact hu.outbox
  refine (qpPop_shows hs hk hpop (hout _) (by omega)).mono fun t ht => ⟨⟨ht.sent, ht.shown⟩, ?_⟩
  generalize ((s.qpRead k).cellAt ((s.qpRead k).headWord i)).1 = cell at ht ⊢
  have hbank : 0x14000 ≤ R.ECC_CORR (cell % 16) ∧ R.ECC_CORR (cell % 16) ≠ R.QP_POP_HI k ∧ R.ECC_CORR (cell % 16) ≠ R.MSIX_PBA 0 := by
    unfold R.ECC_CORR R.QP_POP_HI R.MSIX_PBA
    omega
  obtain ⟨hmac, hhi, hpba⟩ := hbank
  have hwid : (R.ECC_CORR_Count (cell % 16)).wid = 32 := rfl
  rw [ht.get (f := R.ECC_CORR_Count (cell % 16)) hmac hhi hpba, ← hu.get (R.ECC_CORR_Count (cell % 16)), State.eccCorr,
    State.get_bump_same u _ (Nat.le_of_ble_eq_true rfl), hwid]

/-- An uncorrectable data word is tagged and counted (R189). -/
theorem qpPop_bad (hdata : tget 0 (s.qpRead k).pos 0 ≠ 0) : Gives (.qpPop k .bad) s (fun t => s.PopReads k i 0x10 t
    ∧ tget 0 (t.queue (s.qpSource k)).cnt 7 = (tget 0 (s.qpRead k).cnt 7 + 1) % 2 ^ 32
    ∧ t.get R.ECC_UNCORR_DATA_Count = (s.get R.ECC_UNCORR_DATA_Count + 1) % 2 ^ 32) := by
  obtain ⟨u, hu, hcnt, -, -, hpop⟩ := State.qpPop_word h hi
  have htag := (s.qpRead k).headTag_le i
  have hout : (u.qPoison (s.qpSource k)).outbox = s.outbox := by
    rw [State.qPoison, State.bump_outbox]
    exact hu.outbox
  refine (qpPop_shows hs hk (hpop hdata) hout (by omega)).mono fun t ht => ⟨⟨ht.sent, ht.shown⟩, ?_, ?_⟩
  · rw [State.queue_congr ht.queues, State.qPoison, State.queue_bump, State.queue_setQueue_same, Queue.bump_cnt_same, hcnt]
  · have hhi : R.ECC_UNCORR_DATA ≠ R.QP_POP_HI k := by
      unfold R.ECC_UNCORR_DATA R.QP_POP_HI
      omega
    rw [ht.get (f := R.ECC_UNCORR_DATA_Count) (by decide) hhi (by decide), ← hu.get R.ECC_UNCORR_DATA_Count, State.qPoison,
      State.get_bump_same _ _ (by decide)]
    rfl

/-- An uncorrectable structural word resets the queue and gives no word (R188). -/
theorem qpPop_reset (hecc : ecc = .link ∨ (ecc = .bad ∧ tget 0 (s.qpRead k).pos 0 = 0)) : Gives (.qpPop k ecc) s (fun t =>
    (∃ pre, Sends (pre ++ [.readData (R.QP_POP_LO k) 0]) s t) ∧ t.get (R.QP_POP_HI_Tag k) = 0x80
    ∧ t.queue (s.qpSource k) = (s.qpRead k).flushed.bump 6) := by
  obtain ⟨at_, hpop⟩ := State.qpPop_reset h hi hecc
  obtain ⟨pre, hpre⟩ := s.qReset_outbox (s.qpSource k) (words := [at_]) (List.cons_ne_nil _ _)
  refine Gives.of_done ((exec_qpPop hs hk).trans (congrArg (fun r : Nat × State => (r.2.send (.readData (R.QP_POP_LO k) r.1)).done) hpop))
    ⟨⟨pre, Sends.settle' ?_⟩, ?_, ?_⟩
  · rw [State.send_outbox, State.put_outbox, State.pfcAll_outbox, ← hpre, List.append_assoc]
  · rw [State.settle_get _ (f := R.QP_POP_HI_Tag k) (popHi_apart hk).2, State.get_send, get_put_tag _ (by decide)]
  · rw [State.queue_settle, State.queue_congr (State.send_queues _ _), State.queue_congr (State.put_queues _ _ _), State.queue_pfcAll,
      State.qReset_queue _ _ (List.cons_ne_nil _ _)]

end

end

/-- Settles O29: pushes by what each command finds of its queue and of its open item, pops by what the read of the word has met. -/
theorem queuePorts : Obligations.QueuePorts := by
  refine ⟨fun s k v hs hk hv => ?_, fun s k hs hk => ⟨fun ecc h hempty => qpPop_empty hs hk h hempty, fun ecc h => qpPop_class hs hk h,
    fun i h hi => ?_⟩⟩
  · have hlast : v % 4 < 4 := Nat.mod_lt v (by decide)
    refine ⟨qpSelWrite_held hs hk hv, qpSelWrite_free hs hk hv, fun c hc => qpPush_gives hs hk hv hlast hc, fun h => qpPushStart_gives hs hk h,
      fun i h hheld hi => ?_⟩
    exact ⟨qpPushData_full hs hk h hheld hi hv, qpPushData_oversize hs hk h hheld hi hv, qpPushData_joins hs hk h hheld hi hv,
      qpPushEnd_commits hs hk h hheld hi hlast, qpPushEnd_oversize hs hk h hheld hi hlast, qpPushAbort_gives hs hk h hheld⟩
  · refine ⟨qpPop_clean hs hk h hi, qpPop_corrected hs hk h hi, qpPop_bad hs hk h hi, fun e he => (qpPop_reset hs hk h hi he).mono ?_⟩
    intro t ⟨hsent, htag, hqueue⟩
    rw [hqueue]
    exact ⟨hsent, htag, rfl, rfl, Queue.bump_cnt_same _ _⟩

end Sys2Proof.Machine
end

section
/-!
PROOF. The pool window, coefficient memory and promotion (R170, R192, R244, R377): the answers of the two targets, and the statement.
-/
namespace Sys2Proof.Machine

-- ## A transaction that reaches its target

/-- A transaction passes the checks on its way: its master can issue it, it is aligned and stays within a page, and it is Spindle A's (R375, R376). -/
def State.Fits (s : State) (a : BusAcc) : Prop :=
  s.canIssue a = true ∧ a.addr % a.width = 0 ∧ a.addr % 4096 + a.width * a.beats ≤ 4096 ∧ a.master = 0

theorem State.Fits.master {s : State} {a : BusAcc} (h : s.Fits a) : a.master = 0 := by
  obtain ⟨-, -, -, hmaster⟩ := h
  exact hmaster

/-- The state in which Spindle A has been answered with an error response. -/
def State.deny (s : State) (a : BusAcc) : State := (s.bump R.CNT_BUSERR_Count).send (.busReply 0 a.id true 0)

section
variable {s : State} {a : BusAcc} {ecc : Ecc}

theorem State.respond_error (h : a.master = 0) (u : State) : State.respond a (true, 0, u) = u.deny a := by
  unfold State.respond State.aborted State.reply State.deny
  rw [h]
  rfl

theorem State.respond_data (h : a.master = 0) (v : Nat) (u : State) : State.respond a (false, v, u) = u.send (.busReply 0 a.id false v) := by
  unfold State.respond State.reply
  rw [h]
  rfl

theorem State.accErr_outbox (s : State) (a : BusAcc) (code detail block : Nat) : (s.accErr a code detail block).outbox = s.outbox := by
  rw [State.accErr, State.report_outbox]

/-- The record of an error response to Spindle A (R388). -/
theorem State.accErr_deny_errWait (h : a.master = 0) (code detail block : Nat) : ((s.accErr a code detail block).deny a).settle.errWait =
    s.errWait ++ [{ code := code, block := block, write := a.write, addr := a.addr, detail := detail, master := some (0, a.id) }] := by
  rw [State.settle_errWait, State.deny, State.send_errWait, State.bump_errWait, State.accErr, State.report_errWait, h]

theorem State.deny_sends {u : State} (h : u.outbox = s.outbox) : Sends [.busReply 0 a.id true 0] s (u.deny a).settle :=
  Sends.settle' (by rw [State.deny, State.send_outbox, State.bump_outbox, h])

theorem State.deny_get (u : State) {f : Fld} (hbus : f.reg ≠ R.CNT_BUSERR) (hpba : f.reg ≠ R.MSIX_PBA 0) : (u.deny a).settle.get f = u.get f := by
  rw [State.settle_get _ hpba, State.deny, State.get_send]
  exact State.get_put_reg _ hbus _

section
variable (hfit : s.Fits a)
include hfit

/-- A transaction that fits is judged by its target alone. -/
theorem State.transact_fits {t : Nat} (ht : targetOf a.addr = some t) : s.transact a ecc = State.respond a
    (if t = 2 then s.poolAccess a ecc else if t = 3 ∨ t = 4 then s.regAccess a t a.addr ecc
      else if t = 5 then s.coefAccess a a.addr ecc else s.memAccess a t a.addr ecc) := by
  obtain ⟨hissue, halign, hpage, hmaster⟩ := hfit
  have hland : s.landing a.master a.addr = a.addr := if_neg (by rw [hmaster]; omega)
  have hpath : (!s.pathOk a.master t a.addr) ≠ true := by rw [hmaster]; exact Bool.false_ne_true
  unfold State.transact State.access
  dsimp only
  rw [if_pos hissue, hland, ht]
  dsimp only
  rw [if_neg hpath, if_neg (not_not.mpr halign), if_neg (Nat.not_lt.mpr hpage)]

end

end

-- ## The POOL target

section
variable {s : State} {a : BusAcc} {ecc : Ecc}

theorem State.poolAccess_notReady (h : s.bobReady = false) : s.poolAccess a ecc = (true, 0, s.accErr a 0x05 0) := if_pos (by rw [h]; rfl)

section
variable (hready : s.bobReady = true)
include hready

section
variable (hwrite : a.write = true)
include hwrite

theorem State.poolAccess_write : s.poolAccess a ecc =
    if a.width < 4 then (true, 0, s.accErr a 0x05 0)
    else (s.poolPuts (a.addr % 2 ^ 25) a.data (a.width * a.beats / 4)).elim (true, 0, s.accErr a 0x05 0) (fun t => (false, 0, t)) := by
  unfold State.poolAccess
  dsimp only
  rw [if_neg (by rw [hready]; decide), if_pos hwrite]
  refine ite_congr rfl (fun _ => rfl) (fun _ => ?_)
  cases s.poolPuts (a.addr % 2 ^ 25) a.data (a.width * a.beats / 4) <;> rfl

theorem State.poolAccess_narrow (h : a.width < 4) : s.poolAccess a ecc = (true, 0, s.accErr a 0x05 0) :=
  (State.poolAccess_write hready hwrite).trans (if_pos h)

theorem State.poolAccess_puts (h : 4 ≤ a.width) {u : State} (hu : s.poolPuts (a.addr % 2 ^ 25) a.data (a.width * a.beats / 4) = some u) :
    s.poolAccess a ecc = (false, 0, u) := by
  rw [State.poolAccess_write hready hwrite, if_neg (Nat.not_lt.mpr h), hu, Option.elim_some]

theorem State.poolAccess_denied (h : 4 ≤ a.width) (hnone : s.poolPuts (a.addr % 2 ^ 25) a.data (a.width * a.beats / 4) = none) :
    s.poolAccess a ecc = (true, 0, s.accErr a 0x05 0) := by
  rw [State.poolAccess_write hready hwrite, if_neg (Nat.not_lt.mpr h), hnone, Option.elim_none]

end

section
variable (hread : a.write = false)
include hread

theorem State.poolAccess_bad (hecc : ecc = .bad ∨ ecc = .link) : s.poolAccess a ecc = (true, 0, s.accErr a 0x0B 2) := by
  unfold State.poolAccess
  dsimp only
  rw [if_neg (by rw [hready]; decide), if_neg (by rw [hread]; decide)]
  obtain rfl | rfl := hecc <;> rfl

/-- A read of whole words gives them, out of the state in which a corrected one has been counted. -/
theorem State.poolAccess_read (h : 4 ≤ a.width) {u : State} (hecc : ecc = .clean ∧ u = s ∨ ecc = .corrected ∧ u = s.eccCorr (a.addr % 2 ^ 25 / 128)) :
    s.poolAccess a ecc = (false, u.poolWords (a.addr % 2 ^ 25 / 4 * 4) (max 1 (a.width * a.beats / 4))) := by
  unfold State.poolAccess
  dsimp only
  rw [if_neg (by rw [hready]; decide), if_neg (by rw [hread]; decide)]
  obtain ⟨rfl, rfl⟩ | ⟨rfl, rfl⟩ := hecc
  · dsimp only
    rw [if_neg (Nat.not_lt.mpr h), if_neg (by decide)]
  · dsimp only
    rw [if_neg (Nat.not_lt.mpr h), if_pos rfl]

end

end

/-- A word read of the pool may use a free value and changes nothing else. -/
theorem State.poolWord_only (s : State) (cell w : Nat) : ∃ c, (s.poolWord cell w).2 = { s with freeCtr := c } := by
  unfold State.poolWord
  split
  · dsimp only
    split
    · exact ⟨_, rfl⟩
    · split <;> exact ⟨_, rfl⟩
  · exact ⟨_, rfl⟩

theorem State.poolWords_succ (s : State) (a n : Nat) : s.poolWords a (n + 1) =
    ((s.poolWord (a / 128) (a % 128 / 4)).1.toNat + ((s.poolWord (a / 128) (a % 128 / 4)).2.poolWords (a + 4) n).1 * 2 ^ 32,
      ((s.poolWord (a / 128) (a % 128 / 4)).2.poolWords (a + 4) n).2) := rfl

theorem State.poolWords_only (n : Nat) : ∀ (s : State) (a : Nat), ∃ c, (s.poolWords a n).2 = { s with freeCtr := c } := by
  induction n with
  | zero => exact fun s _ => ⟨s.freeCtr, rfl⟩
  | succ n ih =>
    intro s a
    obtain ⟨c, hc⟩ := s.poolWord_only (a / 128) (a % 128 / 4)
    obtain ⟨d, hd⟩ := ih { s with freeCtr := c } (a + 4)
    exact ⟨d, by rw [State.poolWords_succ, hc, hd]⟩

end

section
variable {s : State} {a : BusAcc} {ecc : Ecc} (hs : Ready s) (hwf : a.wf = true)
include hs hwf

theorem exec_poolTargetAccess : exec (.poolTargetAccess a ecc) s = (if targetOf a.addr = some 2 then s.transact a ecc else s).done :=
  s.accept_live _ _ hwf hs

variable (hfit : s.Fits a) (ht : targetOf a.addr = some 2)
include hfit ht

theorem exec_poolTargetAccess_fits : exec (.poolTargetAccess a ecc) s = (State.respond a (s.poolAccess a ecc)).done := by
  rw [exec_poolTargetAccess hs hwf, if_pos ht, State.transact_fits hfit ht, if_pos rfl]

theorem poolTargetAccess_denied {code detail : Nat} {write : Bool} (hwrite : a.write = write) (h : s.poolAccess a ecc = (true, 0, s.accErr a code detail)) :
    Gives (.poolTargetAccess a ecc) s (fun t => Sends [.busReply 0 a.id true 0] s t ∧ t.pool = s.pool ∧ t.queues = s.queues
      ∧ t.errWait = s.errWait ++ [{ code := code, block := 4, write := write, addr := a.addr, detail := detail, master := some (0, a.id) }]) := by
  have hmaster := hfit.master
  refine Gives.of_done (by rw [exec_poolTargetAccess_fits hs hwf hfit ht, h, State.respond_error hmaster])
    ⟨State.deny_sends (s.accErr_outbox a _ _ _), ?_, ?_, ?_⟩
  · rw [State.settle_pool, State.deny, State.send_pool, State.bump_pool, State.accErr, State.report_pool]
  · rw [State.settle_queues, State.deny, State.send_queues, State.bump_queues, State.accErr, State.report_queues]
  · rw [State.accErr_deny_errWait hmaster, hwrite]
    rfl

theorem poolTargetAccess_answers {v : Nat} {u : State} (h : s.poolAccess a ecc = (false, v, u)) :
    Ends (.poolTargetAccess a ecc) s (u.send (.busReply 0 a.id false v)) :=
  Ends.of_done (by rw [exec_poolTargetAccess_fits hs hwf hfit ht, h, State.respond_data hfit.master])

/-- A corrected word counts for the bank of its cell. -/
theorem poolTargetAccess_corrected (hready : s.bobReady = true) (hread : a.write = false) (hwide : 4 ≤ a.width) :
    Gives (.poolTargetAccess a .corrected) s (fun t =>
      t.get (R.ECC_CORR_Count (a.addr % 2 ^ 25 / 128 % 16)) = (s.get (R.ECC_CORR_Count (a.addr % 2 ^ 25 / 128 % 16)) + 1) % 2 ^ 32
      ∧ t.pool = s.pool ∧ t.queues = s.queues) := by
  have hend := poolTargetAccess_answers hs hwf hfit ht (State.poolAccess_read hready hread hwide (.inr ⟨rfl, rfl⟩))
  generalize a.addr % 2 ^ 25 / 128 = cell at hend ⊢
  obtain ⟨c, hc⟩ := State.poolWords_only (max 1 (a.width * a.beats / 4)) (s.eccCorr cell) (a.addr % 2 ^ 25 / 4 * 4)
  have hpba : R.ECC_CORR (cell % 16) ≠ R.MSIX_PBA 0 := by
    unfold R.ECC_CORR R.MSIX_PBA
    omega
  have hwid : (R.ECC_CORR_Count (cell % 16)).wid = 32 := rfl
  rw [hc] at hend
  refine ⟨_, hend, ?_, ?_, ?_⟩
  · rw [State.settle_get _ (f := R.ECC_CORR_Count (cell % 16)) hpba, State.get_send]
    show (s.eccCorr cell).get _ = _
    rw [State.eccCorr, State.get_bump_same s _ (Nat.le_of_ble_eq_true rfl), hwid]
  · rw [State.settle_pool, State.send_pool, State.eccCorr, State.bump_pool]
  · rw [State.settle_queues, State.send_queues, State.eccCorr, State.bump_queues]

end

-- ## Coefficient memory

/-- A coefficient word keeps its value against a write: it is locked and not poisoned (R244). -/
def State.coefKept (s : State) (w : Nat) : Prop := s.coefLocked w = true ∧ s.filt.bad.contains w = false

section
variable {s : State} {a : BusAcc}

/-- A write of one word is one store, and an error where it is refused. -/
theorem State.coefAccess_word (hwrite : a.write = true) (hwidth : a.width = 4) (hbeats : a.beats = 1) (x : Nat) (ecc : Ecc) : s.coefAccess a x ecc =
    if (s.coefStore ((x - 0x5000000) / 4) (BitVec.ofNat 32 a.data)).1
    then (false, 0, (s.coefStore ((x - 0x5000000) / 4) (BitVec.ofNat 32 a.data)).2)
    else (true, 0, (s.coefStore ((x - 0x5000000) / 4) (BitVec.ofNat 32 a.data)).2.accErr a 0x10 9 17) := by
  have hbytes : max 1 (a.width * a.beats / 4) = 1 := by rw [hwidth, hbeats]; decide
  unfold State.coefAccess
  dsimp only
  rw [if_pos hwrite, hbytes, if_neg (show ¬ a.width < 4 by omega), State.coefWrites]
  dsimp only [State.coefWrites]
  cases (s.coefStore ((x - 0x5000000) / 4) (BitVec.ofNat 32 a.data)).1 <;> rfl

theorem State.coefStore_kept {w : Nat} (h : s.coefKept w) (v : BitVec 32) : s.coefStore w v = (false, s.bump R.CNT_COEF_LOCKED_Count) := by
  obtain ⟨hlocked, hsound⟩ := h
  exact if_pos ⟨hlocked, by rw [hsound]; decide⟩

theorem State.coefStore_stores {w : Nat} (h : ¬ s.coefKept w) (v : BitVec 32) : s.coefStore w v = (true, s.coefPut w v) :=
  if_neg fun ⟨hlocked, hsound⟩ => h ⟨hlocked, Bool.eq_false_of_not_eq_true hsound⟩

theorem State.coefAt_coefPut (s : State) (w k : Nat) (v : BitVec 32) : (s.coefPut w v).coefAt k = if k = w then v else s.coefAt k :=
  tget_tput _ _ _ _ _

end

section
variable {s : State} {a : BusAcc} (hs : Ready s) (hwf : a.wf = true)
include hs hwf

theorem exec_coefWrite : exec (.coefWrite a) s = (if targetOf a.addr = some 5 ∧ a.write then s.transact a .clean else s).done :=
  s.accept_live _ _ hwf hs

variable (hfit : s.Fits a) (ht : targetOf a.addr = some 5) (hwrite : a.write = true) (hwidth : a.width = 4) (hbeats : a.beats = 1)
include hfit ht hwrite hwidth hbeats

theorem exec_coefWrite_fits : exec (.coefWrite a) s = (State.respond a
    (if (s.coefStore ((a.addr - 0x5000000) / 4) (BitVec.ofNat 32 a.data)).1
    then (false, 0, (s.coefStore ((a.addr - 0x5000000) / 4) (BitVec.ofNat 32 a.data)).2)
    else (true, 0, (s.coefStore ((a.addr - 0x5000000) / 4) (BitVec.ofNat 32 a.data)).2.accErr a 0x10 9 17))).done := by
  rw [exec_coefWrite hs hwf, if_pos ⟨ht, hwrite⟩, State.transact_fits hfit ht, if_neg (by decide), if_neg (by decide), if_pos rfl,
    State.coefAccess_word hwrite hwidth hbeats]

theorem coefWrite_stores (h : ¬ s.coefKept ((a.addr - 0x5000000) / 4)) : Gives (.coefWrite a) s (fun t =>
    t.coefAt ((a.addr - 0x5000000) / 4) = BitVec.ofNat 32 a.data ∧ (∀ k, k ≠ (a.addr - 0x5000000) / 4 → t.coefAt k = s.coefAt k)
    ∧ Sends [.busReply 0 a.id false 0] s t ∧ t.errWait = s.errWait) := by
  have hexec := exec_coefWrite_fits hs hwf hfit ht hwrite hwidth hbeats
  rw [State.coefStore_stores h, if_pos rfl, State.respond_data hfit.master] at hexec
  generalize (a.addr - 0x5000000) / 4 = w at hexec ⊢
  have hcoef : ∀ k, ((s.coefPut w (BitVec.ofNat 32 a.data)).send (.busReply 0 a.id false 0)).settle.coefAt k
      = if k = w then BitVec.ofNat 32 a.data else s.coefAt k := fun k => by
    rw [State.coefAt, State.settle_filt, State.send_filt]
    exact s.coefAt_coefPut w k _
  refine Gives.of_done hexec ⟨(hcoef w).trans (if_pos rfl), fun k hk => (hcoef k).trans (if_neg hk), Sends.settle' rfl, ?_⟩
  rw [State.settle_errWait, State.send_errWait]
  rfl

theorem coefWrite_kept (h : s.coefKept ((a.addr - 0x5000000) / 4)) : Gives (.coefWrite a) s (fun t =>
    t.filt = s.filt ∧ Sends [.busReply 0 a.id true 0] s t
    ∧ t.get R.CNT_COEF_LOCKED_Count = (s.get R.CNT_COEF_LOCKED_Count + 1) % 2 ^ 32
    ∧ t.errWait = s.errWait ++ [{ code := 0x10, block := 17, write := true, addr := a.addr, detail := 9, master := some (0, a.id) }]) := by
  have hmaster := hfit.master
  have hexec := exec_coefWrite_fits hs hwf hfit ht hwrite hwidth hbeats
  rw [State.coefStore_kept h, if_neg Bool.false_ne_true, State.respond_error hmaster] at hexec
  refine Gives.of_done hexec ⟨?_, State.deny_sends ((State.accErr_outbox _ _ _ _ _).trans (State.bump_outbox _ _)), ?_, ?_⟩
  · rw [State.settle_filt, State.deny, State.send_filt, State.bump_filt, State.accErr, State.report_filt, State.bump_filt]
  · rw [State.deny_get _ (by decide) (by decide), State.accErr, State.get_report, State.get_bump_same _ _ (by decide)]
    rfl
  · rw [State.accErr_deny_errWait hmaster, State.bump_errWait, hwrite]

end

theorem exec_busPromote {s : State} (hs : Ready s) : exec .busPromote s = (s.bump R.CNT_PROMOTE_Count).done := by
  show execBusPromote s = _
  unfold execBusPromote
  rw [State.live_live _ _ hs]

/-- Settles O52: each target by what it makes of an access that reaches it; a promotion by its count. -/
theorem poolAndCoefficientTargets : Obligations.PoolAndCoefficientTargets := by
  refine fun s a ecc hs hwf => ⟨fun h => ?_, fun h => ?_, fun hfit ht h => ?_, fun hfit ht hready hwrite hwide u hu => ?_,
    fun hfit ht hready hwrite hwide hnone => ?_, fun hfit ht hready hread hwide => ⟨?_, ?_, ?_⟩,
    fun hfit ht hwrite hwidth hbeats => ⟨coefWrite_stores hs hwf hfit ht hwrite hwidth hbeats, coefWrite_kept hs hwf hfit ht hwrite hwidth hbeats⟩,
    Ends.of_done (exec_busPromote hs)⟩
  · exact Ends.of_done ((exec_poolTargetAccess hs hwf).trans (congrArg State.done (if_neg h)))
  · refine Ends.of_done ((exec_coefWrite hs hwf).trans (congrArg State.done (if_neg ?_)))
    rintro ⟨ht, hwrite⟩
    exact h.elim (fun hne => hne ht) (fun hread => Bool.false_ne_true (hread.symm.trans hwrite))
  · refine poolTargetAccess_denied hs hwf hfit ht rfl ?_
    by_cases hready : s.bobReady = true
    · obtain ⟨hwrite, hnarrow⟩ := h.resolve_left (by rw [hready]; decide)
      exact State.poolAccess_narrow hready hwrite hnarrow
    · exact State.poolAccess_notReady (Bool.eq_false_of_not_eq_true hready)
  · exact poolTargetAccess_answers hs hwf hfit ht (State.poolAccess_puts hready hwrite hwide hu)
  · exact poolTargetAccess_denied hs hwf hfit ht hwrite (State.poolAccess_denied hready hwrite hwide hnone)
  · rintro rfl
    exact poolTargetAccess_answers hs hwf hfit ht (State.poolAccess_read hready hread hwide (.inl ⟨rfl, rfl⟩))
  · rintro rfl
    exact poolTargetAccess_corrected hs hwf hfit ht hready hread hwide
  · exact fun hecc => poolTargetAccess_denied hs hwf hfit ht hread (State.poolAccess_bad hready hread hecc)

end Sys2Proof.Machine
end

section
/-!
PROOF. Heddle's transactions (R210, R211): what their registers show, what a command's result leaves alone, and what each command does to the
list of transactions.
-/
namespace Sys2Proof.Machine

theorem RegsOnly.heddle {s t : State} (h : RegsOnly s t) : t.heddle = s.heddle := by
  have e := congrArg State.heddle h; exact e

-- ## The list of transactions and its registers

/-- The transactions are ts, and their registers show it (R210). -/
def State.setTrans (s : State) (ts : List Trans) : State := (s.updH (fun h => { h with trans := ts })).xtStatus

/-- The transactions, with f of those that have an ID. -/
abbrev State.transWith (s : State) (id : Nat) (f : Trans → Trans) : List Trans := s.heddle.trans.map (fun y => if y.id = id then f y else y)

theorem State.updTrans_eq (s : State) (id : Nat) (f : Trans → Trans) : s.updTrans id f = s.setTrans (s.transWith id f) := rfl

theorem State.xtStatus_regsOnly (s : State) : RegsOnly s s.xtStatus := by
  unfold State.xtStatus
  refine RegsOnly.put' (State.forN_inv (RegsOnly s) 8 _ (fun k _ t ht => ?_) (RegsOnly.refl' s)) _ _
  split
  · exact ((ht.put' _ _).put' _ _).put' _ _
  · exact ht

section
variable (s : State) (ts : List Trans)

@[simp] theorem State.setTrans_heddle : (s.setTrans ts).heddle = { s.heddle with trans := ts } :=
  (State.xtStatus_regsOnly _).heddle

theorem State.setTrans_trans : (s.setTrans ts).heddle.trans = ts := congrArg Heddle.trans (s.setTrans_heddle ts)

theorem State.updTrans_trans (id : Nat) (f : Trans → Trans) : (s.updTrans id f).heddle.trans = s.transWith id f := s.setTrans_trans _

@[simp] theorem State.setTrans_outbox : (s.setTrans ts).outbox = s.outbox := State.xtStatus_outbox _

end

-- ## What each command does

section
variable {s : State} {id : Nat}

/-- A slot of the transactions that none of them has. -/
def State.freeSlot (s : State) : Option Nat := (List.range 8).find? (fun k => !s.heddle.trans.any (fun x => decide (x.slot = k)))

theorem State.freeSlot_full (h : ∀ k, k < 8 → ∃ x ∈ s.heddle.trans, x.slot = k) : s.freeSlot = none := by
  refine List.find?_eq_none.mpr fun k hk => ?_
  obtain ⟨x, hx, hslot⟩ := h k (List.mem_range.mp hk)
  have hany : s.heddle.trans.any (fun x => decide (x.slot = k)) = true := List.any_eq_true.mpr ⟨x, hx, decide_eq_true hslot⟩
  rw [hany]
  decide

theorem State.xtOpen_full (h : s.freeSlot = none) : s.xtOpen id = (7, s) := by
  unfold State.xtOpen
  unfold State.freeSlot at h
  rw [h]

theorem State.xtOpen_free {k : Nat} (h : s.freeSlot = some k) :
    s.xtOpen id = if id = 0 ∨ (s.trans id).isSome then (9, s) else (0, s.setTrans (s.heddle.trans ++ [{ slot := k, id := id }])) := by
  unfold State.xtOpen
  unfold State.freeSlot at h
  rw [h]
  rfl

/-- Everything Open can do: an answer with a code, or a new transaction whose ID no other has. -/
theorem State.xtOpen_cases (s : State) (id : Nat) : (∃ c, c ≠ 0 ∧ s.xtOpen id = (c, s))
    ∨ (s.trans id = none ∧ ∃ k, s.xtOpen id = (0, s.setTrans (s.heddle.trans ++ [{ slot := k, id := id }]))) := by
  cases hslot : s.freeSlot with
  | none => exact .inl ⟨7, by decide, State.xtOpen_full hslot⟩
  | some k =>
    rw [State.xtOpen_free hslot]
    split_ifs with htaken
    · exact .inl ⟨9, by decide, rfl⟩
    · exact .inr ⟨Option.not_isSome_iff_eq_none.mp (fun h => htaken (.inr h)), k, rfl⟩

section
variable (h : s.trans id = none)
include h

theorem State.xePush_none (e : Edit) : s.xePush id e = (9, s) := by unfold State.xePush; rw [h]

theorem State.xtSeal_none : s.xtSeal id = (9, s) := by unfold State.xtSeal; rw [h]

theorem State.xtAbandon_none : s.xtAbandon id = (9, s) := by unfold State.xtAbandon; rw [h]

theorem State.xtCommitNow_none : s.xtCommitNow id = (9, s) := by unfold State.xtCommitNow; rw [h]

end

/-- There is no room for another edit: in transaction x, or in all of them (R210). -/
abbrev State.editsFull (s : State) (x : Trans) : Prop :=
  1024 ≤ x.edits.length ∨ 4096 ≤ s.heddle.trans.foldl (fun n y => n + y.edits.length) 0

section
variable {x : Trans} (h : s.trans id = some x)
include h

theorem State.xePush_some (e : Edit) : s.xePush id e = if x.state ≠ 1 then (10, s)
    else if s.editsFull x then (8, s)
    else (0, s.updTrans id (fun y => { y with edits := y.edits ++ [e] })) := by
  unfold State.xePush; rw [h]

theorem State.xtSeal_some : s.xtSeal id = if x.state ≠ 1 then (10, s)
    else if (s.sealCheck x).1 ≠ 0 then ((s.sealCheck x).1, s.bump R.CNT_XT_REFUSED_Count)
    else (0, s.updTrans id (fun y => { y with state := 2, growth := (s.sealCheck x).2 })) := by
  unfold State.xtSeal; rw [h]

theorem State.xtAbandon_some : s.xtAbandon id = if x.state = 3 then (10, s)
    else (0, s.setTrans (s.heddle.trans.filter (fun y => decide (y.id ≠ id)))) := by
  unfold State.xtAbandon; rw [h]; rfl

theorem State.xtCommitNow_some : s.xtCommitNow id = if x.state ≠ 2 then (10, s)
    else (0, s.updTrans id (fun y => { y with state := 3, direct := true })) := by
  unfold State.xtCommitNow; rw [h]

end

end

/-- The codes of R211 fit the result register. -/
theorem State.sealCheck_lt (s : State) (x : Trans) : (s.sealCheck x).1 < 2 ^ 8 := by
  unfold State.sealCheck
  extract_lets
  split_ifs <;> norm_num

-- ## Results

section
variable (r : Nat × State) (off : Nat)

theorem State.xtResult_code (h : r.1 < 2 ^ 8) : (State.xtResult r off).get R.XT_RESULT_Code = r.1 :=
  ((State.get_congr (f := R.XT_RESULT_Code) (r.2.resultErr_rd r.1 _ _ _)).trans
    (r.2.result_code r.1 (by decide) (by decide) (by decide))).trans (Nat.mod_eq_of_lt h)

theorem State.xtResult_seq : (State.xtResult r off).get R.XT_RESULT_Seq = (r.2.get R.XT_RESULT_Seq + 1) % 2 ^ 16 :=
  (State.get_congr (f := R.XT_RESULT_Seq) (r.2.resultErr_rd r.1 _ _ _)).trans (r.2.result_seq r.1 (by decide) (by decide) (by decide))

theorem State.xtResult_rd {a : Nat} (h : a ≠ R.XT_RESULT) : (State.xtResult r off).rd a = r.2.rd a :=
  r.2.resultErr_rd_ne (code := R.XT_RESULT_Code) (seq := R.XT_RESULT_Seq) rfl off r.1 0 h

@[simp] theorem State.xtResult_heddle : (State.xtResult r off).heddle = r.2.heddle :=
  r.2.resultErr_keeps r.1 (p := State.heddle) State.put_heddle State.report_heddle _ _

end

/-- State t answers a transaction command with code c in XT_RESULT, and has the matrix and the count of refused seals of u. -/
structure XtAnswers (c : Nat) (u t : State) : Prop where
  code : t.get R.XT_RESULT_Code = c
  seq : t.get R.XT_RESULT_Seq = (u.get R.XT_RESULT_Seq + 1) % 2 ^ 16
  heddle : t.heddle = u.heddle
  refused : t.get R.CNT_XT_REFUSED_Count = u.get R.CNT_XT_REFUSED_Count

theorem XtAnswers.trans {c : Nat} {u t : State} (h : XtAnswers c u t) : t.heddle.trans = u.heddle.trans := congrArg Heddle.trans h.heddle

theorem xtAnswers_of_done {i : Instr} {s u : State} {r : Nat × State} {off c : Nat} (h : exec i s = (State.xtResult r off).done) (hr : r = (c, u))
    (hc : c < 2 ^ 8) : Gives i s (XtAnswers c u) := by
  subst hr
  refine Gives.of_done h ⟨?_, ?_, ?_, ?_⟩
  · rw [State.settle_get _ (by decide), State.xtResult_code _ off hc]
  · rw [State.settle_get _ (by decide), State.xtResult_seq]
  · rw [State.settle_heddle, State.xtResult_heddle]
  · rw [State.settle_get _ (by decide)]
    exact State.get_congr (State.xtResult_rd _ off (by decide))

theorem State.refused_bump (s : State) :
    (s.bump R.CNT_XT_REFUSED_Count).get R.CNT_XT_REFUSED_Count = (s.get R.CNT_XT_REFUSED_Count + 1) % 2 ^ 32 :=
  State.get_bump_same s R.CNT_XT_REFUSED_Count (by decide)

-- ## The commands

section
variable {s : State} {id : Nat} (hs : Ready s) (hid : id < 65536)
include hs hid

theorem exec_xtOpen : exec (.xtOpen id) s = (State.xtResult (s.xtOpen id) R.XT_CMD).done := s.accept_live _ _ (decide_eq_true hid) hs

theorem exec_xePush : exec (.xePush id) s = (State.xtResult (s.xePush id s.xeRecord) R.XE_PUSH).done :=
  s.accept_live _ _ (decide_eq_true hid) hs

theorem exec_xtSeal : exec (.xtSeal id) s = (State.xtResult (s.xtSeal id) R.XT_CMD).done := s.accept_live _ _ (decide_eq_true hid) hs

theorem exec_xtAbandon : exec (.xtAbandon id) s = (State.xtResult (s.xtAbandon id) R.XT_CMD).done :=
  s.accept_live _ _ (decide_eq_true hid) hs

theorem exec_xtCommitNow : exec (.xtCommitNow id) s = (State.xtResult (s.xtCommitNow id) R.XT_CMD).done :=
  s.accept_live _ _ (decide_eq_true hid) hs

theorem xtOpen_full (h : s.freeSlot = none) : Gives (.xtOpen id) s (XtAnswers 7 s) :=
  xtAnswers_of_done (exec_xtOpen hs hid) (State.xtOpen_full h) (by decide)

theorem xtOpen_free {k : Nat} (h : s.freeSlot = some k) : Gives (.xtOpen id) s (fun t =>
    t.get R.XT_RESULT_Code = (if id = 0 ∨ (s.trans id).isSome then 9 else 0)
    ∧ t.heddle.trans = (if id = 0 ∨ (s.trans id).isSome then s.heddle.trans else s.heddle.trans ++ [{ slot := k, id := id }])) := by
  have hopen := State.xtOpen_free (id := id) h
  split_ifs at hopen ⊢
  · exact (xtAnswers_of_done (exec_xtOpen hs hid) hopen (by decide)).mono fun t ht => ⟨ht.code, ht.trans⟩
  · exact (xtAnswers_of_done (exec_xtOpen hs hid) hopen (by decide)).mono fun t ht => ⟨ht.code, ht.trans.trans (s.setTrans_trans _)⟩

/-- A command on a transaction that does not exist answers 9 (R210). -/
theorem xtCommand_none (h : s.trans id = none) {c : Instr} (hc : c = .xePush id ∨ c = .xtSeal id ∨ c = .xtAbandon id ∨ c = .xtCommitNow id) :
    Gives c s (XtAnswers 9 s) := by
  obtain rfl | rfl | rfl | rfl := hc
  · exact xtAnswers_of_done (exec_xePush hs hid) (State.xePush_none h _) (by decide)
  · exact xtAnswers_of_done (exec_xtSeal hs hid) (State.xtSeal_none h) (by decide)
  · exact xtAnswers_of_done (exec_xtAbandon hs hid) (State.xtAbandon_none h) (by decide)
  · exact xtAnswers_of_done (exec_xtCommitNow hs hid) (State.xtCommitNow_none h) (by decide)

variable {x : Trans} (h : s.trans id = some x)
include h

theorem xePush_gives : Gives (.xePush id) s (fun t =>
    t.get R.XT_RESULT_Code = (if x.state ≠ 1 then 10 else if s.editsFull x then 8 else 0)
    ∧ t.heddle.trans = (if x.state ≠ 1 ∨ s.editsFull x then s.heddle.trans
        else s.transWith id (fun y => { y with edits := y.edits ++ [s.xeRecord] }))) := by
  have hpush := State.xePush_some h s.xeRecord
  by_cases hstate : x.state ≠ 1
  · rw [if_pos hstate] at hpush ⊢
    rw [if_pos (.inl hstate)]
    exact (xtAnswers_of_done (exec_xePush hs hid) hpush (by decide)).mono fun t ht => ⟨ht.code, ht.trans⟩
  rw [if_neg hstate] at hpush ⊢
  by_cases hfull : s.editsFull x
  · rw [if_pos hfull] at hpush ⊢
    rw [if_pos (.inr hfull)]
    exact (xtAnswers_of_done (exec_xePush hs hid) hpush (by decide)).mono fun t ht => ⟨ht.code, ht.trans⟩
  · rw [if_neg hfull] at hpush ⊢
    rw [if_neg (not_or.mpr ⟨hstate, hfull⟩)]
    exact (xtAnswers_of_done (exec_xePush hs hid) hpush (by decide)).mono fun t ht => ⟨ht.code, ht.trans.trans (s.updTrans_trans _ _)⟩

theorem xtSeal_gives : Gives (.xtSeal id) s (fun t =>
    t.get R.XT_RESULT_Code = (if x.state ≠ 1 then 10 else (s.sealCheck x).1)
    ∧ t.heddle.trans = (if x.state ≠ 1 ∨ (s.sealCheck x).1 ≠ 0 then s.heddle.trans
        else s.transWith id (fun y => { y with state := 2, growth := (s.sealCheck x).2 }))
    ∧ (x.state = 1 → (s.sealCheck x).1 ≠ 0 → t.get R.CNT_XT_REFUSED_Count = (s.get R.CNT_XT_REFUSED_Count + 1) % 2 ^ 32)) := by
  have hseal := State.xtSeal_some h
  by_cases hstate : x.state ≠ 1
  · rw [if_pos hstate] at hseal ⊢
    rw [if_pos (.inl hstate)]
    exact (xtAnswers_of_done (exec_xtSeal hs hid) hseal (by decide)).mono fun t ht => ⟨ht.code, ht.trans, fun hone => absurd hone hstate⟩
  rw [if_neg hstate] at hseal ⊢
  by_cases hbad : (s.sealCheck x).1 ≠ 0
  · rw [if_pos hbad] at hseal
    rw [if_pos (.inr hbad)]
    exact (xtAnswers_of_done (exec_xtSeal hs hid) hseal (s.sealCheck_lt x)).mono fun t ht =>
      ⟨ht.code, ht.trans.trans (congrArg Heddle.trans (State.bump_heddle _ _)), fun _ _ => ht.refused.trans s.refused_bump⟩
  · rw [if_neg hbad] at hseal
    rw [if_neg (not_or.mpr ⟨hstate, hbad⟩), not_not.mp hbad]
    exact (xtAnswers_of_done (exec_xtSeal hs hid) hseal (by decide)).mono fun t ht =>
      ⟨ht.code, ht.trans.trans (s.updTrans_trans _ _), fun _ hne => absurd rfl hne⟩

theorem xtAbandon_gives : Gives (.xtAbandon id) s (fun t => t.get R.XT_RESULT_Code = (if x.state = 3 then 10 else 0)
    ∧ t.heddle.trans = (if x.state = 3 then s.heddle.trans else s.heddle.trans.filter (fun y => decide (y.id ≠ id)))) := by
  have habandon := State.xtAbandon_some h
  split_ifs at habandon ⊢
  · exact (xtAnswers_of_done (exec_xtAbandon hs hid) habandon (by decide)).mono fun t ht => ⟨ht.code, ht.trans⟩
  · exact (xtAnswers_of_done (exec_xtAbandon hs hid) habandon (by decide)).mono fun t ht => ⟨ht.code, ht.trans.trans (s.setTrans_trans _)⟩

theorem xtCommitNow_gives : Gives (.xtCommitNow id) s (fun t => t.get R.XT_RESULT_Code = (if x.state = 2 then 0 else 10)
    ∧ t.heddle.trans = (if x.state = 2 then s.transWith id (fun y => { y with state := 3, direct := true }) else s.heddle.trans)) := by
  have hcommit := State.xtCommitNow_some h
  by_cases hstate : x.state = 2
  · rw [if_neg (not_not.mpr hstate)] at hcommit
    rw [if_pos hstate, if_pos hstate]
    exact (xtAnswers_of_done (exec_xtCommitNow hs hid) hcommit (by decide)).mono fun t ht => ⟨ht.code, ht.trans.trans (s.updTrans_trans _ _)⟩
  · rw [if_pos hstate] at hcommit
    rw [if_neg hstate, if_neg hstate]
    exact (xtAnswers_of_done (exec_xtCommitNow hs hid) hcommit (by decide)).mono fun t ht => ⟨ht.code, ht.trans⟩

end

end Sys2Proof.Machine
end

section
/-!
PROOF. The crosspoint objects (R210, R212, R213, R220): an XpTransaction write opens a transaction, fills it and seals it or takes it back; an
XpTable write is checked and waits.
-/
namespace Sys2Proof.Machine

-- ## A transaction beside those there were

/-- State t has transaction x beside those of s, and has sent nothing more. -/
structure Beside (s : State) (x : Trans) (t : State) : Prop where
  heddle : t.heddle = { s.heddle with trans := s.heddle.trans ++ [x] }
  outbox : t.outbox = s.outbox

theorem not_mem_of_trans_none {s : State} {id : Nat} (h : s.trans id = none) : ∀ y ∈ s.heddle.trans, y.id ≠ id := fun y hy hid =>
  List.find?_eq_none.mp h y hy (decide_eq_true hid)

section
variable {s t : State} {x : Trans} (hx : s.trans x.id = none) (h : Beside s x t)
include hx h

theorem Beside.trans : t.trans x.id = some x := by
  have hnone : s.heddle.trans.find? (fun y => decide (y.id = x.id)) = none := hx
  unfold State.trans
  rw [h.heddle, List.find?_append, hnone, Option.none_or]
  exact List.find?_cons_of_pos (decide_eq_true rfl)

/-- A change of that transaction changes no other. -/
theorem Beside.updTrans (f : Trans → Trans) : Beside s (f x) (t.updTrans x.id f) := by
  have hothers : s.transWith x.id f = s.heddle.trans :=
    (List.map_congr_left fun y hy => if_neg (not_mem_of_trans_none hx y hy)).trans (List.map_id' _)
  refine ⟨?_, (State.updTrans_outbox _ _ _).trans h.outbox⟩
  have htrans : t.transWith x.id f = s.heddle.trans ++ [f x] := by
    rw [State.transWith, h.heddle, List.map_append, ← State.transWith, hothers, List.map_singleton, if_pos rfl]
  rw [State.updTrans_eq, State.setTrans_heddle, htrans, h.heddle]

/-- Abandoning it leaves the transactions there were. -/
theorem Beside.abandon (hstate : x.state ≠ 3) : (t.xtAbandon x.id).2.heddle = s.heddle ∧ (t.xtAbandon x.id).2.outbox = s.outbox := by
  have hothers : s.heddle.trans.filter (fun y => decide (y.id ≠ x.id)) = s.heddle.trans :=
    List.filter_eq_self.mpr fun y hy => decide_eq_true (not_mem_of_trans_none hx y hy)
  have hself : [x].filter (fun y => decide (y.id ≠ x.id)) = [] := List.filter_cons_of_neg (by simp)
  rw [State.xtAbandon_some (h.trans hx), if_neg hstate]
  refine ⟨?_, (State.setTrans_outbox _ _).trans h.outbox⟩
  rw [State.setTrans_heddle, h.heddle, List.filter_append, hothers, hself, List.append_nil]

/-- A push puts the edit into it, or answers a code and changes nothing. -/
theorem Beside.push (e : Edit) : ((t.xePush x.id e).1 = 0 ∧ Beside s { x with edits := x.edits ++ [e] } (t.xePush x.id e).2)
    ∨ ∃ c, c ≠ 0 ∧ t.xePush x.id e = (c, t) := by
  rw [State.xePush_some (h.trans hx)]
  split_ifs
  · exact .inr ⟨10, by decide, rfl⟩
  · exact .inr ⟨8, by decide, rfl⟩
  · exact .inl ⟨rfl, h.updTrans hx (fun y => { y with edits := y.edits ++ [e] })⟩

/-- A seal that answers 0 seals it; one that answers a code leaves it as it is. -/
theorem Beside.seal : ((t.xtSeal x.id).1 = 0 ∧ ∃ g, Beside s { x with state := 2, growth := g } (t.xtSeal x.id).2)
    ∨ ((t.xtSeal x.id).1 ≠ 0 ∧ Beside s x (t.xtSeal x.id).2) := by
  rw [State.xtSeal_some (h.trans hx)]
  split_ifs with hstate hbad
  · exact .inr ⟨by norm_num, h⟩
  · exact .inr ⟨hbad, (State.bump_heddle _ _).trans h.heddle, (State.bump_outbox _ _).trans h.outbox⟩
  · exact .inl ⟨rfl, _, h.updTrans hx (fun y => { y with state := 2, growth := (t.sealCheck x).2 })⟩

end

theorem State.xePushes_cons_ok {s t : State} {id : Nat} {e : Edit} (h : s.xePush id e = (0, t)) (es : List Edit) :
    s.xePushes id (e :: es) = t.xePushes id es := by
  simp only [State.xePushes, h]

theorem State.xePushes_cons_refused {s t : State} {id c : Nat} {e : Edit} (hc : c ≠ 0) (h : s.xePush id e = (c, t)) (es : List Edit) :
    s.xePushes id (e :: es) = (c, t) := by
  obtain ⟨c, rfl⟩ := Nat.exists_eq_succ_of_ne_zero hc
  simp only [State.xePushes, h]

/-- Pushes that all answer 0 append their edits; where one is refused the transaction stays, with those before it. -/
theorem Beside.pushes {s : State} (es : List Edit) : ∀ {x : Trans} {t : State}, s.trans x.id = none → Beside s x t →
    ∃ l, Beside s { x with edits := l } (t.xePushes x.id es).2 ∧ ((t.xePushes x.id es).1 = 0 → l = x.edits ++ es) := by
  induction es with
  | nil => exact fun {x} {t} _ h => ⟨x.edits, h, fun _ => (List.append_nil _).symm⟩
  | cons e es ih =>
    intro x t hx h
    obtain ⟨hzero, hpushed⟩ | ⟨c, hc, hpush⟩ := h.push hx e
    · obtain ⟨l, hl, hall⟩ := ih (x := { x with edits := x.edits ++ [e] }) hx hpushed
      rw [State.xePushes_cons_ok (Prod.ext hzero rfl)]
      exact ⟨l, hl, fun hok => (hall hok).trans (List.append_assoc _ _ _)⟩
    · rw [State.xePushes_cons_refused hc hpush]
      exact ⟨x.edits, h, fun hok => absurd hok hc⟩

-- ## XpTransaction

/-- A length that is no whole number of records behind the ID is out of range. -/
theorem State.xpTransaction_length {s : State} {data : List Byte} (h : data.length < 2 ∨ (data.length - 2) % 12 ≠ 0) : s.xpTransaction data = (1, s) :=
  if_pos h

/-- What r, a code and a state, can be after an XpTransaction write: a code, and the matrix as it was, or 0, and a sealed transaction with the
write's edits beside those there were. -/
def XpWritten (s : State) (id : Nat) (es : List Edit) (r : Nat × State) : Prop :=
  (r.1 ≠ 0 ∧ r.2.heddle = s.heddle ∧ r.2.outbox = s.outbox) ∨ (r.1 = 0 ∧ ∃ x : Trans, x.id = id ∧ x.state = 2 ∧ x.edits = es ∧ Beside s x r.2)

theorem State.xpTransaction_written (s : State) (data : List Byte) :
    XpWritten s (leNat (data.take 2)) (editsOf ((data.length - 2) / 12) (data.drop 2)) (s.xpTransaction data) := by
  by_cases hlen : data.length < 2 ∨ (data.length - 2) % 12 ≠ 0
  · rw [State.xpTransaction_length hlen]
    exact .inl ⟨by norm_num, rfl, rfl⟩
  unfold State.xpTransaction
  extract_lets id
  rw [if_neg hlen]
  generalize editsOf ((data.length - 2) / 12) (data.drop 2) = es
  obtain ⟨c, hc, hopen⟩ | ⟨hid, k, hopen⟩ := s.xtOpen_cases id
  · obtain ⟨c, rfl⟩ := Nat.exists_eq_succ_of_ne_zero hc
    simp only [hopen]
    exact .inl ⟨hc, rfl, rfl⟩
  obtain ⟨l, hpushed, hall⟩ := Beside.pushes es (x := { slot := k, id := id }) hid ⟨s.setTrans_heddle _, s.setTrans_outbox _⟩
  simp only [hopen]
  rcases hpushes : (s.setTrans _).xePushes id es with ⟨_ | c, u⟩ <;> rw [hpushes] at hpushed hall
  case succ => exact .inl ⟨c.succ_ne_zero, hpushed.abandon hid (by norm_num)⟩
  have hsealing := hpushed.seal hid
  rcases hseal : u.xtSeal id with ⟨_ | c, v⟩ <;> simp only [hseal] at hsealing ⊢
  · obtain ⟨-, g, hsealed⟩ | ⟨hbad, -⟩ := hsealing
    · exact .inr ⟨rfl, _, rfl, rfl, hall rfl, hsealed⟩
    · exact absurd rfl hbad
  · obtain ⟨hzero, -⟩ | ⟨-, hopened⟩ := hsealing
    · exact absurd hzero c.succ_ne_zero
    · exact .inl ⟨c.succ_ne_zero, hopened.abandon hid (by norm_num)⟩

-- ## XpTable

/-- A table that has passed its check waits for the strobe, and its patch words stand in the destinations' configurations (R22, R213). -/
def State.tableStored (s : State) (es : List Edit) (ps : List (BitVec 32)) : State :=
  (s.updH (fun h => { h with next := some (tableOf es) })).forN 8192 (fun d t =>
    let w := ps.getD d 8191#32
    if (t.dest d).cfg.headD 0#32 = w then t else t.updDest d (fun x => { x with cfg := setAt x.cfg 0 w }))

section
variable (s : State) (es : List Edit) (ps : List (BitVec 32))

/-- What a change of the destinations leaves, the patch words leave. -/
theorem State.tableStored_keeps {γ : Type} (p : State → γ) (hdest : ∀ t d f, p (State.updDest t d f) = p t) :
    p (s.tableStored es ps) = p (s.updH (fun h => { h with next := some (tableOf es) })) := by
  refine State.forN_keeps p 8192 _ (fun d _ t => ?_) _
  extract_lets
  split
  · rfl
  · exact hdest _ _ _

theorem State.tableStored_outbox : (s.tableStored es ps).outbox = s.outbox :=
  s.tableStored_keeps es ps State.outbox (fun _ _ _ => rfl)

theorem State.tableStored_xps : (s.tableStored es ps).heddle.xps = s.heddle.xps :=
  s.tableStored_keeps es ps (fun t => t.heddle.xps) (fun _ _ _ => rfl)

theorem State.tableStored_next : (s.tableStored es ps).heddle.next = some (tableOf es) :=
  s.tableStored_keeps es ps (fun t => t.heddle.next) (fun _ _ _ => rfl)

end

theorem State.xpTable_length {s : State} {data : List Byte} (h : data.length < 32768 ∨ (data.length - 32768) % 12 ≠ 0) : s.xpTable data = (1, s) :=
  if_pos h

/-- An XpTable write changes nothing, or stores a table and patch words. -/
theorem State.xpTable_cases (s : State) (data : List Byte) : (∃ c, c ≠ 0 ∧ s.xpTable data = (c, s))
    ∨ ∃ ps, s.xpTable data = (0, s.tableStored (editsOf ((data.length - 32768) / 12) data) ps) := by
  unfold State.xpTable
  extract_lets n es ps u v
  have hstored : v = s.tableStored es ps := rfl
  generalize (if s.ratesFor.any highRate then 8192 else 16384) = limit
  split_ifs
  case neg => exact .inr ⟨ps, congrArg (Prod.mk 0) hstored⟩
  all_goals exact .inl ⟨_, by norm_num, rfl⟩

-- ## The commands

section
variable {s : State} (hs : Ready s)
include hs

theorem exec_xpTransactionWrite (data : List Byte) : exec (.xpTransactionWrite data) s =
    ((s.xpTransaction data).2.send (.opResult 0x5180 0 (s.xpTransaction data).1)).done := by
  show execXpTransactionWrite data s = _
  unfold execXpTransactionWrite
  rw [State.live_live _ _ hs]

theorem exec_xpTableWrite (data : List Byte) : exec (.xpTableWrite data) s =
    ((s.xpTable data).2.send (.opResult 0x5183 0 (s.xpTable data).1)).done := by
  show execXpTableWrite data s = _
  unfold execXpTableWrite
  rw [State.live_live _ _ hs]

theorem xpTransactionWrite_gives (data : List Byte) : Gives (.xpTransactionWrite data) s (fun t =>
    Sends [.opResult 0x5180 0 (s.xpTransaction data).1] s t
    ∧ (data.length < 2 ∨ (data.length - 2) % 12 ≠ 0 → (s.xpTransaction data).1 = 1)
    ∧ ((s.xpTransaction data).1 ≠ 0 → t.heddle = s.heddle)
    ∧ ((s.xpTransaction data).1 = 0 → ∃ x ∈ t.heddle.trans, x.id = leNat (data.take 2) ∧ x.state = 2
        ∧ x.edits = editsOf ((data.length - 2) / 12) (data.drop 2))
    ∧ t.heddle.xps = s.heddle.xps) := by
  have hlength : data.length < 2 ∨ (data.length - 2) % 12 ≠ 0 → (s.xpTransaction data).1 = 1 := fun h =>
    congrArg Prod.fst (State.xpTransaction_length h)
  have hsends : (s.xpTransaction data).2.outbox = s.outbox → Sends [.opResult 0x5180 0 (s.xpTransaction data).1] s
      ((s.xpTransaction data).2.send (.opResult 0x5180 0 (s.xpTransaction data).1)).settle := fun h =>
    Sends.settle' (by rw [State.send_outbox, h])
  obtain ⟨hbad, hheddle, hout⟩ | ⟨hok, x, hid, hstate, hedits, hbeside⟩ := s.xpTransaction_written data
  · have hkept := (State.settle_heddle _).trans ((State.send_heddle _ (.opResult 0x5180 0 (s.xpTransaction data).1)).trans hheddle)
    exact Gives.of_done (exec_xpTransactionWrite hs data)
      ⟨hsends hout, hlength, fun _ => hkept, fun h => absurd h hbad, congrArg Heddle.xps hkept⟩
  · have hsealed := (State.settle_heddle _).trans ((State.send_heddle _ (.opResult 0x5180 0 (s.xpTransaction data).1)).trans hbeside.heddle)
    refine Gives.of_done (exec_xpTransactionWrite hs data)
      ⟨hsends hbeside.outbox, hlength, fun h => absurd hok h, fun _ => ⟨x, ?_, hid, hstate, hedits⟩, by rw [hsealed]⟩
    rw [hsealed]
    exact List.mem_append_right _ (List.mem_singleton_self x)

theorem xpTableWrite_gives (data : List Byte) : Gives (.xpTableWrite data) s (fun t => Sends [.opResult 0x5183 0 (s.xpTable data).1] s t
    ∧ (data.length < 32768 ∨ (data.length - 32768) % 12 ≠ 0 → (s.xpTable data).1 = 1) ∧ ((s.xpTable data).1 ≠ 0 → t.heddle = s.heddle)
    ∧ ((s.xpTable data).1 = 0 → t.heddle.xps = s.heddle.xps
        ∧ t.heddle.next = some (tableOf (editsOf ((data.length - 32768) / 12) data)))) := by
  have hlength : data.length < 32768 ∨ (data.length - 32768) % 12 ≠ 0 → (s.xpTable data).1 = 1 := fun h =>
    congrArg Prod.fst (State.xpTable_length h)
  have hexec := exec_xpTableWrite hs data
  obtain ⟨c, hc, htable⟩ | ⟨ps, htable⟩ := s.xpTable_cases data <;> rw [htable] at hexec hlength ⊢
  · exact Gives.of_done hexec ⟨Sends.settle' rfl, hlength, fun _ => (State.settle_heddle _).trans (State.send_heddle _ _), fun h => absurd h hc⟩
  · refine Gives.of_done hexec ⟨Sends.settle' ?_, hlength, fun h => absurd rfl h, fun _ => ⟨?_, ?_⟩⟩
    · rw [State.send_outbox, State.tableStored_outbox]
    · rw [State.settle_heddle, State.send_heddle, State.tableStored_xps]
    · rw [State.settle_heddle, State.send_heddle, State.tableStored_next]

variable {id : Nat} (hid : id < 65536)
include hid

theorem xpEditsApplied_off (h : s.is R.TRD_CTRL_Enable = false) : Ends (.xpEditsApplied id) s s := by
  refine Ends.of_done ((s.accept_live _ _ (decide_eq_true hid) hs).trans ?_)
  rw [h]
  rfl

theorem xpEditsApplied_arms (h : s.is R.TRD_CTRL_Enable = true) : Gives (.xpEditsApplied id) s (fun t => t.heddle = s.heddle
    ∧ t.cues = s.cues.map (fun c => if c.action = 3 ∧ c.arg0 % 65536 = id ∧ c.staging then { c with armed := true } else c)) := by
  have hexec : exec (.xpEditsApplied id) s = (State.cueStatus { s with
      cues := s.cues.map (fun c => if c.action = 3 ∧ c.arg0 % 65536 = id ∧ c.staging then { c with armed := true } else c) }).done := by
    refine (s.accept_live _ _ (decide_eq_true hid) hs).trans ?_
    rw [h]
    rfl
  refine Gives.of_done hexec ⟨?_, ?_⟩
  · rw [State.settle_heddle, (State.cueStatus_regsOnly _).heddle]
  · rw [State.settle_cues, State.cueStatus_cues]

end

/-- Settles O32: the commands by what each does to the list of transactions, the objects by what an accepted write leaves. -/
theorem crosspointTransactions : Obligations.CrosspointTransactions := by
  exact ⟨fun s id hs hid => ⟨fun k hk => xtOpen_free hs hid hk,
      fun hfull => (xtOpen_full hs hid (State.freeSlot_full hfull)).mono fun t ht => ⟨ht.code, ht.heddle⟩,
      fun hnone c hc => (xtCommand_none hs hid hnone hc).mono fun t ht => ⟨ht.code, ht.seq, ht.heddle⟩,
      fun x hx => ⟨xePush_gives hs hid hx, xtSeal_gives hs hid hx, xtAbandon_gives hs hid hx, xtCommitNow_gives hs hid hx⟩⟩,
    fun s data hs => ⟨xpTransactionWrite_gives hs data, xpTableWrite_gives hs data, fun id hid h => xpEditsApplied_off hs hid h,
      fun id hid h => xpEditsApplied_arms hs hid h⟩⟩

end Sys2Proof.Machine
end

section
/-!
PROOF. The destination window and repacking (R214, R217): what Read shows, what Write stores, and where a repack puts the rings.
-/
namespace Sys2Proof.Machine

/-- The destination that DS_SEL selects. -/
abbrev State.dsSel (s : State) : Nat := s.get R.DS_SEL_Dest

/-- The words of the configuration window. -/
abbrev State.dsWindow (s : State) : List (BitVec 32) := s.rdWords R.DS_PATCH 5

theorem State.dest_congr {s t : State} (h : t.heddle = s.heddle) (d : Nat) : t.dest d = s.dest d := by unfold State.dest; rw [h]

-- ## Results

section
variable (s : State) (c : Nat)

theorem State.dsResult_code : (s.dsResult c).get R.DS_RESULT_Code = c % 2 ^ 8 :=
  (State.get_congr (f := R.DS_RESULT_Code) (s.resultErr_rd c _ _ _)).trans (s.result_code c (by decide) (by decide) (by decide))

theorem State.dsResult_seq : (s.dsResult c).get R.DS_RESULT_Seq = (s.get R.DS_RESULT_Seq + 1) % 2 ^ 16 :=
  (State.get_congr (f := R.DS_RESULT_Seq) (s.resultErr_rd c _ _ _)).trans (s.result_seq c (by decide) (by decide) (by decide))

theorem State.dsResult_rd {a : Nat} (h : a ≠ R.DS_RESULT) : (s.dsResult c).rd a = s.rd a :=
  s.resultErr_rd_ne (code := R.DS_RESULT_Code) (seq := R.DS_RESULT_Seq) rfl R.DS_CMD c _ h

@[simp] theorem State.dsResult_heddle : (s.dsResult c).heddle = s.heddle :=
  s.resultErr_keeps c (p := State.heddle) State.put_heddle State.report_heddle _ _

end

-- ## Read

theorem State.dsLoad_regsOnly (s : State) : RegsOnly s s.dsLoad :=
  (((((RegsOnly.refl' s).wrWords' _ _).put' _ _).put' _ _).putB' _ _).putB' _ _

theorem State.dsLoad_state (s : State) : s.dsLoad.get R.DS_DSTATE_DelayNow = (s.dest s.dsSel).now % 2 ^ 17
    ∧ s.dsLoad.is R.DS_DSTATE_Fading = (s.dest s.dsSel).fade.isSome ∧ s.dsLoad.is R.DS_DSTATE_Held = (s.dest s.dsSel).held.isSome := by
  unfold State.dsLoad
  refine ⟨?_, ?_, State.is_putB_same _ (by decide) rfl _⟩
  · rw [State.get_putB_ne _ (by decide) (by decide), State.get_putB_ne _ (by decide) (by decide)]
    exact State.get_put_same _ _ _ (by decide)
  · rw [State.putB, State.is_put_ne _ (by decide) (by decide)]
    exact State.is_putB_same _ (by decide) rfl _

-- ## Write

/-- The codes of R217 and R218 fit the result register. -/
theorem State.dsCheck_lt (s : State) (d : Nat) (ws : List (BitVec 32)) : s.dsCheck d ws < 2 ^ 8 := by
  unfold State.dsCheck
  extract_lets
  split_ifs <;> decide

theorem State.ringStatus_regsOnly (s : State) : RegsOnly s s.ringStatus := ((RegsOnly.refl' s).put' _ _).put' _ _

theorem State.ringStatus_rd (s : State) {a : Nat} (hused : a ≠ R.RING_USED) (hrun : a ≠ R.RING_FREE_RUN) : s.ringStatus.rd a = s.rd a :=
  (State.rd_put_ne _ hrun _).trans (State.rd_put_ne _ hused _)

/-- An allocation draws a free value and writes no register. -/
theorem State.ringAlloc_regs {s t : State} {d n b : Nat} (h : s.ringAlloc d n = some (b, t)) : t.regs = s.regs := by
  unfold State.ringAlloc at h
  extract_lets fit at h
  clear_value fit
  split at h
  · obtain rfl := congrArg Prod.snd (Option.some.inj h)
    rfl
  · split at h
    · exact absurd h (by simp)
    · obtain rfl := congrArg Prod.snd (Option.some.inj h)
      rfl

/-- A destination to which a changed DelayCap allocates a ring (R217). -/
def State.dsRing (s : State) (d : Nat) (ws : List (BitVec 32)) : State :=
  if dsF ws R.DS_DCAP_DelayCap = dsF (s.dest d).cfg R.DS_DCAP_DelayCap then s
  else match s.ringAlloc d (ringCells (dsF ws R.DS_DCAP_DelayCap)) with
    | some (b, t) => t.updDest d (fun x => { x with next := some (b, ringCells (dsF ws R.DS_DCAP_DelayCap)) })
    | none => s

theorem State.dsStore_eq (s : State) (d : Nat) (ws : List (BitVec 32)) :
    s.dsStore d ws = ((s.dsRing d ws).updDest d (fun x => { x with cfg := ws })).ringStatus := rfl

theorem State.dsRing_rd (s : State) (d : Nat) (ws : List (BitVec 32)) (a : Nat) : (s.dsRing d ws).rd a = s.rd a := by
  unfold State.dsRing
  split
  · rfl
  · split
    · rename_i b t halloc
      show t.rd a = s.rd a
      unfold State.rd
      rw [State.ringAlloc_regs halloc]
    · rfl

theorem State.dsStore_rd (s : State) (d : Nat) (ws : List (BitVec 32)) {a : Nat} (hused : a ≠ R.RING_USED) (hrun : a ≠ R.RING_FREE_RUN) :
    (s.dsStore d ws).rd a = s.rd a := by
  rw [State.dsStore_eq, State.ringStatus_rd _ hused hrun]
  exact s.dsRing_rd d ws a

theorem State.dsStore_cfg (s : State) (d : Nat) (ws : List (BitVec 32)) : ((s.dsStore d ws).dest d).cfg = ws := by
  rw [State.dsStore_eq, State.dest_congr (State.ringStatus_regsOnly _).heddle, State.dest_updDest_same]

theorem State.mark_heddle (s : State) (k : Nat) : (s.mark k).heddle = s.heddle := by
  unfold State.mark
  split <;> rfl

section
variable {s : State}

/-- Words that pass the check are stored in the selected destination and mark its window (R49). -/
theorem State.dsStoreCmd_passes (h : s.dsCheck s.dsSel s.dsWindow = 0) :
    ∃ k, s.dsStoreCmd = ((s.dsStore s.dsSel s.dsWindow).mark k).dsResult 0 := by
  unfold State.dsStoreCmd State.dsWrite
  simp only [h, if_true]
  exact ⟨_, rfl⟩

theorem State.dsStoreCmd_refused (h : s.dsCheck s.dsSel s.dsWindow ≠ 0) : s.dsStoreCmd = s.dsResult (s.dsCheck s.dsSel s.dsWindow) := by
  unfold State.dsStoreCmd State.dsWrite
  simp only [h, if_false]

end

-- ## Repack

/-- A destination whose ring, or the one that waits, starts at cell n, with a fresh Z (R217). -/
def Dest.repacked (d : Dest) (n : Nat) : Dest :=
  { d with ring := if d.next = none ∧ d.alloc.2 ≠ 0 then (n, d.alloc.2) else d.ring, next := d.next.map (fun _ => (n, d.alloc.2)), z := none }

/-- The cells of the rings of a list of destinations, and n. -/
def cellsFrom (n : Nat) (l : List (Nat × Dest)) : Nat := l.foldl (fun n e => n + e.2.alloc.2) n

/-- Destinations whose rings follow one another from cell n on. -/
def repackFrom (n : Nat) : List (Nat × Dest) → List (Nat × Dest)
  | [] => []
  | e :: l => (e.1, e.2.repacked n) :: repackFrom (n + e.2.alloc.2) l

theorem Dest.repacked_ring {d : Dest} (hnext : d.next = none) (hring : d.ring.2 ≠ 0) (n : Nat) :
    d.repacked n = { d with ring := (n, d.ring.2), z := none } := by
  have halloc : d.alloc = d.ring := by unfold Dest.alloc; rw [hnext]; rfl
  unfold Dest.repacked
  rw [halloc, hnext, if_pos ⟨rfl, hring⟩]
  rfl

theorem repackFrom_keys (l : List (Nat × Dest)) : ∀ n, (repackFrom n l).map Prod.fst = l.map Prod.fst := by
  induction l with
  | nil => exact fun _ => rfl
  | cons e l ih => exact fun n => congrArg (e.1 :: ·) (ih _)

theorem repackFrom_fresh (l : List (Nat × Dest)) : ∀ n, ∀ e ∈ repackFrom n l, e.2.z = none := by
  induction l with
  | nil => exact fun _ e he => absurd he List.not_mem_nil
  | cons a l ih =>
    intro n e he
    obtain rfl | he := List.mem_cons.mp he
    · rfl
    · exact ih _ e he

/-- A destination's ring starts where those of the destinations before it end. -/
theorem mem_repackFrom (pre post : List (Nat × Dest)) (k : Nat) (x : Dest) : ∀ n,
    (k, x.repacked (cellsFrom n pre)) ∈ repackFrom n (pre ++ (k, x) :: post) := by
  induction pre with
  | nil => exact fun n => List.mem_cons_self
  | cons e pre ih => exact fun n => List.mem_cons_of_mem _ (ih _)

/-- A fold that goes through the destinations with the next free cell and those already placed. -/
theorem foldl_repacked {f : Nat × List (Nat × Dest) → Nat × Dest → Nat × List (Nat × Dest)}
    (hf : ∀ acc e, f acc e = (acc.1 + e.2.alloc.2, acc.2 ++ [(e.1, e.2.repacked acc.1)])) (l : List (Nat × Dest)) :
    ∀ (n : Nat) (placed : List (Nat × Dest)), l.foldl f (n, placed) = (cellsFrom n l, placed ++ repackFrom n l) := by
  induction l with
  | nil => exact fun n placed => by rw [repackFrom, List.append_nil]; rfl
  | cons e l ih =>
    intro n placed
    rw [List.foldl_cons, hf, ih, repackFrom, List.append_assoc]
    rfl

/-- The state in which a repack to these destinations has completed. -/
def State.repackedTo (s : State) (ds : List (Nat × Dest)) : State :=
  ((s.updH (fun h => { h with dests := ds })).put R.HD_STATUS_Repacking 0).ringStatus

theorem State.repackedTo_heddle (s : State) (ds : List (Nat × Dest)) : (s.repackedTo ds).heddle = { s.heddle with dests := ds } :=
  (State.ringStatus_regsOnly _).heddle

theorem State.repackedTo_idle (s : State) (ds : List (Nat × Dest)) : (s.repackedTo ds).is R.HD_STATUS_Repacking = false :=
  (State.is_congr (State.ringStatus_rd _ (by decide) (by decide))).trans (State.is_put_zero _ (by decide) rfl)

-- ## The commands

section
variable {s : State} (hs : Ready s)
include hs

theorem exec_dsRead : exec .dsRead s = (s.dsLoad.dsResult 0).done := by
  show execDsRead s = _
  unfold execDsRead
  rw [State.live_live _ _ hs]

theorem exec_dsWrite : exec .dsWrite s = s.dsStoreCmd.done := by
  show execDsWrite s = _
  unfold execDsWrite
  rw [State.live_live _ _ hs]

theorem exec_hdRepack : exec .hdRepack s = s.repack.done := by
  show execHdRepack s = _
  unfold execHdRepack
  rw [State.live_live _ _ hs]

theorem exec_repackDone_idle (h : s.is R.HD_STATUS_Repacking = false) : exec .repackDone s = s.done := by
  show execRepackDone s = _
  unfold execRepackDone
  rw [State.live_live _ _ hs, h]
  rfl

theorem exec_repackDone (h : s.is R.HD_STATUS_Repacking = true) : exec .repackDone s = (s.repackedTo (repackFrom 0 s.heddle.dests)).done := by
  show execRepackDone s = _
  unfold execRepackDone
  rw [State.live_live _ _ hs, h, if_pos rfl, foldl_repacked]
  · rfl
  · exact fun _ _ => rfl

/-- Read shows the selected destination's delay line, whatever its configuration words are (R214). -/
theorem dsRead_gives : Gives .dsRead s (fun t => t.heddle = s.heddle ∧ t.get R.DS_DSTATE_DelayNow = (s.dest s.dsSel).now % 2 ^ 17
    ∧ t.is R.DS_DSTATE_Fading = (s.dest s.dsSel).fade.isSome ∧ t.is R.DS_DSTATE_Held = (s.dest s.dsSel).held.isSome
    ∧ t.get R.DS_RESULT_Code = 0) := by
  obtain ⟨hnow, hfading, hheld⟩ := s.dsLoad_state
  have hstate : (s.dsLoad.dsResult 0).settle.rd R.DS_DSTATE = s.dsLoad.rd R.DS_DSTATE :=
    (State.settle_rd _ (by decide)).trans (State.dsResult_rd _ _ (by decide))
  refine Gives.of_done (exec_dsRead hs) ⟨?_, (State.get_congr hstate).trans hnow, (State.is_congr hstate).trans hfading,
    (State.is_congr hstate).trans hheld, ?_⟩
  · rw [State.settle_heddle, State.dsResult_heddle, s.dsLoad_regsOnly.heddle]
  · rw [State.settle_get _ (by decide), State.dsResult_code, Nat.zero_mod]

/-- Write answers the code of the check and stores the words where it passes (R217). -/
theorem dsWrite_gives : Gives .dsWrite s (fun t => t.get R.DS_RESULT_Code = s.dsCheck s.dsSel s.dsWindow
    ∧ t.get R.DS_RESULT_Seq = (s.get R.DS_RESULT_Seq + 1) % 2 ^ 16
    ∧ (s.dsCheck s.dsSel s.dsWindow ≠ 0 → t.heddle = s.heddle
        ∧ t.errWait = s.errWait ++ [turnedDown 0x10 R.DS_CMD (s.dsCheck s.dsSel s.dsWindow) s.dsSel])
    ∧ (s.dsCheck s.dsSel s.dsWindow = 0 → (t.dest s.dsSel).cfg = s.dsWindow)) := by
  by_cases h : s.dsCheck s.dsSel s.dsWindow = 0
  · obtain ⟨k, hk⟩ := State.dsStoreCmd_passes h
    refine Gives.of_done (exec_dsWrite hs) ⟨?_, ?_, fun hne => absurd h hne, fun _ => ?_⟩
    · rw [State.settle_get _ (by decide), hk, State.dsResult_code, Nat.zero_mod, h]
    · rw [State.settle_get _ (by decide), hk, State.dsResult_seq, State.get_congr (f := R.DS_RESULT_Seq) (State.mark_rd _ _ _),
        State.get_congr (f := R.DS_RESULT_Seq) (s.dsStore_rd _ _ (by decide) (by decide))]
    · rw [State.dest_settle, hk, State.dest_congr ((State.dsResult_heddle _ _).trans (State.mark_heddle _ _)), State.dsStore_cfg]
  · have hc := State.dsStoreCmd_refused h
    refine Gives.of_done (exec_dsWrite hs) ⟨?_, ?_, fun _ => ⟨?_, ?_⟩, fun h0 => absurd h0 h⟩
    · rw [State.settle_get _ (by decide), hc, State.dsResult_code, Nat.mod_eq_of_lt (s.dsCheck_lt _ _)]
    · rw [State.settle_get _ (by decide), hc, State.dsResult_seq]
    · rw [State.settle_heddle, hc, State.dsResult_heddle]
    · rw [State.settle_errWait, hc]
      exact s.resultErr_errWait h _ _

theorem repackDone_gives (h : s.is R.HD_STATUS_Repacking = true) : Gives .repackDone s (fun t => t.is R.HD_STATUS_Repacking = false
    ∧ t.heddle.xps = s.heddle.xps ∧ t.heddle.dests.map Prod.fst = s.heddle.dests.map Prod.fst ∧ (∀ e ∈ t.heddle.dests, e.2.z = none)
    ∧ (∀ pre k x post, s.heddle.dests = pre ++ (k, x) :: post → x.next = none → x.ring.2 ≠ 0 →
        (k, { x with ring := (pre.foldl (fun n e => n + e.2.alloc.2) 0, x.ring.2), z := none }) ∈ t.heddle.dests)) := by
  have hheddle := (State.settle_heddle _).trans (s.repackedTo_heddle (repackFrom 0 s.heddle.dests))
  refine Gives.of_done (exec_repackDone hs h) ⟨(State.settle_is _ (by decide)).trans (s.repackedTo_idle _), ?_⟩
  rw [hheddle]
  refine ⟨rfl, repackFrom_keys _ _, repackFrom_fresh _ _, fun pre k x post hdests hnext hring => ?_⟩
  rw [← Dest.repacked_ring hnext hring, hdests]
  exact mem_repackFrom pre post k x 0

end

end Sys2Proof.Machine
end

section
/-!
PROOF. Group gains and lookups (R205, R208): a ramp that waits for the strobe, and what a lookup latches.
-/
namespace Sys2Proof.Machine

-- ## Group gains

/-- The ramp that GRP_CMD.Go starts at the next strobe: target, length and law (R208). -/
abbrev State.grpRamp (s : State) : Int × Nat × Bool := (toSigned 32 (s.get R.GRP_TARGET_Gain), s.get R.GRP_RAMP_Picks, s.is R.GRP_RAMP_Law)

theorem State.grpGo_zero {s : State} (h : s.get R.GRP_SEL_Group = 0) : s.grpGo = s := if_pos h

theorem State.grpGo_waits {s : State} (h : s.get R.GRP_SEL_Group ≠ 0) : ∃ i j v,
    s.grpGo = (s.updH (fun x => { x with goes := tput none (s.get R.GRP_SEL_Group) (some s.grpRamp) x.goes })).setObj i j v :=
  ⟨_, _, _, if_neg h⟩

/-- Where only Heddle's state and an object changed, nothing else differs at the command's end. -/
theorem State.updH_setObj_onlyRegs (s : State) (f : Heddle → Heddle) (i j v : Nat) :
    OnlyRegs [] s { ((s.updH f).setObj i j v).settle with heddle := s.heddle, objs := s.objs } :=
  ⟨fun _ _ ha => ((s.updH f).setObj i j v).settle_rd ha,
    congrArg (fun t : State => { t with heddle := s.heddle, objs := s.objs }) ((s.updH f).setObj i j v).settle_msix.2.2.2⟩

-- ## Lookups

/-- A lookup counted and its values latched. -/
def State.xqLatch (s : State) (gain target found run group law : Nat) : State :=
  ((((((s.bump R.XQ_INFO_Seq).put R.XQ_GAIN_Gain gain).put R.XQ_TARGET_Gain target).put R.XQ_INFO_Found found).put
    R.XQ_INFO_Ramping run).put R.XQ_INFO_Group group).put R.XQ_INFO_Law law

section
variable (s : State) (gain target found run group law : Nat)

theorem State.xqLatch_onlyRegs : OnlyRegs [R.XQ_GAIN, R.XQ_TARGET, R.XQ_INFO] s (s.xqLatch gain target found run group law) := by
  have hinfo : R.XQ_INFO ∈ [R.XQ_GAIN, R.XQ_TARGET, R.XQ_INFO] := by decide
  have hseq : SameRegs [R.XQ_GAIN, R.XQ_TARGET, R.XQ_INFO] s (s.bump R.XQ_INFO_Seq) := (SameRegs.refl' _ s).put' hinfo _
  have kseq : RegsOnly s (s.bump R.XQ_INFO_Seq) := (RegsOnly.refl' s).put' _ _
  unfold State.xqLatch
  exact .of_regs ((((((hseq.put' (by decide) _).put' (by decide) _).put' hinfo _).put' hinfo _).put' hinfo _).put' hinfo _)
    ((((((kseq.put' _ _).put' _ _).put' _ _).put' _ _).put' _ _).put' _ _)

theorem State.xqLatch_seq : (s.xqLatch gain target found run group law).get R.XQ_INFO_Seq = (s.get R.XQ_INFO_Seq + 1) % 2 ^ 16 := by
  unfold State.xqLatch
  simp (disch := decide) only [State.get_put_ne]
  exact State.get_bump_same _ _ (by decide)

theorem State.xqLatch_gain : (s.xqLatch gain target found run group law).get R.XQ_GAIN_Gain = gain % 2 ^ 32 := by
  unfold State.xqLatch
  rw [State.get_put_reg _ (by decide), State.get_put_reg _ (by decide), State.get_put_reg _ (by decide), State.get_put_reg _ (by decide),
    State.get_put_reg _ (by decide)]
  exact State.get_put_same _ _ _ (by decide)

theorem State.xqLatch_target : (s.xqLatch gain target found run group law).get R.XQ_TARGET_Gain = target % 2 ^ 32 := by
  unfold State.xqLatch
  rw [State.get_put_reg _ (by decide), State.get_put_reg _ (by decide), State.get_put_reg _ (by decide), State.get_put_reg _ (by decide)]
  exact State.get_put_same _ _ _ (by decide)

theorem State.xqLatch_found : (s.xqLatch gain target found run group law).get R.XQ_INFO_Found = found % 2 := by
  unfold State.xqLatch
  simp (disch := decide) only [State.get_put_ne]
  exact State.get_put_same _ _ _ (by decide)

theorem State.xqLatch_group : (s.xqLatch gain target found run group law).get R.XQ_INFO_Group = group % 2 ^ 8 := by
  unfold State.xqLatch
  rw [State.get_put_ne _ (by decide) (by decide)]
  exact State.get_put_same _ _ _ (by decide)

theorem State.xqLatch_law : (s.xqLatch gain target found run group law).get R.XQ_INFO_Law = law % 2 :=
  State.get_put_same _ _ _ (by decide)

end

theorem ofSigned_lt (w : Nat) (i : Int) : ofSigned w i < 2 ^ w := by
  have hpos : (0 : Int) < (2 ^ w : Nat) := Int.natCast_pos.mpr (Nat.two_pow_pos w)
  have hlow := Int.emod_nonneg i hpos.ne'
  have hhigh := Int.emod_lt_of_pos i hpos
  unfold ofSigned
  omega

section
variable {s : State}

theorem State.xqLookup_none (h : xpFind s.heddle.xps (s.get R.XQ_KEY_Dest) (s.get R.XQ_KEY_Src) = none) : s.xqLookup = s.xqLatch 0 0 0 0 0 0 := by
  unfold State.xqLookup
  rw [h]
  rfl

/-- A lookup that finds its key latches the gain shown, the target, the group and the law; Ramping is Heddle's own (R205). -/
theorem State.xqLookup_some {x : Xp} (h : xpFind s.heddle.xps (s.get R.XQ_KEY_Dest) (s.get R.XQ_KEY_Src) = some x) : ∃ run,
    s.xqLookup = s.xqLatch (ofSigned 32 (x.ramp.shown s.heddle.last)) (ofSigned 32 x.ramp.g1) 1 run x.group (if x.ramp.db then 1 else 0) := by
  unfold State.xqLookup State.xqLatch State.putI State.putB
  rw [h]
  dsimp only
  rw [State.bump_heddle]
  exact ⟨_, rfl⟩

end

-- ## The commands

section
variable {s : State} (hs : Ready s)
include hs

theorem exec_grpGo : exec .grpGo s = s.grpGo.done := by
  show execGrpGo s = _
  unfold execGrpGo
  rw [State.live_live _ _ hs]

theorem exec_xqLookup : exec .xqLookup s = s.xqLookup.done := by
  show execXqLookup s = _
  unfold execXqLookup
  rw [State.live_live _ _ hs]

theorem grpGo_gives (h : s.get R.GRP_SEL_Group ≠ 0) : Gives .grpGo s (fun t =>
    tget none t.heddle.goes (s.get R.GRP_SEL_Group) = some s.grpRamp
    ∧ t.heddle.groups = s.heddle.groups ∧ OnlyRegs [] s { t with heddle := s.heddle, objs := s.objs }) := by
  have hexec := exec_grpGo hs
  obtain ⟨i, j, v, hgo⟩ := State.grpGo_waits h
  rw [hgo] at hexec
  refine Gives.of_done hexec ⟨?_, ?_, s.updH_setObj_onlyRegs _ i j v⟩
  · rw [State.settle_heddle, State.setObj_heddle]
    exact tget_tput_same none (s.get R.GRP_SEL_Group) (some s.grpRamp) s.heddle.goes
  · rw [State.settle_heddle, State.setObj_heddle]
    rfl

end

/-- State t shows a lookup: the values of the crosspoint that the key names, or Found 0 and zeros. -/
structure LookupShown (t : State) (gain target group : Nat) (found law : Bool) : Prop where
  found : t.is R.XQ_INFO_Found = found
  gain : t.get R.XQ_GAIN_Gain = gain
  target : t.get R.XQ_TARGET_Gain = target
  group : t.get R.XQ_INFO_Group = group
  law : t.is R.XQ_INFO_Law = law

theorem State.xqLatch_settle (s : State) {gain target : Nat} (hgain : gain < 2 ^ 32) (htarget : target < 2 ^ 32) (found law : Bool) (run group : Nat) :
    LookupShown (s.xqLatch gain target (if found then 1 else 0) run group (if law then 1 else 0)).settle gain target (group % 2 ^ 8) found law := by
  have hbit : ∀ b : Bool, decide ((if b then 1 else 0 : Nat) % 2 = 1) = b := by decide
  constructor
  · rw [State.settle_is _ (by decide), State.is, State.xqLatch_found, hbit]
  · rw [State.settle_get _ (by decide), State.xqLatch_gain, Nat.mod_eq_of_lt hgain]
  · rw [State.settle_get _ (by decide), State.xqLatch_target, Nat.mod_eq_of_lt htarget]
  · rw [State.settle_get _ (by decide), State.xqLatch_group]
  · rw [State.settle_is _ (by decide), State.is, State.xqLatch_law, hbit]

theorem xqLookup_gives {s : State} (hs : Ready s) : Gives .xqLookup s (fun t =>
    t.get R.XQ_INFO_Seq = (s.get R.XQ_INFO_Seq + 1) % 2 ^ 16 ∧ OnlyRegs [R.XQ_GAIN, R.XQ_TARGET, R.XQ_INFO] s t
    ∧ (xpFind s.heddle.xps (s.get R.XQ_KEY_Dest) (s.get R.XQ_KEY_Src) = none → LookupShown t 0 0 0 false false)
    ∧ (∀ x, xpFind s.heddle.xps (s.get R.XQ_KEY_Dest) (s.get R.XQ_KEY_Src) = some x → LookupShown t
        (ofSigned 32 (x.ramp.shown s.heddle.last)) (ofSigned 32 x.ramp.g1) (x.group % 2 ^ 8) true x.ramp.db)) := by
  have hexec := exec_xqLookup hs
  cases hfind : xpFind s.heddle.xps (s.get R.XQ_KEY_Dest) (s.get R.XQ_KEY_Src) with
  | none =>
    rw [State.xqLookup_none hfind] at hexec
    refine Gives.of_done hexec ⟨?_, (s.xqLatch_onlyRegs _ _ _ _ _ _).settle', fun _ => ?_, fun x hx => absurd hx (Option.some_ne_none x).symm⟩
    · rw [State.settle_get _ (by decide), State.xqLatch_seq]
    · exact s.xqLatch_settle (by decide) (by decide) false false 0 0
  | some x =>
    obtain ⟨run, hlookup⟩ := State.xqLookup_some hfind
    rw [hlookup] at hexec
    refine Gives.of_done hexec ⟨?_, (s.xqLatch_onlyRegs _ _ _ _ _ _).settle', fun h => absurd h (Option.some_ne_none x), fun y hy => ?_⟩
    · rw [State.settle_get _ (by decide), State.xqLatch_seq]
    · obtain rfl := Option.some.inj hy
      exact s.xqLatch_settle (ofSigned_lt 32 _) (ofSigned_lt 32 _) true x.ramp.db run x.group

/-- Settles O33: the window by what Read loads and Write stores, a repack by where it puts each ring, the groups and lookups by what waits or
is latched. -/
theorem destinationsAndGroups : Obligations.DestinationsAndGroups := by
  refine ⟨fun s hs => ⟨dsRead_gives hs, dsWrite_gives hs, Ends.of_done (exec_hdRepack hs), fun h => Ends.of_done (exec_repackDone_idle hs h),
      repackDone_gives hs⟩, fun s hs => ⟨fun h => ?_, grpGo_gives hs, ?_⟩⟩
  · exact Ends.of_done ((exec_grpGo hs).trans (congrArg State.done (State.grpGo_zero h)))
  · exact (xqLookup_gives hs).mono fun t ⟨hseq, honly, hnone, hsome⟩ => ⟨hseq, honly,
      fun h => have ht := hnone h; ⟨ht.found, ht.gain, ht.target, ht.group, ht.law⟩,
      fun x hx => have ht := hsome x hx; ⟨ht.found, ht.gain, ht.target, ht.group, ht.law⟩⟩

end Sys2Proof.Machine
end

section
/-!
PROOF. The decimator groups (R224, R239): what their registers show, and what a write of DEC_GRPk and a clock that stops or returns make of a
group's state.
-/
namespace Sys2Proof.Machine

-- ## The registers

/-- The row of DEC_GRPk (10_decimators.md, Registers). -/
def decGrpRow : RegRow := ⟨0x38010, [(0x4, 4)], [⟨0, 1, .rw, [0]⟩, ⟨1, 1, .rw, [1]⟩, ⟨2, 1, .rw, [0]⟩, ⟨3, 1, .rw, [0]⟩]⟩

theorem findRow_decGrp : ∀ k, k < 4 → findRow (blockRows (R.DEC_GRP k)) (R.DEC_GRP k) = some (decGrpRow, k) := by decide

theorem State.wrRW_decGrp (s : State) {k : Nat} (hk : k < 4) (v : Nat) : (s.wrRW (R.DEC_GRP k) v).is (R.DEC_GRP_Enable k) = bitOf v 0
    ∧ (s.wrRW (R.DEC_GRP k) v).is (R.DEC_GRP_Profile k) = bitOf v 1 :=
  ⟨congrArg (fun x => decide (x = 1)) (s.wrRW_get (findRow_decGrp k hk) (pre := []) rfl (by decide) (by decide) v),
    congrArg (fun x => decide (x = 1)) (s.wrRW_get (findRow_decGrp k hk) (pre := [⟨0, 1, .rw, [0]⟩]) rfl (by decide) (by decide) v)⟩

theorem decGrp_ne_decGstat {k : Nat} (hk : k < 4) (j : Nat) : R.DEC_GRP k ≠ R.DEC_GSTAT j := by unfold R.DEC_GRP R.DEC_GSTAT; omega

theorem decGrp_ne_pba {k : Nat} (hk : k < 4) : R.DEC_GRP k ≠ R.MSIX_PBA 0 := by unfold R.DEC_GRP R.MSIX_PBA; omega

theorem decGstat_ne_pba {k : Nat} (hk : k < 4) : R.DEC_GSTAT k ≠ R.MSIX_PBA 0 := by unfold R.DEC_GSTAT R.MSIX_PBA; omega

theorem decGrp_ne_decStatus (k : Nat) : R.DEC_GRP k ≠ R.DEC_STATUS := by unfold R.DEC_GRP R.DEC_STATUS; omega

theorem decGstat_ne_decStatus (k : Nat) : R.DEC_GSTAT k ≠ R.DEC_STATUS := by unfold R.DEC_GSTAT R.DEC_STATUS; omega

theorem decGstat_ne_clkFault {k : Nat} (hk : k < 4) : R.DEC_GSTAT k ≠ R.CNT_DEC_CLKFAULT := by unfold R.DEC_GSTAT R.CNT_DEC_CLKFAULT; omega

/-- A group's clock depends on the clock outputs, the synthesizers and the timekeeper, whose words lie above the decimators' (R221). -/
theorem State.decOsr_congr {s t : State} (h : ∀ a, 0x60000 ≤ a → t.rd a = s.rd a) (k : Nat) : t.decOsr k = s.decOsr k := by
  have hget : ∀ f : Fld, 0x60000 ≤ f.reg → t.get f = s.get f := fun f hf => State.get_congr (h _ hf)
  have hfs : t.fs = s.fs := congrArg rateHz (hget R.TIME_STATUS_RateNow (by decide))
  have hstatus : ∀ i, t.get (R.CKO_STATUS_Running i) = s.get (R.CKO_STATUS_Running i) := fun i =>
    hget _ (by show 0x60000 ≤ 0x6440c + i * 0x10; omega)
  have hsource : ∀ i, t.get (R.CKO_CFG_Source i) = s.get (R.CKO_CFG_Source i) := fun i =>
    hget _ (by show 0x60000 ≤ 0x64400 + i * 0x10; omega)
  have halign : ∀ i, t.get (R.CKO_CFG_Align i) = s.get (R.CKO_CFG_Align i) := fun i =>
    hget _ (by show 0x60000 ≤ 0x64400 + i * 0x10; omega)
  have hdiv : ∀ i, t.get (R.CKO_DIV_Div i) = s.get (R.CKO_DIV_Div i) := fun i =>
    hget _ (by show 0x60000 ≤ 0x64404 + i * 0x10; omega)
  unfold State.decOsr State.is
  rw [hfs, hget R.DSMCLK_SEL_Srck (by decide), hget (R.MCS_STATUS_State 0) (by decide), hget R.TIME_CTRL_Run (by decide)]
  simp only [hstatus, hsource, halign, hdiv]

-- ## DEC_STATUS and DEC_GSTATk

section
variable {offs : List Nat} {s t : State}

theorem SameRegs.setDec' (h : SameRegs offs s t) {k : Nat} (hk : R.DEC_GSTAT k ∈ offs) (st : Nat) : SameRegs offs s (t.setDec k st) :=
  (h.put' hk _).put' hk _

theorem RegsOnly.setDec' (h : RegsOnly s t) (k st : Nat) : RegsOnly s (t.setDec k st) := (h.put' _ _).put' _ _

theorem SameRegs.decStatus' (h : SameRegs offs s t) (hd : R.DEC_STATUS ∈ offs) : SameRegs offs s t.decStatus := (h.putB' hd _).putB' hd _

theorem RegsOnly.decStatus' (h : RegsOnly s t) : RegsOnly s t.decStatus := (h.putB' _ _).putB' _ _

end

theorem State.decStatus_rd (s : State) {a : Nat} (h : a ≠ R.DEC_STATUS) : s.decStatus.rd a = s.rd a :=
  (State.rd_put_ne _ h _).trans (s.rd_put_ne h _)

theorem State.decStatus_decState (s : State) (k : Nat) : s.decStatus.decState k = s.decState k :=
  State.get_congr (f := R.DEC_GSTAT_State k) (s.decStatus_rd (decGstat_ne_decStatus k))

theorem State.setDec_rd (s : State) {k a : Nat} (h : a ≠ R.DEC_GSTAT k) (st : Nat) : (s.setDec k st).rd a = s.rd a :=
  (State.rd_put_ne _ h _).trans (s.rd_put_ne h _)

/-- A group is in the state it has entered. -/
theorem State.setDec_decState (s : State) (k : Nat) {st : Nat} (h : st < 4) : (s.setDec k st).decState k = st :=
  (State.get_put_bits _ (f := R.DEC_GSTAT_Osr k) (g := R.DEC_GSTAT_State k) rfl (by show 4 ≤ 32; decide) (.inl (by show 2 ≤ 2; decide)) _).trans
    (s.get_put_fit (f := R.DEC_GSTAT_State k) (by show 2 ≤ 32; decide) rfl h)

theorem State.settle_decState (s : State) {k : Nat} (hk : k < 4) : s.settle.decState k = s.decState k :=
  State.settle_get _ (f := R.DEC_GSTAT_State k) (decGstat_ne_pba hk)

-- ## DEC_GRPk

/-- The state in which a write of Enable leaves a group (R224). -/
def State.decNext (s : State) (k : Nat) (enable : Bool) : Nat :=
  if s.is (R.DEC_GRP_Enable k) = enable then s.decState k else if enable then (if (s.decOsr k).isSome then 2 else 1) else 0

section
variable {s : State} {k v : Nat}

/-- A write that would change the profile of a Running group is refused (R239). -/
theorem State.decGrpWrite_refused (hrun : s.decState k = 3) (hprofile : bitOf v 1 ≠ s.is (R.DEC_GRP_Profile k)) :
    s.decGrpWrite k v = s.report (turnedDown 0x10 (R.DEC_GRP k) 0xFF 0) := if_pos ⟨hrun, hprofile⟩

/-- Any other write stores the word, and the group goes where its Enable takes it. -/
theorem State.decGrpWrite_taken (hk : k < 4) (h : ¬ (s.decState k = 3 ∧ bitOf v 1 ≠ s.is (R.DEC_GRP_Profile k))) : ∃ t : State,
    s.decGrpWrite k v = t.decStatus ∧ t.rd (R.DEC_GRP k) = (s.wrRW (R.DEC_GRP k) v).rd (R.DEC_GRP k)
    ∧ t.decState k = s.decNext k (bitOf v 0) := by
  have hstate : (s.wrRW (R.DEC_GRP k) v).decState k = s.decState k :=
    State.get_congr (f := R.DEC_GSTAT_State k) (s.wrRW_rd_ne (decGrp_ne_decGstat hk k).symm v)
  have hosr : (s.wrRW (R.DEC_GRP k) v).decOsr k = s.decOsr k :=
    State.decOsr_congr (fun a ha => s.wrRW_rd_ne (by unfold R.DEC_GRP; omega) v) k
  have hgrp := State.setDec_rd (s.wrRW (R.DEC_GRP k) v) (decGrp_ne_decGstat hk k)
  unfold State.decGrpWrite State.decNext
  rw [if_neg h]
  dsimp only
  rw [hosr]
  cases hwas : s.is (R.DEC_GRP_Enable k) <;> cases hon : bitOf v 0
  · exact ⟨_, rfl, rfl, hstate⟩
  · exact ⟨_, rfl, hgrp _, State.setDec_decState _ _ (by split <;> decide)⟩
  · exact ⟨_, rfl, hgrp _, State.setDec_decState _ _ (by decide)⟩
  · exact ⟨_, rfl, rfl, hstate⟩

end

-- ## The commands

section
variable {s : State} {k : Nat} (hs : Ready s) (hk : k < 4)
include hs hk

theorem exec_decGrpWrite {v : Nat} (hv : v < 2 ^ 32) : exec (.decGrpWrite k v) s = (s.decGrpWrite k v).done :=
  s.accept_live _ _ (Bool.and_eq_true_iff.mpr ⟨decide_eq_true hk, decide_eq_true hv⟩) hs

theorem exec_decClockFault : exec (.decClockFault k) s
    = (if 2 ≤ s.decState k ∧ s.decOsr k = none then ((s.setDec k 1).bump R.CNT_DEC_CLKFAULT_Count).decStatus else s).done := by
  refine (s.accept_live _ _ (decide_eq_true hk) hs).trans ?_
  simp only [Option.isNone_iff_eq_none]

theorem exec_decClockValid : exec (.decClockValid k) s
    = (if s.decState k = 1 ∧ (s.decOsr k).isSome then (s.setDec k 2).decStatus else s).done := s.accept_live _ _ (decide_eq_true hk) hs

theorem decGrpWrite_gives {v : Nat} (hv : v < 2 ^ 32) (h : ¬ (s.decState k = 3 ∧ bitOf v 1 ≠ s.is (R.DEC_GRP_Profile k))) :
    Gives (.decGrpWrite k v) s (fun t => t.is (R.DEC_GRP_Enable k) = bitOf v 0 ∧ t.is (R.DEC_GRP_Profile k) = bitOf v 1
      ∧ t.decState k = s.decNext k (bitOf v 0)) := by
  obtain ⟨t, hwrite, hgrp, hnext⟩ := State.decGrpWrite_taken hk h
  obtain ⟨henable, hprofile⟩ := s.wrRW_decGrp hk v
  have hword : t.decStatus.settle.rd (R.DEC_GRP k) = (s.wrRW (R.DEC_GRP k) v).rd (R.DEC_GRP k) :=
    (State.settle_rd _ (decGrp_ne_pba hk)).trans ((t.decStatus_rd (decGrp_ne_decStatus k)).trans hgrp)
  refine Gives.of_done ((exec_decGrpWrite hs hk hv).trans (congrArg State.done hwrite)) ⟨?_, ?_, ?_⟩
  · exact (State.is_congr (f := R.DEC_GRP_Enable k) hword).trans henable
  · exact (State.is_congr (f := R.DEC_GRP_Profile k) hword).trans hprofile
  · rw [State.settle_decState _ hk, State.decStatus_decState, hnext]

theorem decClockFault_idle (h : ¬ (2 ≤ s.decState k ∧ s.decOsr k = none)) : Ends (.decClockFault k) s s :=
  Ends.of_done ((exec_decClockFault hs hk).trans (congrArg State.done (if_neg h)))

theorem decClockFault_gives (hon : 2 ≤ s.decState k) (hclock : s.decOsr k = none) : Gives (.decClockFault k) s (fun t => t.decState k = 1
    ∧ t.get R.CNT_DEC_CLKFAULT_Count = (s.get R.CNT_DEC_CLKFAULT_Count + 1) % 2 ^ 32
    ∧ OnlyRegs [R.DEC_GSTAT k, R.CNT_DEC_CLKFAULT, R.DEC_STATUS] s t) := by
  refine Gives.of_done ((exec_decClockFault hs hk).trans (congrArg State.done (if_pos ⟨hon, hclock⟩))) ⟨?_, ?_, ?_⟩
  · rw [State.settle_decState _ hk, State.decStatus_decState]
    have hcount := (s.setDec k 1).rd_bump_ne (f := R.CNT_DEC_CLKFAULT_Count) (decGstat_ne_clkFault hk)
    exact (State.get_congr (f := R.DEC_GSTAT_State k) hcount).trans (s.setDec_decState k (by decide))
  · rw [State.settle_get _ (by decide), State.get_congr (State.decStatus_rd _ (by decide)), State.get_bump_same _ _ (by decide),
      State.get_congr (f := R.CNT_DEC_CLKFAULT_Count) (s.setDec_rd (decGstat_ne_clkFault hk).symm 1)]
    rfl
  · refine OnlyRegs.settle' (.of_regs (SameRegs.decStatus' (SameRegs.put' ?_ ?_ _) ?_) ((((RegsOnly.refl' s).setDec' k 1).put' _ _).decStatus'))
    · exact (SameRegs.refl' _ s).setDec' List.mem_cons_self 1
    · exact List.mem_cons_of_mem _ List.mem_cons_self
    · exact List.mem_cons_of_mem _ (List.mem_cons_of_mem _ List.mem_cons_self)

theorem decClockValid_idle (h : ¬ (s.decState k = 1 ∧ (s.decOsr k).isSome)) : Ends (.decClockValid k) s s :=
  Ends.of_done ((exec_decClockValid hs hk).trans (congrArg State.done (if_neg h)))

theorem decClockValid_gives (hfault : s.decState k = 1) (hclock : (s.decOsr k).isSome) :
    Gives (.decClockValid k) s (fun t => t.decState k = 2 ∧ OnlyRegs [R.DEC_GSTAT k, R.DEC_STATUS] s t) := by
  refine Gives.of_done ((exec_decClockValid hs hk).trans (congrArg State.done (if_pos ⟨hfault, hclock⟩))) ⟨?_, ?_⟩
  · rw [State.settle_decState _ hk, State.decStatus_decState, State.setDec_decState _ _ (by decide)]
  · refine OnlyRegs.settle' (.of_regs (SameRegs.decStatus' ?_ ?_) ((RegsOnly.refl' s).setDec' k 2).decStatus')
    · exact (SameRegs.refl' _ s).setDec' List.mem_cons_self 2
    · exact List.mem_cons_of_mem _ List.mem_cons_self

end

end Sys2Proof.Machine
end

section
/-!
PROOF. Syncs, the clear point and settling (R234, R235): what asks for a sync, which chains start from cleared state, and when an input is Settled.
-/
namespace Sys2Proof.Machine

-- ## States that differ in the decimators

/-- Where a state differs from s in the decimators alone, what changes from it on but in listed words is the decimators' own. -/
theorem OnlyRegs.dec_back {offs : List Nat} {s u t : State} (hu : ({ u with dec := s.dec } : State) = s) (h : OnlyRegs offs u t) :
    OnlyRegs offs s { t with dec := s.dec } := by
  have hback := h.restore (fun v => { v with dec := s.dec }) (fun _ _ _ _ => rfl)
  rwa [hu] at hback

theorem State.din_congr {s t : State} (h : t.dec = s.dec) (k : Nat) : t.din k = s.din k := by unfold State.din; rw [h]

theorem State.decState_congr {s t : State} (h : t.regs = s.regs) (g : Nat) : t.decState g = s.decState g :=
  State.get_congr (f := R.DEC_GSTAT_State g) (by unfold State.rd; rw [h])

-- ## Requests for a sync

/-- An edge asks for a sync for the next pick, once (R235). -/
def State.pinAsked (s : State) : State :=
  { s with dec := { s.dec with pin := if s.dec.pin.contains (s.time.pick + 1) then s.dec.pin else s.dec.pin ++ [s.time.pick + 1] } }

theorem State.pinAsked_mem (s : State) : s.time.pick + 1 ∈ s.pinAsked.dec.pin ∧ ∀ p ∈ s.dec.pin, p ∈ s.pinAsked.dec.pin := by
  unfold State.pinAsked
  dsimp only
  split
  next hasked => exact ⟨List.contains_iff_mem.mp hasked, fun _ hp => hp⟩
  next => exact ⟨List.mem_append_right _ (List.mem_singleton_self _), fun _ hp => List.mem_append_left _ hp⟩

-- ## The clear point

/-- A chain in cleared state; the DC blocker and the integer delay are cleared at the commit (R234). -/
def DinSt.cleared (d : DinSt) : DinSt := { d with ints := [0, 0, 0, 0, 0], combs := [0, 0, 0, 0, 0], bits := [], h1 := [], h2 := [], h3 := [] }

/-- Input k starts from cleared state where its group is Running. -/
def State.clearDin (k : Nat) (t : State) : State := if t.decState (k / 16) = 3 then t.updDin k DinSt.cleared else t

/-- Every input of a Running group in cleared state, and no clear point ahead. -/
def State.cleared (s : State) : State :=
  { s.forN 64 State.clearDin with dec := { (s.forN 64 State.clearDin).dec with clear := none } }

section
variable (s : State)

theorem State.clearDin_regs (k : Nat) : (s.clearDin k).regs = s.regs := by
  unfold State.clearDin
  split <;> rfl

theorem State.clearDin_din (k : Nat) : (s.clearDin k).din k = if s.decState (k / 16) = 3 then (s.din k).cleared else s.din k := by
  unfold State.clearDin
  split
  · exact tget_tupd_same _ _ _ _
  · rfl

theorem State.clearDin_din_ne {i k : Nat} (h : i ≠ k) : (s.clearDin i).din k = s.din k := by
  unfold State.clearDin
  split
  · exact tget_tput_ne _ h.symm _ _
  · rfl

theorem State.clearDin_rest (d : DecSt) (k : Nat) : ({ s.clearDin k with dec := d } : State) = { s with dec := d } := by
  unfold State.clearDin
  split <;> rfl

theorem State.cleared_rest : ({ s.cleared with dec := s.dec } : State) = s :=
  State.forN_keeps (fun t => ({ t with dec := s.dec } : State)) 64 _ (fun k _ t => t.clearDin_rest s.dec k) s

theorem State.cleared_din {k : Nat} (hk : k < 64) : s.cleared.din k = if s.decState (k / 16) = 3 then (s.din k).cleared else s.din k := by
  obtain ⟨u, hu, hend⟩ := State.forN_at (p := fun t => (t.din k, t.regs)) (f := State.clearDin) hk
    (fun i hi t => Prod.ext (t.clearDin_din_ne hi) (t.clearDin_regs i)) s
  obtain ⟨hdin, hregs⟩ := Prod.mk.inj hu
  exact (congrArg Prod.fst hend).trans (by rw [State.clearDin_din, hdin, State.decState_congr hregs])

end

section
variable {s : State}

theorem State.decClear_none (h : s.dec.clear = none) : s.decClear = s := by
  unfold State.decClear
  rw [h]

theorem State.decClear_ahead {c : Nat} (h : s.dec.clear = some c) (hlt : s.time.pick < c) : s.decClear = s := by
  unfold State.decClear
  rw [h]
  exact if_pos hlt

theorem State.decClear_reached {c : Nat} (h : s.dec.clear = some c) (hle : c ≤ s.time.pick) : s.decClear = s.cleared.decStatus := by
  unfold State.decClear
  rw [h]
  exact if_neg (Nat.not_lt.mpr hle)

end

-- ## Settling

theorem dinStatus_ne_decStatus (k : Nat) : R.DIN_STATUS k ≠ R.DEC_STATUS := by unfold R.DIN_STATUS R.DEC_STATUS; omega

theorem dinStatus_ne_pba {k : Nat} (hk : k < 64) : R.DIN_STATUS k ≠ R.MSIX_PBA 0 := by unfold R.DIN_STATUS R.MSIX_PBA; omega

/-- The pick from which input k is Settled after a sync for pick p (R234). -/
abbrev State.settledFrom (s : State) (k p : Nat) : Nat := p + settleLen (s.get (R.DEC_GRP_Profile (k / 16))) + s.get (R.DIN_STATUS_IntDelayNow k)

/-- Input k is shown Settled. -/
def State.dinSettled (s : State) (k : Nat) : State := (s.put (R.DIN_STATUS_Settled k) 1).decStatus

theorem State.dinSettled_onlyRegs (s : State) (k : Nat) : OnlyRegs [R.DIN_STATUS k, R.DEC_STATUS] s (s.dinSettled k) :=
  .of_regs (((SameRegs.refl' _ s).put' (f := R.DIN_STATUS_Settled k) List.mem_cons_self 1).decStatus' (List.mem_cons_of_mem _ List.mem_cons_self))
    ((RegsOnly.refl' s).put' _ _).decStatus'

theorem State.dinSettled_settled (s : State) (k : Nat) : (s.dinSettled k).is (R.DIN_STATUS_Settled k) = true :=
  (State.is_congr (f := R.DIN_STATUS_Settled k) (State.decStatus_rd _ (dinStatus_ne_decStatus k))).trans
    (s.is_put_one (f := R.DIN_STATUS_Settled k) (by show 16 ≤ 32; decide) rfl)

-- ## The commands

section
variable {s : State} (hs : Ready s)
include hs

theorem exec_decSyncNow : exec .decSyncNow s = ({ s with dec := { s.dec with syncNow := true } } : State).done := by
  show execDecSyncNow s = _
  unfold execDecSyncNow
  rw [State.live_live _ _ hs]

theorem exec_dsmSyncEdge (falling : Bool) : exec (.dsmSyncEdge falling) s
    = (if s.is R.DEC_CTRL_SyncPinEn = true ∧ falling = s.is R.DEC_CTRL_SyncPol ∧ s.time.running = true then s.pinAsked else s).done := by
  show execDsmSyncEdge falling s = _
  unfold execDsmSyncEdge
  rw [State.live_live _ _ hs]
  rfl

theorem exec_decClearPoint : exec .decClearPoint s = s.decClear.done := by
  show execDecClearPoint s = _
  unfold execDecClearPoint
  rw [State.live_live _ _ hs]

theorem exec_decSettled_unsynced {k : Nat} (hk : k < 64) (h : s.dec.pick = none) : exec (.decSettled k) s = s.done := by
  refine (s.accept_live _ _ (decide_eq_true hk) hs).trans ?_
  rw [h]

theorem exec_decSettled {k p : Nat} (hk : k < 64) (h : s.dec.pick = some p) : exec (.decSettled k) s
    = (if s.decState (k / 16) = 3 ∧ s.settledFrom k p ≤ s.time.pick then s.dinSettled k else s).done := by
  refine (s.accept_live _ _ (decide_eq_true hk) hs).trans ?_
  rw [h]
  rfl

theorem dsmSyncEdge_idle {falling : Bool}
    (h : ¬ (s.is R.DEC_CTRL_SyncPinEn = true ∧ falling = s.is R.DEC_CTRL_SyncPol ∧ s.time.running = true)) : Ends (.dsmSyncEdge falling) s s :=
  Ends.of_done ((exec_dsmSyncEdge hs falling).trans (congrArg State.done (if_neg h)))

theorem dsmSyncEdge_gives (hpin : s.is R.DEC_CTRL_SyncPinEn = true) (hrun : s.time.running = true) :
    Gives (.dsmSyncEdge (s.is R.DEC_CTRL_SyncPol)) s (fun t => s.time.pick + 1 ∈ t.dec.pin ∧ (∀ p ∈ s.dec.pin, p ∈ t.dec.pin)
      ∧ OnlyRegs [] s { t with dec := s.dec }) := by
  obtain ⟨hnew, hold⟩ := s.pinAsked_mem
  have honly : OnlyRegs [] s.pinAsked s.pinAsked.settle := (OnlyRegs.of_regs (SameRegs.refl' _ _) (RegsOnly.refl' _)).settle'
  refine Gives.of_done ((exec_dsmSyncEdge hs _).trans (congrArg State.done (if_pos ⟨hpin, rfl, hrun⟩))) ?_
  rw [State.settle_dec]
  exact ⟨hnew, hold, OnlyRegs.dec_back (u := s.pinAsked) rfl honly⟩

theorem decClearPoint_idle (h : s.decClear = s) : Ends .decClearPoint s s := Ends.of_done ((exec_decClearPoint hs).trans (congrArg State.done h))

/-- At the clear point the inputs of Running groups start from cleared state, and the others keep theirs (R234). -/
theorem decClearPoint_gives {c : Nat} (h : s.dec.clear = some c) (hle : c ≤ s.time.pick) : Gives .decClearPoint s (fun t => t.dec.clear = none
    ∧ (∀ k, k < 64 → t.din k = if s.decState (k / 16) = 3 then (s.din k).cleared else s.din k)
    ∧ OnlyRegs [R.DEC_STATUS] s { t with dec := s.dec }) := by
  have hdec : s.cleared.decStatus.settle.dec = s.cleared.dec := State.settle_dec _
  have honly : OnlyRegs [R.DEC_STATUS] s.cleared s.cleared.decStatus.settle :=
    (OnlyRegs.of_regs ((SameRegs.refl' _ _).decStatus' List.mem_cons_self) (RegsOnly.refl' _).decStatus').settle'
  refine Gives.of_done ((exec_decClearPoint hs).trans (congrArg State.done (State.decClear_reached h hle))) ⟨?_, fun k hk => ?_, ?_⟩
  · rw [hdec]
    rfl
  · rw [State.din_congr hdec, s.cleared_din hk]
  · exact OnlyRegs.dec_back s.cleared_rest honly

theorem decSettled_idle {k p : Nat} (hk : k < 64) (hp : s.dec.pick = some p)
    (h : ¬ (s.decState (k / 16) = 3 ∧ s.settledFrom k p ≤ s.time.pick)) : Ends (.decSettled k) s s :=
  Ends.of_done ((exec_decSettled hs hk hp).trans (congrArg State.done (if_neg h)))

theorem decSettled_gives {k p : Nat} (hk : k < 64) (hp : s.dec.pick = some p) (hrun : s.decState (k / 16) = 3)
    (hdue : s.settledFrom k p ≤ s.time.pick) :
    Gives (.decSettled k) s (fun t => t.is (R.DIN_STATUS_Settled k) = true ∧ OnlyRegs [R.DIN_STATUS k, R.DEC_STATUS] s t) := by
  refine Gives.of_done ((exec_decSettled hs hk hp).trans (congrArg State.done (if_pos ⟨hrun, hdue⟩))) ⟨?_, (s.dinSettled_onlyRegs k).settle'⟩
  exact (State.settle_is _ (f := R.DIN_STATUS_Settled k) (dinStatus_ne_pba hk)).trans (s.dinSettled_settled k)

end

/-- Settles O34: the groups by the state each write and clock change leads to, syncs by what asks for one, and the clear point by the chains that
start from cleared state. -/
theorem decimators : Obligations.Decimators := by
  refine ⟨fun s k v hs hk hv => ⟨fun hrun hprofile => ?_, decGrpWrite_gives hs hk hv, decClockFault_idle hs hk, decClockFault_gives hs hk,
      decClockValid_idle hs hk, decClockValid_gives hs hk, Ends.of_done (exec_decSyncNow hs), fun _ => dsmSyncEdge_idle hs, dsmSyncEdge_gives hs⟩,
    fun s hs => ⟨fun h => decClearPoint_idle hs (State.decClear_none h), fun c h hlt => decClearPoint_idle hs (State.decClear_ahead h hlt),
      fun c h hle => ?_, fun k hk h => Ends.of_done (exec_decSettled_unsynced hs hk h),
      fun k p hk hp => ⟨decSettled_idle hs hk hp, decSettled_gives hs hk hp⟩⟩⟩
  · exact Ends.of_done ((exec_decGrpWrite hs hk hv).trans (congrArg State.done (State.decGrpWrite_refused hrun hprofile)))
  · refine (decClearPoint_gives hs h hle).mono fun t ⟨hclear, hdin, honly⟩ => ⟨hclear, fun k hk hrun => ?_, fun k hk hrun => ?_, honly⟩
    · rw [hdin k hk, if_pos hrun]
      exact ⟨rfl, rfl, rfl, rfl, rfl, rfl, rfl⟩
    · rw [hdin k hk, if_neg hrun]

end Sys2Proof.Machine
end

section
/-!
PROOF. The detector window (R256, R257): what Read shows, what Write stores, and what ClearMax sets.
-/
namespace Sys2Proof.Machine

-- ## The result register of a window: the code in its low byte, the count of results in its high half

section
variable (s : State) (r off c aux : Nat)

theorem State.resultErr_code : (s.resultErr ⟨r, 0, 8⟩ ⟨r, 16, 16⟩ off c aux).get ⟨r, 0, 8⟩ = c % 2 ^ 8 :=
  (State.get_congr (s.resultErr_rd c off aux r)).trans
    (s.result_code c (Nat.le_of_ble_eq_true rfl) (Nat.le_of_ble_eq_true rfl) (.inr (.inl (Nat.le_of_ble_eq_true rfl))))

theorem State.resultErr_seq : (s.resultErr ⟨r, 0, 8⟩ ⟨r, 16, 16⟩ off c aux).get ⟨r, 16, 16⟩ = (s.get ⟨r, 16, 16⟩ + 1) % 2 ^ 16 :=
  (State.get_congr (s.resultErr_rd c off aux r)).trans
    (s.result_seq c (Nat.le_of_ble_eq_true rfl) (Nat.le_of_ble_eq_true rfl) (.inr (.inr (Nat.le_of_ble_eq_true rfl))))

end

/-- Words put from an offset on are read back in their places. -/
theorem State.wrWords_rd_at (ws : List (BitVec 32)) :
    ∀ (s : State) (b : Nat) {i : Nat} (h : i < ws.length), (s.wrWords b ws).rd (b + 4 * i) = ws[i] := by
  induction ws with
  | nil => exact fun s b i h => absurd h (Nat.not_lt_zero i)
  | cons w ws ih =>
    intro s b i h
    cases i with
    | zero => exact (State.wrWords_rd_below ws _ (Nat.lt_add_of_pos_right (by decide))).trans (s.rd_wr_same b w)
    | succ i =>
      have hoff : b + 4 * (i + 1) = b + 4 + 4 * i := by omega
      rw [hoff]
      exact ih (s.wr b w) (b + 4) (Nat.lt_of_succ_lt_succ h)

-- ## Entries of the detector table

/-- The entry that DT_SEL selects. -/
abbrev State.dtSel (s : State) : Nat := s.get R.DT_SEL_Entry

/-- The words of the configuration window. -/
abbrev State.dtWindow (s : State) : List (BitVec 32) := s.rdWords R.DT_CFG 6

theorem State.detEnt_congr {s t : State} (h : t.det = s.det) (e : Nat) : t.detEnt e = s.detEnt e := by unfold State.detEnt; rw [h]

theorem State.detEnt_updDet_same (s : State) (e : Nat) (f : Det → Det) : (s.updDet e f).detEnt e = f (s.detEnt e) := tget_tupd_same _ _ _ _

theorem State.detEnt_updDet_ne (s : State) {e k : Nat} (h : k ≠ e) (f : Det → Det) : (s.updDet e f).detEnt k = s.detEnt k := tget_tput_ne _ h _ _

theorem State.mark_det (s : State) (k : Nat) : (s.mark k).det = s.det := by
  unfold State.mark
  split <;> rfl

-- ## Results

section
variable (s : State) (c : Nat)

theorem State.dtResult_code : (s.dtResult c).get R.DT_RESULT_Code = c % 2 ^ 8 := s.resultErr_code _ _ _ _

theorem State.dtResult_rd {a : Nat} (h : a ≠ R.DT_RESULT) : (s.dtResult c).rd a = s.rd a :=
  s.resultErr_rd_ne (code := R.DT_RESULT_Code) (seq := R.DT_RESULT_Seq) rfl R.DT_CMD c _ h

@[simp] theorem State.dtResult_det : (s.dtResult c).det = s.det := s.resultErr_keeps c (p := State.det) State.put_det State.report_det _ _

end

-- ## Read, Write and ClearMax

/-- The windows of an entry as DT_CMD.Read loads them. -/
def State.dtLoad (s : State) : State :=
  (s.wrWords R.DT_CFG (s.detEnt s.dtSel).cfg).wrWords R.DT_PEAK (s.detEnt s.dtSel).levels

theorem State.dtLoad_regsOnly (s : State) : RegsOnly s s.dtLoad := ((RegsOnly.refl' s).wrWords' _ _).wrWords' _ _

/-- The status window shows the levels of the entry in order. -/
theorem State.dtLoad_rd (s : State) {i : Nat} (h : i < 6) : s.dtLoad.rd (R.DT_PEAK + 4 * i) = (s.detEnt s.dtSel).levels[i] :=
  State.wrWords_rd_at _ _ _ h

/-- Past the result register, the windows outlive the result and the end of the command. -/
theorem State.dtLoad_shown (s : State) {a : Nat} (hres : R.DT_RESULT < a) (hpba : a < R.MSIX_PBA 0) :
    (s.dtLoad.dtResult 0).settle.rd a = s.dtLoad.rd a :=
  (State.settle_rd _ hpba.ne).trans (s.dtLoad.dtResult_rd 0 hres.ne')

theorem State.dtLoad_level (s : State) {i v : Nat} (hi : i < 6) (hv : (s.detEnt s.dtSel).levels[i] = BitVec.ofNat 32 v) :
    (s.dtLoad.dtResult 0).settle.get ⟨R.DT_PEAK + 4 * i, 0, 32⟩ = v % 2 ^ 32 := by
  have hplace : R.DT_RESULT < R.DT_PEAK + 4 * i ∧ R.DT_PEAK + 4 * i < R.MSIX_PBA 0 := by
    unfold R.DT_RESULT R.DT_PEAK R.MSIX_PBA
    omega
  obtain ⟨hres, hpba⟩ := hplace
  rw [State.get, s.dtLoad_shown hres hpba, s.dtLoad_rd hi, hv]
  simp [bitsOf]

/-- Bit 0 of the flags is Over, whatever Limiting is. -/
theorem State.dtLoad_over (s : State) : (s.dtLoad.dtResult 0).settle.is R.DT_FLAGS_Over = (s.detEnt s.dtSel).val.ovr := by
  have hbit : ∀ o l : Bool,
      decide (bitsOf (BitVec.ofNat 32 ((if o then 1 else 0) + (if l then 2 else 0))).toNat 0 1 = 1) = o := by decide
  have hflags : s.dtLoad.rd R.DT_FLAGS = _ := s.dtLoad_rd (i := 5) (by decide)
  have hover := hbit (s.detEnt s.dtSel).val.ovr (decide ((s.detEnt s.dtSel).val.g < 2 ^ 28))
  rw [State.is_congr (f := R.DT_FLAGS_Over) (s.dtLoad_shown (by decide) (by decide))]
  unfold State.is State.get
  rw [show R.DT_FLAGS_Over.reg = R.DT_FLAGS from rfl, hflags]
  simp only [decide_eq_true_eq] at hover
  exact hover

/-- The codes of R256 fit the result register. -/
theorem dtCheck_lt (e : Nat) (ws : List (BitVec 32)) : dtCheck e ws < 2 ^ 8 := by
  unfold dtCheck
  split_ifs <;> decide

section
variable {s : State}

theorem State.dtReadCmd_beyond (h : 8255 < s.dtSel) : s.dtReadCmd = s.dtResult 1 := if_pos h

theorem State.dtReadCmd_within (h : s.dtSel ≤ 8255) : s.dtReadCmd = s.dtLoad.dtResult 0 := if_neg (Nat.not_lt.mpr h)

theorem State.dtClearCmd_beyond (h : 8255 < s.dtSel) : s.dtClearCmd = s.dtResult 1 := if_pos h

theorem State.dtClearCmd_within (h : s.dtSel ≤ 8255) :
    s.dtClearCmd = (s.updDet s.dtSel (fun d => { d with top := d.val.p })).dtResult 0 := if_neg (Nat.not_lt.mpr h)

theorem State.dtWriteCmd_refused (h : dtCheck s.dtSel s.dtWindow ≠ 0) : s.dtWriteCmd = s.dtResult (dtCheck s.dtSel s.dtWindow) := by
  unfold State.dtWriteCmd State.dtWrite
  simp only [h, if_false, if_true, ne_eq, not_false_eq_true]

/-- Words that pass the check are stored in the selected entry and mark its window (R49). -/
theorem State.dtWriteCmd_passes (h : dtCheck s.dtSel s.dtWindow = 0) :
    ∃ k, s.dtWriteCmd = ((s.updDet s.dtSel (fun d => { d with cfg := s.dtWindow })).mark k).dtResult 0 := by
  unfold State.dtWriteCmd State.dtWrite
  simp only [h, if_true, if_false, ne_eq, not_true_eq_false]
  exact ⟨_, rfl⟩

end

-- ## The commands

/-- A command whose entry is out of range answers the code Range, and is recorded (R256). -/
theorem dtCommand_beyond {s : State} {c : Instr} (h : exec c s = (s.dtResult 1).done) : Gives c s (fun t => t.get R.DT_RESULT_Code = 1
    ∧ t.det = s.det ∧ t.errWait = s.errWait ++ [turnedDown 0x10 R.DT_CMD 1 s.dtSel]) := by
  refine Gives.of_done h ⟨?_, ?_, ?_⟩
  · exact (State.settle_get _ (by decide)).trans (s.dtResult_code 1)
  · rw [State.settle_det, State.dtResult_det]
  · rw [State.settle_errWait]
    exact s.resultErr_errWait one_ne_zero _ _

section
variable {s : State} (hs : Ready s)
include hs

theorem exec_dtRead : exec .dtRead s = s.dtReadCmd.done := by
  show execDtRead s = _
  unfold execDtRead
  rw [State.live_live _ _ hs]

theorem exec_dtWrite : exec .dtWrite s = s.dtWriteCmd.done := by
  show execDtWrite s = _
  unfold execDtWrite
  rw [State.live_live _ _ hs]

theorem exec_dtClearMax : exec .dtClearMax s = s.dtClearCmd.done := by
  show execDtClearMax s = _
  unfold execDtClearMax
  rw [State.live_live _ _ hs]

/-- Read shows the selected entry's levels, whatever its configuration words are (R256). -/
theorem dtRead_gives (h : s.dtSel ≤ 8255) : Gives .dtRead s (fun t => t.det = s.det ∧ t.get R.DT_PEAK_P = (s.detEnt s.dtSel).val.p % 2 ^ 32
    ∧ t.get R.DT_PEAKMAX_PeakMax = (s.detEnt s.dtSel).top % 2 ^ 32 ∧ t.get R.DT_GAIN_G = (s.detEnt s.dtSel).val.g % 2 ^ 32
    ∧ t.is R.DT_FLAGS_Over = (s.detEnt s.dtSel).val.ovr ∧ t.get R.DT_RESULT_Code = 0) := by
  have hexec := exec_dtRead hs
  rw [State.dtReadCmd_within h] at hexec
  refine Gives.of_done hexec ⟨?_, s.dtLoad_level (i := 0) (by decide) rfl, s.dtLoad_level (i := 1) (by decide) rfl,
    s.dtLoad_level (i := 4) (by decide) rfl, s.dtLoad_over, ?_⟩
  · rw [State.settle_det, State.dtResult_det, s.dtLoad_regsOnly.det]
  · rw [State.settle_get _ (by decide), State.dtResult_code, Nat.zero_mod]

/-- ClearMax sets the selected entry's PeakMax to its peak (R257). -/
theorem dtClearMax_gives (h : s.dtSel ≤ 8255) : Gives .dtClearMax s (fun t =>
    t.detEnt s.dtSel = { s.detEnt s.dtSel with top := (s.detEnt s.dtSel).val.p } ∧ (∀ k, k ≠ s.dtSel → t.detEnt k = s.detEnt k)
    ∧ t.get R.DT_RESULT_Code = 0) := by
  have hexec := exec_dtClearMax hs
  rw [State.dtClearCmd_within h] at hexec
  have hent : ∀ (u : State) k, (u.dtResult 0).settle.detEnt k = u.detEnt k := fun u k =>
    State.detEnt_congr ((State.settle_det _).trans (u.dtResult_det 0)) k
  refine Gives.of_done hexec ⟨(hent _ _).trans (s.detEnt_updDet_same _ _), fun k hk => (hent _ _).trans (s.detEnt_updDet_ne hk _), ?_⟩
  rw [State.settle_get _ (by decide), State.dtResult_code, Nat.zero_mod]

/-- Write answers the code of the check and stores the words where it passes (R256). -/
theorem dtWrite_gives : Gives .dtWrite s (fun t => t.get R.DT_RESULT_Code = dtCheck s.dtSel s.dtWindow
    ∧ (dtCheck s.dtSel s.dtWindow ≠ 0 → t.det = s.det) ∧ (dtCheck s.dtSel s.dtWindow = 0 → (t.detEnt s.dtSel).cfg = s.dtWindow)) := by
  by_cases h : dtCheck s.dtSel s.dtWindow = 0
  · obtain ⟨k, hk⟩ := State.dtWriteCmd_passes h
    refine Gives.of_done (exec_dtWrite hs) ⟨?_, fun hne => absurd h hne, fun _ => ?_⟩
    · rw [State.settle_get _ (by decide), hk, State.dtResult_code, Nat.zero_mod, h]
    · rw [State.detEnt_settle, hk, State.detEnt_congr ((State.dtResult_det _ _).trans (State.mark_det _ _)), State.detEnt_updDet_same]
  · have hc := State.dtWriteCmd_refused h
    refine Gives.of_done (exec_dtWrite hs) ⟨?_, fun _ => ?_, fun h0 => absurd h0 h⟩
    · rw [State.settle_get _ (by decide), hc, State.dtResult_code, Nat.mod_eq_of_lt (dtCheck_lt _ _)]
    · rw [State.settle_det, hc, State.dtResult_det]

end

end Sys2Proof.Machine
end

section
/-!
PROOF. The over log (R260): a read of OV_INFO pops its oldest record; and the statement on the detector window.
-/
namespace Sys2Proof.Machine

/-- The words a read of OV_INFO latches (R260). -/
def overWords : List Nat := [R.OV_INFO, R.OV_PICK_LO, R.OV_PICK_HI]

/-- The state in which an over record's entry and pick are latched. -/
def State.ovLatch (s : State) (k n : Nat) : State :=
  ((s.put R.OV_INFO_Entry k).put R.OV_INFO_Valid 1).put64 R.OV_PICK_LO_Pick R.OV_PICK_HI_Pick n

/-- The state in which the words of OV_INFO are latched as zeros. -/
def State.ovLatchNone (s : State) : State := (s.wr R.OV_INFO 0#32).put64 R.OV_PICK_LO_Pick R.OV_PICK_HI_Pick 0

/-- The over log's oldest record is gone. -/
def State.ovRest (s : State) (r : List (Nat × Nat)) : State := { s with det := { s.det with log := r } }

section
variable (s : State) (k n : Nat)

theorem State.ovLatch_regsOnly : RegsOnly s (s.ovLatch k n) := (((RegsOnly.refl' s).put' _ _).put' _ _).put64' _ _ _

theorem State.ovLatch_onlyRegs : OnlyRegs overWords s (s.ovLatch k n) :=
  .of_regs ((((SameRegs.refl' _ s).put' (by decide) _).put' (by decide) _).put64' (by decide) (by decide) _) (s.ovLatch_regsOnly k n)

theorem State.ovLatch_shows : (s.ovLatch k n).get R.OV_INFO_Entry = k % 2 ^ 14 ∧ (s.ovLatch k n).is R.OV_INFO_Valid = true
    ∧ (s.ovLatch k n).get R.OV_PICK_LO_Pick = n % 2 ^ 32 := by
  unfold State.ovLatch
  refine ⟨?_, ?_, State.get_put64_lo _ _ (by decide) rfl (by decide)⟩
  · rw [State.get_put64_ne _ (by decide) (by decide), State.get_put_ne _ (by decide) (by decide)]
    exact State.get_put_same _ _ _ (by decide)
  · rw [State.is, State.get_put64_ne _ (by decide) (by decide)]
    exact State.is_put_one _ (by decide) rfl

theorem State.ovLatchNone_onlyRegs : OnlyRegs overWords s s.ovLatchNone := by
  have hinfo : SameRegs overWords s (s.wr R.OV_INFO 0#32) := fun a ha _ => s.rd_wr_ne (fun e => ha (by rw [e]; exact List.mem_cons_self)) _
  have hrest : RegsOnly s (s.wr R.OV_INFO 0#32) := rfl
  exact .of_regs (hinfo.put64' (by decide) (by decide) _) (hrest.put64' _ _ _)

theorem State.ovLatchNone_outbox : s.ovLatchNone.outbox = s.outbox := by
  unfold State.ovLatchNone
  rw [State.put64_outbox, State.wr_outbox]

end

/-- Where a state differs from s in the detectors alone, what changes from it on but in listed words is the detectors' own. -/
theorem OnlyRegs.det_back {offs : List Nat} {s u t : State} (hu : ({ u with det := s.det } : State) = s) (h : OnlyRegs offs u t) :
    OnlyRegs offs s { t with det := s.det } := by
  have hback := h.restore (fun v => { v with det := s.det }) (fun _ _ _ _ => rfl)
  rwa [hu] at hback

section
variable {s : State} (hs : Ready s)
include hs

theorem exec_ovInfoPop_empty (h : s.det.log = []) : exec .ovInfoPop s = (s.ovLatchNone.send (.readData R.OV_INFO 0)).done := by
  show execOvInfoPop s = _
  unfold execOvInfoPop State.ovPop
  rw [State.live_live _ _ hs, h]
  rfl

theorem exec_ovInfoPop {k n : Nat} {r : List (Nat × Nat)} (h : s.det.log = (k, n) :: r) : exec .ovInfoPop s =
    (((s.ovRest r).ovLatch k n).send (.readData R.OV_INFO (((s.ovRest r).ovLatch k n).rd R.OV_INFO).toNat)).done := by
  show execOvInfoPop s = _
  unfold execOvInfoPop State.ovPop
  rw [State.live_live _ _ hs, h]
  rfl

/-- A read of OV_INFO that finds no record answers 0. -/
theorem ovInfoPop_empty (h : s.det.log = []) : Gives .ovInfoPop s (fun t => Sends [.readData R.OV_INFO 0] s t ∧ OnlyRegs overWords s t) :=
  Gives.of_done (exec_ovInfoPop_empty hs h)
    ⟨Sends.settle' (by rw [State.send_outbox, State.ovLatchNone_outbox]), (s.ovLatchNone_onlyRegs.send' _).settle'⟩

/-- A read of OV_INFO removes the oldest record and latches its words. -/
theorem ovInfoPop_gives {k n : Nat} {r : List (Nat × Nat)} (h : s.det.log = (k, n) :: r) : Gives .ovInfoPop s (fun t =>
    t.det = { s.det with log := r } ∧ t.get R.OV_INFO_Entry = k % 2 ^ 14 ∧ t.is R.OV_INFO_Valid = true
    ∧ t.get R.OV_PICK_LO_Pick = n % 2 ^ 32 ∧ OnlyRegs overWords s { t with det := s.det }) := by
  obtain ⟨hentry, hvalid, hpick⟩ := (s.ovRest r).ovLatch_shows k n
  refine Gives.of_done (exec_ovInfoPop hs h) ⟨?_, ?_, ?_, ?_, ?_⟩
  · rw [State.settle_det, State.send_det, ((s.ovRest r).ovLatch_regsOnly k n).det]
    rfl
  · rw [State.settle_get _ (by decide), State.get_send, hentry]
  · rw [State.settle_is _ (by decide), State.is, State.get_send, ← State.is, hvalid]
  · rw [State.settle_get _ (by decide), State.get_send, hpick]
  · exact OnlyRegs.det_back (u := s.ovRest r) rfl (((s.ovRest r).ovLatch_onlyRegs k n).send' _).settle'

end

/-- Settles O37: the window by what each of its commands answers for an entry in range and beyond it, the over log by its oldest record. -/
theorem detectorWindow : Obligations.DetectorWindow := by
  refine fun s hs => ⟨fun hbeyond c hc => ?_, fun hwithin => ⟨dtRead_gives hs hwithin, dtClearMax_gives hs hwithin⟩, dtWrite_gives hs,
    fun k n r h => ovInfoPop_gives hs h, ovInfoPop_empty hs⟩
  obtain rfl | rfl := hc
  · exact dtCommand_beyond ((exec_dtRead hs).trans (congrArg State.done (State.dtReadCmd_beyond hbeyond)))
  · exact dtCommand_beyond ((exec_dtClearMax hs).trans (congrArg State.done (State.dtClearCmd_beyond hbeyond)))

end Sys2Proof.Machine
end

section
/-!
PROOF. The chain window, FADE_CFG and FILT_CTRL (R250, R252, R457): what Read shows, what Write stores, and which requests join.
-/
namespace Sys2Proof.Machine

/-- The chain that FC_SEL selects. -/
abbrev State.fcSel (s : State) : Nat := s.get R.FC_SEL_Chain

/-- The words of the configuration window. -/
abbrev State.fcWindow (s : State) : List (BitVec 32) := s.rdWords R.FC_CFG 3

theorem State.chain_congr {s t : State} (h : t.filt = s.filt) (j : Nat) : t.chain j = s.chain j := by unfold State.chain; rw [h]

theorem State.mark_filt (s : State) (k : Nat) : (s.mark k).filt = s.filt := by
  unfold State.mark
  split <;> rfl

theorem RegsOnly.errWait {s t : State} (h : RegsOnly s t) : t.errWait = s.errWait := by
  have e := congrArg State.errWait h; exact e

-- ## Status

/-- The words that show the state of FILT. -/
def filtStatusWords : List Nat :=
  [R.FILT_STATUS, R.FILT_SHARE, R.FILT_BUDGET, R.FILT_STEADY, R.FILT_FADECOST, R.FILT_BQCOST, R.FILT_HIST_USED, R.FILT_COEF_REF]

theorem State.filtStatus_sameRegs (s : State) : SameRegs filtStatusWords s s.filtStatus := by
  unfold State.filtStatus
  extract_lets es bs s1 s2 s3 s4
  have h1 : SameRegs filtStatusWords s s1 := ((SameRegs.refl' _ s).put' (by decide) _).put' (by decide) _
  have h2 : SameRegs filtStatusWords s s2 := h1.putB' (by decide) _
  have h3 : SameRegs filtStatusWords s s3 := (h2.put' (by decide) _).put' (by decide) _
  have h4 : SameRegs filtStatusWords s s4 := (h3.put' (by decide) _).put' (by decide) _
  have h5 := (h4.put' (f := R.FILT_BQCOST_Mac) (by decide) (sbqOf es)).put' (f := R.FILT_HIST_USED_Words) (by decide) (histOf es)
  exact h5.put' (by decide) _

-- ## Results

section
variable (s : State) (c : Nat)

theorem State.fcResult_code : (s.fcResult c).get R.FC_RESULT_Code = c % 2 ^ 8 := s.resultErr_code _ _ _ _

theorem State.fcResult_seq : (s.fcResult c).get R.FC_RESULT_Seq = (s.get R.FC_RESULT_Seq + 1) % 2 ^ 16 := s.resultErr_seq _ _ _ _

theorem State.fcResult_rd {a : Nat} (h : a ≠ R.FC_RESULT) : (s.fcResult c).rd a = s.rd a :=
  s.resultErr_rd_ne (code := R.FC_RESULT_Code) (seq := R.FC_RESULT_Seq) rfl R.FC_CMD c _ h

@[simp] theorem State.fcResult_filt : (s.fcResult c).filt = s.filt := s.resultErr_keeps c (p := State.filt) State.put_filt State.report_filt _ _

/-- A result of Done shows in FC_RESULT only. -/
theorem State.fcResult_done : OnlyRegs [R.FC_RESULT] s (s.fcResult 0) :=
  s.resultErr_ok_onlyRegs (code := R.FC_RESULT_Code) (seq := R.FC_RESULT_Seq) rfl R.FC_CMD _

end

-- ## Read

theorem State.fcLoad_regsOnly (s : State) : RegsOnly s s.fcLoad :=
  (((((((((RegsOnly.refl' s).wrWords' _ _).put' _ _).putB' _ _).putB' _ _).putB' _ _).putB' _ _).putB' _ _).putB' _ _).put' _ _

theorem State.fcLoad_state (s : State) : s.fcLoad.get R.FC_STATE_ActiveBank = (s.chain s.fcSel).active % 2
    ∧ s.fcLoad.is R.FC_STATE_Fading = (s.chain s.fcSel).fade.isSome ∧ s.fcLoad.is R.FC_STATE_Pending = (s.chain s.fcSel).pend.isSome
    ∧ s.fcLoad.is R.FC_STATE_Poisoned = (s.chain s.fcSel).poison.isSome := by
  have hbit : ∀ b : Bool, decide ((if b then 1 else 0 : Nat) % 2 ^ 1 = 1) = b := by decide
  unfold State.fcLoad State.is
  simp (disch := decide) only [State.putB, State.get_put_ne]
  refine ⟨State.get_put_same _ _ _ (by decide), ?_, ?_, ?_⟩ <;>
  · rw [State.get_put_same _ _ _ (by decide)]
    exact hbit _

-- ## Write

theorem State.fcBudget_lt (s : State) (es : List (List (BitVec 32))) (maxFades : Nat) : s.fcBudget es maxFades < 2 ^ 8 := by
  unfold State.fcBudget
  split_ifs <;> decide

/-- The codes of R250 fit the result register. -/
theorem State.fcCheck_lt (s : State) (j : Nat) (ws : List (BitVec 32)) : s.fcCheck j ws < 2 ^ 8 := by
  unfold State.fcCheck
  extract_lets len old es b
  have hb : b < 2 ^ 8 := s.fcBudget_lt _ _
  clear_value b
  split_ifs
  any_goals exact hb
  all_goals decide

theorem State.fcStore_rd (s : State) (j : Nat) (ws : List (BitVec 32)) {a : Nat} (ha : a ∉ filtStatusWords) (hp : a ≠ R.MSIX_PBA 0) :
    (s.fcStore j ws).rd a = s.rd a := State.filtStatus_sameRegs _ a ha hp

theorem State.fcStore_chain (s : State) (j : Nat) (ws : List (BitVec 32)) : (s.fcStore j ws).chain j = { s.chain j with cfg := ws } := by
  unfold State.fcStore
  rw [State.chain_filtStatus, State.chain_updChain_same]

section
variable {s : State}

theorem State.fcStoreCmd_refused (h : s.fcCheck s.fcSel s.fcWindow ≠ 0) : s.fcStoreCmd = s.fcResult (s.fcCheck s.fcSel s.fcWindow) := by
  unfold State.fcStoreCmd State.fcWrite
  simp only [h, if_false]

/-- Words that pass the check are stored for the selected chain and mark its window (R49). -/
theorem State.fcStoreCmd_passes (h : s.fcCheck s.fcSel s.fcWindow = 0) :
    ∃ k, s.fcStoreCmd = ((s.fcStore s.fcSel s.fcWindow).mark k).fcResult 0 := by
  unfold State.fcStoreCmd State.fcWrite
  simp only [h, if_true]
  exact ⟨_, rfl⟩

end

-- ## FADE_CFG and FILT_CTRL

/-- The value of MaxFades that a word carries. -/
theorem bitsOf_maxFades (v : Nat) : bitsOf v 0 7 = v % 128 := by simp [bitsOf]

section
variable {s : State} {v : Nat}

theorem State.fadeCfgWrite_refused (h : s.maxFadesCheck (v % 128) ≠ 0) :
    s.fadeCfgWrite v = s.report (turnedDown 0x10 R.FADE_CFG (s.maxFadesCheck (v % 128)) 0) := by
  unfold State.fadeCfgWrite State.maxFades
  rw [bitsOf_maxFades]
  simp only [h, if_false]
  exact s.refusedAt_eq _ _ _

theorem State.fadeCfgWrite_takes (h : s.maxFadesCheck (v % 128) = 0) : s.fadeCfgWrite v = (s.put R.FADE_CFG_MaxFades (v % 128)).filtStatus := by
  unfold State.fadeCfgWrite State.maxFades
  rw [bitsOf_maxFades]
  simp only [h, if_true]

end

/-- The row of FILT_CTRL (11_filters_detectors.md, Registers). -/
def filtCtrlRow : RegRow := ⟨0x34000, [], [⟨0, 1, .rw, [0]⟩]⟩

theorem findRow_filtCtrl : findRow (blockRows R.FILT_CTRL) R.FILT_CTRL = some (filtCtrlRow, 0) := by decide

theorem State.wrRW_filtCtrl (s : State) (v : Nat) : (s.wrRW R.FILT_CTRL v).get R.FILT_CTRL_Enable = bitsOf v 0 1 :=
  s.wrRW_get findRow_filtCtrl (pre := []) rfl (by decide) (by decide) v

/-- A write of a register shows in its word only. -/
theorem State.wrRW_onlyRegs (s : State) (a v : Nat) : OnlyRegs [a] s (s.wrRW a v) :=
  .of_regs (fun _ hb _ => s.wrRW_rd_ne (fun e => hb (List.mem_singleton.mpr e)) v)
    (s.wrRW_preserves v (p := fun t => ({ t with regs := s.regs } : State)) (fun _ _ _ => rfl) a)

-- ## The commands

section
variable {s : State} (hs : Ready s)
include hs

theorem exec_fcRead : exec .fcRead s = (s.fcLoad.fcResult 0).done := by
  show execFcRead s = _
  unfold execFcRead
  rw [State.live_live _ _ hs]

theorem exec_fcWrite : exec .fcWrite s = s.fcStoreCmd.done := by
  show execFcWrite s = _
  unfold execFcWrite
  rw [State.live_live _ _ hs]

theorem exec_fcSwap {fade : Nat} (h : fade < 65536) : exec (.fcSwap fade) s = ((s.hostSwap s.fcSel fade).fcResult 0).done := by
  refine (s.accept_live _ _ (decide_eq_true h) hs).trans ?_
  rw [Nat.mod_eq_of_lt (b := 2 ^ 16) h, State.fcSwapCmd]

theorem exec_fadeCfgWrite {v : Nat} (h : v < 2 ^ 32) : exec (.fadeCfgWrite v) s = (s.fadeCfgWrite v).done :=
  s.accept_live _ _ (decide_eq_true h) hs

theorem exec_filtCtrlWrite {v : Nat} (h : v < 2 ^ 32) : exec (.filtCtrlWrite v) s = (s.wrRW R.FILT_CTRL v).done :=
  s.accept_live _ _ (decide_eq_true h) hs

/-- Read shows what the selected chain has in progress, whatever its configuration words are (R250). -/
theorem fcRead_gives : Gives .fcRead s (fun t => t.filt = s.filt ∧ t.get R.FC_STATE_ActiveBank = (s.chain s.fcSel).active % 2
    ∧ t.is R.FC_STATE_Fading = (s.chain s.fcSel).fade.isSome ∧ t.is R.FC_STATE_Pending = (s.chain s.fcSel).pend.isSome
    ∧ t.is R.FC_STATE_Poisoned = (s.chain s.fcSel).poison.isSome ∧ t.get R.FC_RESULT_Code = 0) := by
  obtain ⟨hbank, hfading, hpending, hpoisoned⟩ := s.fcLoad_state
  have hstate : (s.fcLoad.fcResult 0).settle.rd R.FC_STATE = s.fcLoad.rd R.FC_STATE :=
    (State.settle_rd _ (by decide)).trans (State.fcResult_rd _ _ (by decide))
  refine Gives.of_done (exec_fcRead hs) ⟨?_, (State.get_congr hstate).trans hbank, (State.is_congr hstate).trans hfading,
    (State.is_congr hstate).trans hpending, (State.is_congr hstate).trans hpoisoned, ?_⟩
  · rw [State.settle_filt, State.fcResult_filt, s.fcLoad_regsOnly.filt]
  · rw [State.settle_get _ (by decide), State.fcResult_code, Nat.zero_mod]

/-- Write answers the code of the check and stores the words where it passes (R250). -/
theorem fcWrite_gives : Gives .fcWrite s (fun t => t.get R.FC_RESULT_Code = s.fcCheck s.fcSel s.fcWindow
    ∧ t.get R.FC_RESULT_Seq = (s.get R.FC_RESULT_Seq + 1) % 2 ^ 16
    ∧ (s.fcCheck s.fcSel s.fcWindow ≠ 0 → t.filt = s.filt
        ∧ t.errWait = s.errWait ++ [turnedDown 0x10 R.FC_CMD (s.fcCheck s.fcSel s.fcWindow) s.fcSel])
    ∧ (s.fcCheck s.fcSel s.fcWindow = 0 → (t.chain s.fcSel).cfg = s.fcWindow ∧ (t.chain s.fcSel).active = (s.chain s.fcSel).active)) := by
  by_cases h : s.fcCheck s.fcSel s.fcWindow = 0
  · obtain ⟨k, hk⟩ := State.fcStoreCmd_passes h
    have hchain : s.fcStoreCmd.settle.chain s.fcSel = { s.chain s.fcSel with cfg := s.fcWindow } := by
      rw [State.chain_settle, hk, State.chain_congr ((State.fcResult_filt _ _).trans (State.mark_filt _ _)), State.fcStore_chain]
    refine Gives.of_done (exec_fcWrite hs) ⟨?_, ?_, fun hne => absurd h hne, fun _ => by rw [hchain]; exact ⟨rfl, rfl⟩⟩
    · rw [State.settle_get _ (by decide), hk, State.fcResult_code, Nat.zero_mod, h]
    · rw [State.settle_get _ (by decide), hk, State.fcResult_seq, State.get_congr (f := R.FC_RESULT_Seq) (State.mark_rd _ _ _),
        State.get_congr (f := R.FC_RESULT_Seq) (s.fcStore_rd _ _ (by decide) (by decide))]
  · have hc := State.fcStoreCmd_refused h
    refine Gives.of_done (exec_fcWrite hs) ⟨?_, ?_, fun _ => ⟨?_, ?_⟩, fun h0 => absurd h0 h⟩
    · rw [State.settle_get _ (by decide), hc, State.fcResult_code, Nat.mod_eq_of_lt (s.fcCheck_lt _ _)]
    · rw [State.settle_get _ (by decide), hc, State.fcResult_seq]
    · rw [State.settle_filt, hc, State.fcResult_filt]
    · rw [State.settle_errWait, hc]
      exact s.resultErr_errWait h _ _

/-- Swap joins the requests for the next index (R252). -/
theorem fcSwap_gives {fade : Nat} (h : fade < 65536) : Gives (.fcSwap fade) s (fun t =>
    t.filt = { s.filt with reqs := s.filt.reqs ++ [(s.fcSel, fade)] } ∧ t.get R.FC_RESULT_Code = 0
    ∧ OnlyRegs [R.FC_RESULT] s { t with filt := s.filt }) := by
  refine Gives.of_done (exec_fcSwap hs h) ⟨?_, ?_, ?_⟩
  · rw [State.settle_filt, State.fcResult_filt]
    rfl
  · rw [State.settle_get _ (by decide), State.fcResult_code, Nat.zero_mod]
  · have hback := ((s.hostSwap s.fcSel fade).fcResult_done.settle').restore (fun u => { u with filt := s.filt }) (fun _ _ _ _ => rfl)
    exact hback

/-- MaxFades is taken where the budget holds it (R250). -/
theorem fadeCfgWrite_gives {v : Nat} (hv : v < 2 ^ 32) (h : s.maxFadesCheck (v % 128) = 0) : Gives (.fadeCfgWrite v) s (fun t =>
    t.get R.FADE_CFG_MaxFades = v % 128 ∧ t.errWait = s.errWait ∧ t.filt = s.filt) := by
  have hexec := exec_fadeCfgWrite hs hv
  rw [State.fadeCfgWrite_takes h] at hexec
  have hrest := (s.put R.FADE_CFG_MaxFades (v % 128)).filtStatus_regsOnly
  refine Gives.of_done hexec ⟨?_, ?_, ?_⟩
  · rw [State.settle_get _ (by decide), State.get_congr (f := R.FADE_CFG_MaxFades) (State.filtStatus_sameRegs _ _ (by decide) (by decide))]
    exact State.get_put_fit _ (by decide) rfl (Nat.mod_lt _ (by decide))
  · rw [State.settle_errWait, hrest.errWait, State.put_errWait]
  · rw [State.settle_filt, hrest.filt, State.put_filt]

theorem filtCtrlWrite_gives {v : Nat} (hv : v < 2 ^ 32) : Gives (.filtCtrlWrite v) s (fun t =>
    t.is R.FILT_CTRL_Enable = bitOf v 0 ∧ OnlyRegs [R.FILT_CTRL] s t) := by
  refine Gives.of_done (exec_filtCtrlWrite hs hv) ⟨?_, (s.wrRW_onlyRegs _ v).settle'⟩
  rw [State.settle_is _ (by decide), State.is, State.wrRW_filtCtrl]
  exact bitsOf_one v 0

end

end Sys2Proof.Machine
end

section
/-!
PROOF. Coefficient images over locked words (R244), and the statement on the filter chains.
-/
namespace Sys2Proof.Machine

-- ## One word

/-- One word of an image: a word that keeps its value is counted where the image would change it. -/
def State.coefWord (s : State) (w : Nat) (v : BitVec 32) : State :=
  if (s.coefLocked w && !s.filt.bad.contains w) && decide (s.coefAt w ≠ v) then s.bump R.CNT_COEF_LOCKED_Count
  else if s.coefLocked w && !s.filt.bad.contains w then s else s.coefPut w v

theorem State.coefImage_cons (s : State) (w : Nat) (v : BitVec 32) (vs : List (BitVec 32)) : s.coefImage w (v :: vs) =
    ((s.coefLocked w && !s.filt.bad.contains w) && decide (s.coefAt w ≠ v) || ((s.coefWord w v).coefImage (w + 1) vs).1,
      ((s.coefWord w v).coefImage (w + 1) vs).2) := rfl

theorem State.coefKept_iff (s : State) (w : Nat) : (s.coefLocked w && !s.filt.bad.contains w) = true ↔ s.coefKept w := by
  rw [Bool.and_eq_true, Bool.not_eq_true']
  rfl

/-- No word is unlocked by the write of another. -/
theorem State.coefPut_locked (s : State) (w k : Nat) (v : BitVec 32) : (s.coefPut w v).coefLocked k = s.coefLocked k := by
  have hlocks : ∀ c : Chain, (if c.poison = some (some w) then { c with poison := none } else c).locks = c.locks := fun c => by
    split <;> rfl
  unfold State.coefLocked State.coefPut State.updF
  simp only [List.any_map, Function.comp_def, hlocks]

theorem State.coefPut_kept (s : State) {w k : Nat} (h : k ≠ w) (v : BitVec 32) : (s.coefPut w v).coefKept k ↔ s.coefKept k := by
  have hbad : (s.coefPut w v).filt.bad.contains k = s.filt.bad.contains k := by
    rw [Bool.eq_iff_iff, List.contains_iff_mem, List.contains_iff_mem]
    show k ∈ s.filt.bad.filter (fun x => decide (x ≠ w)) ↔ _
    rw [List.mem_filter, decide_eq_true_eq]
    exact and_iff_left h
  unfold State.coefKept
  rw [s.coefPut_locked, hbad]

theorem State.coefKept_congr {s t : State} (h : t.filt = s.filt) (k : Nat) : t.coefKept k ↔ s.coefKept k := by
  unfold State.coefKept State.coefLocked
  rw [h]

theorem State.coefAt_congr {s t : State} (h : t.filt = s.filt) (k : Nat) : t.coefAt k = s.coefAt k := by unfold State.coefAt; rw [h]

section
variable (s : State) (w : Nat) (v : BitVec 32)

/-- A word of an image that keeps its value shows in the count at the most, and another one is written. -/
theorem State.coefWord_cases : (s.coefKept w ∧ (s.coefWord w v = s ∨ s.coefWord w v = s.bump R.CNT_COEF_LOCKED_Count))
    ∨ (¬ s.coefKept w ∧ s.coefWord w v = s.coefPut w v) := by
  unfold State.coefWord
  by_cases h : s.coefKept w
  · rw [(s.coefKept_iff w).mpr h, if_pos rfl]
    split
    · exact .inl ⟨h, .inr rfl⟩
    · exact .inl ⟨h, .inl rfl⟩
  · rw [Bool.eq_false_of_not_eq_true (mt (s.coefKept_iff w).mp h)]
    exact .inr ⟨h, rfl⟩

theorem State.coefWord_outbox : (s.coefWord w v).outbox = s.outbox := by
  obtain ⟨-, h | h⟩ | ⟨-, h⟩ := s.coefWord_cases w v <;> rw [h]
  · rw [State.bump_outbox]
  · rfl

theorem State.coefWord_errWait : (s.coefWord w v).errWait = s.errWait := by
  obtain ⟨-, h | h⟩ | ⟨-, h⟩ := s.coefWord_cases w v <;> rw [h]
  · rw [State.bump_errWait]
  · rfl

/-- Which other words keep their values does not change. -/
theorem State.coefWord_kept {k : Nat} (hk : k ≠ w) : (s.coefWord w v).coefKept k ↔ s.coefKept k := by
  obtain ⟨-, h | h⟩ | ⟨-, h⟩ := s.coefWord_cases w v <;> rw [h]
  · exact State.coefKept_congr (State.bump_filt _ _) k
  · exact s.coefPut_kept hk v

theorem State.coefWord_at_ne {k : Nat} (hk : k ≠ w) : (s.coefWord w v).coefAt k = s.coefAt k := by
  obtain ⟨-, h | h⟩ | ⟨-, h⟩ := s.coefWord_cases w v <;> rw [h]
  · exact State.coefAt_congr (State.bump_filt _ _) k
  · rw [State.coefAt_coefPut, if_neg hk]

theorem State.coefWord_at_kept (hk : s.coefKept w) : (s.coefWord w v).coefAt w = s.coefAt w := by
  obtain ⟨-, h | h⟩ | ⟨hn, -⟩ := s.coefWord_cases w v
  · rw [h]
  · rw [h]
    exact State.coefAt_congr (State.bump_filt _ _) w
  · exact absurd hk hn

theorem State.coefWord_at_written (hk : ¬ s.coefKept w) : (s.coefWord w v).coefAt w = v := by
  obtain ⟨hn, -⟩ | ⟨-, h⟩ := s.coefWord_cases w v
  · exact absurd hn hk
  · rw [h, State.coefAt_coefPut, if_pos rfl]

end

-- ## The words of an image

section
variable (ws : List (BitVec 32))

theorem State.coefImage_outbox : ∀ (s : State) (w : Nat), (s.coefImage w ws).2.outbox = s.outbox := by
  induction ws with
  | nil => exact fun _ _ => rfl
  | cons v vs ih => exact fun s w => (ih _ _).trans (s.coefWord_outbox w v)

theorem State.coefImage_errWait : ∀ (s : State) (w : Nat), (s.coefImage w ws).2.errWait = s.errWait := by
  induction ws with
  | nil => exact fun _ _ => rfl
  | cons v vs ih => exact fun s w => (ih _ _).trans (s.coefWord_errWait w v)

/-- Words beside an image keep their values. -/
theorem State.coefImage_beside : ∀ (s : State) (w : Nat) {a : Nat}, a < w ∨ w + ws.length ≤ a → (s.coefImage w ws).2.coefAt a = s.coefAt a := by
  induction ws with
  | nil => exact fun _ _ _ _ => rfl
  | cons v vs ih =>
    intro s w a ha
    rw [List.length_cons] at ha
    exact (ih _ (w + 1) (by omega)).trans (s.coefWord_at_ne w v (by omega))

/-- Word i of an image is written unless it keeps its value (R244). -/
theorem State.coefImage_at : ∀ (s : State) (w : Nat) {i : Nat}, i < ws.length →
    (s.coefKept (w + i) → (s.coefImage w ws).2.coefAt (w + i) = s.coefAt (w + i))
    ∧ (¬ s.coefKept (w + i) → (s.coefImage w ws).2.coefAt (w + i) = ws.getD i 0#32) := by
  induction ws with
  | nil => exact fun _ _ i h => absurd h (Nat.not_lt_zero i)
  | cons v vs ih =>
    intro s w i hi
    cases i with
    | zero =>
      have hhead : (s.coefImage w (v :: vs)).2.coefAt w = (s.coefWord w v).coefAt w := State.coefImage_beside vs _ (w + 1) (.inl (Nat.lt_succ_self w))
      exact ⟨fun h => hhead.trans (s.coefWord_at_kept w v h), fun h => hhead.trans (s.coefWord_at_written w v h)⟩
    | succ i =>
      have hne : w + (i + 1) ≠ w := by omega
      have htail := ih (s.coefWord w v) (w + 1) (Nat.lt_of_succ_lt_succ hi)
      rw [show w + 1 + i = w + (i + 1) by omega, s.coefWord_kept w v hne, s.coefWord_at_ne w v hne] at htail
      exact htail

/-- An image is refused exactly where it would have changed a word that keeps its value (R244). -/
theorem State.coefImage_refused : ∀ (s : State) (w : Nat),
    (s.coefImage w ws).1 = true ↔ ∃ i, i < ws.length ∧ s.coefKept (w + i) ∧ s.coefAt (w + i) ≠ ws.getD i 0#32 := by
  induction ws with
  | nil => exact fun s w => ⟨fun h => absurd h Bool.false_ne_true, fun ⟨i, hi, _⟩ => absurd hi (Nat.not_lt_zero i)⟩
  | cons v vs ih =>
    intro s w
    have htail : ∀ i, ((s.coefWord w v).coefKept (w + 1 + i) ∧ (s.coefWord w v).coefAt (w + 1 + i) ≠ vs.getD i 0#32)
        ↔ (s.coefKept (w + (i + 1)) ∧ s.coefAt (w + (i + 1)) ≠ (v :: vs).getD (i + 1) 0#32) := fun i => by
      have hne : w + (i + 1) ≠ w := by omega
      rw [show w + 1 + i = w + (i + 1) by omega, s.coefWord_kept w v hne, s.coefWord_at_ne w v hne, List.getD_cons_succ]
    rw [s.coefImage_cons, Bool.or_eq_true, Bool.and_eq_true, s.coefKept_iff, decide_eq_true_eq, ih, List.length_cons]
    simp only [htail]
    constructor
    · rintro (h | ⟨i, hi, h⟩)
      · exact ⟨0, Nat.succ_pos _, h⟩
      · exact ⟨i + 1, Nat.succ_lt_succ hi, h⟩
    · rintro ⟨i, hi, h⟩
      cases i with
      | zero => exact .inl h
      | succ i => exact .inr ⟨i, Nat.lt_of_succ_lt_succ hi, h⟩

end

-- ## The command

/-- The data of an image have a bad length, or reach beyond the coefficient memory (R244). -/
abbrev ImageOutOfRange (data : List Byte) : Prop :=
  data.length < 4 ∨ data.length % 4 ≠ 0 ∨ 262144 < leNat (data.take 4) + (wordsOf (data.drop 4)).length

/-- Whether the words of an image's data are refused, and the state in which they have been taken. -/
abbrev State.imageTaken (s : State) (data : List Byte) : Bool × State := s.coefImage (leNat (data.take 4)) (wordsOf (data.drop 4))

section
variable {s : State} {data : List Byte}

theorem State.coefImageWrite_range (h : ImageOutOfRange data) : s.coefImageWrite data = (2, s) := if_pos h

section
variable (h : ¬ ImageOutOfRange data)
include h

theorem State.coefImageWrite_refused (hr : (s.imageTaken data).1 = true) :
    s.coefImageWrite data = (1, (s.imageTaken data).2.report { code := 0x10, block := 17, detail := 9 }) :=
  (if_neg h).trans (if_pos hr)

theorem State.coefImageWrite_done (hr : (s.imageTaken data).1 ≠ true) : s.coefImageWrite data = (0, (s.imageTaken data).2) :=
  (if_neg h).trans (if_neg hr)

/-- A refusal is recorded, and the image's words are as its writes leave them. -/
theorem State.coefImageWrite_coefAt (a : Nat) : (s.coefImageWrite data).2.coefAt a = (s.imageTaken data).2.coefAt a := by
  by_cases hr : (s.imageTaken data).1 = true
  · rw [State.coefImageWrite_refused h hr, State.coefAt_congr (State.report_filt _ _)]
  · rw [State.coefImageWrite_done h hr]

end

variable (hs : Ready s)
include hs

theorem exec_coefImageWrite : exec (.coefImageWrite data) s =
    ((s.coefImageWrite data).2.send (.opResult 0x6070 0 (s.coefImageWrite data).1)).done := by
  show execCoefImageWrite data s = _
  unfold execCoefImageWrite
  rw [State.live_live _ _ hs]

theorem coefImageWrite_range (h : ImageOutOfRange data) : Ends (.coefImageWrite data) s (s.send (.opResult 0x6070 0 2)) := by
  have hexec := exec_coefImageWrite (data := data) hs
  rw [State.coefImageWrite_range h] at hexec
  exact Ends.of_done hexec

section
variable (h : ¬ ImageOutOfRange data)
include h

/-- An image in range is answered refused where it would have changed a word that keeps its value, and done otherwise (R244). -/
theorem coefImageWrite_gives : Gives (.coefImageWrite data) s (fun t =>
    (∀ a, t.coefAt a = (s.imageTaken data).2.coefAt a)
    ∧ ((s.imageTaken data).1 = true → Sends [.opResult 0x6070 0 1] s t)
    ∧ ((s.imageTaken data).1 ≠ true → Sends [.opResult 0x6070 0 0] s t ∧ t.errWait = s.errWait)) := by
  refine Gives.of_done (exec_coefImageWrite hs) ⟨fun a => ?_, fun hr => Sends.settle' ?_, fun hr => ⟨Sends.settle' ?_, ?_⟩⟩
  · rw [State.coefAt_congr ((State.settle_filt _).trans (State.send_filt _ _)), State.coefImageWrite_coefAt h]
  · rw [State.send_outbox, State.coefImageWrite_refused h hr, State.report_outbox, State.coefImage_outbox]
  · rw [State.send_outbox, State.coefImageWrite_done h hr, State.coefImage_outbox]
  · rw [State.settle_errWait, State.send_errWait, State.coefImageWrite_done h hr, State.coefImage_errWait]

end

end

/-- Settles O35: the window by what each of its commands answers, MaxFades by its check, and an image word by word. -/
theorem filterChains : Obligations.FilterChains := by
  refine ⟨fun s v hs hv => ⟨fcRead_gives hs, fcWrite_gives hs, fun fade hfade => fcSwap_gives hs hfade, fun h => ?_, fadeCfgWrite_gives hs hv,
    filtCtrlWrite_gives hs hv⟩, fun s data hs => ⟨coefImageWrite_range hs, fun h => ?_⟩⟩
  · exact Ends.of_done ((exec_fadeCfgWrite hs hv).trans (congrArg State.done (State.fadeCfgWrite_refused h)))
  · refine (coefImageWrite_gives hs h).mono fun t ⟨hat, hrefused, hdone⟩ => ⟨fun i hi => ?_, fun a ha => ?_, fun hex => ?_, fun hall => ?_⟩
    · rw [hat]
      exact State.coefImage_at _ s _ hi
    · rw [hat]
      exact State.coefImage_beside _ s _ ha
    · exact hrefused ((State.coefImage_refused _ s _).mpr hex)
    · refine hdone fun hr => ?_
      obtain ⟨i, hi, hkept, hne⟩ := (State.coefImage_refused _ s _).mp hr
      exact hne (hall i hi hkept)

end Sys2Proof.Machine
end
